-- ==== Sys2Proof/Word.lean ====
section
/-! DEFINITION. The word types of the module (R9, R13) and the keyed list every store of the model is made of. -/

namespace Sys2Proof

/-- One byte. -/
abbrev Byte := BitVec 8

/-- A 32-bit word: a control-space register, a sequencer instruction. -/
abbrev W32 := BitVec 32

/-- A 64-bit word: a scalar register, a 64-bit register of the control space. -/
abbrev W64 := BitVec 64

/-- A 512-bit vector or mask register (R198). -/
abbrev W512 := BitVec 512

/-- A device address or an account virtual address: 48 bits (R31, R275). -/
abbrev Addr := BitVec 48

/-- A sparse store: pairs of a key and a value. In its canonical form the keys rise strictly and no entry holds
what an unlisted key reads as (`mwf` in Machine/Ops.lean). -/
abbrev SMap (α : Type) := List (Nat × α)

end Sys2Proof
end

