-- ==== Sys2Proof/Syntax.lean ====
section
/-! DEFINITION. The commands of the module: `Instr`, one constructor for each of the 240 rows of
spec/opcode_table.json, and the types of their operands. -/

namespace Sys2Proof

/-- Who reaches control space (R559). A hart of a general-purpose core keeps half-register latches of its own (R561). -/
inductive Requester where
  | hart (n : Fin 32)
  | proc (n : Fin 17)
  | bootRom
  | service
  | i2c
  deriving DecidableEq, Repr

/-- The signature algorithms of R486: RSASSA-PSS with a 3,072-bit modulus, SLH-DSA-SHA2-192s, SLH-DSA-SHA2-192f. -/
inductive SigAlg where
  | rsa | slhS | slhF
  deriving DecidableEq, Repr

/-- A signature, by what it verifies for: its algorithm, the one public key and the one message. (DESIGN CHOICE, log entry 12.) -/
structure Sig where
  alg : SigAlg
  key : List Byte
  msg : List Byte
  deriving DecidableEq, Repr

/-- The two signatures of an operator token (R499). -/
structure TokenSigs where
  rsa : Sig
  slh : Sig
  deriving DecidableEq, Repr

/-- A frame or packet that arrives, and whether the frame's check sequence holds (R339). -/
structure Arrived where
  bytes : List Byte
  fcs : Bool := true
  deriving DecidableEq, Repr

/-- The end of a processor's restart or update: how long it took in µs (R442), and whether the area of its hand-off record reads
as it was written (R441). (DESIGN CHOICE, log entry 16.) -/
structure Restart where
  us : Nat
  areaOk : Bool := true
  deriving DecidableEq, Repr

/-- A signed image (R489): its body, the 128-byte header of its signature block, the 512-byte body of the signer's
certificate with the issuer's two signatures (R488), and the signer's two signatures. -/
structure SigBlock where
  hdr : List Byte
  cert : List Byte
  body : List Byte
  issuerRsa : Sig
  issuerSlh : Sig
  rsa : Sig
  slh : Sig
  deriving DecidableEq, Repr

/-- A charter as SPI NOR holds it (R421): header, directory and sections as bytes, and its signature block, whose own body
field stands for nothing. -/
structure CharterImage where
  readable : Bool
  body : List Byte
  sig : SigBlock
  deriving DecidableEq, Repr

/-- What a start meets outside the hub logic (R416, R429): the answers of the physically unclonable function, the
stores and the links. (DESIGN CHOICE, log entry 16.) -/
structure StartEnv where
  /-- ms from power good to the end of the last step the start completes -/
  readyMs : Nat
  /-- R492: a reading of the physically unclonable function was corrected -/
  pufOk : Bool
  /-- classes 1 and 2 (R490) -/
  loader : SigBlock
  os : SigBlock
  /-- the operating system runs within its bound in this start (R416 step 7, R429 cause 0x07) -/
  osRuns : Bool
  /-- images of processors 0 to 16 (R430); a missing one is refused with reason 1 -/
  images : List SigBlock
  /-- Lomef chip images 0 to 7 (class 10) -/
  lomefImages : List SigBlock
  /-- the driver's offer (R434) -/
  driverVersion : W32
  driverWords : List W64
  /-- module channels that cannot be raised to 48 Gb/s, with the rate reached in Gb/s (R291) -/
  notRaised : List (Nat × Nat)
  /-- ports that train (R341) -/
  portsUp : BitVec 16
  /-- Lomef links that come up (R295, R429) -/
  lomefUp : BitVec 8
  /-- degrade-log entries (sequence numbers) that SPI NOR gives back damaged (R428) -/
  badHmac : List Nat
  /-- classes whose counter write the UFS device refuses (R495) -/
  rpmbRefuse : List Nat
  /-- a warm reset from another source than the dump's own falls before the dump's header is written (R482, R484) -/
  dumpCut : Bool
  deriving DecidableEq, Repr

/-- Junction temperatures in °C: compute dies 0 to 3 and the hub (R62). (DESIGN CHOICE, log entry 16.) -/
structure Temps where
  d0 : BitVec 8
  d1 : BitVec 8
  d2 : BitVec 8
  d3 : BitVec 8
  hub : BitVec 8
  deriving DecidableEq, Repr

/-- Severity that a memory device reports with a read (R266). -/
inductive Sev where
  | none | corrected | uncorrectable
  deriving DecidableEq, Repr

/-- The loads and stores of R183 (0x08 to 0x0E). -/
inductive LdKind where
  | ld | lwu | lw | lbu
  deriving DecidableEq, Repr
inductive StKind where
  | sd | sw | sb
  deriving DecidableEq, Repr

/-- The branch tests of R183 (0x10 to 0x15). -/
inductive BrKind where
  | beq | bne | blt | bge | bltu | bgeu
  deriving DecidableEq, Repr

/-- What reads of a tile store, core store or working store meet (R191, R412): the 8-byte words that come back uncorrectable,
and those in which one bit was corrected. (DESIGN CHOICE, log entry 16.) -/
structure BadWords where
  unc : List Nat := []
  cor : List Nat := []
  deriving DecidableEq, Repr

/-- The common operand fields of a vector instruction of form VI or VF (R206). -/
structure VOp where
  vd : BitVec 5
  va : BitVec 5
  b : BitVec 5
  m : Bool
  mr : BitVec 3
  deriving DecidableEq, Repr

/-- An access that did not pass at its first attempt (R287): its module channel, the EDC retries and command replays it
took, and, where these were all four and the fifth attempt failed too, whether the emergency retraining succeeded. -/
structure Retry where
  chan : Fin 512
  retries : Nat
  replays : Nat
  emerg : Option Bool := none
  deriving DecidableEq, Repr

/-- What a Lomef chip's PCIe port met during an access to its share (R296, R297): flit replays, and the errors Advanced Error
Reporting reports. -/
structure PortErrors where
  chip : Fin 8
  replays : Nat
  correctable : Nat
  uncorrectable : Nat
  deriving DecidableEq, Repr

/-- What the fast-tier and vault accesses of a command meet (R266, R287, R288): 8-byte words (place keys / 8) that come back
uncorrected, a word of each read reported corrected, the accesses tried again, and what the PCIe ports met. (DESIGN CHOICE, log entry 16.) -/
structure DevEvents where
  bad : List Nat := []
  cor : List Nat := []
  again : List Retry := []
  links : List PortErrors := []
  deriving DecidableEq, Repr

/-- The commands: one constructor for each row of spec/opcode_table.json, in the table's order. -/
inductive Instr where
  -- control space (R14 to R21, R558) and the general-purpose cores (R276)
  | registerWrite (req : Requester) (addr : Addr) (width : Nat) (value : W64)
  | wrongSizeAccess (req : Requester) (addr : Addr) (width : Nat) (write : Bool)
  | unassignedRangeAccess (req : Requester) (addr : Addr) (width : Nat) (write : Bool)
  | gpcDeviceAccessFault (hart : Fin 32) (addr : Addr) (write : Bool)
  -- start and resets
  | powerUp (mv : Nat)
  | powerGood (env : StartEnv)
  | imageLoad (proc : Fin 17) (img : SigBlock)
  | identityKeysReady
  | warmReset (env : StartEnv)
  | glbReset (req : Requester) (key : W32)
  | managementReset
  | watchdogExpiry
  | gpcWdogKick (req : Requester) (timeout : Option W32)
  | gpcClock (req : Requester) (value : W32)
  | referenceClockLost
  | referenceReturned
  -- hardware limits
  | thermalDrop (unit : Fin 5) (tj : BitVec 8)
  | thermalDropEnd (t : Temps)
  | above105Enter (unit : Fin 5) (tj : BitVec 8)
  | above105Exit (unit : Fin 5) (t : Temps)
  | thermalShutdown (unit : Fin 5) (tj : BitVec 8)
  | currentDrop (ma : BitVec 16) (volt : BitVec 16)
  | currentDropEnd (ma : BitVec 16)
  | currentShutdown
  | powerCapLower (ma : BitVec 16) (volt : BitVec 16)
  | powerCapRaise (ma : BitVec 16) (volt : BitVec 16)
  | vddfSetPoint (req : Requester) (value : W32)
  | lowerPointApply
  -- warrants
  | wrtDoorbell (req : Requester) (value : W32)
  | batchAdmission (queue : BitVec 8) (unreadable : Bool)
  | wrtCplAck (req : Requester) (value : W32)
  | batchStart (queue : BitVec 8)
  | batchComplete (queue : BitVec 8)
  -- sequencer instructions (R183)
  | alu (core : Fin 256) (rd ra rb : BitVec 5) (func : BitVec 11)
  | addi (core : Fin 256) (rd ra : BitVec 5) (imm : BitVec 16)
  | andi (core : Fin 256) (rd ra : BitVec 5) (imm : BitVec 16)
  | ori (core : Fin 256) (rd ra : BitVec 5) (imm : BitVec 16)
  | xori (core : Fin 256) (rd ra : BitVec 5) (imm : BitVec 16)
  | slti (core : Fin 256) (rd ra : BitVec 5) (imm : BitVec 16)
  | shi (core : Fin 256) (rd ra : BitVec 5) (imm : BitVec 16)
  | lis (core : Fin 256) (rd ra : BitVec 5) (imm : BitVec 16)
  | scalarLoad (core : Fin 256) (kind : LdKind) (rd ra : BitVec 5) (imm : BitVec 16) (bad : BadWords)
  | scalarStore (core : Fin 256) (kind : StKind) (rd ra : BitVec 5) (imm : BitVec 16)
  | branch (core : Fin 256) (kind : BrKind) (ra rb : BitVec 5) (off : BitVec 16)
  | jal (core : Fin 256) (off : BitVec 26)
  | jalr (core : Fin 256) (rd ra : BitVec 5) (imm : BitVec 16)
  | fop (core : Fin 256) (rd ra rb : BitVec 5) (func : BitVec 11)
  | fma (core : Fin 256) (rd ra rb rc : BitVec 5) (rnd : BitVec 3) (variant : BitVec 3)
  | tord (core : Fin 256) (ra rb : BitVec 5)
  | tld (core : Fin 256) (ra : BitVec 5) (bad : BadWords)
  | waite (core : Fin 256) (rd ra : BitVec 5)
  | waitl (core : Fin 256) (rd : BitVec 5)
  | csrr (core : Fin 256) (rd : BitVec 5) (csr : BitVec 12)
  | csrw (core : Fin 256) (ra : BitVec 5) (csr : BitVec 12)
  | lpost (core : Fin 256) (ra : BitVec 5)
  | wpost (core : Fin 256) (ra : BitVec 5)
  | done (core : Fin 256)
  | sys (core : Fin 256) (imm : BitVec 16)
  | illegalInstruction (core : Fin 256) (word : Option W32)
  -- engine orders, loader transfers, faults
  | arrayOrder (engine : Fin 8192) (bad : BadWords)
  | arrayOrderComplete (engine : Fin 8192) (residue : Bool)
  | tailOrder (engine : Fin 8192) (bad : BadWords)
  | tailOrderComplete (engine : Fin 8192)
  | loaderTransfer (core : Fin 256) (dev : DevEvents) (bad : BadWords)
  | loaderTransferComplete (core : Fin 256)
  | completionRecordWrite (core : Fin 256)
  | engineHang (engine : Fin 8192)
  | sequencerHang (core : Fin 256)
  | sequencerParityError (core : Fin 256)
  | meshStopFault (die : Fin 4) (cluster : Fin 8)
  | engFenceReq (req : Requester) (die : Fin 4) (value : W32)
  -- vector instructions (R206 to R224)
  | vsetvl (core : Fin 256) (d a : BitVec 5) (imm : BitVec 6)
  | vsetvlr (core : Fin 256) (d a b : BitVec 5)
  | vmvxs (core : Fin 256) (d a b : BitVec 5)
  | vmvsx (core : Fin 256) (d a b : BitVec 5)
  | vmand (core : Fin 256) (d a b : BitVec 5)
  | vmor (core : Fin 256) (d a b : BitVec 5)
  | vmxor (core : Fin 256) (d a b : BitVec 5)
  | vmandn (core : Fin 256) (d a b : BitVec 5)
  | vmpop (core : Fin 256) (d a : BitVec 5)
  | vmfirst (core : Fin 256) (d a : BitVec 5)
  | vmset (core : Fin 256) (d : BitVec 5) (imm : BitVec 6)
  | vidx (core : Fin 256) (d : BitVec 5)
  | vmvr (core : Fin 256) (d a : BitVec 5) (imm : BitVec 6)
  | vectorIntegerOp (core : Fin 256) (o : VOp) (src : BitVec 2) (func : BitVec 5)
  | vectorFpOp (core : Fin 256) (o : VOp) (scalar : Bool) (rnd : BitVec 3) (func : BitVec 3)
  | vectorFma (core : Fin 256) (o : VOp) (scalar : Bool) (rnd : BitVec 3) (func : BitVec 3)
  | vredsum (core : Fin 256) (o : VOp) (src : BitVec 2) (func : BitVec 5)
  | vfredsum (core : Fin 256) (o : VOp) (src : BitVec 2)
  | vfredmax (core : Fin 256) (o : VOp) (src : BitVec 2) (func : BitVec 5)
  | vsad (core : Fin 256) (o : VOp) (src : BitVec 2) (signed : Bool)
  | vslideup (core : Fin 256) (o : VOp) (src : BitVec 2)
  | vslidedn (core : Fin 256) (o : VOp) (src : BitVec 2)
  | vgather (core : Fin 256) (o : VOp) (src : BitVec 2)
  | vcompress (core : Fin 256) (o : VOp) (src : BitVec 2)
  | vmseq (core : Fin 256) (o : VOp) (src : BitVec 2) (func : BitVec 5)
  | vmfeq (core : Fin 256) (o : VOp) (src : BitVec 2) (func : BitVec 5)
  | vectorLoad (core : Fin 256) (o : VOp) (mop : BitVec 2) (nf : BitVec 2) (bad : BadWords)
  | firstFaultLoad (core : Fin 256) (o : VOp) (nf : BitVec 2) (bad : BadWords)
  | vectorStore (core : Fin 256) (o : VOp) (mop : BitVec 2) (nf : BitVec 2)
  | vcvt (core : Fin 256) (vd va : BitVec 5) (sfmt dfmt : BitVec 4) (rnd : BitVec 3) (m : Bool) (mr : BitVec 3)
  | vectorPowerDown (core : Fin 256)
  -- scale ledger and ladder
  | ledgerMerge (die : Fin 4) (dev : DevEvents)
  | layerOutcomeMerge (die : Fin 4) (dev : DevEvents)
  | layerReset (slot : BitVec 10)
  -- memory
  | temperatureRead (device : Fin 128) (t : BitVec 8)
  | memoryStewardAbsent
  | retrainingSlice (chan : Fin 512)
  | patrolScrub (chan : Fin 512) (sev : Sev)
  | vaultScrub (chip : Fin 8) (sev : Sev)
  | memFenceReq (req : Requester) (die : Fin 4) (value : W32)
  | armTables (req : Requester) (die : Fin 4) (value : W32)
  | strTblData (req : Requester) (die : Fin 4) (write : Option W32)
  | runWrite (req : Requester) (die : Fin 4)
  | runInvalidate (req : Requester) (die : Fin 4)
  | runReadBack (req : Requester) (die : Fin 4)
  | pcieLinkDown (chip : Fin 8)
  | pcieLinkRetrainEnd (chip : Fin 8) (width : Nat) (ms : Nat)
  -- Lomef orders and the gate
  | escrow (chip : Fin 8) (dev : DevEvents)
  | escrowComplete (chip : Fin 8)
  | update (chip : Fin 8) (dev : DevEvents)
  | updateComplete (chip : Fin 8)
  | watchRefresh (chip : Fin 8) (dev : DevEvents)
  | gate (slot : BitVec 10)
  | gateExchangeEnter (account : Fin 64)
  | gateExchangeResult (account : Fin 64) (words : List (List Byte)) (fields : List (Nat × W64)) (dev : DevEvents)
  | gateTimeout (account : Fin 64)
  | gateResolve (slot : BitVec 10) (source : Option (List Byte))
  -- fabric
  | fabricPortDown (port : Fin 16) (cause : BitVec 2)
  | fabricPortRetrainEnd (port : Fin 16) (returned : Bool) (ms : Nat)
  | hostFrameReceive (port : Fin 16) (frame : Arrived)
  | hostFrameSend (port : Fin 16) (frame : List Byte)
  | dataPacketReceive (plane : Fin 16) (packet : Arrived) (marked : Bool)
  | ackReceive (plane : Fin 16) (packet : List Byte) (ranges : List (W32 × W32))
  | nackReceive (plane : Fin 16) (packet : List Byte) (missing : List W32)
  | creditReceive (plane : Fin 16) (packet : List Byte)
  | resendReceive (plane : Fin 16) (packet : List Byte)
  | ackTimer (account : Fin 64) (peer : BitVec 13) (plane : Fin 16)
  | nackTimer (account : Fin 64) (peer : BitVec 13) (plane : Fin 16)
  | retransmitTimer (account : Fin 64) (peer : BitVec 13) (plane : Fin 16)
  | heldMessageTimeout (account : Fin 64) (peer : BitVec 13) (msg : W32)
  | peerSilenceTimeout (account : Fin 64) (peer : BitVec 13)
  | pathDead (account : Fin 64) (peer : BitVec 13) (plane : Fin 16)
  | allGather (queue : BitVec 8) (dev : DevEvents)
  | jitGatherStart (account : Fin 64) (tag : W32)
  | reduceScatter (queue : BitVec 8) (dev : DevEvents)
  | allReduce (queue : BitVec 8) (dev : DevEvents)
  | permute (queue : BitVec 8) (dev : DevEvents)
  | permuteRoundEnd (account : Fin 64) (tag : W32)
  | ringPass (queue : BitVec 8) (dev : DevEvents)
  | drop (queue : BitVec 8)
  | collectiveComplete (account : Fin 64) (tag : W32)
  | bookLoad (slot : BitVec 10)
  -- exchequer
  | loopStart (slot : BitVec 10)
  | cycleRelease (unit : Fin 16)
  | inputRingPoll (unit : Fin 16)
  | measurementFragment (unit : Fin 16) (frag : List Byte)
  | inputCutoff (unit : Fin 16)
  | assemblyComplete (unit : Fin 16)
  | factorisationComplete (unit : Fin 16)
  | iterationComplete (unit : Fin 16) (bad : BadWords)
  | rebuildComplete (unit : Fin 16)
  | cycleDeadline (unit : Fin 16)
  | exqHang (unit : Fin 16)
  | loopStop (slot : BitVec 10)
  | exqStop (req : Requester) (die unit : Fin 4) (value : W32)
  | tableSwitch (slot : BitVec 10)
  | exqSwitchVa (req : Requester) (die unit : Fin 4) (value : W64)
  | solve (unit : Fin 16)
  | adjoint (unit : Fin 16)
  | solveOrderComplete (unit : Fin 16)
  -- firmware, session, accounts
  | processorCrash (proc : Fin 17)
  | processorRestarted (proc : Fin 17) (r : Restart)
  | processorRestartTimeout (proc : Fin 17)
  | fwUpdate (slot : BitVec 10) (img : SigBlock)
  | negotiate (slot : BitVec 10)
  | attach (slot : BitVec 10)
  | heartbeat (req : Requester) (value : W32)
  | heartbeatLapse
  | holdExpiry
  | bind (slot : BitVec 10)
  | unbind (slot : BitVec 10)
  | coreMove (core : Fin 256)
  | moduleLevelError (code : BitVec 16) (level : BitVec 8)
  -- Daybook and dump
  | recordAdmission (code : BitVec 16) (p0 p1 p2 : W32) (p3 : BitVec 28)
  | recordPersist
  | opsecPersist
  | freeze (slot : Option (BitVec 10)) (req : Requester)
  | freezeRelease (slot : Option (BitVec 10)) (req : Requester)
  | freezeExpiry
  | dbkRead (slot : BitVec 10)
  | dbkWindowAdvance (req : Requester)
  | dbkNonce (req : Requester) (value : W32)
  | nonceExpiry (trs : Bool)
  | dmpDiscard (req : Requester) (value : W32)
  | token (slot : BitVec 10) (hdr : List Byte) (sigs : TokenSigs) (refused : List Nat)
  | trsNonceNew (req : Requester) (value : W32)
  -- attestation, management, edges
  | getVersion
  | getCapabilities
  | negotiateAlgorithms
  | getDigests
  | getCertificate (cslot : BitVec 4)
  | challenge (nonce : BitVec 256) (cslot : BitVec 4)
  | getMeasurements (nonce : BitVec 256) (index : BitVec 8)
  | charterUpdate (img : CharterImage)
  | serviceRead (datagram : List Byte)
  | serviceWrite (datagram : List Byte)
  | serviceTokenFragment (datagram : List Byte) (sigs : TokenSigs) (refused : List Nat)
  | managementLinkDown (cause : BitVec 2)
  | managementLinkUp (optical rsFec : Bool)
  | debugAttach
  | coolantReading (inlet outlet : BitVec 8) (flow : BitVec 16)
  | powerFailWarning (mv : Nat) (cause : BitVec 2)
  | holdupReturn (mv : Nat)
  -- the Assize unit
  | assizeSupplyUp (swOk : Bool)
  | assizeSupplyFail (mv : Nat)
  | energyPersist
  | testPulse
  | demandPeriodEnd
  | demandReset (slot : Option (BitVec 10))
  | readingMade
  | readingRequest (req : Requester) (value : W32)
  | statusFramePoll (volt : BitVec 16) (ma : BitVec 32)
  | readingFetch (rsaOk slhOk : Bool)
  | assizeLinkLost
  | accountEnergyDivision (estimates : List (Nat × Nat))
  | coverOpening
  | overcurrentEvent (ma : W32)
  | reverseEnergyEvent
  | parameterChange (which : BitVec 4) (new : W32)
  | softwareReplacement (version : W32) (digest : W64)
  | tamperLatchClear
  -- the rest of the table
  | halfRegisterRead (req : Requester) (addr : Addr)
  | dbkWindowRead (req : Requester) (word : Fin 64)
  | glbCmdTail (req : Requester) (value : W32)
  | energySample (uv ua : Int)
  | currentClampStart
  | currentClampEnd (ma : BitVec 16)
  | overvoltageCleared (mv : Nat)
  | debuggerResume (core : Fin 256)
  deriving DecidableEq, Repr

end Sys2Proof
end

