-- ==== Sys2Proof/Machine/Codes.lean ====
section
/-! DEFINITION. The Daybook codes of every chapter with severity (R458) and flood-limit class (R464). -/

namespace Sys2Proof.Machine

/-- Severity of a code and how many records of it each 10 s window admits (R464); none: unlimited (class U). A code that no
chapter lists is written by no unit (R459); it reads (0, some 1) here and `recordAdmission` refuses it. -/
def codeInfo (code : Nat) : Nat × Option Nat :=
  match code with
  | 0x0001 => (0, some 1)
  | 0x0002 => (2, some 1)
  | 0x0003 => (0, some 1)
  | 0x0004 => (0, some 1)
  | 0x0005 => (1, some 1)
  | 0x0010 => (1, some 8)
  | 0x0011 => (1, some 8)
  | 0x0012 => (1, some 8)
  | 0x0021 => (0, some 8)
  | 0x0022 => (1, some 8)
  | 0x0030 => (1, some 1)
  | 0x0031 => (0, some 1)
  | 0x0032 => (1, some 1)
  | 0x0040 => (1, some 1)
  | 0x0041 => (2, some 1)
  | 0x0042 => (2, some 1)
  | 0x0043 => (0, some 1)
  | 0x0050 => (0, some 1)
  | 0x0051 => (1, some 1)
  | 0x0052 => (1, some 1)
  | 0x0060 => (0, some 1)
  | 0x0061 => (1, some 1)
  | 0x0062 => (0, some 1)
  | 0x0F01 => (3, none)
  | 0x0F10 => (3, none)
  | 0x1001 => (1, some 8)
  | 0x1002 => (1, some 1)
  | 0x1003 => (1, some 1)
  | 0x1101 => (1, some 1)
  | 0x1102 => (0, some 1)
  | 0x1103 => (2, some 1)
  | 0x1104 => (0, some 8)
  | 0x1105 => (1, some 64)
  | 0x1106 => (2, some 8)
  | 0x2101 => (1, some 8)
  | 0x2102 => (1, some 8)
  | 0x2201 => (0, some 1)
  | 0x2202 => (2, some 1)
  | 0x2203 => (2, some 1)
  | 0x2204 => (1, some 8)
  | 0x2301 => (2, some 1)
  | 0x2303 => (1, some 8)
  | 0x2304 => (1, some 8)
  | 0x2401 => (2, some 1)
  | 0x2402 => (2, some 1)
  | 0x2501 => (1, some 8)
  | 0x2502 => (0, some 8)
  | 0x2503 => (1, some 8)
  | 0x2504 => (1, some 1)
  | 0x2505 => (1, some 8)
  | 0x2506 => (1, some 8)
  | 0x3004 => (1, some 1)
  | 0x3005 => (2, some 8)
  | 0x3006 => (2, some 1)
  | 0x3007 => (0, some 8)
  | 0x3008 => (1, some 1)
  | 0x3009 => (1, some 1)
  | 0x300A => (2, some 1)
  | 0x3010 => (2, some 8)
  | 0x3030 => (1, some 8)
  | 0x4001 => (1, some 8)
  | 0x4002 => (1, some 8)
  | 0x4003 => (0, some 8)
  | 0x4004 => (1, some 1)
  | 0x4010 => (2, some 1)
  | 0x5001 => (1, some 8)
  | 0x5002 => (2, some 1)
  | 0x5003 => (1, some 8)
  | 0x5004 => (1, some 1)
  | 0x5006 => (1, some 8)
  | 0x5007 => (1, some 8)
  | 0x5101 => (2, some 1)
  | 0x5102 => (1, some 1)
  | 0x6001 => (2, some 8)
  | 0x6002 => (2, some 8)
  | 0x6003 => (1, some 8)
  | 0x6004 => (1, some 8)
  | 0x6005 => (0, some 8)
  | 0x6006 => (1, some 8)
  | 0x6007 => (0, some 64)
  | 0x6008 => (1, some 8)
  | 0x6009 => (2, some 1)
  | 0x600A => (2, some 1)
  | 0x600B => (0, some 8)
  | 0x600C => (1, some 8)
  | 0x7001 => (1, some 8)
  | 0x7002 => (2, some 1)
  | 0x7003 => (0, some 8)
  | 0x7004 => (1, some 8)
  | 0x7005 => (2, some 1)
  | 0x7006 => (2, some 1)
  | 0x7007 => (0, some 1)
  | 0x8001 => (2, some 1)
  | 0x8002 => (2, some 1)
  | 0x8003 => (0, some 1)
  | 0x8004 => (1, some 8)
  | 0x8005 => (0, some 8)
  | 0x8006 => (1, some 1)
  | 0x9001 => (2, some 1)
  | 0x9002 => (2, some 8)
  | 0x9003 => (1, some 1)
  | 0x9004 => (1, some 1)
  | 0x9005 => (1, some 1)
  | 0x9006 => (0, some 8)
  | 0xA010 => (1, some 1)
  | 0xA011 => (1, some 1)
  | 0xA012 => (1, some 1)
  | 0xA020 => (3, none)
  | 0xA021 => (3, none)
  | 0xA030 => (1, some 1)
  | 0xA031 => (1, some 1)
  | 0xA040 => (1, some 1)
  | _ => (0, some 1)

/-- The codes the chapters list. -/
def codeList : List Nat :=
  [0x0001, 0x0002, 0x0003, 0x0004, 0x0005, 0x0010, 0x0011, 0x0012, 0x0021, 0x0022, 0x0030, 0x0031, 0x0032, 0x0040, 0x0041, 0x0042, 0x0043, 0x0050, 0x0051, 0x0052] ++
  [0x0060, 0x0061, 0x0062, 0x0F01, 0x0F10, 0x1001, 0x1002, 0x1003, 0x1101, 0x1102, 0x1103, 0x1104, 0x1105, 0x1106, 0x2101, 0x2102, 0x2201, 0x2202, 0x2203, 0x2204] ++
  [0x2301, 0x2303, 0x2304, 0x2401, 0x2402, 0x2501, 0x2502, 0x2503, 0x2504, 0x2505, 0x2506, 0x3004, 0x3005, 0x3006, 0x3007, 0x3008, 0x3009, 0x300A, 0x3010, 0x3030] ++
  [0x4001, 0x4002, 0x4003, 0x4004, 0x4010, 0x5001, 0x5002, 0x5003, 0x5004, 0x5006, 0x5007, 0x5101, 0x5102, 0x6001, 0x6002, 0x6003, 0x6004, 0x6005, 0x6006, 0x6007] ++
  [0x6008, 0x6009, 0x600A, 0x600B, 0x600C, 0x7001, 0x7002, 0x7003, 0x7004, 0x7005, 0x7006, 0x7007, 0x8001, 0x8002, 0x8003, 0x8004, 0x8005, 0x8006, 0x9001, 0x9002] ++
  [0x9003, 0x9004, 0x9005, 0x9006, 0xA010, 0xA011, 0xA012, 0xA020, 0xA021, 0xA030, 0xA031, 0xA040]

/-- How many of parameters 0 to 2 the tables of the chapters name for a code (R459: the others are zero). -/
def paramCount (code : Nat) : Nat :=
  if [0x0060, 0x3009, 0xA021].contains code then 0
  else if [0x0003, 0x0031, 0x0041, 0x0043, 0x0061, 0x8002, 0x9001, 0x9003, 0x9005, 0xA020].contains code then 1
  else if [0x0F01, 0x2402, 0x3008, 0x300A, 0x3010, 0x5101, 0x5102, 0x1101, 0x1102, 0x1103, 0x600A, 0x0022, 0x0030, 0x0042,
    0x7002, 0x7004, 0x7005, 0x7006, 0x0050, 0x0051, 0x0052, 0x8006, 0x9002, 0x9004, 0x0062, 0xA031, 0xA040, 0x4010].contains code
  then 2
  else 3

/-- Parameter 3 is named by one code, and counts suppressed occurrences in the others (R465). -/
def param3 (code : Nat) : Bool := code == 0x1001

end Sys2Proof.Machine
end

