-- ==== Sys2Proof/Machine/Regs.lean ====
section
/-! DEFINITION. The registers of control space, generated from the register tables of the spec: one `Field` for each
field (R13), and `regTable`, the registers block by block with offsets (17_control_space_map.md), access codes (R14), reset
values (R18) and clamp ranges (R16). -/

namespace Sys2Proof.Machine

/-- A register field: the key of its register's element 0 in block instance 0, and its bits. -/
structure Field where
  key : Nat
  hi : Nat
  lo : Nat
  deriving DecidableEq, Repr

/-- Access codes of R14. -/
inductive Acc where
  | ro | rw | w1c | wo | lck
  deriving DecidableEq, Repr

/-- A field of the register table: bits, access code, Reset column, and the clamp range where the table gives one. -/
structure FieldInfo where
  fld : Field
  acc : Acc
  reset : Nat
  range : Option (Nat × Nat)
  deriving DecidableEq, Repr

/-- A register of the table. `page` numbers the block: 0 to 10 the hub blocks in address order (R556), 16 to 22 the
blocks of a compute die (R557), 32 a Lomef window. -/
structure RegInfo where
  key : Nat
  page : Nat
  off : Nat
  cnt : Nat
  stride : Nat
  w64 : Bool
  flds : List FieldInfo
  deriving DecidableEq, Repr

/-- The key of element `idx` of a register in block instance `inst`. -/
def regKey (base inst idx : Nat) : Nat := base + inst * 128 + idx

namespace F

def WRT_NOW_COUNT : Field := ⟨0, 63, 0⟩
def WRT_CTRL_MAXBOUND_MS : Field := ⟨1024, 15, 0⟩
def WRT_CTRL_BASIS_DEFAULT : Field := ⟨1024, 16, 16⟩
def WRT_STATUS_RESTART_WINDOW : Field := ⟨2048, 0, 0⟩
def WRT_STATUS_BROKEN : Field := ⟨2048, 1, 1⟩
def WRT_STATUS_LOWER_PENDING : Field := ⟨2048, 2, 2⟩
def WRT_STATUS_HW_DROP : Field := ⟨2048, 3, 3⟩
def WRT_STATUS_UNATTENDED : Field := ⟨2048, 4, 4⟩
def WRT_STATUS_OUTSTANDING : Field := ⟨2048, 22, 8⟩
def WRT_RATE_SET_RATE : Field := ⟨3072, 15, 0⟩
def WRT_RATE_FLOOR_RATE : Field := ⟨3072, 31, 16⟩
def WRT_LATE_COUNT_COUNT : Field := ⟨4096, 31, 0⟩
def WRT_REFUSE_COUNT_COUNT : Field := ⟨5120, 31, 0⟩
def WRT_LAST_REFUSE_REASON : Field := ⟨6144, 7, 0⟩
def WRT_LAST_REFUSE_QUEUE : Field := ⟨6144, 15, 8⟩
def WRT_LAST_REFUSE_ACCOUNT : Field := ⟨6144, 21, 16⟩
def WRT_DOORBELL_QUEUE : Field := ⟨7168, 7, 0⟩
def WRT_DOORBELL_TAIL : Field := ⟨7168, 17, 8⟩
def WRT_CPL_ACK_QUEUE : Field := ⟨8192, 7, 0⟩
def WRT_CPL_ACK_HEAD : Field := ⟨8192, 17, 8⟩
def PWR_VDDF_TARGET : Field := ⟨9216, 7, 0⟩
def PWR_VDDF_ACTUAL : Field := ⟨9216, 15, 8⟩
def PWR_VDDF_PENDING : Field := ⟨9216, 23, 16⟩
def PWR_TJ_DIE0 : Field := ⟨10240, 7, 0⟩
def PWR_TJ_DIE1 : Field := ⟨10240, 15, 8⟩
def PWR_TJ_DIE2 : Field := ⟨10240, 23, 16⟩
def PWR_TJ_DIE3 : Field := ⟨10240, 31, 24⟩
def PWR_TJ_HUB_HUB : Field := ⟨11264, 7, 0⟩
def PWR_LIMIT_THERMAL_DROP : Field := ⟨12288, 0, 0⟩
def PWR_LIMIT_CURRENT_DROP : Field := ⟨12288, 1, 1⟩
def PWR_LIMIT_CLAMP_ACTIVE : Field := ⟨12288, 2, 2⟩
def PWR_LIMIT_ABOVE_105 : Field := ⟨12288, 3, 3⟩
def PWR_LIMIT_REF_HALT : Field := ⟨12288, 4, 4⟩
def PWR_LIMIT_THERMAL_SEEN : Field := ⟨12288, 8, 8⟩
def PWR_LIMIT_CURRENT_SEEN : Field := ⟨12288, 9, 9⟩
def PWR_LIMIT_TRIP_THERMAL : Field := ⟨12288, 16, 16⟩
def PWR_LIMIT_TRIP_CURRENT : Field := ⟨12288, 17, 17⟩
def PWR_LIMIT_TRIP_CLOCK : Field := ⟨12288, 18, 18⟩
def PWR_CAP_WATTS : Field := ⟨13312, 11, 0⟩
def PWR_INPUT_CURRENT_MA : Field := ⟨14336, 15, 0⟩
def PWR_INPUT_VOLTAGE : Field := ⟨14336, 31, 16⟩
def ENG_CTRL_HANG_US : Field := ⟨15360, 15, 0⟩
def ENG_FENCE_REQ_ENGINE : Field := ⟨16384, 10, 0⟩
def ENG_ERR_CE_COUNT : Field := ⟨17408, 31, 0⟩
def ENG_ERR_UE_COUNT : Field := ⟨18432, 31, 0⟩
def ENG_LAST_ERR_ENGINE : Field := ⟨19456, 10, 0⟩
def ENG_LAST_ERR_KIND : Field := ⟨19456, 19, 16⟩
def ENG_FENCE_MASK : Field := ⟨20480, 31, 0⟩
def ENG_PRESENT_MASK : Field := ⟨21504, 31, 0⟩
def SEQ_CTRL_HANG_US : Field := ⟨22528, 15, 0⟩
def SEQ_ERR_CE_COUNT : Field := ⟨23552, 31, 0⟩
def SEQ_ERR_UE_COUNT : Field := ⟨24576, 31, 0⟩
def SEQ_LAST_ERR_CORE : Field := ⟨25600, 5, 0⟩
def SEQ_LAST_ERR_KIND : Field := ⟨25600, 11, 8⟩
def SEQ_LAST_PC_PC : Field := ⟨26624, 20, 0⟩
def SEQ_FENCE_MASK : Field := ⟨27648, 63, 0⟩
def SEQ_PRESENT_MASK : Field := ⟨28672, 63, 0⟩
def SEQ_CLUSTER_FENCE_MASK : Field := ⟨29696, 7, 0⟩
def SEQ_STATE_STATE : Field := ⟨30720, 2, 0⟩
def SEQ_STATE_ACCOUNT : Field := ⟨30720, 13, 8⟩
def SEQ_STATE_QUEUE : Field := ⟨30720, 23, 16⟩
def MEM_CTRL_REF_FLOOR : Field := ⟨31744, 1, 0⟩
def MEM_CTRL_SCRUB_EN : Field := ⟨31744, 2, 2⟩
def MEM_CTRL_RETRAIN_EN : Field := ⟨31744, 3, 3⟩
def MEM_STATUS_FULL_RATE : Field := ⟨32768, 0, 0⟩
def MEM_STATUS_STEWARD_ABSENT : Field := ⟨32768, 1, 1⟩
def MEM_STATUS_RETRAINING : Field := ⟨32768, 2, 2⟩
def MEM_STATUS_PRESENT : Field := ⟨32768, 15, 8⟩
def MEM_STATUS_FENCED : Field := ⟨32768, 23, 16⟩
def MEM_ERR_CE_COUNT : Field := ⟨33792, 31, 0⟩
def MEM_ERR_UE_COUNT : Field := ⟨34816, 31, 0⟩
def MEM_EDC_RETRY_COUNT : Field := ⟨35840, 31, 0⟩
def MEM_CA_REPLAY_COUNT : Field := ⟨36864, 31, 0⟩
def MEM_EMERG_COUNT : Field := ⟨37888, 31, 0⟩
def MEM_LAST_ERR_CHANNEL : Field := ⟨38912, 6, 0⟩
def MEM_LAST_ERR_KIND : Field := ⟨38912, 11, 8⟩
def MEM_SCRUB_POS_SLOT : Field := ⟨39936, 23, 0⟩
def MEM_SCRUB_POS_PASSES : Field := ⟨39936, 31, 24⟩
def MEM_FENCE_REQ_GROUP : Field := ⟨40960, 2, 0⟩
def MEM_TEMP_DEV0 : Field := ⟨41984, 7, 0⟩
def MEM_TEMP_DEV1 : Field := ⟨41984, 15, 8⟩
def MEM_TEMP_DEV2 : Field := ⟨41984, 23, 16⟩
def MEM_TEMP_DEV3 : Field := ⟨41984, 31, 24⟩
def MEM_REFRESH_MULT : Field := ⟨43008, 7, 0⟩
def MEM_REFRESH_CAPPED : Field := ⟨43008, 11, 8⟩
def MEM_CH_STATE_STATE : Field := ⟨44032, 2, 0⟩
def MEM_CH_STATE_FULL : Field := ⟨44032, 3, 3⟩
def MEM_CH_STATE_TRAIN_TEMP : Field := ⟨44032, 15, 8⟩
def MEM_CH_STATE_QUEUE : Field := ⟨44032, 22, 16⟩
def STR_CTRL_ARMED : Field := ⟨45056, 0, 0⟩
def STR_CTRL_RT_UNITS : Field := ⟨45056, 14, 8⟩
def STR_GLOBAL_N : Field := ⟨46080, 9, 0⟩
def STR_GLOBAL_Q : Field := ⟨46080, 17, 10⟩
def STR_GLOBAL_E : Field := ⟨46080, 26, 18⟩
def STR_LOCAL_N : Field := ⟨47104, 9, 0⟩
def STR_LOCAL_Q : Field := ⟨47104, 17, 10⟩
def STR_LOCAL_E : Field := ⟨47104, 26, 18⟩
def STR_TBL_INDEX_INDEX : Field := ⟨48128, 12, 0⟩
def STR_TBL_INDEX_SEL : Field := ⟨48128, 16, 16⟩
def STR_TBL_INDEX_AUTOINC : Field := ⟨48128, 17, 17⟩
def STR_TBL_DATA_LOGICAL : Field := ⟨49152, 8, 0⟩
def STR_SIZE_BYTES : Field := ⟨50176, 63, 0⟩
def STR_DUMP_BASE_ADDR : Field := ⟨51200, 63, 0⟩
def STR_RUN_INDEX_INDEX : Field := ⟨52224, 11, 0⟩
def STR_RUN_DATA0_VPAGE : Field := ⟨53248, 26, 0⟩
def STR_RUN_DATA1_PPAGE : Field := ⟨54272, 26, 0⟩
def STR_RUN_DATA2_COUNT : Field := ⟨55296, 26, 0⟩
def STR_RUN_DATA3_ACCOUNT : Field := ⟨56320, 5, 0⟩
def STR_RUN_DATA3_VALID : Field := ⟨56320, 8, 8⟩
def STR_RUN_DATA3_WRITE : Field := ⟨56320, 9, 9⟩
def STR_RUN_DATA3_RT : Field := ⟨56320, 10, 10⟩
def STR_RUN_DATA3_RT_DIE : Field := ⟨56320, 12, 11⟩
def STR_RUN_CMD_CMD : Field := ⟨57344, 1, 0⟩
def STR_RUN_STATUS_BUSY : Field := ⟨58368, 0, 0⟩
def STR_RUN_STATUS_REASON : Field := ⟨58368, 7, 4⟩
def STR_FAULTS_COUNT : Field := ⟨59392, 31, 0⟩
def LMF_STATUS_READY : Field := ⟨60416, 0, 0⟩
def LMF_STATUS_LOST : Field := ⟨60416, 1, 1⟩
def LMF_STATUS_BUSY : Field := ⟨60416, 2, 2⟩
def LMF_STATUS_KIND : Field := ⟨60416, 4, 3⟩
def LMF_STATUS_ACCOUNT : Field := ⟨60416, 13, 8⟩
def LMF_STEP_STEP : Field := ⟨61440, 63, 0⟩
def LMF_PROGRESS_ELEMENTS : Field := ⟨62464, 63, 0⟩
def LMF_MISMATCH_COUNT : Field := ⟨63488, 31, 0⟩
def LMF_VAULT_CE_COUNT : Field := ⟨64512, 31, 0⟩
def LMF_VAULT_UE_COUNT : Field := ⟨65536, 31, 0⟩
def LMF_LINK_WIDTH : Field := ⟨66560, 4, 0⟩
def LMF_LINK_RETRAINS : Field := ⟨66560, 15, 8⟩
def LMF_CTRL_SCRUB_EN : Field := ⟨67584, 0, 0⟩
def ETH_ENCAP_MODE : Field := ⟨68608, 0, 0⟩
def ETH_ENCAP_PAYLOAD : Field := ⟨68608, 1, 1⟩
def ETH_ENCAP_DSCP : Field := ⟨68608, 7, 2⟩
def ETH_TYPE_ETHERTYPE : Field := ⟨69632, 15, 0⟩
def ETH_TYPE_UDP_PORT : Field := ⟨69632, 31, 16⟩
def ETH_RETX_COUNT : Field := ⟨70656, 31, 0⟩
def ETH_HELD_DISCARD_COUNT : Field := ⟨71680, 31, 0⟩
def ETH_STALE_COUNT : Field := ⟨72704, 31, 0⟩
def ETH_HOST_DROP_COUNT : Field := ⟨73728, 31, 0⟩
def ETH_CRC_DROP_COUNT : Field := ⟨74752, 31, 0⟩
def ETH_PORT_STATE : Field := ⟨75776, 2, 0⟩
def ETH_PORT_IN_SET : Field := ⟨75776, 3, 3⟩
def ETH_PORT_EXQ : Field := ⟨75776, 4, 4⟩
def ETH_PORT_KR4 : Field := ⟨75776, 5, 5⟩
def ETH_PORT_RETRAINS : Field := ⟨75776, 15, 8⟩
def ETH_FEC_CE_COUNT : Field := ⟨76800, 31, 0⟩
def ETH_FEC_UE_COUNT : Field := ⟨77824, 31, 0⟩
def ETH_GATEWAY_MAC : Field := ⟨78848, 47, 0⟩
def CLR_CTRL_LOOKAHEAD : Field := ⟨79872, 2, 0⟩
def CLR_STATUS_BUSY : Field := ⟨80896, 0, 0⟩
def CLR_STATUS_PERMUTE : Field := ⟨80896, 1, 1⟩
def CLR_STATUS_ROUND : Field := ⟨80896, 4, 2⟩
def CLR_STATUS_RING_WAIT : Field := ⟨80896, 5, 5⟩
def CLR_STATUS_ACTIVE : Field := ⟨80896, 15, 8⟩
def CLR_STAGE_BASE_ADDR : Field := ⟨81920, 47, 0⟩
def CLR_STAGE_SIZE_MIB : Field := ⟨82944, 12, 0⟩
def CLR_ORDERS_COUNT : Field := ⟨83968, 31, 0⟩
def CLR_LINK_LOST_COUNT : Field := ⟨84992, 31, 0⟩
def CLR_LAST_ERR_REASON : Field := ⟨86016, 7, 0⟩
def CLR_LAST_ERR_ACCOUNT : Field := ⟨86016, 13, 8⟩
def CLR_LAST_ERR_TAG : Field := ⟨86016, 31, 16⟩
def EXQ_FRAME_ETHERTYPE : Field := ⟨87040, 15, 0⟩
def EXQ_FRAME_UDP_PORT : Field := ⟨87040, 31, 16⟩
def EXQ_CTRL_HANG_US : Field := ⟨88064, 9, 0⟩
def EXQ_STATE_STATE : Field := ⟨89088, 2, 0⟩
def EXQ_STATE_FACT_RISK : Field := ⟨89088, 3, 3⟩
def EXQ_STATE_SWITCH_PENDING : Field := ⟨89088, 4, 4⟩
def EXQ_STATE_PORT_HELD : Field := ⟨89088, 5, 5⟩
def EXQ_STATE_PORT : Field := ⟨89088, 11, 8⟩
def EXQ_STATE_ACCOUNT : Field := ⟨89088, 17, 12⟩
def EXQ_CYCLES_COUNT : Field := ⟨90112, 63, 0⟩
def EXQ_LAST_STATUS : Field := ⟨91136, 7, 0⟩
def EXQ_LAST_FLAGS : Field := ⟨91136, 15, 8⟩
def EXQ_LAST_ITER : Field := ⟨91136, 28, 16⟩
def EXQ_PLANT_C_LAST : Field := ⟨92160, 31, 0⟩
def EXQ_MISS_DEADLINE : Field := ⟨93184, 15, 0⟩
def EXQ_MISS_FACTOR : Field := ⟨93184, 31, 16⟩
def EXQ_INPUT_INCOMPLETE : Field := ⟨94208, 15, 0⟩
def EXQ_INPUT_LATE_DROP : Field := ⟨94208, 31, 16⟩
def EXQ_CAP_COUNT : Field := ⟨95232, 31, 0⟩
def EXQ_RANGE_COUNT : Field := ⟨96256, 31, 0⟩
def EXQ_SLACK_MIN : Field := ⟨97280, 31, 0⟩
def EXQ_BOUND_COUNTS : Field := ⟨98304, 31, 0⟩
def EXQ_FBOUND_COUNTS : Field := ⟨99328, 31, 0⟩
def EXQ_SWITCH_VA_VA : Field := ⟨100352, 47, 0⟩
def EXQ_STOP_STOP : Field := ⟨101376, 0, 0⟩
def GLB_ID_PART : Field := ⟨102400, 15, 0⟩
def GLB_ID_STEPPING : Field := ⟨102400, 23, 16⟩
def GLB_STATE_STATE : Field := ⟨103424, 3, 0⟩
def GLB_STATE_START_KIND : Field := ⟨103424, 7, 4⟩
def GLB_STATE_SERVICE_CAUSE : Field := ⟨103424, 15, 8⟩
def GLB_STATE_STEP : Field := ⟨103424, 19, 16⟩
def GLB_STATE_RESTART_NEEDED : Field := ⟨103424, 20, 20⟩
def GLB_READY_MS_MS : Field := ⟨104448, 31, 0⟩
def GLB_RESET_KEY : Field := ⟨105472, 31, 0⟩
def GLB_HEARTBEAT_BEAT : Field := ⟨106496, 31, 0⟩
def GLB_SESSION_ATTACHED : Field := ⟨107520, 0, 0⟩
def GLB_SESSION_UNATTENDED : Field := ⟨107520, 1, 1⟩
def GLB_SESSION_HOLD_LEFT : Field := ⟨107520, 31, 16⟩
def GLB_IFACE_MINOR : Field := ⟨108544, 15, 0⟩
def GLB_IFACE_MAJOR : Field := ⟨108544, 31, 16⟩
def GLB_FEATURES_AGREED : Field := ⟨109568, 63, 0⟩
def GLB_POLICY_POLICY : Field := ⟨110592, 63, 0⟩
def GLB_CHARTER_VERSION : Field := ⟨111616, 31, 0⟩
def GLB_DEGRADE_EFFECTIVE : Field := ⟨112640, 15, 0⟩
def GLB_DEGRADE_LOG : Field := ⟨112640, 31, 16⟩
def GLB_FW_VERSION : Field := ⟨113664, 31, 0⟩
def GLB_FW_STATE : Field := ⟨113664, 35, 32⟩
def GLB_FW_CRASHES : Field := ⟨113664, 43, 36⟩
def GLB_FW_LAST_RESTART_US : Field := ⟨113664, 63, 48⟩
def GLB_ACCT_STATE : Field := ⟨114688, 1, 0⟩
def GLB_ACCT_FALLBACK : Field := ⟨114688, 2, 2⟩
def GLB_ACCT_FP64 : Field := ⟨114688, 3, 3⟩
def GLB_ACCT_CORES : Field := ⟨114688, 12, 4⟩
def GLB_ACCT_LOMEF : Field := ⟨114688, 16, 13⟩
def GLB_ACCT_EXQ : Field := ⟨114688, 21, 17⟩
def GLB_BIND_REFUSE_REASON : Field := ⟨115712, 7, 0⟩
def GLB_BIND_REFUSE_ACCOUNT : Field := ⟨115712, 13, 8⟩
def GLB_CMD_BASE_ADDR : Field := ⟨116736, 47, 0⟩
def GLB_CMD_SLOTS_SLOTS : Field := ⟨117760, 10, 0⟩
def GLB_CMD_TAIL_INDEX : Field := ⟨118784, 9, 0⟩
def GLB_CMD_HEAD_INDEX : Field := ⟨119808, 9, 0⟩
def DBK_STATUS_COUNT : Field := ⟨120832, 16, 0⟩
def DBK_STATUS_FROZEN : Field := ⟨120832, 17, 17⟩
def DBK_STATUS_LAST_END : Field := ⟨120832, 19, 18⟩
def DBK_STATUS_STEWARD_ABSENT : Field := ⟨120832, 20, 20⟩
def DBK_STATUS_CRC_BAD : Field := ⟨120832, 21, 21⟩
def DBK_SEQ_NEXT : Field := ⟨121856, 15, 0⟩
def DBK_SEQ_STAGED : Field := ⟨121856, 28, 16⟩
def DBK_CURSOR_INDEX : Field := ⟨122880, 15, 0⟩
def DBK_CURSOR_AUTOADV : Field := ⟨122880, 16, 16⟩
def DBK_FREEZE_FREEZE : Field := ⟨123904, 0, 0⟩
def DBK_FREEZE_HELD : Field := ⟨123904, 16, 8⟩
def DBK_LOSS_COUNT : Field := ⟨124928, 31, 0⟩
def DBK_HOLD_LOST_COUNT : Field := ⟨125952, 31, 0⟩
def DBK_SUPPRESSED_COUNT : Field := ⟨126976, 31, 0⟩
def DBK_OPSEC_SECONDS : Field := ⟨128000, 31, 0⟩
def DBK_POWER_CYCLES : Field := ⟨129024, 15, 0⟩
def DBK_CLEAR_NONCE : Field := ⟨130048, 0, 0⟩
def DBK_CLEAR_RESULT : Field := ⟨130048, 10, 8⟩
def DBK_NONCE_WORD : Field := ⟨131072, 31, 0⟩
def DBK_WINDOW_WORD : Field := ⟨132096, 31, 0⟩
def DMP_STATUS_VALID : Field := ⟨133120, 0, 0⟩
def DMP_STATUS_WRITING : Field := ⟨133120, 1, 1⟩
def DMP_STATUS_INCOMPLETE : Field := ⟨133120, 2, 2⟩
def DMP_STATUS_KEPT : Field := ⟨133120, 3, 3⟩
def DMP_STATUS_DUMPS : Field := ⟨133120, 15, 8⟩
def DMP_CTRL_KEEP : Field := ⟨134144, 0, 0⟩
def DMP_CTRL_TILES : Field := ⟨134144, 1, 1⟩
def DMP_CTRL_DISCARD : Field := ⟨134144, 8, 8⟩
def DMP_CAUSE_CODE : Field := ⟨135168, 15, 0⟩
def DMP_CAUSE_SEQ : Field := ⟨135168, 31, 16⟩
def DMP_TIME_VALUE : Field := ⟨136192, 63, 0⟩
def DMP_BASE_VALUE : Field := ⟨137216, 63, 0⟩
def DMP_LENGTH_VALUE : Field := ⟨138240, 63, 0⟩
def TRS_STATUS_SEED_OK : Field := ⟨139264, 0, 0⟩
def TRS_STATUS_ID_READY : Field := ⟨139264, 1, 1⟩
def TRS_STATUS_RPMB_FAIL : Field := ⟨139264, 2, 2⟩
def TRS_STATUS_ROOT_MIN : Field := ⟨139264, 5, 4⟩
def TRS_DEVID_WORD : Field := ⟨140288, 31, 0⟩
def TRS_COUNTER_VALUE : Field := ⟨141312, 31, 0⟩
def TRS_FLOOR_VALUE : Field := ⟨142336, 31, 0⟩
def TRS_NONCE_CTRL_NEW : Field := ⟨143360, 0, 0⟩
def TRS_NONCE_CTRL_RESULT : Field := ⟨143360, 10, 8⟩
def TRS_NONCE_WORD : Field := ⟨144384, 31, 0⟩
def TRS_LAST_REFUSE_CLASS : Field := ⟨145408, 3, 0⟩
def TRS_LAST_REFUSE_REASON : Field := ⟨145408, 10, 8⟩
def TRS_LAST_REFUSE_INDEX : Field := ⟨145408, 20, 16⟩
def ASZ_STATUS_LINK : Field := ⟨146432, 0, 0⟩
def ASZ_STATUS_PAIRED : Field := ⟨146432, 1, 1⟩
def ASZ_STATUS_TAMPER : Field := ⟨146432, 2, 2⟩
def ASZ_STATUS_LOG_CLOSED : Field := ⟨146432, 3, 3⟩
def ASZ_STATUS_HELD : Field := ⟨146432, 14, 8⟩
def ASZ_ENERGY_UWH : Field := ⟨147456, 63, 0⟩
def ASZ_NOW_VOLTAGE : Field := ⟨148480, 15, 0⟩
def ASZ_NOW_CURRENT : Field := ⟨148480, 31, 16⟩
def ASZ_READING_SEQ : Field := ⟨149504, 31, 0⟩
def ASZ_CMD_CMD : Field := ⟨150528, 1, 0⟩
def ASZ_SWID_VERSION : Field := ⟨151552, 31, 0⟩
def ASZ_SWID_DIGEST : Field := ⟨151552, 63, 32⟩
def ASZ_ACCT_UWH : Field := ⟨152576, 63, 0⟩
def MGT_LINK_STATE : Field := ⟨153600, 1, 0⟩
def MGT_LINK_FEC : Field := ⟨153600, 2, 2⟩
def MGT_LINK_MEDIA : Field := ⟨153600, 3, 3⟩
def MGT_LINK_DOWNS : Field := ⟨153600, 15, 8⟩
def MGT_CTRL_IDENTIFY : Field := ⟨154624, 0, 0⟩
def MGT_CTRL_SPDM_PORT : Field := ⟨154624, 31, 16⟩
def MGT_SLOT_SLOT_ID : Field := ⟨155648, 4, 0⟩
def MGT_SLOT_PWR_EN : Field := ⟨155648, 8, 8⟩
def MGT_SLOT_DEBUG : Field := ⟨155648, 9, 9⟩
def MGT_COOLANT_INLET : Field := ⟨156672, 7, 0⟩
def MGT_COOLANT_OUTLET : Field := ⟨156672, 15, 8⟩
def MGT_COOLANT_FLOW : Field := ⟨156672, 31, 16⟩
def MGT_COOL_LIMIT_FLOW_MIN : Field := ⟨157696, 15, 0⟩
def MGT_COOL_LIMIT_INLET_MAX : Field := ⟨157696, 23, 16⟩
def MGT_COOL_LIMIT_WARN : Field := ⟨157696, 24, 24⟩
def MGT_PFAIL_COUNT : Field := ⟨158720, 15, 0⟩
def PCI_PORT_STATE : Field := ⟨159744, 2, 0⟩
def PCI_PORT_WIDTH : Field := ⟨159744, 8, 4⟩
def PCI_PORT_RETRAINS : Field := ⟨159744, 23, 16⟩
def PCI_REPLAY_COUNT : Field := ⟨160768, 31, 0⟩
def PCI_AER_CE_COUNT : Field := ⟨161792, 31, 0⟩
def PCI_AER_UE_COUNT : Field := ⟨162816, 31, 0⟩
def GPC_CLOCK_TARGET_MHZ : Field := ⟨163840, 11, 0⟩
def GPC_CLOCK_ACTUAL_MHZ : Field := ⟨163840, 27, 16⟩
def GPC_HARTS_ONLINE : Field := ⟨164864, 31, 0⟩
def GPC_WDOG_TIMEOUT_MS : Field := ⟨165888, 15, 0⟩
def GPC_WDOG_KICK_KICK : Field := ⟨166912, 31, 0⟩
def MSH_STATUS_STOPS : Field := ⟨167936, 7, 0⟩
def MSH_STATUS_LINKS : Field := ⟨167936, 12, 8⟩
def MSH_RESEND_COUNT : Field := ⟨168960, 31, 0⟩
def MSH_STOP_ERR_COUNT : Field := ⟨169984, 31, 0⟩

end F

/-- Registers of block WRT. -/
def regsWrt : List RegInfo := [
  ⟨0, 1, 0, 1, 0, true, [⟨F.WRT_NOW_COUNT, .ro, 0, none⟩]⟩,
  ⟨1024, 1, 16, 1, 0, false, [⟨F.WRT_CTRL_MAXBOUND_MS, .rw, 10000, some (1, 60000)⟩, ⟨F.WRT_CTRL_BASIS_DEFAULT, .rw, 0, none⟩]⟩,
  ⟨2048, 1, 20, 1, 0, false, [⟨F.WRT_STATUS_RESTART_WINDOW, .ro, 0, none⟩, ⟨F.WRT_STATUS_BROKEN, .w1c, 0, none⟩, ⟨F.WRT_STATUS_LOWER_PENDING, .ro, 0, none⟩, ⟨F.WRT_STATUS_HW_DROP, .ro, 0, none⟩, ⟨F.WRT_STATUS_UNATTENDED, .ro, 0, none⟩, ⟨F.WRT_STATUS_OUTSTANDING, .ro, 0, none⟩]⟩,
  ⟨3072, 1, 24, 1, 0, false, [⟨F.WRT_RATE_SET_RATE, .ro, 1128, none⟩, ⟨F.WRT_RATE_FLOOR_RATE, .ro, 733, none⟩]⟩,
  ⟨4096, 1, 32, 1, 0, false, [⟨F.WRT_LATE_COUNT_COUNT, .ro, 0, none⟩]⟩,
  ⟨5120, 1, 36, 1, 0, false, [⟨F.WRT_REFUSE_COUNT_COUNT, .ro, 0, none⟩]⟩,
  ⟨6144, 1, 40, 1, 0, false, [⟨F.WRT_LAST_REFUSE_REASON, .ro, 0, none⟩, ⟨F.WRT_LAST_REFUSE_QUEUE, .ro, 0, none⟩, ⟨F.WRT_LAST_REFUSE_ACCOUNT, .ro, 0, none⟩]⟩,
  ⟨7168, 1, 48, 1, 0, false, [⟨F.WRT_DOORBELL_QUEUE, .wo, 0, none⟩, ⟨F.WRT_DOORBELL_TAIL, .wo, 0, none⟩]⟩,
  ⟨8192, 1, 52, 1, 0, false, [⟨F.WRT_CPL_ACK_QUEUE, .wo, 0, none⟩, ⟨F.WRT_CPL_ACK_HEAD, .wo, 0, none⟩]⟩]

/-- Registers of block PWR. -/
def regsPwr : List RegInfo := [
  ⟨9216, 2, 0, 1, 0, false, [⟨F.PWR_VDDF_TARGET, .rw, 75, some (60, 85)⟩, ⟨F.PWR_VDDF_ACTUAL, .ro, 75, none⟩, ⟨F.PWR_VDDF_PENDING, .ro, 0, none⟩]⟩,
  ⟨10240, 2, 4, 1, 0, false, [⟨F.PWR_TJ_DIE0, .ro, 0, none⟩, ⟨F.PWR_TJ_DIE1, .ro, 0, none⟩, ⟨F.PWR_TJ_DIE2, .ro, 0, none⟩, ⟨F.PWR_TJ_DIE3, .ro, 0, none⟩]⟩,
  ⟨11264, 2, 8, 1, 0, false, [⟨F.PWR_TJ_HUB_HUB, .ro, 0, none⟩]⟩,
  ⟨12288, 2, 12, 1, 0, false, [⟨F.PWR_LIMIT_THERMAL_DROP, .ro, 0, none⟩, ⟨F.PWR_LIMIT_CURRENT_DROP, .ro, 0, none⟩, ⟨F.PWR_LIMIT_CLAMP_ACTIVE, .ro, 0, none⟩, ⟨F.PWR_LIMIT_ABOVE_105, .ro, 0, none⟩, ⟨F.PWR_LIMIT_REF_HALT, .ro, 0, none⟩, ⟨F.PWR_LIMIT_THERMAL_SEEN, .w1c, 0, none⟩, ⟨F.PWR_LIMIT_CURRENT_SEEN, .w1c, 0, none⟩, ⟨F.PWR_LIMIT_TRIP_THERMAL, .w1c, 0, none⟩, ⟨F.PWR_LIMIT_TRIP_CURRENT, .w1c, 0, none⟩, ⟨F.PWR_LIMIT_TRIP_CLOCK, .w1c, 0, none⟩]⟩,
  ⟨13312, 2, 16, 1, 0, false, [⟨F.PWR_CAP_WATTS, .lck, 3000, some (1000, 3000)⟩]⟩,
  ⟨14336, 2, 20, 1, 0, false, [⟨F.PWR_INPUT_CURRENT_MA, .ro, 0, none⟩, ⟨F.PWR_INPUT_VOLTAGE, .ro, 0, none⟩]⟩]

/-- Registers of block ENG. -/
def regsEng : List RegInfo := [
  ⟨15360, 17, 0, 1, 0, false, [⟨F.ENG_CTRL_HANG_US, .rw, 100, some (10, 10000)⟩]⟩,
  ⟨16384, 17, 4, 1, 0, false, [⟨F.ENG_FENCE_REQ_ENGINE, .wo, 0, none⟩]⟩,
  ⟨17408, 17, 8, 1, 0, false, [⟨F.ENG_ERR_CE_COUNT, .ro, 0, none⟩]⟩,
  ⟨18432, 17, 12, 1, 0, false, [⟨F.ENG_ERR_UE_COUNT, .ro, 0, none⟩]⟩,
  ⟨19456, 17, 16, 1, 0, false, [⟨F.ENG_LAST_ERR_ENGINE, .ro, 0, none⟩, ⟨F.ENG_LAST_ERR_KIND, .ro, 0, none⟩]⟩,
  ⟨20480, 17, 256, 64, 4, false, [⟨F.ENG_FENCE_MASK, .ro, 0, none⟩]⟩,
  ⟨21504, 17, 512, 64, 4, false, [⟨F.ENG_PRESENT_MASK, .ro, 0, none⟩]⟩]

/-- Registers of block SEQ. -/
def regsSeq : List RegInfo := [
  ⟨22528, 16, 0, 1, 0, false, [⟨F.SEQ_CTRL_HANG_US, .rw, 1000, some (100, 60000)⟩]⟩,
  ⟨23552, 16, 4, 1, 0, false, [⟨F.SEQ_ERR_CE_COUNT, .ro, 0, none⟩]⟩,
  ⟨24576, 16, 8, 1, 0, false, [⟨F.SEQ_ERR_UE_COUNT, .ro, 0, none⟩]⟩,
  ⟨25600, 16, 12, 1, 0, false, [⟨F.SEQ_LAST_ERR_CORE, .ro, 0, none⟩, ⟨F.SEQ_LAST_ERR_KIND, .ro, 0, none⟩]⟩,
  ⟨26624, 16, 16, 1, 0, false, [⟨F.SEQ_LAST_PC_PC, .ro, 0, none⟩]⟩,
  ⟨27648, 16, 24, 1, 0, true, [⟨F.SEQ_FENCE_MASK, .ro, 0, none⟩]⟩,
  ⟨28672, 16, 32, 1, 0, true, [⟨F.SEQ_PRESENT_MASK, .ro, 0, none⟩]⟩,
  ⟨29696, 16, 40, 1, 0, false, [⟨F.SEQ_CLUSTER_FENCE_MASK, .ro, 0, none⟩]⟩,
  ⟨30720, 16, 256, 64, 4, false, [⟨F.SEQ_STATE_STATE, .ro, 0, none⟩, ⟨F.SEQ_STATE_ACCOUNT, .ro, 0, none⟩, ⟨F.SEQ_STATE_QUEUE, .ro, 0, none⟩]⟩]

/-- Registers of block MEM. -/
def regsMem : List RegInfo := [
  ⟨31744, 18, 0, 1, 0, false, [⟨F.MEM_CTRL_REF_FLOOR, .rw, 0, some (0, 2)⟩, ⟨F.MEM_CTRL_SCRUB_EN, .rw, 1, none⟩, ⟨F.MEM_CTRL_RETRAIN_EN, .rw, 1, none⟩]⟩,
  ⟨32768, 18, 4, 1, 0, false, [⟨F.MEM_STATUS_FULL_RATE, .ro, 0, none⟩, ⟨F.MEM_STATUS_STEWARD_ABSENT, .ro, 1, none⟩, ⟨F.MEM_STATUS_RETRAINING, .ro, 0, none⟩, ⟨F.MEM_STATUS_PRESENT, .ro, 0, none⟩, ⟨F.MEM_STATUS_FENCED, .ro, 0, none⟩]⟩,
  ⟨33792, 18, 8, 1, 0, false, [⟨F.MEM_ERR_CE_COUNT, .ro, 0, none⟩]⟩,
  ⟨34816, 18, 12, 1, 0, false, [⟨F.MEM_ERR_UE_COUNT, .ro, 0, none⟩]⟩,
  ⟨35840, 18, 16, 1, 0, false, [⟨F.MEM_EDC_RETRY_COUNT, .ro, 0, none⟩]⟩,
  ⟨36864, 18, 20, 1, 0, false, [⟨F.MEM_CA_REPLAY_COUNT, .ro, 0, none⟩]⟩,
  ⟨37888, 18, 24, 1, 0, false, [⟨F.MEM_EMERG_COUNT, .ro, 0, none⟩]⟩,
  ⟨38912, 18, 28, 1, 0, false, [⟨F.MEM_LAST_ERR_CHANNEL, .ro, 0, none⟩, ⟨F.MEM_LAST_ERR_KIND, .ro, 0, none⟩]⟩,
  ⟨39936, 18, 32, 1, 0, false, [⟨F.MEM_SCRUB_POS_SLOT, .ro, 0, none⟩, ⟨F.MEM_SCRUB_POS_PASSES, .ro, 0, none⟩]⟩,
  ⟨40960, 18, 36, 1, 0, false, [⟨F.MEM_FENCE_REQ_GROUP, .wo, 0, none⟩]⟩,
  ⟨41984, 18, 256, 8, 4, false, [⟨F.MEM_TEMP_DEV0, .ro, 0, none⟩, ⟨F.MEM_TEMP_DEV1, .ro, 0, none⟩, ⟨F.MEM_TEMP_DEV2, .ro, 0, none⟩, ⟨F.MEM_TEMP_DEV3, .ro, 0, none⟩]⟩,
  ⟨43008, 18, 288, 8, 4, false, [⟨F.MEM_REFRESH_MULT, .ro, 170, none⟩, ⟨F.MEM_REFRESH_CAPPED, .ro, 0, none⟩]⟩,
  ⟨44032, 18, 512, 128, 4, false, [⟨F.MEM_CH_STATE_STATE, .ro, 0, none⟩, ⟨F.MEM_CH_STATE_FULL, .ro, 0, none⟩, ⟨F.MEM_CH_STATE_TRAIN_TEMP, .ro, 0, none⟩, ⟨F.MEM_CH_STATE_QUEUE, .ro, 0, none⟩]⟩]

/-- Registers of block STR. -/
def regsStr : List RegInfo := [
  ⟨45056, 19, 0, 1, 0, false, [⟨F.STR_CTRL_ARMED, .rw, 0, none⟩, ⟨F.STR_CTRL_RT_UNITS, .lck, 0, some (0, 64)⟩]⟩,
  ⟨46080, 19, 4, 1, 0, false, [⟨F.STR_GLOBAL_N, .ro, 0, none⟩, ⟨F.STR_GLOBAL_Q, .ro, 0, none⟩, ⟨F.STR_GLOBAL_E, .ro, 0, none⟩]⟩,
  ⟨47104, 19, 8, 1, 0, false, [⟨F.STR_LOCAL_N, .ro, 0, none⟩, ⟨F.STR_LOCAL_Q, .ro, 0, none⟩, ⟨F.STR_LOCAL_E, .ro, 0, none⟩]⟩,
  ⟨48128, 19, 16, 1, 0, false, [⟨F.STR_TBL_INDEX_INDEX, .rw, 0, none⟩, ⟨F.STR_TBL_INDEX_SEL, .rw, 0, none⟩, ⟨F.STR_TBL_INDEX_AUTOINC, .rw, 1, none⟩]⟩,
  ⟨49152, 19, 20, 1, 0, false, [⟨F.STR_TBL_DATA_LOGICAL, .rw, 0, none⟩]⟩,
  ⟨50176, 19, 24, 1, 0, true, [⟨F.STR_SIZE_BYTES, .ro, 0, none⟩]⟩,
  ⟨51200, 19, 32, 1, 0, true, [⟨F.STR_DUMP_BASE_ADDR, .ro, 0, none⟩]⟩,
  ⟨52224, 19, 64, 1, 0, false, [⟨F.STR_RUN_INDEX_INDEX, .rw, 0, none⟩]⟩,
  ⟨53248, 19, 68, 1, 0, false, [⟨F.STR_RUN_DATA0_VPAGE, .rw, 0, none⟩]⟩,
  ⟨54272, 19, 72, 1, 0, false, [⟨F.STR_RUN_DATA1_PPAGE, .rw, 0, none⟩]⟩,
  ⟨55296, 19, 76, 1, 0, false, [⟨F.STR_RUN_DATA2_COUNT, .rw, 0, none⟩]⟩,
  ⟨56320, 19, 80, 1, 0, false, [⟨F.STR_RUN_DATA3_ACCOUNT, .rw, 0, none⟩, ⟨F.STR_RUN_DATA3_VALID, .rw, 0, none⟩, ⟨F.STR_RUN_DATA3_WRITE, .rw, 0, none⟩, ⟨F.STR_RUN_DATA3_RT, .rw, 0, none⟩, ⟨F.STR_RUN_DATA3_RT_DIE, .rw, 0, none⟩]⟩,
  ⟨57344, 19, 84, 1, 0, false, [⟨F.STR_RUN_CMD_CMD, .wo, 0, none⟩]⟩,
  ⟨58368, 19, 88, 1, 0, false, [⟨F.STR_RUN_STATUS_BUSY, .ro, 0, none⟩, ⟨F.STR_RUN_STATUS_REASON, .ro, 0, none⟩]⟩,
  ⟨59392, 19, 96, 1, 0, false, [⟨F.STR_FAULTS_COUNT, .ro, 0, none⟩]⟩]

/-- Registers of block LMF. -/
def regsLmf : List RegInfo := [
  ⟨60416, 32, 0, 1, 0, false, [⟨F.LMF_STATUS_READY, .ro, 0, none⟩, ⟨F.LMF_STATUS_LOST, .ro, 0, none⟩, ⟨F.LMF_STATUS_BUSY, .ro, 0, none⟩, ⟨F.LMF_STATUS_KIND, .ro, 0, none⟩, ⟨F.LMF_STATUS_ACCOUNT, .ro, 0, none⟩]⟩,
  ⟨61440, 32, 8, 1, 0, true, [⟨F.LMF_STEP_STEP, .ro, 0, none⟩]⟩,
  ⟨62464, 32, 16, 1, 0, true, [⟨F.LMF_PROGRESS_ELEMENTS, .ro, 0, none⟩]⟩,
  ⟨63488, 32, 24, 1, 0, false, [⟨F.LMF_MISMATCH_COUNT, .ro, 0, none⟩]⟩,
  ⟨64512, 32, 28, 1, 0, false, [⟨F.LMF_VAULT_CE_COUNT, .ro, 0, none⟩]⟩,
  ⟨65536, 32, 32, 1, 0, false, [⟨F.LMF_VAULT_UE_COUNT, .ro, 0, none⟩]⟩,
  ⟨66560, 32, 36, 1, 0, false, [⟨F.LMF_LINK_WIDTH, .ro, 0, none⟩, ⟨F.LMF_LINK_RETRAINS, .ro, 0, none⟩]⟩,
  ⟨67584, 32, 40, 1, 0, false, [⟨F.LMF_CTRL_SCRUB_EN, .rw, 1, none⟩]⟩]

/-- Registers of block ETH. -/
def regsEth : List RegInfo := [
  ⟨68608, 8, 0, 1, 0, false, [⟨F.ETH_ENCAP_MODE, .lck, 0, none⟩, ⟨F.ETH_ENCAP_PAYLOAD, .lck, 0, none⟩, ⟨F.ETH_ENCAP_DSCP, .lck, 0, none⟩]⟩,
  ⟨69632, 8, 4, 1, 0, false, [⟨F.ETH_TYPE_ETHERTYPE, .lck, 34997, some (1536, 65535)⟩, ⟨F.ETH_TYPE_UDP_PORT, .lck, 18516, some (1024, 65535)⟩]⟩,
  ⟨70656, 8, 16, 1, 0, false, [⟨F.ETH_RETX_COUNT, .ro, 0, none⟩]⟩,
  ⟨71680, 8, 20, 1, 0, false, [⟨F.ETH_HELD_DISCARD_COUNT, .ro, 0, none⟩]⟩,
  ⟨72704, 8, 24, 1, 0, false, [⟨F.ETH_STALE_COUNT, .ro, 0, none⟩]⟩,
  ⟨73728, 8, 28, 1, 0, false, [⟨F.ETH_HOST_DROP_COUNT, .ro, 0, none⟩]⟩,
  ⟨74752, 8, 32, 1, 0, false, [⟨F.ETH_CRC_DROP_COUNT, .ro, 0, none⟩]⟩,
  ⟨75776, 8, 256, 16, 4, false, [⟨F.ETH_PORT_STATE, .ro, 0, none⟩, ⟨F.ETH_PORT_IN_SET, .ro, 0, none⟩, ⟨F.ETH_PORT_EXQ, .ro, 0, none⟩, ⟨F.ETH_PORT_KR4, .ro, 0, none⟩, ⟨F.ETH_PORT_RETRAINS, .ro, 0, none⟩]⟩,
  ⟨76800, 8, 320, 16, 4, false, [⟨F.ETH_FEC_CE_COUNT, .ro, 0, none⟩]⟩,
  ⟨77824, 8, 384, 16, 4, false, [⟨F.ETH_FEC_UE_COUNT, .ro, 0, none⟩]⟩,
  ⟨78848, 8, 512, 16, 8, true, [⟨F.ETH_GATEWAY_MAC, .rw, 0, none⟩]⟩]

/-- Registers of block CLR. -/
def regsClr : List RegInfo := [
  ⟨79872, 20, 0, 1, 0, false, [⟨F.CLR_CTRL_LOOKAHEAD, .rw, 2, some (1, 4)⟩]⟩,
  ⟨80896, 20, 4, 1, 0, false, [⟨F.CLR_STATUS_BUSY, .ro, 0, none⟩, ⟨F.CLR_STATUS_PERMUTE, .ro, 0, none⟩, ⟨F.CLR_STATUS_ROUND, .ro, 0, none⟩, ⟨F.CLR_STATUS_RING_WAIT, .ro, 0, none⟩, ⟨F.CLR_STATUS_ACTIVE, .ro, 0, none⟩]⟩,
  ⟨81920, 20, 16, 1, 0, true, [⟨F.CLR_STAGE_BASE_ADDR, .rw, 0, none⟩]⟩,
  ⟨82944, 20, 24, 1, 0, false, [⟨F.CLR_STAGE_SIZE_MIB, .rw, 0, some (0, 4096)⟩]⟩,
  ⟨83968, 20, 32, 1, 0, false, [⟨F.CLR_ORDERS_COUNT, .ro, 0, none⟩]⟩,
  ⟨84992, 20, 36, 1, 0, false, [⟨F.CLR_LINK_LOST_COUNT, .ro, 0, none⟩]⟩,
  ⟨86016, 20, 40, 1, 0, false, [⟨F.CLR_LAST_ERR_REASON, .ro, 0, none⟩, ⟨F.CLR_LAST_ERR_ACCOUNT, .ro, 0, none⟩, ⟨F.CLR_LAST_ERR_TAG, .ro, 0, none⟩]⟩]

/-- Registers of block EXQ. -/
def regsExq : List RegInfo := [
  ⟨87040, 21, 0, 1, 0, false, [⟨F.EXQ_FRAME_ETHERTYPE, .lck, 34998, some (1536, 65535)⟩, ⟨F.EXQ_FRAME_UDP_PORT, .lck, 18517, some (1024, 65535)⟩]⟩,
  ⟨88064, 21, 4, 1, 0, false, [⟨F.EXQ_CTRL_HANG_US, .rw, 100, some (10, 1000)⟩]⟩,
  ⟨89088, 21, 256, 4, 64, false, [⟨F.EXQ_STATE_STATE, .ro, 0, none⟩, ⟨F.EXQ_STATE_FACT_RISK, .ro, 0, none⟩, ⟨F.EXQ_STATE_SWITCH_PENDING, .ro, 0, none⟩, ⟨F.EXQ_STATE_PORT_HELD, .ro, 0, none⟩, ⟨F.EXQ_STATE_PORT, .ro, 0, none⟩, ⟨F.EXQ_STATE_ACCOUNT, .ro, 0, none⟩]⟩,
  ⟨90112, 21, 264, 4, 64, true, [⟨F.EXQ_CYCLES_COUNT, .ro, 0, none⟩]⟩,
  ⟨91136, 21, 272, 4, 64, false, [⟨F.EXQ_LAST_STATUS, .ro, 0, none⟩, ⟨F.EXQ_LAST_FLAGS, .ro, 0, none⟩, ⟨F.EXQ_LAST_ITER, .ro, 0, none⟩]⟩,
  ⟨92160, 21, 276, 4, 64, false, [⟨F.EXQ_PLANT_C_LAST, .ro, 0, none⟩]⟩,
  ⟨93184, 21, 280, 4, 64, false, [⟨F.EXQ_MISS_DEADLINE, .ro, 0, none⟩, ⟨F.EXQ_MISS_FACTOR, .ro, 0, none⟩]⟩,
  ⟨94208, 21, 284, 4, 64, false, [⟨F.EXQ_INPUT_INCOMPLETE, .ro, 0, none⟩, ⟨F.EXQ_INPUT_LATE_DROP, .ro, 0, none⟩]⟩,
  ⟨95232, 21, 288, 4, 64, false, [⟨F.EXQ_CAP_COUNT, .ro, 0, none⟩]⟩,
  ⟨96256, 21, 292, 4, 64, false, [⟨F.EXQ_RANGE_COUNT, .ro, 0, none⟩]⟩,
  ⟨97280, 21, 296, 4, 64, false, [⟨F.EXQ_SLACK_MIN, .ro, 4294967295, none⟩]⟩,
  ⟨98304, 21, 300, 4, 64, false, [⟨F.EXQ_BOUND_COUNTS, .ro, 0, none⟩]⟩,
  ⟨99328, 21, 304, 4, 64, false, [⟨F.EXQ_FBOUND_COUNTS, .ro, 0, none⟩]⟩,
  ⟨100352, 21, 308, 4, 64, true, [⟨F.EXQ_SWITCH_VA_VA, .wo, 0, none⟩]⟩,
  ⟨101376, 21, 316, 4, 64, false, [⟨F.EXQ_STOP_STOP, .wo, 0, none⟩]⟩]

/-- Registers of block GLB. -/
def regsGlb : List RegInfo := [
  ⟨102400, 0, 0, 1, 0, false, [⟨F.GLB_ID_PART, .ro, 9, none⟩, ⟨F.GLB_ID_STEPPING, .ro, 16, none⟩]⟩,
  ⟨103424, 0, 4, 1, 0, false, [⟨F.GLB_STATE_STATE, .ro, 0, none⟩, ⟨F.GLB_STATE_START_KIND, .ro, 0, none⟩, ⟨F.GLB_STATE_SERVICE_CAUSE, .ro, 0, none⟩, ⟨F.GLB_STATE_STEP, .ro, 0, none⟩, ⟨F.GLB_STATE_RESTART_NEEDED, .ro, 0, none⟩]⟩,
  ⟨104448, 0, 8, 1, 0, false, [⟨F.GLB_READY_MS_MS, .ro, 0, none⟩]⟩,
  ⟨105472, 0, 12, 1, 0, false, [⟨F.GLB_RESET_KEY, .wo, 0, none⟩]⟩,
  ⟨106496, 0, 16, 1, 0, false, [⟨F.GLB_HEARTBEAT_BEAT, .wo, 0, none⟩]⟩,
  ⟨107520, 0, 20, 1, 0, false, [⟨F.GLB_SESSION_ATTACHED, .ro, 0, none⟩, ⟨F.GLB_SESSION_UNATTENDED, .ro, 0, none⟩, ⟨F.GLB_SESSION_HOLD_LEFT, .ro, 0, none⟩]⟩,
  ⟨108544, 0, 24, 1, 0, false, [⟨F.GLB_IFACE_MINOR, .ro, 0, none⟩, ⟨F.GLB_IFACE_MAJOR, .ro, 0, none⟩]⟩,
  ⟨109568, 0, 32, 4, 8, true, [⟨F.GLB_FEATURES_AGREED, .ro, 0, none⟩]⟩,
  ⟨110592, 0, 64, 4, 8, true, [⟨F.GLB_POLICY_POLICY, .lck, 0, none⟩]⟩,
  ⟨111616, 0, 96, 1, 0, false, [⟨F.GLB_CHARTER_VERSION, .ro, 0, none⟩]⟩,
  ⟨112640, 0, 100, 1, 0, false, [⟨F.GLB_DEGRADE_EFFECTIVE, .ro, 0, none⟩, ⟨F.GLB_DEGRADE_LOG, .ro, 0, none⟩]⟩,
  ⟨113664, 0, 256, 17, 8, true, [⟨F.GLB_FW_VERSION, .ro, 0, none⟩, ⟨F.GLB_FW_STATE, .ro, 0, none⟩, ⟨F.GLB_FW_CRASHES, .ro, 0, none⟩, ⟨F.GLB_FW_LAST_RESTART_US, .ro, 0, none⟩]⟩,
  ⟨114688, 0, 512, 64, 4, false, [⟨F.GLB_ACCT_STATE, .ro, 0, none⟩, ⟨F.GLB_ACCT_FALLBACK, .ro, 0, none⟩, ⟨F.GLB_ACCT_FP64, .ro, 0, none⟩, ⟨F.GLB_ACCT_CORES, .ro, 0, none⟩, ⟨F.GLB_ACCT_LOMEF, .ro, 0, none⟩, ⟨F.GLB_ACCT_EXQ, .ro, 0, none⟩]⟩,
  ⟨115712, 0, 768, 1, 0, false, [⟨F.GLB_BIND_REFUSE_REASON, .ro, 0, none⟩, ⟨F.GLB_BIND_REFUSE_ACCOUNT, .ro, 0, none⟩]⟩,
  ⟨116736, 0, 784, 1, 0, true, [⟨F.GLB_CMD_BASE_ADDR, .rw, 0, none⟩]⟩,
  ⟨117760, 0, 792, 1, 0, false, [⟨F.GLB_CMD_SLOTS_SLOTS, .rw, 16, none⟩]⟩,
  ⟨118784, 0, 796, 1, 0, false, [⟨F.GLB_CMD_TAIL_INDEX, .rw, 0, none⟩]⟩,
  ⟨119808, 0, 800, 1, 0, false, [⟨F.GLB_CMD_HEAD_INDEX, .ro, 0, none⟩]⟩]

/-- Registers of block DBK. -/
def regsDbk : List RegInfo := [
  ⟨120832, 3, 0, 1, 0, false, [⟨F.DBK_STATUS_COUNT, .ro, 0, none⟩, ⟨F.DBK_STATUS_FROZEN, .ro, 0, none⟩, ⟨F.DBK_STATUS_LAST_END, .ro, 0, none⟩, ⟨F.DBK_STATUS_STEWARD_ABSENT, .ro, 1, none⟩, ⟨F.DBK_STATUS_CRC_BAD, .w1c, 0, none⟩]⟩,
  ⟨121856, 3, 4, 1, 0, false, [⟨F.DBK_SEQ_NEXT, .ro, 0, none⟩, ⟨F.DBK_SEQ_STAGED, .ro, 0, none⟩]⟩,
  ⟨122880, 3, 8, 1, 0, false, [⟨F.DBK_CURSOR_INDEX, .rw, 0, none⟩, ⟨F.DBK_CURSOR_AUTOADV, .rw, 1, none⟩]⟩,
  ⟨123904, 3, 12, 1, 0, false, [⟨F.DBK_FREEZE_FREEZE, .wo, 0, none⟩, ⟨F.DBK_FREEZE_HELD, .ro, 0, none⟩]⟩,
  ⟨124928, 3, 16, 4, 4, false, [⟨F.DBK_LOSS_COUNT, .ro, 0, none⟩]⟩,
  ⟨125952, 3, 32, 1, 0, false, [⟨F.DBK_HOLD_LOST_COUNT, .ro, 0, none⟩]⟩,
  ⟨126976, 3, 36, 1, 0, false, [⟨F.DBK_SUPPRESSED_COUNT, .ro, 0, none⟩]⟩,
  ⟨128000, 3, 40, 1, 0, false, [⟨F.DBK_OPSEC_SECONDS, .ro, 0, none⟩]⟩,
  ⟨129024, 3, 44, 1, 0, false, [⟨F.DBK_POWER_CYCLES, .ro, 0, none⟩]⟩,
  ⟨130048, 3, 48, 1, 0, false, [⟨F.DBK_CLEAR_NONCE, .wo, 0, none⟩, ⟨F.DBK_CLEAR_RESULT, .ro, 0, none⟩]⟩,
  ⟨131072, 3, 64, 4, 4, false, [⟨F.DBK_NONCE_WORD, .ro, 0, none⟩]⟩,
  ⟨132096, 3, 256, 64, 4, false, [⟨F.DBK_WINDOW_WORD, .ro, 0, none⟩]⟩]

/-- Registers of block DMP. -/
def regsDmp : List RegInfo := [
  ⟨133120, 4, 0, 1, 0, false, [⟨F.DMP_STATUS_VALID, .ro, 0, none⟩, ⟨F.DMP_STATUS_WRITING, .ro, 0, none⟩, ⟨F.DMP_STATUS_INCOMPLETE, .ro, 0, none⟩, ⟨F.DMP_STATUS_KEPT, .w1c, 0, none⟩, ⟨F.DMP_STATUS_DUMPS, .ro, 0, none⟩]⟩,
  ⟨134144, 4, 4, 1, 0, false, [⟨F.DMP_CTRL_KEEP, .rw, 0, none⟩, ⟨F.DMP_CTRL_TILES, .rw, 0, none⟩, ⟨F.DMP_CTRL_DISCARD, .wo, 0, none⟩]⟩,
  ⟨135168, 4, 8, 1, 0, false, [⟨F.DMP_CAUSE_CODE, .ro, 0, none⟩, ⟨F.DMP_CAUSE_SEQ, .ro, 0, none⟩]⟩,
  ⟨136192, 4, 16, 1, 0, true, [⟨F.DMP_TIME_VALUE, .ro, 0, none⟩]⟩,
  ⟨137216, 4, 24, 1, 0, true, [⟨F.DMP_BASE_VALUE, .ro, 0, none⟩]⟩,
  ⟨138240, 4, 32, 1, 0, true, [⟨F.DMP_LENGTH_VALUE, .ro, 0, none⟩]⟩]

/-- Registers of block TRS. -/
def regsTrs : List RegInfo := [
  ⟨139264, 5, 0, 1, 0, false, [⟨F.TRS_STATUS_SEED_OK, .ro, 0, none⟩, ⟨F.TRS_STATUS_ID_READY, .ro, 0, none⟩, ⟨F.TRS_STATUS_RPMB_FAIL, .w1c, 0, none⟩, ⟨F.TRS_STATUS_ROOT_MIN, .lck, 0, none⟩]⟩,
  ⟨140288, 5, 16, 4, 4, false, [⟨F.TRS_DEVID_WORD, .ro, 0, none⟩]⟩,
  ⟨141312, 5, 64, 11, 4, false, [⟨F.TRS_COUNTER_VALUE, .ro, 0, none⟩]⟩,
  ⟨142336, 5, 128, 11, 4, false, [⟨F.TRS_FLOOR_VALUE, .lck, 0, none⟩]⟩,
  ⟨143360, 5, 192, 1, 0, false, [⟨F.TRS_NONCE_CTRL_NEW, .wo, 0, none⟩, ⟨F.TRS_NONCE_CTRL_RESULT, .ro, 0, none⟩]⟩,
  ⟨144384, 5, 208, 4, 4, false, [⟨F.TRS_NONCE_WORD, .ro, 0, none⟩]⟩,
  ⟨145408, 5, 224, 1, 0, false, [⟨F.TRS_LAST_REFUSE_CLASS, .ro, 0, none⟩, ⟨F.TRS_LAST_REFUSE_REASON, .ro, 0, none⟩, ⟨F.TRS_LAST_REFUSE_INDEX, .ro, 0, none⟩]⟩]

/-- Registers of block ASZ. -/
def regsAsz : List RegInfo := [
  ⟨146432, 6, 0, 1, 0, false, [⟨F.ASZ_STATUS_LINK, .ro, 0, none⟩, ⟨F.ASZ_STATUS_PAIRED, .ro, 0, none⟩, ⟨F.ASZ_STATUS_TAMPER, .ro, 0, none⟩, ⟨F.ASZ_STATUS_LOG_CLOSED, .ro, 0, none⟩, ⟨F.ASZ_STATUS_HELD, .ro, 0, none⟩]⟩,
  ⟨147456, 6, 8, 1, 0, true, [⟨F.ASZ_ENERGY_UWH, .ro, 0, none⟩]⟩,
  ⟨148480, 6, 16, 1, 0, false, [⟨F.ASZ_NOW_VOLTAGE, .ro, 0, none⟩, ⟨F.ASZ_NOW_CURRENT, .ro, 0, none⟩]⟩,
  ⟨149504, 6, 24, 1, 0, false, [⟨F.ASZ_READING_SEQ, .ro, 0, none⟩]⟩,
  ⟨150528, 6, 28, 1, 0, false, [⟨F.ASZ_CMD_CMD, .wo, 0, none⟩]⟩,
  ⟨151552, 6, 32, 1, 0, true, [⟨F.ASZ_SWID_VERSION, .ro, 0, none⟩, ⟨F.ASZ_SWID_DIGEST, .ro, 0, none⟩]⟩,
  ⟨152576, 6, 256, 64, 8, true, [⟨F.ASZ_ACCT_UWH, .ro, 0, none⟩]⟩]

/-- Registers of block MGT. -/
def regsMgt : List RegInfo := [
  ⟨153600, 7, 0, 1, 0, false, [⟨F.MGT_LINK_STATE, .ro, 0, none⟩, ⟨F.MGT_LINK_FEC, .ro, 0, none⟩, ⟨F.MGT_LINK_MEDIA, .ro, 0, none⟩, ⟨F.MGT_LINK_DOWNS, .ro, 0, none⟩]⟩,
  ⟨154624, 7, 4, 1, 0, false, [⟨F.MGT_CTRL_IDENTIFY, .rw, 0, none⟩, ⟨F.MGT_CTRL_SPDM_PORT, .lck, 4194, some (1024, 65535)⟩]⟩,
  ⟨155648, 7, 8, 1, 0, false, [⟨F.MGT_SLOT_SLOT_ID, .ro, 0, none⟩, ⟨F.MGT_SLOT_PWR_EN, .ro, 0, none⟩, ⟨F.MGT_SLOT_DEBUG, .ro, 0, none⟩]⟩,
  ⟨156672, 7, 12, 1, 0, false, [⟨F.MGT_COOLANT_INLET, .ro, 0, none⟩, ⟨F.MGT_COOLANT_OUTLET, .ro, 0, none⟩, ⟨F.MGT_COOLANT_FLOW, .ro, 0, none⟩]⟩,
  ⟨157696, 7, 16, 1, 0, false, [⟨F.MGT_COOL_LIMIT_FLOW_MIN, .rw, 450, some (100, 2000)⟩, ⟨F.MGT_COOL_LIMIT_INLET_MAX, .rw, 45, some (20, 50)⟩, ⟨F.MGT_COOL_LIMIT_WARN, .ro, 0, none⟩]⟩,
  ⟨158720, 7, 20, 1, 0, false, [⟨F.MGT_PFAIL_COUNT, .ro, 0, none⟩]⟩]

/-- Registers of block PCI. -/
def regsPci : List RegInfo := [
  ⟨159744, 9, 0, 8, 4, false, [⟨F.PCI_PORT_STATE, .ro, 0, none⟩, ⟨F.PCI_PORT_WIDTH, .ro, 0, none⟩, ⟨F.PCI_PORT_RETRAINS, .ro, 0, none⟩]⟩,
  ⟨160768, 9, 32, 8, 4, false, [⟨F.PCI_REPLAY_COUNT, .ro, 0, none⟩]⟩,
  ⟨161792, 9, 64, 8, 4, false, [⟨F.PCI_AER_CE_COUNT, .ro, 0, none⟩]⟩,
  ⟨162816, 9, 96, 8, 4, false, [⟨F.PCI_AER_UE_COUNT, .ro, 0, none⟩]⟩]

/-- Registers of block GPC. -/
def regsGpc : List RegInfo := [
  ⟨163840, 10, 0, 1, 0, false, [⟨F.GPC_CLOCK_TARGET_MHZ, .rw, 2000, some (400, 3000)⟩, ⟨F.GPC_CLOCK_ACTUAL_MHZ, .ro, 2000, none⟩]⟩,
  ⟨164864, 10, 4, 1, 0, false, [⟨F.GPC_HARTS_ONLINE, .ro, 0, none⟩]⟩,
  ⟨165888, 10, 8, 1, 0, false, [⟨F.GPC_WDOG_TIMEOUT_MS, .rw, 0, none⟩]⟩,
  ⟨166912, 10, 12, 1, 0, false, [⟨F.GPC_WDOG_KICK_KICK, .wo, 0, none⟩]⟩]

/-- Registers of block MSH. -/
def regsMsh : List RegInfo := [
  ⟨167936, 22, 0, 1, 0, false, [⟨F.MSH_STATUS_STOPS, .ro, 0, none⟩, ⟨F.MSH_STATUS_LINKS, .ro, 0, none⟩]⟩,
  ⟨168960, 22, 16, 5, 4, false, [⟨F.MSH_RESEND_COUNT, .ro, 0, none⟩]⟩,
  ⟨169984, 22, 48, 1, 0, false, [⟨F.MSH_STOP_ERR_COUNT, .ro, 0, none⟩]⟩]

/-- Every register of control space. -/
def regTable : List RegInfo :=
  regsWrt ++
  regsPwr ++
  regsEng ++
  regsSeq ++
  regsMem ++
  regsStr ++
  regsLmf ++
  regsEth ++
  regsClr ++
  regsExq ++
  regsGlb ++
  regsDbk ++
  regsDmp ++
  regsTrs ++
  regsAsz ++
  regsMgt ++
  regsPci ++
  regsGpc ++
  regsMsh

/-- What a register element nothing has written holds (R18): the Reset column. -/
def regReset (key : Nat) : W64 :=
  match key / 1024 with
  | 1 => 0x2710#64  -- WRT_CTRL
  | 3 => 0x2dd0468#64  -- WRT_RATE
  | 9 => 0x4b4b#64  -- PWR_VDDF
  | 13 => 0xbb8#64  -- PWR_CAP
  | 15 => 0x64#64  -- ENG_CTRL
  | 22 => 0x3e8#64  -- SEQ_CTRL
  | 31 => 0xc#64  -- MEM_CTRL
  | 32 => 0x2#64  -- MEM_STATUS
  | 42 => 0xaa#64  -- MEM_REFRESH
  | 47 => 0x20000#64  -- STR_TBL_INDEX
  | 66 => 0x1#64  -- LMF_CTRL
  | 68 => 0x485488b5#64  -- ETH_TYPE
  | 78 => 0x2#64  -- CLR_CTRL
  | 85 => 0x485588b6#64  -- EXQ_FRAME
  | 86 => 0x64#64  -- EXQ_CTRL
  | 95 => 0xffffffff#64  -- EXQ_SLACK
  | 100 => 0x100009#64  -- GLB_ID
  | 115 => 0x10#64  -- GLB_CMD_SLOTS
  | 118 => 0x100000#64  -- DBK_STATUS
  | 120 => 0x10000#64  -- DBK_CURSOR
  | 151 => 0x10620000#64  -- MGT_CTRL
  | 154 => 0x2d01c2#64  -- MGT_COOL_LIMIT
  | 160 => 0x7d007d0#64  -- GPC_CLOCK
  | _ => 0#64

end Sys2Proof.Machine
end

