-- ==== Sys2Proof/Config.lean ====
section
/-! DEFINITION. What the spec fixes for one implementation without giving its value, and the values it leaves open: nothing
in Lean can evaluate them. -/

namespace Sys2Proof.Config

/-- The free values: number n is the n-th the machine takes (`State.free`). (DESIGN CHOICE, log entries 11, 38.) -/
opaque freeValue : Nat → BitVec 128

/-- SHA-384 (R486), defined outside the spec, as the little-endian number of its 48 bytes. (DESIGN CHOICE, log entry 12.) -/
opaque sha384 : List Byte → BitVec 384

/-- Byte `i` of the signature that verifies with an algorithm (0 RSASSA-PSS, 1 SLH-DSA-SHA2-192s, 2 SLH-DSA-SHA2-192f) under a
public key for a message (R486). (DESIGN CHOICE, log entry 12.) -/
opaque sigByte : Nat → List Byte → List Byte → Nat → Byte

/-- The four Henlux root key sets of the boot ROM: moduli and SLH-DSA public keys (R487), most significant byte first. -/
opaque rootRsa : Nat → BitVec 3072
opaque rootSlh : Nat → BitVec 384

/-- What the physically unclonable function of this silicon yields with the helper data of SPI NOR: the 48 bytes of the seed
(R492). (DESIGN CHOICE, log entry 14.) -/
opaque pufSeed : List Byte → BitVec 384

/-- The RSA-3072 modulus generated from its 48-byte seed, the SLH-DSA-SHA2-192f public key of its 72 secret bytes (R493). -/
opaque rsaModulus : List Byte → BitVec 3072
opaque slhPublic : List Byte → BitVec 384

/-- Bytes of the fatal dump that the spec names without saying what they hold (R481): section, part, offset; the bytes of a
hardware queue. (DESIGN CHOICE, log entry 44.) -/
opaque dumpByte : Nat → Nat → Nat → Byte
opaque queueBytes : Nat → Nat

/-- The body of a processor's n-th hand-off record, which belongs to its image (R441). (DESIGN CHOICE, log entry 45.) -/
opaque handoffBody : Nat → Nat → List Byte

/-- Thresholds of the input monitor in mV (R531): a board has one value of each, within the range the spec gives. (DEDUCED, log entry 15.) -/
opaque turnOnMv : Nat
opaque warnMv : Nat
opaque overMv : Nat

/-- What an exchequer result holds where the spec gives no value: the number of the value and the integers of the problem it
depends on, and nothing else (R384). (DESIGN CHOICE, log entry 11.) -/
opaque exqOpen : Nat → List Int → W32

/-- Capability words of firmware by its interface version and word (R435). (DESIGN CHOICE, log entry 43.) -/
opaque capability : W32 → Nat → W64

/-- The Assize unit as made: its serial number, its two public keys (R519), the issuing root and class bits of its
certificate (R488), and the keys of the metrology CA that issued it. (DESIGN CHOICE, log entry 10.) -/
opaque assizeSerial : BitVec 128
opaque assizeRsa : BitVec 3072
opaque assizeSlh : BitVec 384
opaque assizeIssue : BitVec 48
opaque metrologyRsa : BitVec 3072
opaque metrologySlh : BitVec 384

/-- The FRU memory on the standby rail, byte by byte: order number, serial number, manufacture date, MAC base (R544). (DESIGN
CHOICE, log entry 107.) -/
opaque fruByte : BitVec 11 → BitVec 8

end Sys2Proof.Config
end

