-- ==== Sys2Proof/Machine/State.lean ====
section
/-! DEFINITION. The state of the module as plain data, its reset value, and the reasons a step can stop. -/

namespace Sys2Proof.Machine

/-- Reasons a command can fault. -/
inductive Fault where
  /-- Raised by the meanings whose operand is a list of bytes (frames, packets, fragments, token headers)
  when the list is longer than anything the interface can carry (R339, R399, R499): such a term is no command of
  this hardware (`Instr.wf` is false of it). Safe: the model stops where the hardware cannot be. (DESIGN CHOICE, log entry 4.) -/
  | illFormed
  deriving DecidableEq, Repr

/-- Reasons the model refuses a command. -/
inductive Refusal where
  /-- A command whose meaning is not written. Raised by no arm: every command has its meaning. Safe. -/
  | notModelled (mnemonic : String)
  deriving DecidableEq, Repr

/-! ### Control space (17_control_space_map.md) -/

/-- The bus side of control space: half-register latches and held halves per requester (R20, R561), the answer of
each requester's latest read, and the access faults raised in harts (R276). Keys of registers are those of
Machine/Regs.lean. -/
structure Bus where
  latch : List (Requester × Nat × W32)
  held : List (Requester × Nat × W32)
  rdata : List (Requester × W64)
  fault : List (Nat × Addr)
  linkLost : List (Nat × Addr)
  deriving DecidableEq, Repr

/-! ### Time, power and start -/

/-- The timekeeping domain (R59, R461): the local time counter, whether it counts, operating seconds and the counts
since they last advanced. -/
structure Clk where
  now : Nat
  counting : Bool
  opsec : Nat
  frac : Nat
  deriving DecidableEq, Repr

/-- Input, hot-swap controller and the power steward's own counts (R65, R531 to R536, R548, R573). -/
structure Power where
  inputMv : Nat
  pwrEn : Bool
  mainRails : Bool
  /-- off after a shutdown until PWR_EN is cycled or the input falls below 40 V (R534) -/
  lockedOff : Bool
  /-- the last power-down came from an overvoltage (R536) -/
  overvoltage : Bool
  clampSince : Option Nat
  /-- start set point of the charter (R426), upper limit of R573 -/
  startVddf : Nat
  /-- the point a rise of VDDF started from, and when the rise is over (R54, R75) -/
  riseFrom : Nat
  riseUntil : Nat
  capLoweredAt : Option Nat
  capRaisedAt : Option Nat
  /-- since when P has stayed below WATTS - 100 W -/
  belowSince : Option Nat
  /-- consecutive coolant readings (R548) -/
  flowLow : Nat
  inletHigh : Nat
  coolClear : Nat
  coolPending : Bool
  /-- die of a thermal shutdown, and a current shutdown, whose deferred record the next start writes (R64, R65) -/
  tripDie : Option Nat
  tripCurrent : Bool
  deriving DecidableEq, Repr

/-- Where the module is between power-off and service (R416, R429, R44, R58, R444, R479). -/
inductive Phase where
  /-- no main rails -/
  | off
  /-- main rails up, power good awaited (R533) -/
  | railsUp
  /-- a start is running -/
  | starting
  | ready
  | unattended
  | service
  /-- halted for a lost reference (R58) -/
  | halted
  /-- a fatal error has stopped the units; the warm reset with source 3 is due (R479) -/
  | fatal
  deriving DecidableEq, Repr

/-- An entry of the degrade log (R427). -/
structure DegradeEntry where
  kind : Nat
  die : Nat
  unit : Nat
  code : BitVec 16
  power : Nat
  opsec : Nat
  seq : Nat
  /-- the HMAC-SHA-384 of the body, of an entry of the degrade log -/
  mac : List Byte := []
  deriving DecidableEq, Repr

/-- The management port's address settings (R425, R540). -/
structure Mgt where
  /-- 0 static, 1 DHCPv6, 2 stateless autoconfiguration; none: the link-local address alone -/
  mode : Option Nat
  pfx : Nat
  tag : Nat
  addr : List Byte
  gateway : List Byte
  deriving DecidableEq, Repr

structure Boot where
  phase : Phase
  /-- the charter has been read and every LCK field is locked (R417) -/
  locked : Bool
  /-- the hub SRAM copy of the charter (R417) -/
  charter : List Byte
  /-- header and certificate of its signature block -/
  charterSig : List Byte
  charterSvn : Nat
  /-- a warm reset is requested with this source (R419) -/
  resetReq : Option Nat
  /-- local time at power good of this start, for GLB_READY_MS -/
  startedAt : Nat
  /-- engines, cores, groups ... in the effective degrade set (R427): (kind, die, unit) -/
  degraded : List (Nat × Nat × Nat)
  /-- the entry bodies of that set, in sequence order -/
  degradeSet : List DegradeEntry
  /-- a fatal error held while the recorder steward restarts (R478): code and level -/
  heldFatal : Option (BitVec 16 × BitVec 8)
  /-- features have been negotiated in this start (R435) -/
  negotiated : Bool
  /-- a fatal dump whose sections are written: the 4,096 bytes its header will have (R479 step 5) -/
  dump : Option (List Byte)
  deriving DecidableEq, Repr

/-- A Daybook record (R456), unpacked; `crc` is the stored CRC. -/
structure DbkRec where
  code : BitVec 16
  sev : BitVec 2
  supp : Bool
  defer : Bool
  power : BitVec 16
  opsec : W32
  frac : BitVec 16
  seq : BitVec 16
  p0 : W32
  p1 : W32
  p2 : W32
  p3 : BitVec 28
  crc : W32
  deriving DecidableEq, Repr

/-- SPI NOR and the UFS replay-protected memory block, beside the registers that live in them (R565). -/
structure Nor where
  charter : CharterImage
  degrade : List DegradeEntry
  /-- the replay counter of the degrade log, in UFS (R428) -/
  degradeCtr : Nat
  opsec : Nat
  /-- the persisted value was written by the power-fail warning (R462) -/
  opsecPfail : Bool
  seq : BitVec 16
  power : Nat
  book : List DbkRec
  /-- helper data of the physically unclonable function (R492) -/
  helper : List Byte
  /-- starts in a row in which the operating system did not run (R429 cause 0x07) -/
  osFails : Nat
  /-- the certificates of SPDM slot 0: Henlux root CA, manufacturing CA, identity certificate, which UFS holds (R494, R500) -/
  chain : List (List Byte)
  deriving DecidableEq, Repr

/-- A flood-limit window of one code (R465). -/
structure FloodWin where
  code : BitVec 16
  w : Nat
  k : Nat
  s : Nat
  deriving DecidableEq, Repr

/-- The recorder (R456 to R485). The Daybook itself is `Nor.book`. -/
structure Dbk where
  staging : List DbkRec
  holding : List DbkRec
  frozenAt : Option Nat
  /-- records lost from the holding queue in the running freeze -/
  lostNow : Nat
  windows : List FloodWin
  seqNext : BitVec 16
  nonce : Option (BitVec 128 × Nat)
  /-- records held at the cancellation of a freeze by the dump, to be told by 0x0051 (R46, R479) -/
  cancelled : Option Nat
  opsecPersistAt : Nat
  deriving DecidableEq, Repr

/-- The identity keys in the trust engine (R493, R494): the 48-byte seed of the RSA key and the 72 secret bytes of the SLH-DSA
key, the public keys, and the device identifier. -/
structure IdKeys where
  rsaSeed : List Byte
  slhSecret : List Byte
  rsaPub : List Byte
  slhPub : List Byte
  deviceId : List Byte
  deriving DecidableEq, Repr

/-- An SPDM answer (R500, R501): its message code, its numbers, its byte fields, and its signatures. -/
structure SpdmMsg where
  code : Nat
  nums : List Nat
  data : List (List Byte)
  sigs : List Sig
  deriving DecidableEq, Repr

/-- The trust engine (R486 to R503). -/
structure Trust where
  /-- the 48 bytes of the seed, once it is recovered (R492) -/
  seed : Option (List Byte)
  keys : Option IdKeys
  nonce : Option (BitVec 128 × Nat)
  /-- SVN of the loader, the operating system and the Lomef chip images that run (R496), by class -/
  svn : SMap Nat
  /-- digests of the loader, the operating system and the Lomef chip images, by measurement index (R501) -/
  digests : SMap (List Byte)
  /-- the latest SPDM answer (R500, R501) -/
  spdm : Option SpdmMsg
  /-- the service responder's token under assembly (R542) and its latest reply -/
  svcToken : SMap Byte
  svcReply : Option (List Byte)
  deriving DecidableEq, Repr

/-! ### Firmware processors, session, accounts (12_start_firmware_accounts.md) -/

/-- A hand-off record (R441): HREC_VER, the processor's number, the old VERSION, the body, the CRC-32C of the body. -/
structure Handoff where
  hrec : Nat
  proc : Nat
  version : W32
  body : List Byte
  crc : W32
  deriving DecidableEq, Repr

/-- A firmware processor beside its GLB_FW register (R430 to R443). -/
structure Proc where
  image : Option SigBlock
  handoff : Option Handoff
  crashTimes : List Nat
  downSince : Option Nat
  /-- the image of an update that runs (R438 to R440), and when the new image starts (R440 step 4, R502) -/
  upd : Option SigBlock
  startsAt : Nat
  deriving DecidableEq, Repr

/-- The driver session (R444 to R446) and the command ring (R452). -/
structure Session where
  token : Option (BitVec 128)
  lastBeat : Nat
  lapsedAt : Option Nat
  /-- accounts held under R444, each with the time of the lapse that holds it -/
  heldAccts : List (Nat × Nat)
  /-- outstanding command-ring entries: (slot, OP, account) -/
  cmds : List (Nat × Nat × Nat)
  deriving DecidableEq, Repr

/-- An account's binding (R447). -/
structure Acct where
  job : Nat
  rank : Nat
  ranks : Nat
  gradE5m2 : Bool
  lomef : BitVec 8
  exq : BitVec 16
  ports : BitVec 16
  cores : BitVec 256
  ledgerVa : Nat
  ledgerCount : Nat
  layerVa : Nat
  layerCount : Nat
  gatelogVa : Nat
  peerVa : Nat
  fbEscrowVa : Nat
  escrowOff : List Nat
  postedOff : List Nat
  /-- loaded shard books 0 to 3 (R352): ranks in ring order -/
  books : List (Option (List Nat))
  deriving DecidableEq, Repr

/-- A run of the run table (R278). -/
structure Run where
  vpage : Nat
  ppage : Nat
  count : Nat
  account : Nat
  valid : Bool
  write : Bool
  rt : Bool
  rtDie : Nat
  deriving DecidableEq, Repr

/-! ### Warrants (02_timing_and_warrants.md) -/

/-- A solve order under a batch, a Lomef order, a clearing order: its 64 bytes and its status when complete. -/
structure SubOrder where
  bytes : List Byte
  /-- handed to the unit that runs it -/
  issued : Bool
  status : Option Nat
  deriving DecidableEq, Repr

/-- An outstanding batch (R71 to R81). -/
structure Batch where
  tag : W32
  step : Option Nat
  /-- SET basis, with the set point its warrant was computed at -/
  setBasis : Bool
  setPoint : Nat
  bound : Nat
  admittedAt : Nat
  deadline : Nat
  noSeq : Bool
  progVa : Nat
  progBytes : Nat
  entry : Nat
  argVa : W64
  tags : List W32
  clrVa : Nat
  clrCount : Nat
  lmfVa : Nat
  lmfCount : Nat
  exqVa : Nat
  exqCount : Nat
  /-- its orders are issued; its cores have started -/
  started : Bool
  begun : Bool
  /-- counts the batch has waited on other modules (R78) -/
  waited : Nat
  /-- R77: 1 broken by a second restart, 2 by a hardware drop -/
  broken1 : Bool
  broken2 : Bool
  above105 : Bool
  /-- cores whose sequencer has not reported DONE -/
  running : List Nat
  /-- statuses contributed so far (R82) -/
  status : List Nat
  clr : List SubOrder
  lmf : List SubOrder
  exq : List SubOrder
  /-- saturated elements and NAN_INF of the batch's records (R328) -/
  sat : Nat
  nanInf : Bool
  deriving DecidableEq, Repr

/-- A warrant queue (R67, R447) with its rings (R70). -/
structure Queue where
  account : Nat
  q : Nat
  lomef : BitVec 8
  ports : BitVec 16
  exq : BitVec 16
  cores : BitVec 256
  subSlots : Nat
  cplSlots : Nat
  subVa : Nat
  cplVa : Nat
  subHead : Nat
  subTail : Nat
  cplHead : Nat
  cplTail : Nat
  /-- entries due and not yet written (R70) -/
  due : List (List Byte)
  /-- deadline of the latest warranted batch (R69) -/
  lastDeadline : Nat
  batches : List Batch
  deriving DecidableEq, Repr

/-- A re-binding that runs (R450, R451): the account, the command that waits for it, what the account holds afterwards
(none: it is free) with its queues, the queues given up or bound anew, the cores that still have to move, the count its
time runs from (none while batches use what moves), units whose loops a reclaim leaves (R446), the cause and mask of code
0x2504, the FP64 flag. -/
structure Move where
  account : Nat
  slot : Option Nat
  acct : Option Acct
  queues : List (Nat × Queue)
  drop : List Nat
  cores : List Nat
  since : Option Nat
  kept : List Nat
  fallback : Option (Nat × Nat)
  fp64 : Bool
  deriving DecidableEq, Repr

/-- The warrant unit: queues and the times of firmware-steward restarts (R77). -/
structure Wrt where
  queues : SMap Queue
  restarts : List Nat
  deriving DecidableEq, Repr

/-! ### Cores and engines (05, 06) -/

/-- What a waiting sequencer waits for: the orders of WAITE or WAITL, a loader transfer that a vector access would meet
(R219), nothing while its core is the host core of a unit that serves an account (R379), anything else. -/
inductive SeqWait where
  | orders | vector | unit | other
  deriving DecidableEq, Repr

/-- A core: program counter, the batch's outcome so far, break and fault state, vector unit (R181, R191, R225). The
account, queue and run state are the SEQ_STATE register's. -/
structure Core where
  pc : W64
  /-- status of a core-level fault of the running batch -/
  fault : Option Nat
  /-- stopped at SYS 1 for the debugger -/
  held : Bool
  /-- uncorrectable core-store words since start (R191) -/
  uncs : Nat
  /-- the store is zeroed when the batch ends (R191) -/
  zeroes : Bool
  /-- when the latest instruction retired, or the batch began (R191) -/
  retiredAt : Nat
  wait : SeqWait
  /-- number of the next order or transfer issued in the batch -/
  issue : Nat
  /-- statuses of the batch's orders and transfers by source: engine 0 to 31, 32 the loader -/
  stats : List (Nat × Nat)
  vAwake : Bool
  vLast : Nat
  deriving DecidableEq, Repr

/-- The context slot values an order takes when it is issued (R165). -/
structure Ctx where
  slot : Nat
  seed : W64
  tensorId : BitVec 24
  elemBase : BitVec 40
  rowStride : BitVec 40
  gA : W32
  gB : W32
  gD : W32
  causal : Int
  deriving DecidableEq, Repr

/-- What an order or transfer delivers (R166): status, status word, counters, steps, first index. -/
structure Result where
  status : Nat
  word : W32
  sat : Nat
  flush : Nat
  nan : Nat
  inf : Nat
  steps : Nat
  first : W32
  deriving DecidableEq, Repr

/-- Bytes an order or transfer delivers: to a tile store (0) or core store (1) key or an account virtual address (2),
and the offsets of those that lie in poisoned words. -/
structure Wr where
  dst : Nat
  at_ : Nat
  bytes : List Byte
  pois : List Nat
  deriving DecidableEq, Repr

/-- A tile order in an engine's queue, or a transfer in a loader's: its words, its context, its place in issue order,
and, once it runs, its result, the bytes it will write, and its capture (R240). -/
structure Order where
  w0 : W64
  w1 : W64
  w2 : W64
  w3 : W64
  ctx : Ctx
  issue : Nat
  /-- reason of R164, or 0 -/
  reason : Nat
  running : Bool
  res : Option Result
  finished : Bool
  writes : List Wr
  amax : W32
  capSat : Bool
  capNonfin : Bool
  deriving DecidableEq, Repr

structure Engine where
  queue : List Order
  poisoned : Bool
  /-- uncorrectable tile-store words since start (R191) -/
  uncs : Nat
  /-- when a step was last acknowledged, as far as orders starting and ending tell (R191) -/
  stepAt : Nat
  deriving DecidableEq, Repr

/-- The compute hierarchy: cores, scalar registers (key core * 32 + r), CSRs (core * 4096 + n), vector registers
(core * 32 + v), mask registers (core * 8 + m), engines, loader queues (by core). -/
@[ext]
structure Compute where
  cores : SMap Core
  sregs : SMap W64
  csrs : SMap W64
  vregs : SMap W512
  mregs : SMap W512
  engines : SMap Engine
  loaders : SMap (List Order)
  deriving DecidableEq, Repr

/-! ### Memory (08) -/

/-- The stores: fast tier and vault by place key, tile stores by engine * 2^18 + byte, core stores by core * 2^21 +
byte, and the poisoned 8-byte words of each (key / 8), rising. -/
structure Mem where
  dram : List Host.Cell
  dramPoison : List Nat
  ts : List Host.Cell
  tsPoison : List Nat
  cs : List Host.Cell
  csPoison : List Nat
  deriving DecidableEq, Repr

/-- Steering, translation and the memory steward's counts (R268 to R292). Table entries not listed are those of the
even fill `i mod N` once `filled`. -/
structure MemSys where
  filled : Bool
  steer : SMap Nat
  localTbl : SMap Nat
  runs : SMap Run
  emergTimes : SMap (List Nat)
  uncTimes : SMap (List Nat)
  /-- by device * 4 + row: since when the readings have stayed 2 °C below the row's threshold, plus one -/
  coolSince : SMap Nat
  slices : SMap Nat
  lastSlice : Option Nat
  vaultScrub : SMap Nat
  deriving DecidableEq, Repr

/-! ### Posts, gate, Lomef (07, 09) -/

/-- A post of LPOST, WPOST or the update in a keeper's queue (R241, R253, R320). -/
structure Post where
  die : Nat
  account : Nat
  layer : Bool
  id : Nat
  data : W64
  /-- the core whose program posted it; its DONE waits for the merge (R241) -/
  core : Option Nat
  deriving DecidableEq, Repr

/-- What a module knows of a step of an account (R328): health contributions and the shares that reported escrow. -/
structure StepHealth where
  account : Nat
  step : Nat
  nanInf : Bool
  sat : Nat
  batchFailed : Bool
  escrowFailed : Bool
  reported : List Nat
  deriving DecidableEq, Repr

/-- An exchange of a collective with a peer: its stage or round, its direction, its first message number and its bytes. -/
structure Leg where
  peer : Nat
  stage : Nat
  out : Bool
  msg : Nat
  len : Nat
  deriving DecidableEq, Repr

/-- A collective (R355, R356): the order and its place in the batch, the ring when it was issued. -/
structure Coll where
  id : Nat
  account : Nat
  queue : Nat
  index : Nat
  step : Nat
  bytes : List Byte
  ring : List Nat
  from_ : List Nat
  /-- its own part has not been sent: it waits under R361, R362 or R369 -/
  waiting : Bool
  /-- what it is to receive is expected, and credits granted for it -/
  opened : Bool
  /-- stage of an ALL_REDUCE, round of a PERMUTE -/
  stage : Nat
  /-- the reductions of the stage have been formed -/
  formed : Bool
  /-- plane list for each peer, fixed when it starts (R345) -/
  planes : List (Nat × List Nat)
  legs : List Leg
  status : List Nat
  result : Result
  /-- the list of rows this module has reduced in a SPARSE ALL_REDUCE -/
  own : List Byte
  deriving DecidableEq, Repr

/-- A gate command (R329). -/
structure Gate where
  account : Nat
  slot : Nat
  step : Nat
  satLimit : Nat
  normFail : W32
  clip : W32
  timeoutMs : Nat
  lossVa : Nat
  resultVa : Nat
  enteredAt : Option Nat
  /-- the gate word it entered with: health word and the module's sum of squares (R370) -/
  health : W64
  sumsq : W64
  /-- the exchange as the fabric carries it, its identity, legs and planes (R370) -/
  exch : Option Coll
  deriving DecidableEq, Repr

/-- A Lomef order on a share (R322). -/
structure LOrder where
  account : Nat
  queue : Nat
  bytes : List Byte
  running : Bool
  status : Option Nat
  /-- the escrow buffer it works on (share offset); an escrow's SUMSQ, or 1 once an update has applied -/
  buffer : Nat
  sumsq : W64
  /-- update: amax and SAT of the copies to post -/
  copies : List (Nat × W64)
  deriving DecidableEq, Repr

structure Train where
  posts : List Post
  health : List StepHealth
  gates : List Gate
  lomef : SMap (List LOrder)
  /-- home dies whose records another die keeps, with that die (R247) -/
  keepers : List (Nat × Nat)
  /-- account, step and RESULT_VA of gates that timed out and are not yet resolved (R332, R372) -/
  owed : List (Nat × Nat × Nat)
  deriving DecidableEq, Repr

/-! ### Fabric and clearing units (10) -/

/-- A packet sent and not yet acknowledged. -/
structure TxPkt where
  psn : Nat
  msg : Nat
  off : Nat
  bytes : List Byte
  sentAt : Nat
  deriving DecidableEq, Repr

/-- A path: one plane between this module's rank and a peer, under an account's job (R345 to R350). The sender's half:
next PSN, unused credits, the limit of R350. The receiver's half: the next PSN expected, those received above it, packets
since the last ACK, credits still to grant and granted ones not yet used. -/
structure Path where
  account : Nat
  peer : Nat
  plane : Nat
  txPsn : Nat
  credits : Nat
  /-- granted credits beyond the limit of R350 on unused ones -/
  spare : Nat
  limit : Nat
  ackedBytes : Nat
  halvedAt : Option Nat
  unacked : List TxPkt
  lastAck : Nat
  rxNext : Nat
  rxAbove : List Nat
  rxUnacked : Nat
  rxOldest : Option Nat
  /-- PSN missing below one received, each with the time it was found missing -/
  gaps : List (Nat × Nat)
  echo : Bool
  toGrant : Nat
  granted : Nat
  deriving DecidableEq, Repr

/-- A rank of an account's peer table (R351): its loaded entry, the port set it last announced, message numbers, when it
was last heard. -/
structure Peer where
  account : Nat
  peer : Nat
  entry : List Byte
  ports : BitVec 16
  lastHeard : Nat
  txMsg : Nat
  rxMsg : Nat
  deriving DecidableEq, Repr

/-- Where a message's payload goes: the clearing unit's own buffer, an account virtual address, a place in the stage
buffers. -/
inductive RxDst where
  | buffer
  | va (a : Nat)
  | stage (off : Nat)
  deriving DecidableEq, Repr

/-- A message to be received; the pieces that have arrived, by offset. -/
structure RxMsg where
  coll : Nat
  account : Nat
  peer : Nat
  msg : Nat
  stage : Nat
  dst : RxDst
  len : Nat
  got : SMap (List Byte)
  lastAt : Nat
  resends : Nat
  deriving DecidableEq, Repr

/-- A message to send; it stays until acknowledged whole (R348). `pend` are the packets not yet sent: offset, length,
plane. -/
structure TxMsg where
  coll : Nat
  account : Nat
  peer : Nat
  msg : Nat
  bytes : List Byte
  planes : List Nat
  pend : List (Nat × Nat × Nat)
  acked : Nat
  deriving DecidableEq, Repr

/-- A just-in-time gather that has been issued (R361). -/
structure Jit where
  account : Nat
  step : Nat
  seq : Nat
  dropped : Bool
  deriving DecidableEq, Repr

/-- How a frame leaves: a host frame as given, or a tally packet in one of the encapsulations of R343. -/
inductive Encap where
  | host
  | udp (src dst : List Byte) (srcPort dstPort tclass : Nat)
  | raw (ethertype : Nat)
  deriving DecidableEq, Repr

/-- A frame given to a port. -/
structure TxFrame where
  port : Nat
  dstMac : Nat
  srcMac : Nat
  tag : Nat
  encap : Encap
  bytes : List Byte
  deriving DecidableEq, Repr

structure Fabric where
  /-- segments of interrupted permutes that the stage buffers keep: account, SRC_VA, round (R366) -/
  staged : List (Nat × Nat × Nat)
  paths : List Path
  peers : List Peer
  rx : List RxMsg
  tx : List TxMsg
  colls : List Coll
  nextColl : Nat
  jit : List Jit
  /-- granule under which a tensor was last laid out: account, address, granule (R375) -/
  layouts : List (Nat × Nat × Nat)
  /-- tags completed on this module: (account, tag) -/
  doneTags : List (Nat × W32)
  /-- completion records of clearing orders: account, 32 bytes, newest last -/
  records : List (Nat × List Byte)
  /-- times a port went down (R341), and the cause of the latest -/
  downs : SMap (List Nat)
  downCause : SMap Nat
  /-- VLAN and priority tag of each port (R339) -/
  portTag : SMap Nat
  macBase : Nat
  /-- frames for the operating system, newest last, and until when a port's receive queue takes the latest (R342) -/
  hostRx : SMap (List (List Byte))
  hostBusy : SMap Nat
  /-- frames given to the ports, newest last -/
  wire : List TxFrame
  deriving DecidableEq, Repr

/-! ### Exchequer units (11) -/

/-- An instruction of an assembly program with its parameter matrix (R388). -/
structure ExqIns where
  op : Nat
  dst : Nat
  off : Nat
  len : Nat
  yOff : Nat
  yLen : Nat
  src : Nat
  parF : Nat
  par : List Int
  deriving DecidableEq, Repr

/-- A parameter table with the regions its offsets name, and the program that goes with it (R386 to R388). Scalars are
the words of the table; `fp` is the structure fingerprint. -/
structure ExqTable where
  va : Nat
  n : Nat
  m : Nat
  yLen : Nat
  rho : Int
  rhoinv : Int
  sigma : Int
  alpha : Int
  epsP : Int
  epsD : Int
  tolAct : Int
  tau : Int
  delta : Int
  resF : Nat
  version : Nat
  fmt : List Nat
  mask : List Byte
  h : List Int
  a : List Int
  f : List Int
  l : List Int
  u : List Int
  prog : List ExqIns
  fp : W32
  deriving DecidableEq, Repr

/-- An assembled problem in fixed point: H and A row by row, f, l, u (R388). -/
structure Problem where
  h : List Int
  a : List Int
  f : List Int
  l : List Int
  u : List Int
  deriving DecidableEq, Repr

/-- A factor: the rows of L below the diagonal, d, r, the first replaced pivot, pivots replaced (R390). -/
structure Factor where
  l : List (List Int)
  d : List Int
  r : List Int
  pivot : Option Nat
  replaced : Nat
  deriving DecidableEq, Repr

/-- An iterate (R391) with the fingerprint of the problem that produced it. -/
structure Iterate where
  x : List Int
  z : List Int
  y : List Int
  fp : W32
  deriving DecidableEq, Repr

/-- A measurement fragment held: index, element format, first element, element words (R399). -/
structure Frag where
  idx : Nat
  efmt : Nat
  eoff : Nat
  words : List Nat
  deriving DecidableEq, Repr

/-- A burst being collected (R399): the count at which it had every fragment. -/
structure Burst where
  cycle : Nat
  frags : Nat
  got : List Frag
  nan : Bool
  doneAt : Option Nat
  deriving DecidableEq, Repr

/-- Where the cycle of a loop is (R396); a rebuild of the working store (R412). -/
inductive ExqPhase where
  | idle | waitInput | assembling | factoring | iterating | rebuilding
  deriving DecidableEq, Repr

/-- A running loop: what its descriptor gives (R393), the release of the cycle in progress or of the next, and whether a
stop is requested (R411). -/
structure Loop where
  account : Nat
  progVa : Nat
  inVa : Nat
  outVa : Nat
  period : Nat
  cap : Nat
  check : Nat
  flags : Nat
  port : Nat
  inSlots : Nat
  outSlots : Nat
  stream : Nat
  yLen : Nat
  nout : Nat
  dstIp : List Byte
  dstMac : Nat
  release : Nat
  stopping : Bool
  deriving DecidableEq, Repr

/-- A solve order that runs (R406): its queue and place in the batch, and what it delivers when it completes. -/
structure ExqOrder where
  queue : Nat
  index : Nat
  account : Nat
  status : Nat
  writes : List (Nat × List Byte)
  last : Nat × Nat × Nat
  deriving DecidableEq, Repr

/-- An exchequer unit beside its registers. -/
structure Exq where
  loop : Option Loop
  phase : ExqPhase
  /-- the parameter table in force, and the one a switch waits with (R403) -/
  table : Option ExqTable
  pend : Option ExqTable
  /-- the table of the cycle in progress, and whether it is a new one (R403) -/
  cyc : Option ExqTable
  cycNew : Bool
  /-- the problem in use; H and A of a cycle that factors, beside the old ones (R397) -/
  prob : Problem
  next : Option Problem
  factor : Option Factor
  /-- the iterate R398 leaves, none before the first and after a rebuild; the one being worked on -/
  warm : Option Iterate
  iter : Iterate
  k : Nat
  bursts : List Burst
  /-- per entry of the input ring, 1 + the plant cycle of the fragment read there last (R399, R400) -/
  ringSeen : SMap Nat
  y : List Int
  /-- flags of R405 and saturations of the cycle or order -/
  flags : Nat
  sat : Nat
  /-- residuals last tested -/
  rp : Int
  rd : Int
  /-- last converged x and its plant cycle (R398) -/
  last : Option (List Int × Nat)
  /-- local time of the latest progress of the multiply-accumulators (R412) -/
  progressAt : Nat
  uncAt : Option Nat
  satRecAt : Option Nat
  order : Option ExqOrder
  /-- queued solve orders: (queue, index in the batch, bytes) -/
  orders : List (Nat × Nat × List Byte)
  /-- the factor is one of an order: account, table address, VERSION, n, m (R406) -/
  cache : Option (Nat × Nat × Nat × Nat × Nat)
  /-- a write of EXQ_SWITCH_VA that waits for the steward (R411) -/
  switchReq : Option Nat
  deriving DecidableEq, Repr

/-! ### The Assize unit (15) and the module's edges (16) -/

/-- A signed reading's body (R520), unpacked. -/
structure Reading where
  serial : BitVec 128
  seq : Nat
  msec : Nat
  energyWh : Nat
  maxDemand : Nat
  maxDemandAt : Nat
  resets : Nat
  d : Nat
  flags : BitVec 32
  legal : Nat
  swVersion : W32
  swDigest : W64
  rWh : Nat
  /-- the unit's two signatures over the body -/
  rsa : Sig
  slh : Sig
  deriving DecidableEq, Repr

/-- An entry of the metrological log (R518). -/
structure LogEntry where
  event : Nat
  msec : Nat
  euwh : Nat
  a : W32
  b : W32
  deriving DecidableEq, Repr

structure Assize where
  /-- as made: serial number (R510), public keys of the reading key pair, the issuing root and class bits of its certificate
  (R488, R519) -/
  serial : BitVec 128
  rsaPub : BitVec 3072
  slhPub : BitVec 384
  issue : BitVec 48
  /-- input at the unit is at least 40 V; its software has passed the boot check and runs (R505, R515) -/
  supplied : Bool
  running : Bool
  euwh : Nat
  ruwh : Nat
  /-- fractional remainders carried to the next sample (R507), in units of 1/14,400,000,000,000 µWh -/
  eRem : Int
  rRem : Int
  /-- samples since the latest meter second -/
  samples : Nat
  msec : Nat
  nvEuwh : Nat
  nvRuwh : Nat
  nvMsec : Nat
  /-- persisted maximum demand, its time, demand resets -/
  nvDemand : Nat × Nat × Nat
  /-- legally relevant parameters (R516) -/
  d : Nat
  pulseConst : Nat
  interval : Nat
  calibration : W32
  /-- E_uwh at the start of the demand period -/
  periodStart : Nat
  maxDemand : Nat
  maxDemandAt : Nat
  resets : Nat
  lastReset : Option Nat
  /-- demand resets that wait for the end of the period, in order: each its command, or a management request -/
  resetPend : List (Option (BitVec 10))
  pulses : Nat
  coverOpen : Bool
  tamper : Bool
  /-- openings without supply, not yet logged -/
  unlogged : Nat
  overRange : Bool
  legalLog : List LogEntry
  supplyLog : List LogEntry
  seq : Nat
  readings : List Reading
  /-- meter seconds of the latest reading made on time, and of the latest made on request -/
  madeAt : Option Nat
  lastRequest : Option Nat
  requested : Bool
  swVersion : W32
  swDigest : W64
  /-- the hour of meter seconds and R_uwh at its start -/
  revHour : Nat × Nat
  /-- hub side: latest frame answered, link lost, readings delivered, E_uwh at the latest division -/
  lastFrame : Nat
  lost : Bool
  delivered : List Reading
  shareBase : Option Nat
  deriving DecidableEq, Repr

/-- The module's edges: the administrator credential of the charter's management settings (R541), the instant the watchdog
counts from (R568), the slot number the rack straps (R543), and whether DEBUG_PRESENT_N is low (R545). -/
structure Edge where
  redfishAdmin : List Byte
  mgt : Mgt
  wdogFrom : Nat
  slotId : BitVec 5
  debug : Bool
  deriving DecidableEq, Repr

/-! ### The whole state -/

/-- The state of the module and the queue of commands that wait. -/
@[ext]
structure State where
  pending : List Instr
  /-- control-space registers by key, unlisted: the Reset column (Machine/Regs.lean) -/
  regs : SMap W64
  bus : Bus
  clk : Clk
  pow : Power
  boot : Boot
  nor : Nor
  dbk : Dbk
  trust : Trust
  procs : SMap Proc
  sess : Session
  accts : SMap Acct
  moves : List Move
  wrt : Wrt
  cpu : Compute
  mem : Mem
  ms : MemSys
  train : Train
  fab : Fabric
  exq : SMap Exq
  asz : Assize
  edge : Edge
  /-- the model's own field: how many free values have been taken (Config.freeValue) -/
  free : Nat
  deriving DecidableEq, Repr

/-- An image block with nothing in it. -/
def emptySig : SigBlock := ⟨[], [], [], ⟨.rsa, [], []⟩, ⟨.rsa, [], []⟩, ⟨.rsa, [], []⟩, ⟨.rsa, [], []⟩⟩

/-- The charter-independent defaults of the management port: a link-local address, no tag (R540). -/
def mgtDefault : Mgt := ⟨none, 0, 0, [], []⟩

/-- The state at the instant of power good of a module just powered, before its start sequence: every register at its
Reset column value (R18), stores empty, the local time counter zero (R59). (DESIGN CHOICE, log entries 7, 8, 9, 10.) -/
def State.reset : State where
  pending := []
  regs := []
  bus := ⟨[], [], [], [], []⟩
  clk := ⟨0, true, 0, 0⟩
  pow := ⟨54000, true, true, false, false, none, 75, 75, 0, none, none, none, 0, 0, 0, false, none, false⟩
  boot := ⟨.railsUp, false, [], [], 0, none, 0, [], [], none, false, none⟩
  nor := ⟨⟨false, [], emptySig⟩, [], 0, 0, true, 0, 0, [], [], 0, []⟩
  dbk := ⟨[], [], none, 0, [], 0, none, none, 0⟩
  trust := ⟨none, none, none, [], [], none, [], none⟩
  procs := []
  sess := ⟨none, 0, none, [], []⟩
  accts := []
  moves := []
  wrt := ⟨[], []⟩
  cpu := ⟨[], [], [], [], [], [], []⟩
  mem := ⟨[], [], [], [], [], []⟩
  ms := ⟨false, [], [], [], [], [], [], [], none, []⟩
  train := ⟨[], [], [], [], [], []⟩
  fab := ⟨[], [], [], [], [], [], 0, [], [], [], [], [], [], [], 0, [], [], []⟩
  exq := []
  asz := {
    serial := Config.assizeSerial, rsaPub := Config.assizeRsa, slhPub := Config.assizeSlh, issue := Config.assizeIssue
    supplied := true, running := true, euwh := 0, ruwh := 0, eRem := 0, rRem := 0, samples := 0, msec := 0, nvEuwh := 0
    nvRuwh := 0, nvMsec := 0, nvDemand := (0, 0, 0), d := 900, pulseConst := 10000, interval := 60, calibration := 0
    periodStart := 0, maxDemand := 0, maxDemandAt := 0, resets := 0, lastReset := none, resetPend := [], pulses := 0
    coverOpen := false, tamper := false, unlogged := 0, overRange := false, legalLog := [], supplyLog := [], seq := 0
    readings := [], madeAt := none, lastRequest := none, requested := false, swVersion := 0, swDigest := 0
    revHour := (0, 0), lastFrame := 0, lost := false, delivered := [], shareBase := none }
  edge := ⟨[], mgtDefault, 0, 0, false⟩
  free := 0

end Sys2Proof.Machine
end

