-- ==== Sys2Proof/Machine/Ops.lean ====
section
/-! DEFINITION. The shared operations: the keyed store, bytes (R9), CRC-32C (R457), register fields (R13 to R18), the
local time counter (R59), byte memories with poison (R180), and the Daybook's admission of a record (R456 to R474). -/

namespace Sys2Proof.Machine

/-- The outcome of a command. -/
abbrev Res := Host.Outcome State Fault Refusal

/-! ### The keyed store -/

/-- What key `k` holds; an unlisted key holds `d`. (DESIGN CHOICE, log entry 7.) -/
def mget {α : Type} (d : α) : SMap α → Nat → α
  | [], _ => d
  | (k', v) :: t, k => if k = k' then v else mget d t k

/-- The entries of other keys. -/
def mdel {α : Type} (m : SMap α) (k : Nat) : SMap α := m.filter (fun e => e.1 != k)

/-- Write key `k`: rising keys stay rising, and no entry equals `d`. -/
def mset {α : Type} [DecidableEq α] (d : α) : SMap α → Nat → α → SMap α
  | [], k, v => if v = d then [] else [(k, v)]
  | (k', v') :: t, k, v =>
    if k < k' then (if v = d then (k', v') :: mdel t k else (k, v) :: (k', v') :: mdel t k)
    else if k = k' then (if v = d then mdel t k else (k, v) :: mdel t k)
    else (k', v') :: mset d t k v

/-- The canonical form of a keyed store whose unlisted keys hold `d`. -/
def mwf {α : Type} [DecidableEq α] (d : α) : SMap α → Bool
  | [] => true
  | (k, v) :: t => decide (v ≠ d) && t.all (fun e => decide (k < e.1)) && mwf d t

/-- Change key `k` by `f`. -/
def mupd {α : Type} [DecidableEq α] (d : α) (m : SMap α) (k : Nat) (f : α → α) : SMap α :=
  mset d m k (f (mget d m k))

/-- Insert into a rising list without repeats. -/
def ins (k : Nat) : List Nat → List Nat
  | [] => [k]
  | x :: t => if k < x then k :: x :: t else if k = x then x :: t else x :: ins k t

/-! ### Bytes and numbers -/

/-- The number that bytes spell, byte 0 least significant (R9). -/
def leNat : List Byte → Nat
  | [] => 0
  | b :: t => b.toNat + 256 * leNat t

/-- The `n` low bytes of a number, least significant first (R9). -/
def natLe : Nat → Nat → List Byte
  | 0, _ => []
  | n + 1, v => BitVec.ofNat 8 v :: natLe n (v / 256)

/-- `n` bytes of a list from `off`, zero beyond its end. -/
def slice (l : List Byte) (off n : Nat) : List Byte :=
  let r := (l.drop off).take n
  r ++ List.replicate (n - r.length) 0#8

/-- The number in bytes `off` to `off + n - 1` of a list. -/
def field (l : List Byte) (off n : Nat) : Nat := leNat (slice l off n)

/-- Put `b` over the bytes of `l` at `off`. -/
def splice (l : List Byte) (off : Nat) (b : List Byte) : List Byte :=
  slice l 0 off ++ b ++ l.drop (off + b.length)

/-- Bits `hi` to `lo` of a number. -/
def bits (v hi lo : Nat) : Nat := v / 2 ^ lo % 2 ^ (hi + 1 - lo)

/-- Bit `i` of a number. -/
def bit (v i : Nat) : Bool := decide (v / 2 ^ i % 2 = 1)

def b2n (b : Bool) : Nat := if b then 1 else 0

def clampNat (lo hi v : Nat) : Nat := if v < lo then lo else if hi < v then hi else v

/-- A two's complement number of `w` bits. -/
def toSigned (w v : Nat) : Int := if v % 2 ^ w < 2 ^ (w - 1) then ((v % 2 ^ w : Nat) : Int) else ((v % 2 ^ w : Nat) : Int) - 2 ^ w

/-- The two's complement pattern of `w` bits. -/
def ofSigned (w : Nat) (v : Int) : Nat := (v % (2 ^ w : Int)).toNat

def crcBit (c : Nat) : Nat := if c % 2 = 1 then Nat.xor (c / 2) 0x82F63B78 else c / 2

def crcByte (c : Nat) (b : Byte) : Nat :=
  crcBit (crcBit (crcBit (crcBit (crcBit (crcBit (crcBit (crcBit (Nat.xor c b.toNat))))))))

/-- CRC-32C: polynomial 0x1EDC6F41 reflected, initial value and final XOR of ones (R457). (DESIGN CHOICE, log entry 12.) -/
def crc32c (l : List Byte) : W32 := BitVec.ofNat 32 (Nat.xor (l.foldl crcByte 0xFFFFFFFF) 0xFFFFFFFF)

/-! ### Registers -/

/-- The value of a register element (R18). -/
def State.reg (s : State) (key : Nat) : W64 := mget (regReset key) s.regs key

def State.setReg (s : State) (key : Nat) (v : W64) : State :=
  { s with regs := mset (regReset key) s.regs key v }

/-- Read a field as a number. -/
def State.rd (s : State) (f : Field) (inst : Nat := 0) (idx : Nat := 0) : Nat :=
  bits (s.reg (regKey f.key inst idx)).toNat f.hi f.lo

/-- Replace a field's bits in a word. -/
def putField (w : W64) (f : Field) (v : Nat) : W64 :=
  BitVec.ofNat 64 (w.toNat - bits w.toNat f.hi f.lo * 2 ^ f.lo + v % 2 ^ (f.hi + 1 - f.lo) * 2 ^ f.lo)

/-- Set a field; the register's other fields stay. -/
def State.st (s : State) (f : Field) (v : Nat) (inst : Nat := 0) (idx : Nat := 0) : State :=
  s.setReg (regKey f.key inst idx) (putField (s.reg (regKey f.key inst idx)) f v)

/-- The largest value of a field. -/
def Field.max (f : Field) : Nat := 2 ^ (f.hi + 1 - f.lo) - 1

/-- Count in a saturating field. -/
def State.inc (s : State) (f : Field) (by_ : Nat := 1) (inst : Nat := 0) (idx : Nat := 0) : State :=
  s.st f (min (s.rd f inst idx + by_) f.max) inst idx

def State.flag (s : State) (f : Field) (inst : Nat := 0) (idx : Nat := 0) : Bool := s.rd f inst idx == 1

/-! ### Time -/

/-- Counts of the local time counter in a microsecond, a millisecond and a second: one count is 40 ns (R59). -/
def usec (n : Nat) : Nat := n * 25
def msec (n : Nat) : Nat := n * 25000
def second (n : Nat) : Nat := n * 25000000

/-- The local time counter moves on by `n` counts; OPSEC advances by one for every 25,000,000 (R59, R461). It stands
still while it does not count (R58). (DESIGN CHOICE, log entry 1.) -/
def State.advance (s : State) (n : Nat) : State :=
  if s.clk.counting then
    { s with clk := { s.clk with now := (s.clk.now + n) % 2 ^ 64
                                 opsec := s.clk.opsec + (s.clk.frac + n) / 25000000
                                 frac := (s.clk.frac + n) % 25000000 } }
  else s

/-- A time `t` counts from `from_` has been reached. (DEDUCED, log entry 3.) -/
def State.after (s : State) (from_ n : Nat) : Bool := decide (from_ + n ≤ s.clk.now)

/-- Units in control space answer and act: power is good, no halt of R58 and no dump of R479 holds them. (DEDUCED, log entry 3.) -/
def State.up (s : State) : Bool :=
  match s.boot.phase with
  | .ready | .unattended | .service => true
  | _ => false

/-- Ready or unattended: the start has run to its end (R416, R444). -/
def State.running (s : State) : Bool :=
  match s.boot.phase with
  | .ready | .unattended => true
  | _ => false

/-- The main rails carry power: the regulators, the comparators and the hot-swap controller act (R61). -/
def State.railed (s : State) : Bool := s.boot.phase != .off

/-- A clockless unit's event: nothing while the units are stopped (R58, R479) or have not started (R418). (DEDUCED, log entry 3.) -/
def State.working (s : State) (f : State → State) : State := if s.running then f s else s

/-! ### Free values -/

/-- Take the next free value's number. (DESIGN CHOICE, log entry 11.) -/
def State.takeFree (s : State) : State := { s with free := s.free + 1 }

/-- Take the next `n` of them. -/
def State.takeFrees (s : State) (n : Nat) : State := { s with free := s.free + n }

/-! ### Byte memories -/

/-- `n` bytes from key `a`. (DESIGN CHOICE, log entry 7.) -/
def rdBytes (m : List Host.Cell) (a : Nat) : Nat → List Byte
  | 0 => []
  | n + 1 => mget 0#8 m a :: rdBytes m (a + 1) n

/-- Write bytes from key `a`. -/
def wrBytes (m : List Host.Cell) (a : Nat) : List Byte → List Host.Cell
  | [] => m
  | b :: t => wrBytes (mset 0#8 m a b) (a + 1) t

/-- The 8-byte words that `n` bytes from `a` touch (R180). -/
def wordsOf (a n : Nat) : List Nat := if n = 0 then [] else (List.range ((a + n - 1) / 8 - a / 8 + 1)).map (a / 8 + ·)

/-- The words that `n` bytes from `a` cover whole. -/
def wordsWhole (a n : Nat) : List Nat := (wordsOf a n).filter (fun w => decide (a ≤ 8 * w ∧ 8 * w + 8 ≤ a + n))

def isPoisoned (p : List Nat) (a n : Nat) : Bool := (wordsOf a n).any (p.contains ·)

def addPoison (p : List Nat) (ws : List Nat) : List Nat := ws.foldl (fun q w => ins w q) p

def dropPoison (p : List Nat) (ws : List Nat) : List Nat := p.filter (fun w => !ws.contains w)

/-! ### The Daybook -/

/-- FRAC of R461. -/
def fracOf (r : Nat) : Nat := r * 65536 / 25000000

/-- HEAD of R456. -/
def DbkRec.head (r : DbkRec) : Nat :=
  r.code.toNat % 4096 + r.sev.toNat * 4096 + b2n r.supp * 16384 + b2n r.defer * 32768

/-- Bytes 0 to 27 of a record (R456). -/
def DbkRec.body (r : DbkRec) : List Byte :=
  natLe 2 r.head ++ natLe 2 r.power.toNat ++ natLe 4 r.opsec.toNat ++ natLe 2 r.frac.toNat ++ natLe 2 r.seq.toNat ++
  natLe 4 r.p0.toNat ++ natLe 4 r.p1.toNat ++ natLe 4 r.p2.toNat ++
  natLe 4 (r.p3.toNat + r.code.toNat / 4096 * 2 ^ 28)

/-- The 32 bytes of a record as stored. -/
def DbkRec.bytes (r : DbkRec) : List Byte := r.body ++ natLe 4 r.crc.toNat

/-- Take a sequence number (R463) and seal the record. -/
def DbkRec.seal (r : DbkRec) (n : BitVec 16) : DbkRec :=
  let r := { r with seq := n }
  { r with crc := crc32c r.body }

/-- Place of the oldest record of the lowest severity, when that is not above `sev` and not FATAL (R468). -/
def victim (l : List DbkRec) (sev : BitVec 2) : Option Nat :=
  let low := l.foldl (fun m r => min m r.sev.toNat) 3
  if low < 3 ∧ low ≤ sev.toNat then l.findIdx? (fun r => decide (r.sev.toNat = low)) else none

/-- Enter a record in a store of `cap` places under R468: the new store, or none when the record is dropped. -/
def enter (cap : Nat) (l : List DbkRec) (r : DbkRec) : Option (List DbkRec) :=
  if l.length < cap then some (l ++ [r])
  else (victim l r.sev).map (fun i => l.eraseIdx i ++ [r])

def State.setDbk (s : State) (d : Dbk) : State := { s with dbk := d }

/-- An admitted record enters the staging ring with its sequence number (R463, R466, R469). -/
def State.stage (s : State) (r : DbkRec) : State :=
  let r := r.seal s.dbk.seqNext
  let s := s.setDbk { s.dbk with seqNext := s.dbk.seqNext + 1 }
  match enter 4096 s.dbk.staging r with
  | some l => s.setDbk { s.dbk with staging := l }
  | none => s.inc F.DBK_LOSS_COUNT 1 0 r.sev.toNat

/-- The window of a code, a closed one when it has none. -/
def findWin (l : List FloodWin) (code : BitVec 16) : Option FloodWin := l.find? (fun w => w.code == code)

def putWin (l : List FloodWin) (w : FloodWin) : List FloodWin := w :: l.filter (fun v => v.code != w.code)

/-- Codes that always carry DEFER (R458). -/
def deferred (code : BitVec 16) : Bool := code == 0xA020#16 || code == 0xA021#16

/-- The flood-limit window of a code as an occurrence finds it: one that is 10 s old closes and a new one opens (R465). (DEDUCED, log entry 49.) -/
def State.floodWin (s : State) (code : BitVec 16) : FloodWin :=
  let win := (findWin s.dbk.windows code).getD ⟨code, s.clk.now, 0, 0⟩
  if win.w + 250000000 ≤ s.clk.now then { win with w := s.clk.now, k := 0 } else win

/-- A window still admits: its code has no limit, or has admitted fewer records than it (R465). -/
def FloodWin.admits (w : FloodWin) (code : BitVec 16) : Bool :=
  match (codeInfo code.toNat).2 with
  | none => true
  | some m => decide (w.k < m)

/-- An admitted occurrence as a record: the first after suppressed ones counts them in parameter 3 (R458, R461, R465). (DEDUCED, log entry 49.) -/
def State.newRec (s : State) (code : BitVec 16) (p0 p1 p2 : W32) (p3 : BitVec 28) (sup : Nat) : DbkRec :=
  ⟨code, BitVec.ofNat 2 (codeInfo code.toNat).1, decide (0 < sup), deferred code, BitVec.ofNat 16 s.nor.power,
    BitVec.ofNat 32 s.clk.opsec, BitVec.ofNat 16 (fracOf s.clk.frac), 0, p0, p1, p2,
    if 0 < sup then BitVec.ofNat 28 (min sup 0x0FFFFFFF) else p3, 0⟩

def State.setWin (s : State) (w : FloodWin) : State := s.setDbk { s.dbk with windows := putWin s.dbk.windows w }

/-- An occurrence meets the flood limit of R465: suppressed (none), or admitted with its time fields. -/
def State.submit (s : State) (code : BitVec 16) (p0 p1 p2 : W32) (p3 : BitVec 28) : Option DbkRec × State :=
  let win := s.floodWin code
  if win.admits code then
    (some (s.newRec code p0 p1 p2 p3 win.s), s.setWin { win with k := win.k + 1, s := 0 })
  else (none, (s.setWin { win with s := win.s + 1 }).inc F.DBK_SUPPRESSED_COUNT)

/-- Submit and stage with no freeze in the way. -/
def State.recordOpen (s : State) (code : BitVec 16) (p0 p1 p2 : W32) (p3 : BitVec 28) : State :=
  match s.submit code p0 p1 p2 p3 with
  | (some r, s) => s.stage r
  | (none, s) => s

/-- The held records leave the holding queue and enter in order (R473, R474). `why` is LAST_END. (DEDUCED, log entry 50.) -/
def State.thaw (s : State) (why : Nat) : State :=
  s.dbk.holding.foldl (fun s r => s.stage r)
    ((s.setDbk { s.dbk with frozenAt := none, holding := [], lostNow := 0 }).st F.DBK_STATUS_LAST_END why)

/-- A freeze ends: the held records enter in order, the lost ones consume numbers, code 0x0052 follows when any was
lost (R463, R473, R474). (DEDUCED, log entry 50.) -/
def State.endFreeze (s : State) (why : Nat) : State :=
  match s.dbk.frozenAt with
  | none => s
  | some t0 =>
    let lost := s.dbk.lostNow
    let u := s.thaw why
    if lost = 0 then u
    else
      (u.setDbk { u.dbk with seqNext := u.dbk.seqNext + BitVec.ofNat 16 lost }).recordOpen 0x0052 (BitVec.ofNat 32 lost)
        (BitVec.ofNat 32 ((s.clk.now - t0) / 25000)) 0 0

/-- A record is admitted: staged, held by a freeze, lost from a full holding queue, or, being FATAL, the end of the
freeze with code 0x0051 after it (R473, R474). -/
def State.recordIn (s : State) (r : DbkRec) : State :=
  match s.dbk.frozenAt with
  | none => s.stage r
  | some _ =>
    if r.sev = 3 then
      let held := s.dbk.holding.length
      let s := (s.endFreeze 3).stage r
      s.recordOpen 0x0051 (BitVec.ofNat 32 held) (BitVec.ofNat 32 r.code.toNat) 0 0
    else if s.dbk.holding.length < 256 then
      s.setDbk { s.dbk with holding := s.dbk.holding ++ [r] }
    else (s.setDbk { s.dbk with lostNow := s.dbk.lostNow + 1 }).inc F.DBK_HOLD_LOST_COUNT

/-- A unit writes a record (R456, R465). -/
def State.record (s : State) (code : BitVec 16) (p0 p1 p2 : W32) (p3 : BitVec 28) : State :=
  match s.submit code p0 p1 p2 p3 with
  | (some r, s) => s.recordIn r
  | (none, s) => s

/-- A record with parameters given as numbers and parameter 3 zero. -/
def State.note (s : State) (code : Nat) (p0 : Nat := 0) (p1 : Nat := 0) (p2 : Nat := 0) : State :=
  s.record (BitVec.ofNat 16 code) (BitVec.ofNat 32 p0) (BitVec.ofNat 32 p1) (BitVec.ofNat 32 p2) 0

end Sys2Proof.Machine
end

