-- ==== Sys2Proof/Machine/Crypto.lean ====
section
/-! DEFINITION. The algorithms of R486 as the rules use them: digests, the MAC and the key derivation of R493, signatures,
certificates (R488). -/

namespace Sys2Proof.Machine

/-- SHA-384 as 48 bytes. (DESIGN CHOICE, log entry 12.) -/
def sha (b : List Byte) : List Byte := natLe 48 (Config.sha384 b).toNat

/-- No digest: zeros. -/
def noDigest : List Byte := List.replicate 48 0#8

/-- Most significant byte first. -/
def natBe (n v : Nat) : List Byte := (natLe n v).reverse

/-- A key of at most 128 bytes, padded with zeros to the block of SHA-384, under a pad byte. -/
def hmacPad (key : List Byte) (pad : Byte) : List Byte := (slice key 0 128).map (· ^^^ pad)

/-- HMAC-SHA-384 (R486). (PRESUMED, log entry 100.) -/
def hmac384 (key msg : List Byte) : List Byte := sha (hmacPad key 0x5C#8 ++ sha (hmacPad key 0x36#8 ++ msg))

/-- The counter-mode KDF of R486 with a 32-bit counter: `n` bytes under a label. (PRESUMED, log entry 100.) -/
def kdf (key label : List Byte) (n : Nat) : List Byte :=
  ((List.range ((n + 47) / 48)).flatMap (fun i => hmac384 key (natBe 4 (i + 1) ++ label ++ [0#8] ++ natBe 4 (8 * n)))).take n

/-- Bytes of a signature (R486), and an algorithm's number. -/
def sigSize : SigAlg → Nat
  | .rsa => 384
  | .slhS => 16224
  | .slhF => 35664

def sigNum : SigAlg → Nat
  | .rsa => 0
  | .slhS => 1
  | .slhF => 2

/-- A signature's bytes. -/
def sigBytes (g : Sig) : List Byte := (List.range (sigSize g.alg)).map (Config.sigByte (sigNum g.alg) g.key g.msg)

/-- A signature verifies under a public key for a message. (DESIGN CHOICE, log entry 12.) -/
def verifies (g : Sig) (alg : SigAlg) (key msg : List Byte) : Bool := g == ⟨alg, key, msg⟩

/-- The public keys of root set `i` (R487). -/
def rootRsa (i : Nat) : List Byte := natBe 384 (Config.rootRsa i).toNat
def rootSlh (i : Nat) : List Byte := natBe 48 (Config.rootSlh i).toNat

/-- The subject's public keys in a certificate body (R488). -/
def certRsa (c : List Byte) : List Byte := slice c 32 384
def certSlh (c : List Byte) : List Byte := slice c 416 48

/-- ASCII bytes. -/
def ascii (s : List Nat) : List Byte := s.map (BitVec.ofNat 8)

/-- "HLXC". -/
def certMagic : List Byte := ascii [0x48, 0x4C, 0x58, 0x43]

/-- A certificate body with its MAGIC, whose reserved bytes are zero (R488). -/
def certForm (c : List Byte) : Bool :=
  c.length == 512 && slice c 0 4 == certMagic && field c 12 20 == 0 && field c 464 48 == 0

/-- Body of the Assize unit's certificate, of ROLE 3 (R519). -/
def Assize.certBody (a : Assize) : List Byte :=
  certMagic ++ natLe 2 3 ++ natLe 6 a.issue.toNat ++ List.replicate 20 0#8 ++ natBe 384 a.rsaPub.toNat ++
    natBe 48 a.slhPub.toNat ++ List.replicate 48 0#8

/-- The certificate that the link gives out: the body under the two signatures of Henlux's metrology CA (R488, R519). -/
def Assize.cert (a : Assize) : List Byte :=
  a.certBody ++ sigBytes ⟨.rsa, natBe 384 Config.metrologyRsa.toNat, a.certBody⟩ ++
    sigBytes ⟨.slhS, natBe 48 Config.metrologySlh.toNat, a.certBody⟩

/-- "HLX-DEGRADE": the key of the degrade log's MAC (R427, R493). -/
def degradeKey (seed : List Byte) : List Byte :=
  kdf seed (ascii [0x48, 0x4C, 0x58, 0x2D, 0x44, 0x45, 0x47, 0x52, 0x41, 0x44, 0x45]) 48

/-- Bytes of an entry's body in the degrade log (R427). -/
def DegradeEntry.bytes (e : DegradeEntry) : List Byte :=
  natLe 1 e.kind ++ natLe 1 e.die ++ natLe 2 e.unit ++ natLe 2 e.code.toNat ++ natLe 2 e.power ++ natLe 4 e.opsec ++
    natLe 4 e.seq

/-- The MAC of an entry under the module's seed. -/
def State.degradeMac (s : State) (e : DegradeEntry) : List Byte := hmac384 (degradeKey (s.trust.seed.getD [])) e.bytes

end Sys2Proof.Machine
end

