-- ==== Sys2Proof/Machine/Addr.lean ====
section
/-! DEFINITION. Where bytes lie: steering (R268 to R273), the address map (R275), translation by runs (R278 to R280), and
reads and writes of the fast tier and the vault with poison, fenced groups and lost shares (R180, R288, R289, R297). -/

namespace Sys2Proof.Machine

/-! ### Channels and tables -/

/-- PHY group `g` of die `d` was present at start (MEM_STATUS.PRESENT). -/
def State.groupPresent (s : State) (d g : Nat) : Bool := bit (s.rd F.MEM_STATUS_PRESENT d) g

def State.groupFenced (s : State) (d g : Nat) : Bool := bit (s.rd F.MEM_STATUS_FENCED d) g

/-- Module channel `c` is active (R268). -/
def State.chanActive (s : State) (c : Nat) : Bool := s.groupPresent (c / 128) (c % 128 / 16)

def State.chanFenced (s : State) (c : Nat) : Bool := s.groupFenced (c / 128) (c % 128 / 16)

/-- The `k`-th member of a rising list of channels that satisfy `p` (P_k of R268). -/
def nthChan (p : Nat → Bool) (cs : List Nat) (k : Nat) : Nat := (cs.filter p).getD k 0

/-- Entry `i` of a table filled evenly over `n` channels, `tbl` holding the charter's entries plus one (R269). -/
def tblEntry (filled : Bool) (tbl : SMap Nat) (base n i : Nat) : Nat :=
  match mget 0 tbl (base + i) with
  | 0 => if filled then i % n else 0
  | v + 1 => v

/-- How many entries before `i` hold the same logical number (R270). -/
def tblRank (filled : Bool) (tbl : SMap Nat) (base n i : Nat) : Nat :=
  match tbl with
  | [] => i / n
  | _ => ((List.range i).filter (fun j => tblEntry filled tbl base n j == tblEntry filled tbl base n i)).length

/-- The 13-bit index of R270. -/
def tblIndex (a : Nat) : Nat := Nat.xor (Nat.xor (bits a 20 8) (bits a 33 21)) (bits a 46 34)

/-- x of R270: the extra grains channel k has received before block B. -/
def extraGrains (n e blk k : Nat) : Nat :=
  if e = 0 then 0
  else
    let t := blk % n
    let x := blk / n * e
    let lo : Int := (k : Int) - t + 1
    if 0 ≤ lo then x + ((min (k + 1) e : Nat) - lo).toNat
    else x + min (k + 1) e + ((e : Int) - (n + lo)).toNat

/-- Place of offset `a` over `n` channels (R270): logical channel k and slot. -/
def placeIn (filled : Bool) (tbl : SMap Nat) (base n a : Nat) : Nat × Nat :=
  let q := 8192 / n
  let e := 8192 % n
  let i := tblIndex a
  let blk := bits a 40 21
  let l := tblEntry filled tbl base n i
  let k := if e = 0 then l else (l + blk) % n
  (k, blk * q + extraGrains n e blk k + tblRank filled tbl base n i)

/-- Active channels of the module and of a die (STR_GLOBAL.N, STR_LOCAL.N). -/
def State.nChan (s : State) : Nat := s.rd F.STR_GLOBAL_N
def State.nLocal (s : State) (d : Nat) : Nat := s.rd F.STR_LOCAL_N d

/-- U of R273. -/
def State.rtUnits (s : State) : Nat := s.rd F.STR_CTRL_RT_UNITS

def State.steeredSize (s : State) : Nat := s.nChan * (2048 - s.rtUnits) * 2 ^ 21

/-- P_k of the module and of a die (R268, R272). -/
def State.modChan (s : State) (k : Nat) : Nat :=
  if s.nChan = 512 then k else nthChan s.chanActive (List.range 512) k
def State.dieChan (s : State) (d k : Nat) : Nat :=
  if s.nLocal d = 128 then d * 128 + k else nthChan s.chanActive ((List.range 128).map (d * 128 + ·)) k

/-- Place key of a byte of the fast tier: channel * 2^32 + byte offset in the channel. -/
def chanKey (chan slot a : Nat) : Nat := chan * 2 ^ 32 + slot * 256 + a % 256

/-- Place keys of the vault start here: chip * 2^40 + offset above it. -/
def vaultBase : Nat := 2 ^ 44

/-- What a device address names (R275). -/
inductive Place where
  | dram (key : Nat)
  | control
  | none
  deriving DecidableEq, Repr

/-- The address map of R275. -/
def State.place (s : State) (a : Nat) : Place :=
  if 0x3F0000000000 ≤ a then .control
  else if a < s.steeredSize ∧ s.nChan ≠ 0 then
    let p := placeIn s.ms.filled s.ms.steer 0 s.nChan a
    .dram (chanKey (s.modChan p.1) p.2 a)
  else if 0x080000000000 ≤ a ∧ a < 0x084000000000 then
    let d := (a - 0x080000000000) / 2 ^ 36
    let o := a % 2 ^ 36
    if o < s.nLocal d * s.rtUnits * 2 ^ 21 then
      let p := placeIn s.ms.filled s.ms.localTbl (d * 8192) (s.nLocal d) o
      .dram (chanKey (s.dieChan d p.1) (p.2 + (2048 - s.rtUnits) * 8192) a)
    else .none
  else if 0x100000000000 ≤ a ∧ a < 0x180000000000 then .dram (vaultBase + (a - 0x100000000000))
  else .none

/-- Channel of its chip that an offset in a vault share lies on (R294). -/
def vaultChannel (off : Nat) : Nat := Nat.xor (Nat.xor (bits off 12 8) (bits off 17 13)) (bits off 22 18)

/-- The vault chip of a place key. -/
def vaultChip (key : Nat) : Option Nat := if vaultBase ≤ key then some ((key - vaultBase) / 2 ^ 40) else none

/-- A Lomef chip's share is there: brought up and not retired or lost (R297; PCI_PORT.STATE 2, or 3 while its port retrains
and accesses to it wait). -/
def State.shareUp (s : State) (c : Nat) : Bool := s.rd F.PCI_PORT_STATE 0 c == 2 || s.rd F.PCI_PORT_STATE 0 c == 3

/-- The place belongs to a fenced PHY group (R289). -/
def State.keyFenced (s : State) (key : Nat) : Bool :=
  match vaultChip key with
  | some _ => false
  | none => s.chanFenced (key / 2 ^ 32)

def State.keyLost (s : State) (key : Nat) : Bool :=
  match vaultChip key with
  | some c => !s.shareUp c
  | none => false

/-- The place is in a share whose port retrains: an access waits for the link, or for its loss (R297). -/
def State.keyWaits (s : State) (key : Nat) : Bool :=
  match vaultChip key with
  | some c => s.rd F.PCI_PORT_STATE 0 c == 3
  | none => false

/-! ### Pieces: parts of an access within one grain -/

/-- Split `n` bytes from `a` at 256-byte boundaries: (offset in the access, address, length). -/
def pieces : Nat → Nat → Nat → Nat → List (Nat × Nat × Nat)
  | 0, _, _, _ => []
  | fuel + 1, off, a, n =>
    if n = 0 then []
    else
      let len := min n (256 - a % 256)
      (off, a, len) :: pieces fuel (off + len) (a + len) (n - len)

def grains (a n : Nat) : List (Nat × Nat × Nat) := pieces (n / 256 + 2) 0 a n

/-- What a read delivers: bytes, which of them lie in poisoned or uncorrected words, the offset of the first byte
that no run maps, a lost share met, and the place words found uncorrectable now. -/
structure RdRes where
  bytes : List Byte
  pois : List Bool
  fault : Option Nat
  lost : Bool
  fresh : List Nat
  deriving DecidableEq, Repr

def RdRes.unc (r : RdRes) : Bool := r.pois.any id

/-- Status of R83 that the read contributes: first of MEM_UNCORRECTED, LINK_LOST, ABORTED (R82), or 0. -/
def RdRes.status (r : RdRes) : Nat :=
  if r.unc then 0x20 else if r.lost then 0x21 else if r.fault.isSome then 0x04 else 0

def RdRes.app (x y : RdRes) : RdRes :=
  ⟨x.bytes ++ y.bytes, x.pois ++ y.pois, x.fault.or y.fault, x.lost || y.lost, x.fresh ++ y.fresh⟩

/-- Read `n` bytes of one grain from place `key`; `bad` are the place words the devices report uncorrectable. -/
def State.rdKey (s : State) (bad : List Nat) (key n : Nat) : RdRes :=
  if s.keyLost key then ⟨List.replicate n 0#8, List.replicate n false, none, true, []⟩
  else
    let isBad := fun i => (s.mem.dramPoison.contains ((key + i) / 8)) || bad.contains ((key + i) / 8) || s.keyFenced key
    ⟨rdBytes s.mem.dram key n, (List.range n).map isBad, none, false, (wordsOf key n).filter (bad.contains ·)⟩

/-- Nothing is there: `n` bytes read as zero from offset `off`. -/
def RdRes.hole (off n : Nat) : RdRes := ⟨List.replicate n 0#8, List.replicate n false, some off, false, []⟩

/-- Read device memory (R275). -/
def State.devRead (s : State) (bad : List Nat) (a n : Nat) : RdRes :=
  (grains a n).foldl (fun r p =>
    r.app (match s.place p.2.1 with
           | .dram key => s.rdKey bad key p.2.2
           | _ => RdRes.hole p.1 p.2.2)) ⟨[], [], none, false, []⟩

/-! ### Translation -/

/-- A run of the table; an unwritten entry is invalid. (DESIGN CHOICE, log entry 9.) -/
def runDef : Run := ⟨0, 0, 0, 0, false, false, false, 0⟩

/-- The valid run of an account that maps a virtual page (R280). -/
def State.findRun (s : State) (acct page : Nat) : Option Run :=
  (s.ms.runs.map (·.2)).find? (fun r => r.valid && r.account == acct && decide (r.vpage ≤ page ∧ page < r.vpage + r.count))

/-- A device address in the dump extent, the highest 8 GiB of the steered region (R275): only the recorder steward writes it
(R277). -/
def State.inDump (s : State) (a : Nat) : Bool :=
  let pages := s.nChan * (2048 - s.rtUnits)
  decide (pages ≤ a / 2 ^ 21 + 4096 ∧ a / 2 ^ 21 < pages)

/-- Device address of an account virtual address, for a load or a store (R280); no run stores into the dump extent (R277).
(DEDUCED, log entry 97.) -/
def State.translate (s : State) (acct va : Nat) (store : Bool) : Option Nat :=
  match s.findRun acct (va / 2 ^ 21) with
  | none => none
  | some r =>
    let a := (r.ppage + (va / 2 ^ 21 - r.vpage)) * 2 ^ 21 + va % 2 ^ 21
    if store && (!r.write || s.inDump a) then none else some a

/-- Place key of an account's byte. -/
def State.accKey (s : State) (acct va : Nat) (store : Bool) : Option Nat :=
  match s.translate acct va store with
  | none => none
  | some a => match s.place a with | .dram k => some k | _ => none

/-- Read an account's memory. -/
def State.accRead (s : State) (bad : List Nat) (acct va n : Nat) : RdRes :=
  (grains va n).foldl (fun r p =>
    r.app (match s.accKey acct p.2.1 false with
           | some key => s.rdKey bad key p.2.2
           | none => RdRes.hole p.1 p.2.2)) ⟨[], [], none, false, []⟩

/-- Every byte of a range translates. -/
def State.accMapped (s : State) (acct va n : Nat) (store : Bool) : Bool :=
  (grains va n).all (fun p => (s.accKey acct p.2.1 store).isSome)

/-- A part of a range lies in a share whose port retrains (R297). -/
def State.accWaits (s : State) (acct va n : Nat) : Bool :=
  (grains va n).any (fun p => match s.accKey acct p.2.1 false with
    | some k => s.keyWaits k
    | none => false)

/-! ### Writes -/

/-- Write bytes into one store: a word covered whole loses its poison, bytes of a word that stays poisoned are not
kept (R180). -/
def wrStore (m : List Host.Cell) (p : List Nat) (a : Nat) (bs : List Byte) : List Host.Cell × List Nat :=
  let p' := dropPoison p (wordsWhole a bs.length)
  ((bs.zipIdx.foldl (fun m (b, i) => if p'.contains ((a + i) / 8) then m else mset 0#8 m (a + i) b) m), p')

/-- Write within one grain; a fenced group or a lost share takes nothing (R289, R297). -/
def State.wrKey (s : State) (key : Nat) (bs : List Byte) : State :=
  if s.keyLost key || s.keyFenced key then s
  else
    let r := wrStore s.mem.dram s.mem.dramPoison key bs
    { s with mem := { s.mem with dram := r.1, dramPoison := r.2 } }

/-- Write one grain of device memory; an address outside every range takes nothing. -/
def State.devPut (s : State) (a : Nat) (bs : List Byte) : State :=
  match s.place a with
  | .dram key => s.wrKey key bs
  | _ => s

/-- Write device memory; the dump extent takes nothing (R277). (DEDUCED, log entry 97.) -/
def State.devWrite (s : State) (a : Nat) (bs : List Byte) : State :=
  (grains a bs.length).foldl (fun s p => if s.inDump p.2.1 then s else s.devPut p.2.1 ((bs.drop p.1).take p.2.2)) s

/-- The recorder steward's writes of the dump extent (R277). -/
def State.dumpPut (s : State) (a : Nat) (bs : List Byte) : State :=
  (grains a bs.length).foldl (fun s p => s.devPut p.2.1 ((bs.drop p.1).take p.2.2)) s

/-- Write an account's memory; bytes no run lets it store are dropped. -/
def State.accWrite (s : State) (acct va : Nat) (bs : List Byte) : State :=
  (grains va bs.length).foldl (fun s p =>
    match s.accKey acct p.2.1 true with
    | some key => s.wrKey key ((bs.drop p.1).take p.2.2)
    | none => s) s

/-- Status of a store: an address that does not translate ABORTED (R180), every access to a fenced group MEM_UNCORRECTED
(R289), to a lost share LINK_LOST (R297). -/
def State.accWriteStatus (s : State) (acct va n : Nat) : Nat :=
  let ks := (grains va n).map (fun p => s.accKey acct p.2.1 true)
  if ks.any (fun k => k.isNone) then 0x04
  else if ks.any (fun k => match k with | some k => s.keyFenced k | none => false) then 0x20
  else if ks.any (fun k => match k with | some k => s.keyLost k | none => false) then 0x21
  else 0

/-- Place words of a store that the devices report uncorrected (R287). -/
def State.accWriteBad (s : State) (bad : List Nat) (acct va n : Nat) : List Nat :=
  (grains va n).flatMap (fun p => match s.accKey acct p.2.1 true with
    | some k => (wordsOf k p.2.2).filter (bad.contains ·)
    | none => [])

/-- Poison words of the fast tier or the vault. -/
def State.poisonDev (s : State) (ws : List Nat) : State :=
  { s with mem := { s.mem with dramPoison := addPoison s.mem.dramPoison ws } }

/-- Poison the words of an account range that whole or in part hold its bytes. -/
def State.accPoison (s : State) (acct va n : Nat) : State :=
  (grains va n).foldl (fun s p =>
    match s.accKey acct p.2.1 true with
    | some key => if s.keyLost key || s.keyFenced key then s else s.poisonDev (wordsOf key p.2.2)
    | none => s) s

/-! ### Degrade log and restart report -/

/-- The module reports that a restart is needed (R45). -/
def State.needRestart (s : State) : State := s.st F.GLB_STATE_RESTART_NEEDED 1

/-- The highest sequence number of the degrade log. -/
def degradeTop (l : List DegradeEntry) : Nat := l.foldl (fun m e => max m e.seq) 0

/-- A retirement found in service is logged (R427, R428): code 0x0040, the counter in UFS raised; or 0x0042 when the
log is full. -/
def State.degradeAdd (s : State) (kind die unit code : Nat) : State :=
  let s := s.needRestart
  if 1024 ≤ s.nor.degrade.length then s.note 0x0042 kind unit
  else
    let n := max (degradeTop s.nor.degrade) s.nor.degradeCtr + 1
    let e : DegradeEntry := { kind, die, unit, code := BitVec.ofNat 16 code, power := s.nor.power, opsec := s.clk.opsec, seq := n }
    let e := { e with mac := s.degradeMac e }
    let s := { s with nor := { s.nor with degrade := s.nor.degrade ++ [e], degradeCtr := n } }
    let s := s.inc F.GLB_DEGRADE_LOG 1
    s.note 0x0040 kind unit code

/-! ### Mask bits -/

/-- Set bit i of a mask field. -/
def State.setBit (s : State) (f : Field) (i inst idx : Nat) : State :=
  let v := s.rd f inst idx
  if bit v i then s else s.st f (v + 2 ^ i) inst idx

def State.clearBit (s : State) (f : Field) (i inst idx : Nat) : State :=
  let v := s.rd f inst idx
  if bit v i then s.st f (v - 2 ^ i) inst idx else s

/-! ### Fences of PHY groups (R45, R287, R289) -/

/-- Times within `span` counts before now. -/
def State.within (s : State) (l : List Nat) (span : Nat) : List Nat := l.filter (fun t => decide (s.clk.now < t + span))

/-- FULL_RATE of a die: every channel present and not fenced runs at 48 Gb/s. -/
def State.fullRate (s : State) (d : Nat) : State :=
  s.st F.MEM_STATUS_FULL_RATE (b2n ((List.range 128).all (fun c =>
    !s.groupPresent d (c / 16) || s.groupFenced d (c / 16) || s.flag F.MEM_CH_STATE_FULL d c))) d

/-- Fence a PHY group: code 0x3006, its grains keep their place, the retirement is logged. -/
def State.fenceGroup (s : State) (d g cause : Nat) : State :=
  if !s.groupPresent d g || s.groupFenced d g then s
  else
    let s := s.setBit F.MEM_STATUS_FENCED g d 0
    let s := (List.range 16).foldl (fun s c => s.st F.MEM_CH_STATE_STATE 4 d (16 * g + c)) s
    ((s.fullRate d).note 0x3006 d g cause).degradeAdd 3 d g 0x3006

/-- An uncorrectable read of a group's devices: 16 within 24 h fence it. -/
def State.groupUnc (s : State) (ch : Nat) : State :=
  let g := ch / 16
  let l := s.clk.now :: s.within (mget [] s.ms.uncTimes g) (second 86400)
  let s := { s with ms := { s.ms with uncTimes := mset [] s.ms.uncTimes g l } }
  if 16 ≤ l.length then s.fenceGroup (ch / 128) (ch % 128 / 16) 3 else s

/-- Field of a device's temperature in MEM_TEMP. -/
def tempField (v : Nat) : Field :=
  match v with
  | 0 => F.MEM_TEMP_DEV0
  | 1 => F.MEM_TEMP_DEV1
  | 2 => F.MEM_TEMP_DEV2
  | _ => F.MEM_TEMP_DEV3

/-- Latest temperature of the device of a module channel. -/
def State.chanTemp (s : State) (ch : Nat) : Nat :=
  s.rd (tempField (ch % 16 / 4)) (ch / 128) (ch % 128 / 16)

/-- A channel has trained: at its device's temperature, with no slice of a retraining left (R292, R298). -/
def State.trained (s : State) (ch : Nat) : State :=
  { s with ms := { s.ms with slices := mset 0 s.ms.slices ch 0 } }.st F.MEM_CH_STATE_TRAIN_TEMP (s.chanTemp ch) (ch / 128)
    (ch % 128)

/-- An emergency retraining of a channel after the fifth failed attempt: one that fails, or the third within 10 s, fences
the group (R287, R289). A retraining in slices is abandoned for it (R298). (DEDUCED, log entry 71.) -/
def State.emergency (s : State) (ch : Nat) (ok : Bool) : State :=
  let d := ch / 128
  let c := ch % 128
  if !s.chanActive ch || s.chanFenced ch then s
  else
    let s := (s.inc F.MEM_EMERG_COUNT 1 d).st F.MEM_LAST_ERR_CHANNEL c d
    let s := s.st F.MEM_LAST_ERR_KIND (if ok then 5 else 6) d
    let s := s.note 0x3004 ch 5 (b2n ok)
    let l := s.clk.now :: s.within (mget [] s.ms.emergTimes ch) (second 10)
    let s := { s with ms := { s.ms with emergTimes := mset [] s.ms.emergTimes ch l, slices := mset 0 s.ms.slices ch 0 } }
    let s := if ok then s.trained ch else s
    if !ok then s.fenceGroup d (c / 16) 1
    else if 3 ≤ l.length then s.fenceGroup d (c / 16) 2 else s

/-! ### Counting of errors (R288) -/

/-- A grain read as uncorrectable: counters, last error, code 0x3005; vault grains count in their chip. (DEDUCED, log entry 58.) -/
def State.countUnc (s : State) (acct word : Nat) : State :=
  let key := word * 8
  match vaultChip key with
  | some c => s.inc F.LMF_VAULT_UE_COUNT 1 c
  | none =>
    let ch := key / 2 ^ 32
    let d := ch / 128
    let s := (s.inc F.MEM_ERR_UE_COUNT 1 d).st F.MEM_LAST_ERR_CHANNEL (ch % 128) d
    let s := s.st F.MEM_LAST_ERR_KIND 2 d
    (s.note 0x3005 ch (key % 2 ^ 32 / 256) acct).groupUnc ch

/-- Distinct grains of a list of place words, by their first word. -/
def grainsOf (ws : List Nat) : List Nat :=
  (ws.foldl (fun (q : List Nat) w => if q.any (fun v => v / 32 == w / 32) then q else q ++ [w]) [])

/-- The words a read found uncorrectable are poisoned until written whole, and each grain is counted (R288). (DESIGN CHOICE, log entry 16; DEDUCED, log entry 58.) -/
def State.takeUnc (s : State) (acct : Nat) (ws : List Nat) : State :=
  (grainsOf ws).foldl (fun s w => s.countUnc acct w) (s.poisonDev ws)

/-- A read reported corrected (R288): counted in its die, or in its Lomef chip. -/
def State.countCor (s : State) (word : Nat) : State :=
  match vaultChip (word * 8) with
  | some c => s.inc F.LMF_VAULT_CE_COUNT 1 c
  | none =>
    let ch := word * 8 / 2 ^ 32
    ((s.inc F.MEM_ERR_CE_COUNT 1 (ch / 128)).st F.MEM_LAST_ERR_CHANNEL (ch % 128) (ch / 128)).st F.MEM_LAST_ERR_KIND 1 (ch / 128)

/-- An access tried again (R287): retries and replays, and, after the four of them and the fifth attempt, the emergency
retraining. (DEDUCED, log entry 56.) -/
def State.tryAgain (s : State) (r : Retry) : State :=
  let d := r.chan.val / 128
  let s := (s.inc F.MEM_EDC_RETRY_COUNT r.retries d).inc F.MEM_CA_REPLAY_COUNT r.replays d
  let s := if r.retries + r.replays = 0 then s
    else (s.st F.MEM_LAST_ERR_CHANNEL (r.chan % 128) d).st F.MEM_LAST_ERR_KIND (if r.replays ≠ 0 then 4 else 3) d
  match r.emerg with
  | some ok => if 4 ≤ r.retries + r.replays then s.emergency r.chan ok else s
  | none => s

/-- What a port met: replays and reported errors are counted (R296). -/
def State.portMet (s : State) (p : PortErrors) : State :=
  ((s.inc F.PCI_REPLAY_COUNT p.replays 0 p.chip).inc F.PCI_AER_CE_COUNT p.correctable 0 p.chip).inc F.PCI_AER_UE_COUNT
    p.uncorrectable 0 p.chip

/-- What the devices and the ports report of a command's accesses (R266, R287, R288, R296). (DEDUCED, log entry 56.) -/
def State.devAccess (s : State) (d : DevEvents) : State :=
  d.links.foldl State.portMet (d.again.foldl State.tryAgain (d.cor.foldl State.countCor s))

/-! ### Tile stores and core stores -/

def tsKey (engine off : Nat) : Nat := engine * 2 ^ 18 + off
def csKey (core off : Nat) : Nat := core * 2 ^ 21 + off

def State.tsRead (s : State) (engine off n : Nat) : List Byte := rdBytes s.mem.ts (tsKey engine off) n
def State.csRead (s : State) (core off n : Nat) : List Byte := rdBytes s.mem.cs (csKey core off) n

def State.tsPois (s : State) (engine off n : Nat) : Bool := isPoisoned s.mem.tsPoison (tsKey engine off) n
def State.csPois (s : State) (core off n : Nat) : Bool := isPoisoned s.mem.csPoison (csKey core off) n

def State.tsWrite (s : State) (engine off : Nat) (bs : List Byte) : State :=
  let r := wrStore s.mem.ts s.mem.tsPoison (tsKey engine off) bs
  { s with mem := { s.mem with ts := r.1, tsPoison := r.2 } }

def State.csWrite (s : State) (core off : Nat) (bs : List Byte) : State :=
  let r := wrStore s.mem.cs s.mem.csPoison (csKey core off) bs
  { s with mem := { s.mem with cs := r.1, csPoison := r.2 } }

def State.tsSetPoison (s : State) (engine off n : Nat) : State :=
  { s with mem := { s.mem with tsPoison := addPoison s.mem.tsPoison (wordsOf (tsKey engine off) n) } }

def State.csSetPoison (s : State) (core off n : Nat) : State :=
  { s with mem := { s.mem with csPoison := addPoison s.mem.csPoison (wordsOf (csKey core off) n) } }

/-- Bytes of a store within a key range are zeroed and lose their poison. -/
def zeroRange (m : List Host.Cell) (lo hi : Nat) : List Host.Cell := m.filter (fun c => c.1 < lo || hi ≤ c.1)

/-- (DESIGN CHOICE, log entry 7.) -/
def State.zeroTile (s : State) (engine : Nat) : State :=
  { s with mem := { s.mem with
      ts := zeroRange s.mem.ts (tsKey engine 0) (tsKey (engine + 1) 0)
      tsPoison := s.mem.tsPoison.filter (fun w => w * 8 < tsKey engine 0 || tsKey (engine + 1) 0 ≤ w * 8) } }

def State.zeroCore (s : State) (core : Nat) : State :=
  { s with mem := { s.mem with
      cs := zeroRange s.mem.cs (csKey core 0) (csKey (core + 1) 0)
      csPoison := s.mem.csPoison.filter (fun w => w * 8 < csKey core 0 || csKey (core + 1) 0 ≤ w * 8) } }

/-! ### The canonical form -/

/-- A rising list without repeats. -/
def rising : List Nat → Bool
  | [] => true
  | x :: t => t.all (fun y => decide (x < y)) && rising t

/-- Every byte store lists rising keys and no zero byte, every poison list rises. (DESIGN CHOICE, log entry 7.) -/
def Memory.wf (m : Mem) : Bool :=
  mwf 0#8 m.dram && mwf 0#8 m.ts && mwf 0#8 m.cs && rising m.dramPoison && rising m.tsPoison && rising m.csPoison

end Sys2Proof.Machine
end

