-- ==== Sys2Proof/Machine/Numeric.lean ====
section
/-! DEFINITION. Numbers as exact values, the scalar formats (R85 to R90), rounding (R109 to R111, R121), conversion
(R112 to R119), and exact arithmetic with IEEE special values. -/

namespace Sys2Proof.Machine

/-- NaN, an infinity, or (-1)^neg * num / den with den positive; a zero keeps its sign (R89). -/
inductive FV where
  | nan
  | inf (neg : Bool)
  | fin (neg : Bool) (num den : Nat)
  deriving DecidableEq, Repr

/-- A scalar floating-point format: widths, and what its top encodings mean: 0 IEEE infinities and NaNs, 1 one NaN per
sign (E4M3), 2 all finite (R86). -/
structure FFmt where
  ebits : Nat
  fbits : Nat
  kind : Nat
  deriving DecidableEq, Repr

def f64 : FFmt := ⟨11, 52, 0⟩
def f32 : FFmt := ⟨8, 23, 0⟩
def bf16 : FFmt := ⟨8, 7, 0⟩
def f16 : FFmt := ⟨5, 10, 0⟩
def e5m2 : FFmt := ⟨5, 2, 0⟩
def e4m3 : FFmt := ⟨4, 3, 1⟩
def e3m2 : FFmt := ⟨3, 2, 2⟩
def e2m3 : FFmt := ⟨2, 3, 2⟩
def e2m1 : FFmt := ⟨2, 1, 2⟩

def FFmt.bias (f : FFmt) : Nat := 2 ^ (f.ebits - 1) - 1
def FFmt.width (f : FFmt) : Nat := 1 + f.ebits + f.fbits
/-- Largest finite magnitude pattern (R86). -/
def FFmt.maxPat (f : FFmt) : Nat :=
  match f.kind with
  | 0 => (2 ^ f.ebits - 1) * 2 ^ f.fbits - 1
  | 1 => 2 ^ (f.ebits + f.fbits) - 2
  | _ => 2 ^ (f.ebits + f.fbits) - 1
def FFmt.infPat (f : FFmt) : Nat := (2 ^ f.ebits - 1) * 2 ^ f.fbits
/-- Canonical NaN (R86, R88). (DEDUCED, log entry 52.) -/
def FFmt.nanPat (f : FFmt) : Nat :=
  match f.kind with
  | 0 => f.infPat + 2 ^ (f.fbits - 1)
  | _ => 2 ^ (f.ebits + f.fbits) - 1
def FFmt.hasInf (f : FFmt) : Bool := f.kind == 0

/-- m * 2^e as a value. -/
def fvScale (neg : Bool) (m : Nat) (e : Int) : FV :=
  if 0 ≤ e then .fin neg (m * 2 ^ e.toNat) 1 else .fin neg m (2 ^ (-e).toNat)

def fvZero (neg : Bool) : FV := .fin neg 0 1
def fvOfInt (i : Int) : FV := .fin (decide (i < 0)) i.natAbs 1

/-- The value of an encoding (R85, R86, R87). -/
def FFmt.decode (f : FFmt) (p : Nat) : FV :=
  let neg := bit p (f.width - 1)
  let e := bits p (f.width - 2) f.fbits
  let m := p % 2 ^ f.fbits
  let mag := p % 2 ^ (f.width - 1)
  if f.kind = 0 ∧ e = 2 ^ f.ebits - 1 then (if m = 0 then .inf neg else .nan)
  else if f.kind = 1 ∧ mag = 2 ^ (f.width - 1) - 1 then .nan
  else if e = 0 then fvScale neg m (1 - (f.bias : Int) - f.fbits)
  else fvScale neg (2 ^ f.fbits + m) ((e : Int) - f.bias - f.fbits)

/-! ### Rounding -/

/-- Directions of rounding; `sto r` is stochastic with the draw r of R121. -/
inductive Rm where
  | rne | rtz | rup | rdn
  | sto (r : Nat)
  deriving DecidableEq, Repr

/-- num / den rounded to a whole number, the sign known (R110, R121). -/
def roundMag (rm : Rm) (neg : Bool) (num den : Nat) : Nat :=
  let q := num / den
  let rem := num % den
  let up := match rm with
    | .rne => decide (den < 2 * rem ∨ (2 * rem = den ∧ q % 2 = 1))
    | .rtz => false
    | .rup => decide (rem ≠ 0) && !neg
    | .rdn => decide (rem ≠ 0) && neg
    | .sto r => decide (r < rem * 65536 / den)
  if up then q + 1 else q

/-- floor(log2(num / den)) of a positive rational. -/
def flog2 (num den : Nat) : Int :=
  let a : Int := (num.log2 : Int) - den.log2
  if 0 ≤ a then (if num < den * 2 ^ a.toNat then a - 1 else a)
  else (if num * 2 ^ (-a).toNat < den then a - 1 else a)

/-- num / den divided by 2^g and rounded. -/
def roundAt (rm : Rm) (neg : Bool) (num den : Nat) (g : Int) : Nat :=
  if 0 ≤ g then roundMag rm neg num (den * 2 ^ g.toNat) else roundMag rm neg (num * 2 ^ (-g).toNat) den

/-- Magnitude pattern of a positive rational rounded once on the format's grid with its subnormals (R111). It passes
`maxPat` when the value is beyond range. -/
def FFmt.roundPat (f : FFmt) (rm : Rm) (neg : Bool) (num den : Nat) : Nat :=
  if num = 0 then 0
  else
    let emin : Int := 1 - (f.bias : Int)
    let e := max (flog2 num den) emin
    (e - emin).toNat * 2 ^ f.fbits + roundAt rm neg num den (e - f.fbits)

/-- Tiny (R111): the magnitude rounded with unbounded exponent is below the smallest normal. -/
def FFmt.tiny (f : FFmt) (rm : Rm) (neg : Bool) (num den : Nat) : Bool :=
  if num = 0 then false
  else
    let e := flog2 num den
    let emin : Int := 1 - (f.bias : Int)
    decide (e < emin) &&
      !(decide (e = emin - 1) && decide (roundAt rm neg num den (e - f.fbits) = 2 ^ (f.fbits + 1)))

/-- The counter a destination element increments (R118). -/
inductive Cnt where
  | ok | nan | inf | sat | flush
  deriving DecidableEq, Repr

/-- Destinations whose tiny results are flushed outside strict mode (R115). -/
def FFmt.flushes (f : FFmt) : Bool := f == f16 || f == bf16 || f == f32

def FFmt.sign (f : FFmt) (neg : Bool) (p : Nat) : Nat := p + b2n neg * 2 ^ (f.width - 1)

/-- IEEE overflow (R114): whether a value beyond range becomes an infinity. -/
def ovfInf (rm : Rm) (neg : Bool) : Bool :=
  match rm with
  | .rne | .sto _ => true
  | .rtz => false
  | .rup => !neg
  | .rdn => neg

/-- Conversion to a floating-point format (R112 to R118). -/
def FFmt.conv (f : FFmt) (strict : Bool) (rm : Rm) (v : FV) : Nat × Cnt :=
  match v with
  | .nan => (f.nanPat, .nan)
  | .inf neg => if f.hasInf then (f.sign neg f.infPat, .inf) else (f.sign neg f.maxPat, .sat)
  | .fin neg num den =>
    let p := f.roundPat rm neg num den
    if f.maxPat < p then
      if strict && f.hasInf && ovfInf rm neg then (f.sign neg f.infPat, .inf) else (f.sign neg f.maxPat, .sat)
    else if !strict && f.flushes && f.tiny rm neg num den then (f.sign neg 0, .flush)
    else (f.sign neg p, .ok)

/-- IEEE rounding of a value with subnormals kept: the strict conversion without its counter. (DEDUCED, log entry 52.) -/
def FFmt.ieee (f : FFmt) (rm : Rm) (v : FV) : Nat := (f.conv true rm v).1

/-- A value rounded to a format, as a value. -/
def FFmt.rv (f : FFmt) (rm : Rm) (v : FV) : FV := f.decode (f.ieee rm v)

/-- Conversion to a signed integer of `w` bits: saturating, NaN gives 0 (R113, R114, R119). -/
def intConv (w : Nat) (rm : Rm) (v : FV) : Int × Cnt :=
  match v with
  | .nan => (0, .nan)
  | .inf neg => (if neg then -(2 ^ (w - 1) : Int) else 2 ^ (w - 1) - 1, .sat)
  | .fin neg num den =>
    let m := roundMag rm neg num den
    let i : Int := if neg then -(m : Int) else m
    if i < -(2 ^ (w - 1) : Int) then (-(2 ^ (w - 1) : Int), .sat)
    else if (2 ^ (w - 1) : Int) - 1 < i then (2 ^ (w - 1) - 1, .sat)
    else (i, .ok)

/-- The rounding of a code (R109). `narrow` tells a narrow destination, `r` the draw of R121. -/
def rmOf (code : Nat) (strict narrow : Bool) (r : Nat) : Rm :=
  if strict then (match code with | 2 => .rtz | 3 => .rup | 4 => .rdn | _ => .rne)
  else if code = 1 ∧ narrow then .sto r else .rne

/-- The draw of R121. -/
def stoDraw (seed : W64) (tensor : BitVec 24) (elem : Nat) : Nat :=
  let z : BitVec 64 := seed ^^^ (tensor.setWidth 64 <<< 40) ^^^ BitVec.ofNat 64 (elem % 2 ^ 40)
  let z := (z ^^^ (z >>> 32)) * 0xD1B54A32D192ED03#64
  let z := (z ^^^ (z >>> 29)) * 0xAEF17502108EF2D9#64
  let z := z ^^^ (z >>> 32)
  (z >>> 48).toNat

/-! ### Exact arithmetic -/

def FV.neg : FV → FV
  | .nan => .nan
  | .inf n => .inf (!n)
  | .fin n a b => .fin (!n) a b

def FV.abs : FV → FV
  | .nan => .nan
  | .inf _ => .inf false
  | .fin _ a b => .fin false a b

def FV.isNan : FV → Bool
  | .nan => true
  | _ => false

def FV.isInf : FV → Bool
  | .inf _ => true
  | _ => false

def FV.isZero : FV → Bool
  | .fin _ 0 _ => true
  | _ => false

/-- The product (R129): zero times infinity is NaN. -/
def FV.mul : FV → FV → FV
  | .nan, _ => .nan
  | _, .nan => .nan
  | .inf n, .inf m => .inf (n != m)
  | .inf n, .fin m a _ => if a = 0 then .nan else .inf (n != m)
  | .fin n a _, .inf m => if a = 0 then .nan else .inf (n != m)
  | .fin n a b, .fin m c d => .fin (n != m) (a * c) (b * d)

/-- The quotient with IEEE special values. -/
def FV.div : FV → FV → FV
  | .nan, _ => .nan
  | _, .nan => .nan
  | .inf _, .inf _ => .nan
  | .inf n, .fin m _ _ => .inf (n != m)
  | .fin n _ _, .inf m => fvZero (n != m)
  | .fin n a b, .fin m c d =>
    if c = 0 then (if a = 0 then .nan else .inf (n != m)) else .fin (n != m) (a * d) (b * c)

/-- The sum; an exact zero of operands of opposite sign is +0, or -0 when rounding toward negative. -/
def FV.add (rdn : Bool) : FV → FV → FV
  | .nan, _ => .nan
  | _, .nan => .nan
  | .inf n, .inf m => if n = m then .inf n else .nan
  | .inf n, .fin _ _ _ => .inf n
  | .fin _ _ _, .inf m => .inf m
  | .fin n a b, .fin m c d =>
    if a = 0 ∧ c = 0 then fvZero (if n = m then n else rdn)
    else if n = m then .fin n (a * d + c * b) (b * d)
    else if a * d = c * b then fvZero rdn
    else if c * b < a * d then .fin n (a * d - c * b) (b * d)
    else .fin m (c * b - a * d) (b * d)

def FV.sub (rdn : Bool) (x y : FV) : FV := FV.add rdn x y.neg

/-- x < y for values that are not NaN. -/
def FV.lt : FV → FV → Bool
  | .nan, _ => false
  | _, .nan => false
  | .inf n, .inf m => n && !m
  | .inf n, .fin _ _ _ => n
  | .fin _ _ _, .inf m => !m
  | .fin n a b, .fin m c d =>
    if a = 0 ∧ c = 0 then false
    else match n, m with
      | false, false => decide (a * d < c * b)
      | true, true => decide (c * b < a * d)
      | true, false => true
      | false, true => false

/-- Numeric equality; zeros are equal. -/
def FV.eqv (x y : FV) : Bool := !x.isNan && !y.isNan && !x.lt y && !y.lt x

def FV.isNeg : FV → Bool
  | .nan => false
  | .inf n => n
  | .fin n _ _ => n

/-- IEEE 754 maximum and minimum: NaN propagates, -0 is below +0. -/
def FV.max (x y : FV) : FV :=
  if x.isNan || y.isNan then .nan
  else if x.lt y then y else if y.lt x then x else if x.isNeg then y else x

def FV.min (x y : FV) : FV :=
  if x.isNan || y.isNan then .nan
  else if x.lt y then x else if y.lt x then y else if x.isNeg then x else y

/-- fusedMultiplyAdd before its rounding. -/
def FV.fma (rdn : Bool) (x y z : FV) : FV := FV.add rdn (x.mul y) z

/-! ### Square root and elementary functions

Each returns a value that rounds as the exact result does: a value short of 70 or more significant bits carries a
sticky unit below them. -/

/-- Whole square root by bits, from bit `fuel` down. -/
def isqrtAux : Nat → Nat → Nat → Nat
  | 0, _, r => r
  | f + 1, n, r => let r' := r + 2 ^ f; isqrtAux f n (if r' * r' ≤ n then r' else r)

def isqrt (n : Nat) : Nat := isqrtAux (n.log2 / 2 + 1) n 0

def FV.sqrt : FV → FV
  | .nan => .nan
  | .inf true => .nan
  | .inf false => .inf false
  | .fin n a b =>
    if a = 0 then .fin n 0 1
    else if n then .nan
    else
      -- scale so that the root has at least 70 bits
      let k := (140 + 2 * b.log2) / 2
      let x := a * 2 ^ (2 * k) / b
      let r := isqrt x
      if r * r * b = a * 2 ^ (2 * k) then .fin false r (2 ^ k) else .fin false (2 * r + 1) (2 ^ (k + 1))

/-- Bits of the fixed-point series below the binary point. -/
def serP : Nat := 256

/-- 2 * sum of z^(2k+1)/(2k+1), z = zn/2^serP, `n` terms: 2 atanh z. -/
def atanhSer : Nat → Nat → Nat → Nat → Nat
  | 0, _, _, _ => 0
  | n + 1, k, t, z2 => 2 * t / (2 * k + 1) + atanhSer n (k + 1) (t * z2 / 2 ^ serP) z2

/-- 2 atanh of zn/2^serP. (UNVERIFIED, log entry 53.) -/
def atanh2 (zn : Nat) : Nat := atanhSer 130 0 zn (zn * zn / 2 ^ serP)

/-- ln 2 in units of 2^-serP. -/
def ln2Fix : Nat := atanh2 (2 ^ serP / 3)

/-- Taylor sum of e^r, r in units of 2^-serP. (UNVERIFIED, log entry 53.) -/
def expSer : Nat → Nat → Nat → Nat → Nat
  | 0, _, _, _ => 0
  | n + 1, k, t, r => t + expSer n (k + 1) (t * r / (2 ^ serP * (k + 1))) r

/-- e^x for a finite x: (mantissa in units of 2^-serP in [1,2), exponent). -/
def expFix (neg : Bool) (num den : Nat) : Nat × Int :=
  let x : Int := (num * 2 ^ serP / den : Nat)
  let x := if neg then -x else x
  let k := x / (ln2Fix : Int)
  let r := (x - k * ln2Fix).toNat
  (expSer 80 0 (2 ^ serP) r, k)

/-- e^x (R170). Beyond +-4096 it is far outside every format, and a value of that size stands for it. (UNVERIFIED, log entry 53.) -/
def FV.exp : FV → FV
  | .nan => .nan
  | .inf n => if n then fvZero false else .inf false
  | .fin n a b =>
    if a = 0 then .fin false 1 1
    else if 4096 * b < a then fvScale false 1 (if n then -5000 else 5000)
    else
      let r := expFix n a b
      fvScale false (2 * r.1 + 1) (r.2 - serP - 1)

/-- Natural logarithm: -infinity at zero, NaN below (IEEE 754). (UNVERIFIED, log entry 53.) -/
def FV.ln : FV → FV
  | .nan => .nan
  | .inf n => if n then .nan else .inf false
  | .fin n a b =>
    if a = 0 then .inf true
    else if n then .nan
    else if a = b then fvZero false
    else
      let e0 := flog2 a b
      -- m = x / 2^e in [3/4, 3/2)
      let sc := fun (e : Int) => if 0 ≤ e then (a, b * 2 ^ e.toNat) else (a * 2 ^ (-e).toNat, b)
      let m0 := sc e0
      let e := if 3 * m0.2 ≤ 2 * m0.1 then e0 + 1 else e0
      let m := sc e
      let zneg := decide (m.1 < m.2)
      let z := (if zneg then m.2 - m.1 else m.1 - m.2) * 2 ^ serP / (m.1 + m.2)
      let t : Int := if zneg then -(atanh2 z : Int) else atanh2 z
      let v := e * ln2Fix + t
      .fin (decide (v < 0)) (2 * v.natAbs + 1) (2 ^ (serP + 1))

/-- tanh (R171). (UNVERIFIED, log entry 53.) -/
def FV.tanh : FV → FV
  | .nan => .nan
  | .inf n => .fin n 1 1
  | .fin n a b =>
    if a = 0 then .fin n 0 1
    else if a * 2 ^ 30 < b then .fin n (a * (2 ^ 100 - 1)) (b * 2 ^ 100)
    else if 64 * b < a then .fin n (2 ^ 100 - 1) (2 ^ 100)
    else
      let r := expFix false (2 * a) b
      let x := r.1 * 2 ^ r.2.toNat
      .fin n (2 * (x - 2 ^ serP) + 1) (2 * (x + 2 ^ serP))

def FV.recip (v : FV) : FV := FV.div (.fin false 1 1) v

/-- 1 / sqrt with a sticky unit when inexact. -/
def FV.rsqrt : FV → FV
  | .nan => .nan
  | .inf n => if n then .nan else fvZero false
  | .fin n a b => if a = 0 then .inf n else if n then .nan else FV.sqrt (.fin false b a)

end Sys2Proof.Machine
end

