-- ==== Sys2Proof/Machine/Cores.lean ====
section
/-! DEFINITION. Cores, engines and loaders as state: accessors, completion statuses (R82, R83), faults of the core level,
fences and the degrade log (R191, R192, R427, R428). -/

namespace Sys2Proof.Machine

/-- A core nothing has touched since start. (DESIGN CHOICE, log entry 8.) -/
def coreDef : Core := ⟨0, none, false, 0, false, 0, .other, 0, [], false, 0⟩
def engineDef : Engine := ⟨[], false, 0, 0⟩

/-! ### Accessors -/

def State.core (s : State) (c : Nat) : Core := mget coreDef s.cpu.cores c
def State.setCore (s : State) (c : Nat) (v : Core) : State :=
  { s with cpu := { s.cpu with cores := mset coreDef s.cpu.cores c v } }
def State.engine (s : State) (e : Nat) : Engine := mget engineDef s.cpu.engines e
def State.setEngine (s : State) (e : Nat) (v : Engine) : State :=
  { s with cpu := { s.cpu with engines := mset engineDef s.cpu.engines e v } }
def State.loader (s : State) (c : Nat) : List Order := mget [] s.cpu.loaders c
def State.setLoader (s : State) (c : Nat) (v : List Order) : State :=
  { s with cpu := { s.cpu with loaders := mset [] s.cpu.loaders c v } }

/-- Scalar register r of a core; s0 reads zero (R181). (DESIGN CHOICE, log entry 8.) -/
def State.sreg (s : State) (c : Nat) (r : BitVec 5) : W64 :=
  if r = 0 then 0 else mget 0 s.cpu.sregs (c * 32 + r.toNat)

/-- A write of a scalar register; s0 ignores it (R181). -/
def State.setSreg (s : State) (c : Nat) (r : BitVec 5) (v : W64) : State :=
  if r = 0 then s else { s with cpu := { s.cpu with sregs := mset 0 s.cpu.sregs (c * 32 + r.toNat) v } }

/-- A CSR as stored. (DESIGN CHOICE, log entry 8.) -/
def State.csr (s : State) (c n : Nat) : W64 := mget 0 s.cpu.csrs (c * 4096 + n)
def State.setCsr (s : State) (c n : Nat) (v : W64) : State :=
  { s with cpu := { s.cpu with csrs := mset 0 s.cpu.csrs (c * 4096 + n) v } }

def State.pc (s : State) (c : Nat) : W64 := (s.core c).pc
/-- An instruction retires and the next is the one at `v`. -/
def State.setPc (s : State) (c : Nat) (v : W64) : State := s.setCore c { s.core c with pc := v, retiredAt := s.clk.now }

/-- SEQ_STATE fields of a core (R197). -/
def State.seqState (s : State) (c : Nat) : Nat := s.rd F.SEQ_STATE_STATE (c / 64) (c % 64)
def State.setSeqState (s : State) (c v : Nat) : State := s.st F.SEQ_STATE_STATE v (c / 64) (c % 64)
def State.coreAcct (s : State) (c : Nat) : Nat := s.rd F.SEQ_STATE_ACCOUNT (c / 64) (c % 64)
def State.coreQueue (s : State) (c : Nat) : Nat := s.rd F.SEQ_STATE_QUEUE (c / 64) (c % 64)

/-- Engine e of core c was present at start; is fenced (R197). -/
def State.engPresent (s : State) (c e : Nat) : Bool := bit (s.rd F.ENG_PRESENT_MASK (c / 64) (c % 64)) e
def State.engFenced (s : State) (c e : Nat) : Bool := bit (s.rd F.ENG_FENCE_MASK (c / 64) (c % 64)) e
def State.corePresent (s : State) (c : Nat) : Bool := bit (s.rd F.SEQ_PRESENT_MASK (c / 64)) (c % 64)
def State.coreFenced (s : State) (c : Nat) : Bool := bit (s.rd F.SEQ_FENCE_MASK (c / 64)) (c % 64)

/-- ENG_MASK (R187): engines present and not fenced. -/
def State.engMask (s : State) (c : Nat) : Nat :=
  (List.range 32).foldl (fun m e => if s.engPresent c e && !s.engFenced c e then m + 2 ^ e else m) 0

/-! ### Statuses -/

/-- The order of R82: 0 is first. (DEDUCED, log entry 62.) -/
def statusRank (v : Nat) : Nat :=
  match v with
  | 0x3F => 0
  | 0x20 => 1
  | 0x21 => 2
  | 0x30 => 3
  | 0x04 => 4
  | 0x05 => 5
  | 0x02 => 6
  | 0x01 => 7
  | _ => 8

/-- The first of several statuses in the order of R82; DONE when there is none. (DEDUCED, log entry 62.) -/
def firstStatus (l : List Nat) : Nat := l.foldl (fun a b => if statusRank b < statusRank a then b else a) 0

/-! ### Queues of orders -/

/-- Orders and transfers of a core with their sources: engine 0 to 31, 32 the loader. -/
def State.orders (s : State) (c : Nat) : List (Nat × Order) :=
  ((List.range 32).flatMap (fun e => (s.engine (c * 32 + e)).queue.map (fun o => (e, o)))) ++
    (s.loader c).map (fun o => (32, o))

/-- Every order and transfer the batch has issued on the core has completed. -/
def State.drained (s : State) (c : Nat) : Bool := (s.orders c).all (fun o => o.2.finished)

/-- A status is delivered to the core's batch (R189). -/
def State.addStat (s : State) (c src status : Nat) : State :=
  s.setCore c { s.core c with stats := (s.core c).stats ++ [(src, status)] }

/-- A result that delivers no tile (R154). -/
def noResult (status reason steps : Nat) : Result := ⟨status, 0, 0, 0, 0, 0, steps, BitVec.ofNat 32 reason⟩

/-- OP of an order says tail order (R168). -/
def Order.isTail (o : Order) : Bool := o.w0.toNat % 16 == 2

/-- Bit 120 of an array order and bit 110 of a tail order: NOTIFY (R162, R168); transfers always notify (R166). -/
def Order.notify (src : Nat) (o : Order) : Bool :=
  if src = 32 then true
  else if o.w0.toNat % 16 = 2 then bit o.w1.toNat (110 - 64) else bit o.w1.toNat (120 - 64)

/-- TAG of an order or transfer (R162, R168, R176). -/
def Order.tag (src : Nat) (o : Order) : Nat :=
  if src = 32 then bits o.w0.toNat 63 48
  else
    let n := o.w0.toNat + o.w1.toNat * 2 ^ 64
    if n % 16 = 2 then bits n 104 89 else bits n 114 99

/-- Mark an order completed; without a record due its slot frees at once (R162, R167). -/
def finishIn (src : Nat) (q : List Order) (issue : Nat) (r : Result) : List Order :=
  (q.map (fun o => if o.issue = issue then { o with running := false, finished := true, res := some r } else o)).filter
    (fun o => !(o.finished && decide (o.issue = issue) && decide (r.status = 0) && !o.notify src))

/-- Complete an order or transfer of a core with a result. -/
def State.finish (s : State) (c src issue : Nat) (r : Result) : State :=
  let s := if src = 32 then s.setLoader c (finishIn 32 (s.loader c) issue r)
    else s.setEngine (c * 32 + src) { s.engine (c * 32 + src) with
      queue := finishIn src (s.engine (c * 32 + src)).queue issue r, stepAt := s.clk.now }
  s.addStat c src r.status

/-- Complete every unfinished order of an engine or loader ABORTED in issue order: reason 0x07 for those that had not
started (R192). -/
def State.abortAll (s : State) (c src : Nat) : State :=
  let q := if src = 32 then s.loader c else (s.engine (c * 32 + src)).queue
  (q.filter (fun o => !o.finished)).foldl (fun s o =>
    s.finish c src o.issue (noResult 0x04 (if o.running then 0 else 0x07) 0)) s

/-- Every unfinished order and transfer of a core completes ABORTED (R192, R450). -/
def State.abortOrders (s : State) (c : Nat) : State := (List.range 33).foldl (fun s src => s.abortAll c src) s

/-! ### Faults and fences (R191, R192) -/

/-- SEQ_LAST_ERR of a fault of a core (R197). -/
def State.seqLast (s : State) (c kind : Nat) : State :=
  (s.st F.SEQ_LAST_ERR_CORE (c % 64) (c / 64)).st F.SEQ_LAST_ERR_KIND kind (c / 64)

/-- SEQ_LAST_ERR and SEQ_LAST_PC of a core-level or cluster-level fault (R197). -/
def State.seqErr (s : State) (c kind : Nat) : State :=
  (s.seqLast c kind).st F.SEQ_LAST_PC_PC ((s.pc c).toNat % 2 ^ 21) (c / 64)

/-- The core drains and its batch ends with a status (R191). -/
def State.stopCore (s : State) (c status : Nat) : State :=
  (s.setCore c { s.core c with fault := some (firstStatus ((s.core c).fault.toList ++ [status])) }).setSeqState c 3

/-- A program fault, or the read of a poisoned core-store word: code 0x2303 with its cause (R191, R196). -/
def State.programFault (s : State) (c cause : Nat) : State :=
  let s := (s.seqErr c 3).note 0x2303 c (s.pc c).toNat cause
  s.stopCore c (if cause = 4 then 0x20 else 0x04)

/-- Last fault of an engine (ENG_LAST_ERR). -/
def State.engErr (s : State) (c e kind : Nat) : State :=
  (s.st F.ENG_LAST_ERR_ENGINE (c % 64 * 32 + e) (c / 64)).st F.ENG_LAST_ERR_KIND kind (c / 64)

/-- ENG_LAST_ERR.KIND of a fence cause of code 0x2203. -/
def fenceKind (cause : Nat) : Nat :=
  match cause with
  | 1 => 5
  | 2 => 4
  | 3 => 3
  | _ => 6

/-- Fence an engine (R192): it leaves ENG_MASK, its orders complete ABORTED, code 0x2203, a degrade entry. (DEDUCED, log entry 58.) -/
def State.fenceEngine (s : State) (c e cause tag : Nat) : State :=
  if !s.engPresent c e || s.engFenced c e then s
  else
    let s := s.setBit F.ENG_FENCE_MASK e (c / 64) (c % 64)
    let s := (s.engErr c e (fenceKind cause)).note 0x2203 (c * 32 + e) cause tag
    let s := s.abortAll c e
    s.degradeAdd 1 0 (c * 32 + e) 0x2203

/-- Every engine of a core leaves service with it (R192). (DEDUCED, log entry 58.) -/
def State.fenceCoreEngines (s : State) (c : Nat) : State :=
  let s := (List.range 32).foldl (fun s e =>
    if s.engPresent c e && !s.engFenced c e then (s.setBit F.ENG_FENCE_MASK e (c / 64) (c % 64)).abortAll c e else s) s
  s.abortAll c 32

/-- Fence a core (R191): its engines, its batch ABORTED, SEQ_FENCE, a degrade entry with the code of the fault. (DEDUCED, log entry 58.) -/
def State.fenceCore (s : State) (c code : Nat) : State :=
  if s.coreFenced c then s
  else
    let s := s.fenceCoreEngines c
    let busy := s.seqState c == 1 || (s.seqState c == 2 && (s.core c).wait != .unit) || s.seqState c == 3
    let s := (if busy then s.stopCore c 0x04 else s).setSeqState c 4
    let s := s.setBit F.SEQ_FENCE_MASK (c % 64) (c / 64) 0
    s.degradeAdd 2 0 c code

/-- An uncorrectable core-store word (R191): code 0x2301, the core drains, the batch ends ABORTED and the store is zeroed
then; a second time before the next start fences the core. -/
def State.coreUnc (s : State) (c word : Nat) : State :=
  let n := (s.core c).uncs
  let s := s.setCore c { s.core c with uncs := n + 1, zeroes := true }
  let s := (s.inc F.SEQ_ERR_UE_COUNT 1 (c / 64)).seqErr c 2
  let s := s.note 0x2301 c (8 * word) (b2n (decide (1 ≤ n)))
  let s := s.stopCore c 0x04
  if 1 ≤ n then s.fenceCore c 0x2301 else s

/-- Corrected words of a core store that an access touches (R191): each is counted, with code 0x2201. -/
def State.coreCor (s : State) (c : Nat) (cor : List Nat) (spans : List (Nat × Nat)) : State :=
  (cor.filter (fun w => spans.any (fun p => (wordsOf p.1 p.2).contains w))).foldl (fun s w =>
    ((s.inc F.SEQ_ERR_CE_COUNT 1 (c / 64)).seqLast c 1).note 0x2201 1 c (8 * w)) s

/-- Corrected words of a tile store. -/
def State.engCor (s : State) (c e : Nat) (cor : List Nat) (spans : List (Nat × Nat)) : State :=
  (cor.filter (fun w => spans.any (fun p => (wordsOf p.1 p.2).contains w))).foldl (fun s w =>
    ((s.inc F.ENG_ERR_CE_COUNT 1 (c / 64)).engErr c e 1).note 0x2201 0 (c * 32 + e) (8 * w)) s

/-- An uncorrectable tile-store word met by an order (R191, R193): the engine is poisoned and its code written; a
second time before the next start fences it. -/
def State.engUnc (s : State) (c e tag word : Nat) : State :=
  let i := c * 32 + e
  let n := (s.engine i).uncs
  let s := s.inc F.ENG_ERR_UE_COUNT 1 (c / 64)
  let s := s.setEngine i { s.engine i with uncs := n + 1 }
  if 1 ≤ n then s.fenceEngine c e 3 tag
  else ((s.setEngine i { s.engine i with poisoned := true }).engErr c e 2).note 0x2202 i tag word

/-! ### Running instructions -/

/-- The sequencer executes: the module serves (R58, R479), a batch runs on it and no unit (R379), nothing has stopped it, no
debugger holds it. -/
def State.seqRuns (s : State) (c : Nat) : Bool :=
  s.running && (s.seqState c == 1 || (s.seqState c == 2 && (s.core c).wait != .unit)) && (s.core c).fault.isNone &&
    !(s.core c).held

/-- The PC names a word of the core store. -/
def pcOk (pc : W64) : Bool := decide (pc.toNat + 4 ≤ 2 ^ 21) && pc.toNat % 4 == 0

/-- Retire: PC + 4, running (R181). -/
def State.retire (s : State) (c : Nat) : State := (s.setPc c (s.pc c + 4)).setSeqState c 1

/-- Wait: the PC stays, SEQ_STATE says waiting (R183). (DEDUCED, log entry 6.) -/
def State.waitSeq (s : State) (c : Nat) (w : SeqWait) : State := (s.setCore c { s.core c with wait := w }).setSeqState c 2

/-- One instruction of a core: nothing while the sequencer does not run; a fault when the fetch at the PC cannot be
made (R186) or reads a poisoned word (R191); else the instruction's effect. (DESIGN CHOICE, log entry 5.) -/
def State.instr (s : State) (c : Nat) (f : State → State) : State :=
  if !s.seqRuns c then s
  else if !pcOk (s.pc c) then s.programFault c 2
  else if s.csPois c (s.pc c).toNat 4 then s.programFault c 4
  else f s

/-- An instruction that writes one scalar register and goes on. -/
def State.scalarOp (s : State) (c : Nat) (rd : BitVec 5) (v : W64) : State := (s.setSreg c rd v).retire c

end Sys2Proof.Machine
end

