-- ==== Sys2Proof/Machine/Formats.lean ====
section
/-! DEFINITION. The eighteen formats by their codes (R163): decoding of rows (R85 to R103, R160), and the encoders of
Microscaling (R96), Groat (R100) and Mite (R105) blocks with their counters (R113 to R120). -/

namespace Sys2Proof.Machine

/-- A format code of R163. -/
inductive Fmt where
  | fp (f : FFmt)
  | mx (f : FFmt)
  | mxint8 | int8 | int4 | groat | mite
  deriving DecidableEq, Repr

/-- (DEDUCED, log entry 55.) -/
def fmtOf (code : Nat) : Fmt :=
  match code with
  | 0x0 => .fp f64
  | 0x1 => .fp f32
  | 0x2 => .fp bf16
  | 0x3 => .fp f16
  | 0x4 => .fp e4m3
  | 0x5 => .fp e5m2
  | 0x6 => .mx e4m3
  | 0x7 => .mx e5m2
  | 0x8 => .mx e2m3
  | 0x9 => .mx e3m2
  | 0xA => .mx e2m1
  | 0xB => .mxint8
  | 0xC => .int8
  | 0xD => .int4
  | 0xE => .groat
  | _ => .mite

/-- Elements of a block, bytes of its elements and scales together; (1, 0) for formats without blocks. -/
def Fmt.block : Fmt → Nat
  | .mx _ | .mxint8 => 32
  | .groat => 64
  | .mite => 80
  | _ => 1

def Fmt.isBlock (f : Fmt) : Bool := decide (1 < f.block)

/-- Width of an element in bits. -/
def Fmt.bits : Fmt → Nat
  | .fp f => f.width
  | .mx f => f.width
  | .mxint8 | .int8 => 8
  | .int4 | .groat => 4
  | .mite => 0

def Fmt.isMx : Fmt → Bool
  | .mx _ | .mxint8 => true
  | _ => false

/-- Element bytes of one MX block (R91). -/
def Fmt.mxBytes (f : Fmt) : Nat := 4 * f.bits

/-- Narrow destinations of R109. -/
def Fmt.narrow : Fmt → Bool
  | .fp f => !(f == f64 || f == f32)
  | _ => true

def ceilDiv (a b : Nat) : Nat := (a + b - 1) / b

/-- Bytes of a row of `n` elements before padding to 64-byte units (R160). -/
def Fmt.rowBytes (f : Fmt) (n : Nat) : Nat :=
  match f with
  | .mx _ | .mxint8 => ceilDiv n 32 * (f.mxBytes + 1)
  | .groat => ceilDiv n 64 * 34
  | .mite => ceilDiv n 80 * 18
  | _ => ceilDiv (n * f.bits) 8

/-- Bytes of a row that feed its first `n` elements, as (offset, length): positions at or beyond `n` in the last block are not
read (R160). -/
def Fmt.rowSpans (f : Fmt) (n : Nat) : List (Nat × Nat) :=
  match f with
  | .mx _ | .mxint8 => [(0, ceilDiv (n * f.bits) 8), (ceilDiv n 32 * f.mxBytes, ceilDiv n 32)]
  | .groat =>
    if n % 64 = 0 then [(0, f.rowBytes n)]
    else [(0, n / 64 * 34 + ceilDiv (n % 64) 2), (n / 64 * 34 + 32, 2)]
  | .mite =>
    if n % 80 = 0 then [(0, f.rowBytes n)]
    else [(0, n / 80 * 18 + ceilDiv (n % 80) 5), (n / 80 * 18 + 16, 2)]
  | _ => [(0, f.rowBytes n)]

/-- Those spans of `rows` rows from `base`. -/
def Fmt.spans (f : Fmt) (n base pitch rows : Nat) : List (Nat × Nat) :=
  (List.range rows).flatMap (fun i => (f.rowSpans n).map (fun p => (base + i * pitch + p.1, p.2)))

/-- Natural stride in bytes (R161). -/
def Fmt.stride (f : Fmt) (n : Nat) : Nat := ceilDiv (f.rowBytes n) 64 * 64

/-! ### Decoding -/

/-- Bits `w * i` upward of packed bytes (R90, R93). -/
def packedElem (bs : List Byte) (w i : Nat) : Nat := field bs (w * i / 8) 3 / 2 ^ (w * i % 8) % 2 ^ w

/-- E8M0 (R92). -/
def e8m0 (x : Nat) : FV := if x = 255 then .nan else fvScale false 1 ((x : Int) - 127)

/-- UE5M3 in units of 2^-17 (R98). -/
def ue5m3Int (c : Nat) : Nat := if c / 8 = 0 then c % 8 else (8 + c % 8) * 2 ^ (c / 8 - 1)
def ue5m3 (c : Nat) : FV := if c = 255 then .nan else .fin false (ue5m3Int c) (2 ^ 17)

/-- INT values. -/
def decInt (w p : Nat) : FV := fvOfInt (toSigned w p)

/-- The 5 trits of a Mite byte as values -1, 0, +1; none for an invalid byte (R102). -/
def miteTrit (b i : Nat) : Option Int :=
  if 243 ≤ b then none
  else match b / 3 ^ i % 3 with
    | 0 => some 0
    | 1 => some 1
    | _ => some (-1)

/-- Element `i` of a row of `n` elements (R95, R99, R103, R160); `g` is the global scale. -/
def Fmt.elem (f : Fmt) (g : FV) (row : List Byte) (n i : Nat) : FV :=
  match f with
  | .fp ff => ff.decode (field row (i * (ff.width / 8)) (ff.width / 8))
  | .int8 => decInt 8 (field row i 1)
  | .int4 => decInt 4 (packedElem row 4 i)
  | .mx ff =>
    let b := i / 32
    let sc := e8m0 (field row (ceilDiv n 32 * f.mxBytes + b) 1)
    sc.mul (ff.decode (packedElem (row.drop (b * f.mxBytes)) ff.width (i % 32)))
  | .mxint8 =>
    let b := i / 32
    let sc := e8m0 (field row (ceilDiv n 32 * 32 + b) 1)
    sc.mul ((decInt 8 (field row i 1)).mul (.fin false 1 64))
  | .groat =>
    let b := row.drop (i / 64 * 34)
    let j := i % 64
    let k := field b 33 1 / 2 ^ (2 * (j / 16)) % 4
    g.mul ((ue5m3 (field b 32 1)).mul ((e2m1.decode (packedElem b 4 j)).mul (.fin false 1 (2 ^ k))))
  | .mite =>
    let b := row.drop (i / 80 * 18)
    let j := i % 80
    match miteTrit (field b (j / 5) 1) (j % 5) with
    | none => .nan
    | some t => g.mul ((bf16.decode (field b 16 2)).mul (fvOfInt t))

/-- Bytes of a row that feed element `i` (R180): its own bytes, and its block's scale or sub-shift bytes. -/
def Fmt.elemBytes (f : Fmt) (n i : Nat) : List Nat :=
  match f with
  | .mx _ | .mxint8 =>
    let b := i / 32
    let lo := b * f.mxBytes * 8 + f.bits * (i % 32)
    (List.range ((lo + f.bits - 1) / 8 - lo / 8 + 1)).map (lo / 8 + ·) ++ [ceilDiv n 32 * f.mxBytes + b]
  | .groat => [i / 64 * 34 + i % 64 / 2, i / 64 * 34 + 32, i / 64 * 34 + 33]
  | .mite => [i / 80 * 18 + i % 80 / 5, i / 80 * 18 + 16, i / 80 * 18 + 17]
  | .int4 => [i / 2]
  | _ => (List.range (f.bits / 8)).map (i * (f.bits / 8) + ·)

/-- Offsets in a row of the invalid Mite bytes among its first `n` elements (R102). -/
def miteBad (row : List Byte) (n : Nat) : List Nat :=
  ((List.range (ceilDiv n 5)).map (fun q => q / 16 * 18 + q % 16)).filter (fun o => decide (243 ≤ field row o 1))

/-! ### Encoding -/

/-- Pack codes of `w` bits, lowest first (R93). -/
def packBits (w : Nat) (cs : List Nat) : Nat := cs.foldr (fun c acc => c + acc * 2 ^ w) 0

/-- The largest finite binary32 value (R96 step 1). -/
def maxF32 : FV := f32.decode f32.maxPat

/-- R96 step 1: an infinite value is replaced and counted as saturated. -/
def deInf : FV → FV × Bool
  | .inf n => (if n then maxF32.neg else maxF32, true)
  | v => (v, false)

def maxMag (l : List FV) : FV := l.foldl (fun m v => if m.lt v.abs then v.abs else m) (fvZero false)

/-- An encoded block: its bytes (elements, then scale bytes apart) and a counter for each element. -/
structure Blk where
  elems : List Byte
  scale : List Byte
  cnts : List Cnt
  deriving DecidableEq, Repr

/-- floor(log2) of a positive value. -/
def FV.log2 : FV → Int
  | .fin _ a b => flog2 a b
  | _ => 0

/-- emax of an MX element (R91). -/
def Fmt.emax : Fmt → Int
  | .mx f => if f == e4m3 then 8 else if f == e5m2 then 15 else if f == e2m3 then 2 else if f == e3m2 then 4 else 2
  | _ => 0

/-- One element code of an MX block: code and whether it clamped. -/
def Fmt.mxElem (f : Fmt) (rm : Rm) (v : FV) : Nat × Bool :=
  match f, v with
  | .mx ff, .fin neg a b =>
    let p := ff.roundPat rm neg a b
    (ff.sign neg (min p ff.maxPat), decide (ff.maxPat < p))
  | _, .fin neg a b =>
    let m := roundMag rm neg (a * 64) b
    let m' := min m 127
    (if neg then (256 - m') % 256 else m', decide (127 < m))
  | _, _ => (0, false)

/-- R96: encode up to 32 values; the padding is +0 and is not counted (R120). (DEDUCED, log entry 55.) -/
def encMx (f : Fmt) (rm : Nat → Rm) (vals : List FV) : Blk :=
  let n := vals.length
  let vs := (vals ++ List.replicate (32 - n) (fvZero false)).map deInf
  let nb := f.mxBytes
  if vs.any (fun v => v.1.isNan) then ⟨List.replicate nb 0#8, [0xFF#8], List.replicate n .nan⟩
  else
    let amax := maxMag (vs.map (·.1))
    if amax.isZero then
      let codes := vs.map (fun v => match f with
        | .mx ff => ff.sign v.1.isNeg 0
        | _ => 0)
      ⟨natLe nb (packBits f.bits codes), [0#8], (vs.map (fun v => if v.2 then Cnt.sat else .ok)).take n⟩
    else
      let e0 := amax.log2 - f.emax
      let e := if e0 < -127 then -127 else if 127 < e0 then 127 else e0
      let q := fvScale false 1 (-e)
      let cs := vs.zipIdx.map (fun (v, i) =>
        let c := f.mxElem (rm i) (v.1.mul q)
        (c.1, if v.2 || (decide (127 < e0) && c.2) then Cnt.sat else .ok))
      ⟨natLe nb (packBits f.bits (cs.map (·.1))), [BitVec.ofInt 8 (e + 127)], (cs.map (·.2)).take n⟩

/-- Smallest UE5M3 code with 6 S >= amax, or 0xFE (R100 step 3). -/
def groatScale (amax : FV) : Nat :=
  match amax with
  | .fin _ a b => ((List.range 255).find? (fun c => decide (a * 2 ^ 17 ≤ 6 * ue5m3Int c * b))).getD 0xFE
  | _ => 0xFE

/-- Largest sub-shift 0 to 3 (R100 step 4). -/
def groatShift (s : Nat) (m : FV) : Nat :=
  match m with
  | .fin _ a b =>
    let ok := fun k => decide (a * 2 ^ 17 * 2 ^ k ≤ 6 * ue5m3Int s * b)
    if ok 3 then 3 else if ok 2 then 2 else if ok 1 then 1 else 0
  | _ => 0

/-- R100: encode up to 64 values with global scale g. (DEDUCED, log entry 55.) -/
def encGroat (g : FV) (rm : Nat → Rm) (vals : List FV) : Blk :=
  let n := vals.length
  let vs := (vals ++ List.replicate (64 - n) (fvZero false)).map (fun v => deInf (v.div g))
  if vs.any (fun v => v.1.isNan) then ⟨List.replicate 32 0#8 ++ [0xFF#8, 0#8], [], List.replicate n .nan⟩
  else
    let s := groatScale (maxMag (vs.map (·.1)))
    let ks := (List.range 4).map (fun j => groatShift s (maxMag (((vs.map (·.1)).drop (16 * j)).take 16)))
    let cs := vs.zipIdx.map (fun (v, i) =>
      let k := ks.getD (i / 16) 0
      match v.1 with
      | .fin neg a b =>
        let p := if ue5m3Int s = 0 then 0 else e2m1.roundPat (rm i) neg (a * 2 ^ 17 * 2 ^ k) (b * ue5m3Int s)
        (e2m1.sign neg (min p 7), if v.2 || (decide (7 < p) && s == 0xFE) then Cnt.sat else .ok)
      | _ => (0, .ok))
    ⟨natLe 32 (packBits 4 (cs.map (·.1))) ++ [BitVec.ofNat 8 s, BitVec.ofNat 8 (packBits 2 ks)], [],
      (cs.map (·.2)).take n⟩

/-- Mean of magnitudes of R105 step 3, in binary32. -/
def miteMean (vs : List FV) : FV :=
  let sum := vs.foldl (fun t v => f32.rv .rne (FV.add false t v.abs)) (fvZero false)
  f32.rv .rne (sum.div (.fin false 80 1))

/-- R105: encode up to 80 values with global scale g. (DEDUCED, log entry 55.) -/
def encMite (g : FV) (rm : Nat → Rm) (vals : List FV) : Blk :=
  let n := vals.length
  let vs := (vals ++ List.replicate (80 - n) (fvZero false)).map (fun v => deInf (v.div g))
  if vs.any (fun v => v.1.isNan) then ⟨List.replicate 16 0#8 ++ natLe 2 0x7FC0, [], List.replicate n .nan⟩
  else
    let mean := miteMean (vs.map (·.1))
    let ovr := match mean with
      | .inf _ => true
      | .fin _ a b => decide (bf16.maxPat < bf16.roundPat .rne false a b)
      | .nan => false
    let sp := if ovr then 0x7F7F else bf16.ieee .rne mean
    let s := bf16.decode sp
    let ts := vs.zipIdx.map (fun (v, i) =>
      if s.isZero then ((0 : Nat), v.2)
      else match v.1.div s with
        | .fin neg a b => (if roundMag (rm i) neg a b = 0 then 0 else if neg then 2 else 1, v.2)
        | _ => (0, v.2))
    let byte := fun j => (List.range 5).foldr (fun i acc => (ts.getD (5 * j + i) (0, false)).1 + 3 * acc) 0
    ⟨(List.range 16).map (fun j => BitVec.ofNat 8 (byte j)) ++ natLe 2 sp, [],
      (ts.map (fun t => if t.2 || (ovr && t.1 != 0) then Cnt.sat else .ok)).take n⟩

/-- Split a list in chunks of `k`. -/
def chunks {α : Type} (fuel k : Nat) (l : List α) : List (List α) :=
  match fuel, l with
  | 0, _ => []
  | _, [] => []
  | f + 1, l => l.take k :: chunks f k (l.drop k)

/-- Encode one row of values in a format, `rm i` rounding element i: bytes (unpadded) and a counter per element
(R112 to R120). `strict` is the mode. (DEDUCED, log entry 55.) -/
def Fmt.encRow (f : Fmt) (strict : Bool) (g : FV) (rm : Nat → Rm) (vals : List FV) : List Byte × List Cnt :=
  match f with
  | .fp ff =>
    let r := vals.zipIdx.map (fun (v, i) => ff.conv strict (rm i) v)
    (r.flatMap (fun p => natLe (ff.width / 8) p.1), r.map (·.2))
  | .int8 =>
    let r := vals.zipIdx.map (fun (v, i) => intConv 8 (rm i) v)
    (r.map (fun p => BitVec.ofInt 8 p.1), r.map (·.2))
  | .int4 =>
    let r := vals.zipIdx.map (fun (v, i) => intConv 4 (rm i) v)
    (natLe (ceilDiv vals.length 2) (packBits 4 (r.map (fun p => ofSigned 4 p.1))), r.map (·.2))
  | .mx _ | .mxint8 =>
    let bs := (chunks vals.length 32 vals).zipIdx.map (fun (c, j) => encMx f (fun i => rm (32 * j + i)) c)
    (bs.flatMap (·.elems) ++ bs.flatMap (·.scale), bs.flatMap (·.cnts))
  | .groat =>
    let bs := (chunks vals.length 64 vals).zipIdx.map (fun (c, j) => encGroat g (fun i => rm (64 * j + i)) c)
    (bs.flatMap (·.elems), bs.flatMap (·.cnts))
  | .mite =>
    let bs := (chunks vals.length 80 vals).zipIdx.map (fun (c, j) => encMite g (fun i => rm (80 * j + i)) c)
    (bs.flatMap (·.elems), bs.flatMap (·.cnts))

/-- A global scale that meets R106: sign 0, fraction 0, exponent field 1 to 254. -/
def gscaleOk (g : W32) : Bool := g.toNat % 2 ^ 23 == 0 && decide (1 ≤ g.toNat / 2 ^ 23 ∧ g.toNat / 2 ^ 23 ≤ 254)

def gscaleVal (g : W32) : FV := f32.decode g.toNat

/-- Groat and Mite carry a global scale (R106). -/
def Fmt.usesG : Fmt → Bool
  | .groat | .mite => true
  | _ => false

/-- Counters of R153 ovr a list. -/
def countCnt (c : Cnt) (l : List Cnt) : Nat := (l.filter (· == c)).length

end Sys2Proof.Machine
end

