-- ==== Sys2Proof/Machine/Dot.lean ====
section
/-! DEFINITION. The dot product, bit for bit (04_dot_product.md): operand classes, formed products, tally blocks,
running totals with their origin tag, strict sequences, output conversion, and the tile status word. -/

namespace Sys2Proof.Machine

/-- Classes of R126. -/
inductive PairClass where
  | ternary | bit4 | bit8 | bf16 | fp16 | fp32 | fp64
  deriving DecidableEq, Repr

def is4bit (c : Nat) : Bool := c == 0xE || c == 0xA || c == 0xD
def is8bit (c : Nat) : Bool :=
  c == 0x4 || c == 0x5 || c == 0x6 || c == 0x7 || c == 0x8 || c == 0x9 || c == 0xB || c == 0xC
/-- Partners of Mite (R104, R126). -/
def miteMate (c : Nat) : Bool := c == 0xC || c == 0x4 || c == 0x5 || c == 0x6 || c == 0x7

/-- The class of a pair of format codes, if it is one of R126. -/
def pairClass (a b : Nat) : Option PairClass :=
  if a = 0xF ∨ b = 0xF then
    (if (a = 0xF && miteMate b) || (b = 0xF && miteMate a) then some .ternary else none)
  else if is4bit a && is4bit b then some .bit4
  else if (is4bit a || is8bit a) && (is4bit b || is8bit b) then some .bit8
  else if a = b then
    (match a with
     | 0x0 => some .fp64
     | 0x1 => some .fp32
     | 0x2 => some .bf16
     | 0x3 => some .fp16
     | _ => none)
  else none

/-- Destinations of R146. -/
def destOk (c : PairClass) (d : Nat) : Bool :=
  match c with
  | .fp64 => d == 0x0 || d == 0x1
  | _ => d != 0x0 && d != 0xE && d != 0xF

/-- Steps per K position as a fraction (R127). Mode 0 fast, 1 full, 2 strict. -/
def stepsPerK (c : PairClass) (mode : Nat) : Nat × Nat :=
  let f : Nat × Nat := match c with
    | .ternary => (1, 4)
    | .bit4 => (1, 2)
    | .bit8 => (1, 1)
    | .bf16 => (2, 1)
    | .fp16 => (4, 1)
    | .fp32 => (9, 1)
    | .fp64 => if mode = 0 then (28, 1) else (49, 1)
  if mode = 2 then (16 * f.1, f.2) else f

/-- R128. -/
def orderSteps (c : PairClass) (mode k : Nat) : Nat :=
  let f := stepsPerK c mode
  ceilDiv (k * f.1) f.2

/-! ### Limbs (R130 to R132) -/

/-- Significand and exponent of a binary64 pattern: |value| = m * 2^e. -/
def sig64 (p : Nat) : Nat × Int :=
  let e := bits p 62 52
  if e = 0 then (p % 2 ^ 52, -1074) else (2 ^ 52 + p % 2 ^ 52, (e : Int) - 1075)

/-- Limb i of a binary64 significand: limb 0 is m[52:48]. -/
def limb64 (m i : Nat) : Nat := m / 2 ^ (48 - 8 * i) % 256

/-- The sum of the 28 limb products with i + j <= 6 (R132). -/
def formed64 (ma mb : Nat) : Nat :=
  (List.range 7).foldl (fun acc i => (List.range (7 - i)).foldl (fun acc j =>
    acc + limb64 ma i * limb64 mb j * 2 ^ (96 - 8 * (i + j))) acc) 0

/-- FP64 fast product of two patterns (R129, R132). -/
def prod64Fast (a b : Nat) : FV :=
  match (f64.decode a).mul (f64.decode b) with
  | .fin n x y =>
    if x = 0 then .fin n x y
    else
      let sa := sig64 a
      let sb := sig64 b
      fvScale n (formed64 sa.1 sb.1) (sa.2 + sb.2)
  | v => v

/-! ### Tally blocks (R133 to R141) -/

/-- floor(p * 2^(121 - A)) of a finite product (R134). -/
def ledgerTerm (a : Int) (p : FV) : Int :=
  match p with
  | .fin n x y =>
    let sh := 121 - a
    let v : Int := if 0 ≤ sh then ((x * 2 ^ sh.toNat : Nat) : Int) else (x : Int)
    let d : Int := if 0 ≤ sh then (y : Int) else ((y * 2 ^ (-sh).toNat : Nat) : Int)
    (if n then -v else v) / d
  | _ => 0

/-- Block sum (R134, R136, R140 steps 1 to 3). -/
def blockSum (ps : List FV) : FV :=
  if ps.any FV.isNan then .nan
  else if ps.any (fun p => p == .inf false) && ps.any (fun p => p == .inf true) then .nan
  else if ps.any (fun p => p == .inf false) then .inf false
  else if ps.any (fun p => p == .inf true) then .inf true
  else
    let nz := ps.filter (fun p => !p.isZero)
    match nz with
    | [] => fvZero (ps.all FV.isNeg)
    | z :: zs =>
      let a := zs.foldl (fun m p => max m p.log2) z.log2
      let l := ps.foldl (fun l p => l + ledgerTerm a p) (0 : Int)
      if l = 0 then fvZero false else fvScale (decide (l < 0)) l.natAbs (a - 121)

/-- A running total and its origin tag (R137, R139). -/
abbrev Tot := FV × Bool

/-- add_rne of R141: every infinite block sum is untagged. -/
def addRne (tf : FFmt) (t : Tot) (x : FV) : Tot :=
  match t.1, x with
  | .nan, _ => (.nan, false)
  | _, .nan => (.nan, false)
  | .inf n, .inf m => if n = m then (.inf n, false) else (.nan, false)
  | _, .inf m => (.inf m, false)
  | .inf n, _ => (.inf n, t.2)
  | _, _ =>
    match FV.add false t.1 x with
    | .fin n a b =>
      let p := tf.roundPat .rne n a b
      if tf.maxPat < p then (.inf n, true) else (tf.decode (tf.sign n p), false)
    | v => (v, false)

/-- The element in fast and full modes (R141). -/
def dotTally (tf : FFmt) (t0 : Tot) (ps : List FV) : Tot :=
  (chunks ps.length 32 ps).foldl (fun t c => addRne tf t (blockSum c)) t0

/-- Strict mode (R148): T and whether some operation overflowed to a finite value (R149). -/
def dotStrict (wf : FFmt) (rm : Rm) (t0 : FV) (ab : List (FV × FV)) : FV × Bool :=
  ab.foldl (fun t p =>
    let r := wf.conv true rm (FV.fma (rm == .rdn) p.1 p.2 t.1)
    (wf.decode r.1, t.2 || r.2 == .sat)) (t0, false)

/-- Working format of strict mode (R148). -/
def strictFmt (c : PairClass) (d : Nat) : FFmt :=
  match fmtOf d with
  | .fp f => f
  | _ => if c = .fp64 then f64 else f32

/-! ### Output (R145, R149 to R153) -/

/-- What an element leaves beside its bytes: its counter, and NaN or infinity for the status word (R150). -/
structure ElemOut where
  cnt : Cnt
  flagNan : Bool
  flagInf : Bool
  deriving DecidableEq, Repr

def ElemOut.flagged (e : ElemOut) : Bool := e.flagNan || e.flagInf

/-- Output row in fast or full mode: bytes and outcomes (R145, R150). A tagged infinity is given to the conversion as
an untagged one of a format without infinity would be: largest finite value, counted as saturated unless its block is NaN (R118). -/
def outRow (d : Fmt) (rm : Nat → Rm) (ts : List Tot) : List Byte × List ElemOut :=
  let vals := ts.map (fun t => match t.1, t.2 with
    | .inf n, true => (match d with
      | .fp f => if f.hasInf then f.decode (f.sign n f.maxPat) else .inf n
      | _ => .inf n)
    | v, _ => v)
  let r := d.encRow false (.fin false 1 1) rm vals
  (r.1, (ts.zip r.2).map (fun (t, c) =>
    let c := match t.1, t.2, c with
      | .inf _, true, .nan => Cnt.nan
      | .inf _, true, _ => Cnt.sat
      | _, _, c => c
    ⟨c, t.1.isNan, t.1.isInf && !t.2⟩))

/-- Output row in strict mode (R149): `ovf` tells an operation that overflowed to a finite value. -/
def outRowStrict (d : Fmt) (rm : Rm) (ts : List (FV × Bool)) : List Byte × List ElemOut :=
  let r := d.encRow true (.fin false 1 1) (fun _ => rm) (ts.map (·.1))
  (r.1, (ts.zip r.2).map (fun (t, c) =>
    let c := if c == .nan || c == .inf then c else if t.2 then Cnt.sat else c
    ⟨c, t.1.isNan, t.1.isInf⟩))

/-- Tile status word (R151): flags with their row-major index, and ANY_TAG. -/
def statusWord (fl : List (Nat × ElemOut)) (anyTag : Bool) : W32 :=
  let fs := fl.filter (fun e => e.2.flagged)
  match fs with
  | [] => BitVec.ofNat 32 (8 * b2n anyTag)
  | (i, f) :: _ =>
    BitVec.ofNat 32 (1 + 2 * b2n (fs.any (fun e => e.2.flagNan)) +
      4 * b2n (fs.any (fun e => e.2.flagInf)) + 8 * b2n anyTag + 16 * (i % 512) + 8192 * b2n f.flagNan)

end Sys2Proof.Machine
end

