-- ==== Sys2Proof/Machine/Orders.lean ====
section
/-! DEFINITION. Array orders (R157 to R166): fields, malformed orders, the ranges of R159, and what a tile computes. -/

namespace Sys2Proof.Machine

/-! ### Contexts (R165) -/

/-- CSR number of field `k` of context slot `c` (R187). -/
def slotCsr (c k : Nat) : Nat := 0x100 + 0x10 * c + k

/-- The values an order or transfer takes from slot `c` when it is issued (R165). (DEDUCED, log entry 60.) -/
def State.ctx (s : State) (core c : Nat) : Ctx :=
  { slot := c
    seed := s.csr core (slotCsr c 0)
    tensorId := (s.csr core (slotCsr c 1)).setWidth 24
    elemBase := (s.csr core (slotCsr c 2)).setWidth 40
    rowStride := (s.csr core (slotCsr c 3)).setWidth 40
    gA := (s.csr core (slotCsr c 4)).setWidth 32
    gB := (s.csr core (slotCsr c 5)).setWidth 32
    gD := (s.csr core (slotCsr c 6)).setWidth 32
    causal := toSigned 32 (s.csr core 0x013).toNat }

/-- Element index of R165. -/
def Ctx.elem (x : Ctx) (i j : Nat) : Nat := (x.elemBase.toNat + i * x.rowStride.toNat + j) % 2 ^ 40

def Ctx.draw (x : Ctx) (i j : Nat) : Nat := stoDraw x.seed x.tensorId (x.elem i j)

/-- The rounding of element (i, j) of a destination (R109). -/
def Ctx.rm (x : Ctx) (code : Nat) (strict narrow : Bool) (i j : Nat) : Rm :=
  if !strict && code == 1 && narrow then .sto (x.draw i j) else rmOf code strict narrow 0

/-- An empty context. -/
def ctx0 : Ctx := ⟨0, 0, 0, 0, 0, 0, 0, 0, 0⟩

/-! ### Fields (R162) -/

structure ArrF where
  op : Nat
  af : Nat
  bf : Nat
  df : Nat
  mode : Nat
  rnd : Nat
  acc : Nat
  carry : Bool
  ctx : Nat
  m : Nat
  n : Nat
  k : Nat
  aAddr : Nat
  bAddr : Nat
  cAddr : Nat
  dAddr : Nat
  tag : Nat
  engine : Nat
  notify : Bool
  dstride : Nat
  res : Bool
  deriving DecidableEq, Repr

def arrF (w : Nat) : ArrF :=
  { op := bits w 3 0, af := bits w 7 4, bf := bits w 11 8, df := bits w 15 12
    mode := if bits w 17 16 = 3 then 0 else bits w 17 16
    rnd := bits w 20 18, acc := bits w 22 21, carry := bit w 23, ctx := bits w 25 24
    m := bits w 29 26 + 1, n := bits w 34 30 + 1, k := bits w 50 35 + 1
    aAddr := bits w 62 51, bAddr := bits w 74 63, cAddr := bits w 86 75, dAddr := bits w 98 87
    tag := bits w 114 99, engine := bits w 119 115, notify := bit w 120
    dstride := bits w 126 121, res := bit w 127 }

/-- The 128 bits of an order. -/
def Order.word (o : Order) : Nat := o.w0.toNat + o.w1.toNat * 2 ^ 64

/-- Features of word 0 that formats need (R436). -/
def State.feature (s : State) (i : Nat) : Bool := bit (s.rd F.GLB_FEATURES_AGREED 0 0) i

/-- A format the agreed set leaves usable in a pair (R436). -/
def State.fmtAgreed (s : State) (code : Nat) : Bool :=
  if code = 0xF then s.feature 2 else if code = 0xE then s.feature 3
  else if (fmtOf code).isMx then s.feature 4 else true

/-- The class of an order's operands, when they form a pair. -/
def State.arrClass (s : State) (f : ArrF) : Option PairClass :=
  if s.fmtAgreed f.af && s.fmtAgreed f.bf then pairClass f.af f.bf else none

/-- Format codes written to D and read from C (R143, R161, R162). -/
def wideCode (c : PairClass) : Nat := if c = .fp64 then 0 else 1
def ArrF.dCode (f : ArrF) (c : PairClass) : Nat := if f.carry then wideCode c else f.df
def ArrF.cCode (f : ArrF) (c : PairClass) : Nat := if f.acc = 3 then f.df else wideCode c

/-- Row strides of D and C in bytes (R161). -/
def ArrF.dPitch (f : ArrF) (c : PairClass) : Nat :=
  if f.dstride = 0 then (fmtOf (f.dCode c)).stride f.n else f.dstride * 64
def ArrF.cPitch (f : ArrF) (c : PairClass) : Nat :=
  if f.dstride = 0 then (fmtOf (f.cCode c)).stride f.n else f.dstride * 64
/-- Where a tile's last row ends: its tag map follows there (R161). -/
def ArrF.dEnd (f : ArrF) (c : PairClass) : Nat := f.dAddr * 64 + (f.m - 1) * f.dPitch c + (fmtOf (f.dCode c)).stride f.n
def ArrF.cEnd (f : ArrF) (c : PairClass) : Nat := f.cAddr * 64 + (f.m - 1) * f.cPitch c + (fmtOf (f.cCode c)).stride f.n
def ArrF.aPitch (f : ArrF) : Nat := (fmtOf f.af).stride f.k
def ArrF.bPitch (f : ArrF) : Nat := (fmtOf f.bf).stride f.k

/-- A byte range of a store: 0 to 31 the tile store of an engine of the core, 32 the core store. -/
structure Rng where
  store : Nat
  lo : Nat
  hi : Nat
  wr : Bool
  deriving DecidableEq, Repr

def Rng.overlaps (x y : Rng) : Bool := x.store == y.store && decide (x.lo < y.hi ∧ y.lo < x.hi)

/-- Two accesses that R159 keeps in issue order. -/
def Rng.clash (x y : Rng) : Bool := x.overlaps y && (x.wr || y.wr)

def ArrF.rngA (f : ArrF) : Rng := ⟨f.engine, f.aAddr * 64, f.aAddr * 64 + f.m * f.aPitch, false⟩
def ArrF.rngB (f : ArrF) : Rng := ⟨f.engine, f.bAddr * 64, f.bAddr * 64 + f.n * f.bPitch, false⟩
def ArrF.rngD (f : ArrF) (c : PairClass) : Rng :=
  ⟨f.engine, f.dAddr * 64, f.dEnd c + 64 * b2n f.carry, true⟩
def ArrF.rngC (f : ArrF) (c : PairClass) : Rng :=
  ⟨f.engine, f.cAddr * 64, f.cEnd c + 64 * b2n (f.acc == 1), false⟩

def ArrF.ranges (f : ArrF) (c : PairClass) : List Rng :=
  [f.rngA, f.rngB, f.rngD c] ++ (if f.acc = 0 then [] else [f.rngC c])

/-- The reason of R164 for an array order, or 0: 0x07 first, then the lowest. -/
def State.arrReason (s : State) (core : Nat) (f : ArrF) (x : Ctx) : Nat :=
  if !s.engPresent core f.engine || s.engFenced core f.engine then 0x07
  else if f.op ≠ 1 || f.res then 0x01
  else match s.arrClass f with
    | none => 0x02
    | some c =>
      if !f.carry && !destOk c f.df then 0x02
      else
        let d := f.rngD c
        let cc := f.rngC c
        if (f.ranges c).any (fun r => decide (262144 < r.hi)) then 0x03
        else if d.overlaps f.rngA || d.overlaps f.rngB ||
          (f.acc != 0 && d.overlaps cc && !(d.lo == cc.lo && d.hi == cc.hi)) then 0x04
        else if f.acc = 3 && (c == .fp64 || (f.df != 2 && f.df != 3)) then 0x05
        else if f.mode = 2 && (f.acc == 1 || f.carry) then 0x06
        else if ((fmtOf f.af).usesG && !gscaleOk x.gA) || ((fmtOf f.bf).usesG && !gscaleOk x.gB) then 0x08
        else 0

/-! ### The tile -/

/-- What an order delivers when it completes: its result, bytes, and capture (R240). -/
structure OrdOut where
  res : Result
  writes : List Wr
  amax : W32
  capSat : Bool
  capNonfin : Bool
  deriving DecidableEq, Repr

def OrdOut.none (r : Result) : OrdOut := ⟨r, [], 0, false, false⟩

/-- Magnitude rounded toward +infinity to binary32 (R240); NaN and infinities capture nothing. -/
def capMag (v : FV) : Nat :=
  match v with
  | .fin _ a b => if f32.maxPat < f32.roundPat .rup false a b then f32.infPat else f32.roundPat .rup false a b
  | _ => 0

/-- Result of an order from its elements: counters (R153), status word over frame or region indices, DONE or
DONE_FLAGGED (R154). -/
def mkResult (els : List (Nat × ElemOut)) (anyTag : Bool) (steps : Nat) : Result :=
  let cs := els.map (fun e => e.2.cnt)
  let fl := els.filter (fun e => e.2.flagged)
  let sat := countCnt .sat cs
  let flush := countCnt .flush cs
  let nan := countCnt .nan cs
  let inf := countCnt .inf cs
  let m := 2 ^ 32 - 1
  { status := if fl.isEmpty && sat + flush + nan + inf == 0 then 0 else 1
    word := statusWord els anyTag
    sat := min sat m, flush := min flush m, nan := min nan m, inf := min inf m
    steps := steps
    first := BitVec.ofNat 32 ((fl.map (·.1)).headD 0) }

/-- Products of one element in K order (R129, R132). -/
def products (c : PairClass) (mode : Nat) (arow brow : List Byte) (av bv : List FV) (k : Nat) : List FV :=
  if c = .fp64 && mode == 0 then
    (List.range k).map (fun i => prod64Fast (field arow (8 * i) 8) (field brow (8 * i) 8))
  else (av.zip bv).map (fun p => p.1.mul p.2)

/-- Decoded elements of an operand row. -/
def rowVals (f : Fmt) (g : FV) (row : List Byte) (k : Nat) : List FV := (List.range k).map (f.elem g row k)

/-- One row of D: the bytes and its elements' outcomes; with carry form, the totals and tags. -/
structure RowOut where
  bytes : List Byte
  els : List ElemOut
  tags : List Bool
  vals : List FV
  deriving DecidableEq, Repr

/-- Row i of the tile from decoded operands (R141 to R149). `cv` are the accumulate inputs with their tags. -/
def tileRow (f : ArrF) (c : PairClass) (x : Ctx) (i : Nat) (arow : List Byte) (brows : List (List Byte))
    (av : List FV) (bvs : List (List FV)) (cv : List Tot) : RowOut :=
  let tf := if c = .fp64 then f64 else f32
  let d := fmtOf (f.dCode c)
  if f.mode = 2 then
    let wf := strictFmt c f.df
    let rm := rmOf f.rnd true false 0
    let ts := (List.range f.n).map (fun j =>
      let t0 := match cv[j]? with | some t => wf.rv rm t.1 | none => fvZero true
      dotStrict wf rm t0 (av.zip (bvs.getD j [])))
    let r := outRowStrict d rm ts
    ⟨r.1, r.2, [], ts.map (·.1)⟩
  else
    let ts := (List.range f.n).map (fun j =>
      let t0 := (cv[j]?).getD (fvZero true, false)
      dotTally tf t0 (products c f.mode arow (brows.getD j []) av (bvs.getD j []) f.k))
    if f.carry then
      ⟨ts.flatMap (fun t => natLe (tf.width / 8) (tf.ieee .rne t.1)), ts.map (fun _ => ⟨.ok, false, false⟩),
        ts.map (fun t => t.2 && t.1.isInf), ts.map (·.1)⟩
    else
      let r := outRow d (x.rm f.rnd false d.narrow i) ts
      ⟨r.1, r.2, [], ts.map (·.1)⟩

/-- What an array order computes from the tile store as it stands (R141 to R154). -/
def State.arrCompute (s : State) (core : Nat) (f : ArrF) (c : PairClass) (x : Ctx) : OrdOut :=
  let e := core * 32 + f.engine
  let a := fmtOf f.af
  let b := fmtOf f.bf
  let arows := (List.range f.m).map (fun i => s.tsRead e (f.aAddr * 64 + i * f.aPitch) (a.rowBytes f.k))
  let brows := (List.range f.n).map (fun j => s.tsRead e (f.bAddr * 64 + j * f.bPitch) (b.rowBytes f.k))
  let avs := arows.map (fun r => rowVals a (gscaleVal x.gA) r f.k)
  let bvs := brows.map (fun r => rowVals b (gscaleVal x.gB) r f.k)
  let cf := fmtOf (f.cCode c)
  let tagMap := leNat (s.tsRead e (f.cEnd c) 64)
  let cvals := fun i => if f.acc = 0 then []
    else
      let row := s.tsRead e (f.cAddr * 64 + i * f.cPitch c) (cf.rowBytes f.n)
      (List.range f.n).map (fun j =>
        let v := cf.elem (fvZero false) row f.n j
        (v, f.acc == 1 && v.isInf && bit tagMap (i * 32 + j)))
  let rows := (List.range f.m).map (fun i =>
    tileRow f c x i (arows.getD i []) brows (avs.getD i []) bvs (cvals i))
  let els := (rows.zipIdx.flatMap (fun (r, i) => r.els.zipIdx.map (fun (o, j) => (i * 32 + j, o))))
  let steps := orderSteps c f.mode f.k
  let base := f.dAddr * 64
  let wr := rows.zipIdx.map (fun (r, i) => (⟨0, tsKey e (base + i * f.dPitch c), r.bytes, []⟩ : Wr))
  if f.carry then
    let tmap : Nat := rows.zipIdx.foldl (fun acc (r, i) =>
      r.tags.zipIdx.foldl (fun acc (t, j) => acc + b2n t * 2 ^ (i * 32 + j)) acc) 0
    ⟨mkResult els (decide (tmap ≠ 0)) steps, wr ++ [⟨0, tsKey e (f.dEnd c), natLe 64 tmap, []⟩],
      0, false, false⟩
  else
    let amax := rows.foldl (fun m r => r.vals.foldl (fun m v => max m (capMag v)) m) 0
    ⟨mkResult els false steps, wr, BitVec.ofNat 32 amax, els.any (fun e => e.2.cnt == .sat),
      els.any (fun e => e.2.cnt == .nan || e.2.cnt == .inf)⟩

/-- The byte spans an order reads, row by row (R160, R161). -/
def ArrF.reads (f : ArrF) (c : PairClass) : List (Nat × Nat) :=
  (fmtOf f.af).spans f.k (f.aAddr * 64) f.aPitch f.m ++ (fmtOf f.bf).spans f.k (f.bAddr * 64) f.bPitch f.n ++
  (if f.acc = 0 then [] else
    (fmtOf (f.cCode c)).spans f.n (f.cAddr * 64) (f.cPitch c) f.m ++ (if f.acc = 1 then [(f.cEnd c, 64)] else []))

/-- Invalid Mite bytes of the operands (R102): code 0x2102 for each, with its place and value (R125). -/
def State.noteMite (s : State) (core : Nat) (f : ArrF) : State :=
  let e := core * 32 + f.engine
  let scan := fun (s : State) (base pitch rows : Nat) =>
    (List.range rows).foldl (fun s i =>
      let row := s.tsRead e (base + i * pitch) ((Fmt.mite).rowBytes f.k)
      (miteBad row f.k).foldl (fun s o => s.note 0x2102 e (base + i * pitch + o) (field row o 1)) s) s
  let s := if f.af = 0xF then scan s (f.aAddr * 64) f.aPitch f.m else s
  if f.bf = 0xF then scan s (f.bAddr * 64) f.bPitch f.n else s

end Sys2Proof.Machine
end

