-- ==== Sys2Proof/Machine/Loader.lean ====
section
/-! DEFINITION. Loader descriptors and transfers (R176 to R180): fields, malformed descriptors, the ranges of R159, and
what a transfer moves and converts. -/

namespace Sys2Proof.Machine

structure LdF where
  lop : Nat
  sf : Nat
  df : Nat
  rnd : Nat
  ctx : Nat
  rows : Nat
  cols : Nat
  loc : Bool
  tag : Nat
  vaddr : Nat
  stride : Nat
  laddr : Nat
  dir : Bool
  engmask : Nat
  res : Bool
  deriving DecidableEq, Repr

/-- The four words of a descriptor (R176). -/
def ldF (w0 w1 w2 w3 : Nat) : LdF :=
  { lop := bits w0 3 0, sf := bits w0 7 4, df := bits w0 11 8
    rnd := if bits w0 14 12 = 1 then 1 else 0
    ctx := bits w0 16 15, rows := bits w0 30 17 + 1, cols := bits w0 46 31 + 1, loc := bit w0 47, tag := bits w0 63 48
    vaddr := bits w1 47 0, stride := bits w2 39 0, laddr := bits w3 14 0, dir := bit w3 15, engmask := bits w3 63 32
    res := decide (bits w1 63 48 ≠ 0 ∨ bits w2 63 40 ≠ 0 ∨ bits w3 31 16 ≠ 0) }

def Order.ldF (o : Order) : LdF := Machine.ldF o.w0.toNat o.w1.toNat o.w2.toNat o.w3.toNat

/-- From the local store to the fast tier (R176, R177). -/
def LdF.out (f : LdF) : Bool := f.lop == 1 || ((f.lop == 3 || f.lop == 4 || f.lop == 5) && f.dir)

/-- The destination has rows and columns exchanged. -/
def LdF.turned (f : LdF) : Bool := f.lop == 2 || f.lop == 3

def LdF.converts (f : LdF) : Bool := f.lop == 3 || f.lop == 4 || f.lop == 5

def LdF.srcFmt (f : LdF) : Fmt := fmtOf f.sf
def LdF.dstFmt (f : LdF) : Fmt := if f.converts then fmtOf f.df else fmtOf f.sf
def LdF.dstRows (f : LdF) : Nat := if f.turned then f.cols else f.rows
def LdF.dstCols (f : LdF) : Nat := if f.turned then f.rows else f.cols
def LdF.srcBytes (f : LdF) : Nat := f.srcFmt.rowBytes f.cols
def LdF.dstBytes (f : LdF) : Nat := f.dstFmt.rowBytes f.dstCols

/-- Rows and pitch of the local side (R160). -/
def LdF.localRows (f : LdF) : Nat := if f.out then f.rows else f.dstRows
def LdF.localPitch (f : LdF) : Nat := ceilDiv (if f.out then f.srcBytes else f.dstBytes) 64 * 64

/-- Engines named in ENGMASK. -/
def LdF.engines (f : LdF) : List Nat := (List.range 32).filter (bit f.engmask)

/-- The lowest engine named, or 0 (R166). -/
def LdF.firstEngine (f : LdF) : Nat := if f.loc then 0 else f.engines.headD 0

def LdF.ranges (f : LdF) : List Rng :=
  let lo := f.laddr * 64
  let hi := lo + f.localRows * f.localPitch
  (if f.loc then [32] else f.engines).map (fun st => ⟨st, lo, hi, !f.out⟩)

/-- The reason of R164 for a transfer, or 0: 0x07 first, then the lowest. DIR 1 where it must be 0 is 0x01. (DEDUCED, log entry 56; DESIGN CHOICE, log entry 92.) -/
def State.ldReason (s : State) (core : Nat) (f : LdF) (x : Ctx) : Nat :=
  let one := decide (f.engines.length = 1)
  let e := f.firstEngine
  if f.out && !f.loc && one && (!s.engPresent core e || s.engFenced core e) then 0x07
  else if 5 < f.lop || f.res || (f.dir && !f.converts) then 0x01
  else if (f.lop == 2 && f.srcFmt.isBlock) || (f.lop == 3 && !(f.srcFmt.isBlock && f.dstFmt.isBlock)) ||
    (f.lop == 4 && 2 < f.df) then 0x02
  else if (if f.loc then 2097152 else 262144) < f.laddr * 64 + f.localRows * f.localPitch then 0x03
  else if f.converts && ((f.srcFmt.usesG && !gscaleOk x.gA) || (f.dstFmt.usesG && !gscaleOk x.gD)) then 0x08
  else if f.out && !f.loc && !one then 0x0A
  else 0

/-- Bytes per step-time of an operation (R177). -/
def LdF.rate (f : LdF) : Nat :=
  match f.lop with
  | 3 => 32
  | 4 | 5 => 64
  | 2 => if f.sf = 0xD then 64 else 128
  | _ => 128

/-- Steps of a transfer's record: its bytes at its rate, without the first access of R177. (DESIGN CHOICE, log entry 92.) -/
def LdF.steps (f : LdF) : Nat := ceilDiv (max (f.rows * f.srcBytes) (f.dstRows * f.dstBytes)) f.rate

/-- One source row: bytes and which of them lie in poisoned words. -/
abbrev LRow := List Byte × List Bool

/-- Source element (i, j) is poisoned (R180). -/
def LdF.elemPois (f : LdF) (row : LRow) (j : Nat) : Bool :=
  (f.srcFmt.elemBytes f.cols j).any (fun b => row.2.getD b false)

/-- One destination row: bytes, offsets of bytes in poisoned words, outcomes of the elements that count. -/
structure LOut where
  bytes : List Byte
  pois : List Nat
  els : List (Nat × ElemOut)
  amax : Nat
  deriving DecidableEq, Repr

/-- Bytes of a destination row whose words a poisoned element makes poisoned: the element's, and its whole block's. -/
def Fmt.spanBytes (f : Fmt) (n j : Nat) : List Nat :=
  if f.isBlock then
    (List.range f.block).flatMap (fun i => f.elemBytes n (j / f.block * f.block + i))
  else f.elemBytes n j

/-- Encode one destination row from its values; `ps` tells the poisoned ones, `r` its number. (DEDUCED, log entry 55.) -/
def LdF.encode (f : LdF) (x : Ctx) (r : Nat) (vals : List FV) (ps : List Bool) : LOut :=
  let d := f.dstFmt
  let vs := (vals.zip ps).map (fun p => if p.2 then fvZero false else p.1)
  let e := d.encRow false (gscaleVal x.gD) (x.rm f.rnd false d.narrow r) vs
  let n := f.dstCols
  ⟨e.1, (ps.zipIdx.filter (·.1)).flatMap (fun p => d.spanBytes n p.2),
    (((vs.zip e.2).zip ps).zipIdx.filter (fun q => !q.1.2)).map (fun q =>
      (r * n + q.2, ⟨q.1.1.2, q.1.1.1.isNan, q.1.1.1.isInf⟩)),
    ((vs.zip ps).filter (fun p => !p.2)).foldl (fun m p => max m (capMag p.1)) 0⟩

/-- Element codes of a row without conversion. -/
def LdF.code (f : LdF) (row : List Byte) (j : Nat) : Nat :=
  if f.srcFmt.bits < 8 then packedElem row f.srcFmt.bits j
  else field row (j * (f.srcFmt.bits / 8)) (f.srcFmt.bits / 8)

/-- Destination rows of a transfer from its source rows (R177 to R180). -/
def LdF.dest (f : LdF) (x : Ctx) (src : List LRow) : List LOut :=
  if f.lop < 2 then
    src.map (fun r => ⟨r.1, (r.2.zipIdx.filter (·.1)).map (·.2), [], 0⟩)
  else if f.lop = 2 then
    let w := f.srcFmt.bits
    (List.range f.cols).map (fun j =>
      let codes := src.map (fun r => f.code r.1 j)
      ⟨natLe f.dstBytes (packBits w codes),
        (src.zipIdx.filter (fun p => f.elemPois p.1 j)).flatMap (fun p => f.srcFmt.elemBytes f.rows p.2), [], 0⟩)
  else
    let vals := src.map (fun r => rowVals f.srcFmt (gscaleVal x.gA) r.1 f.cols)
    let ps := src.map (fun r => (List.range f.cols).map (f.elemPois r))
    if f.lop = 3 then
      (List.range f.cols).map (fun j =>
        f.encode x j (vals.map (fun v => v.getD j (fvZero false))) (ps.map (fun p => p.getD j false)))
    else (vals.zip ps).zipIdx.map (fun (p, i) => f.encode x i p.1 p.2)

/-- Offset of the fast-tier row `i`. -/
def LdF.rowVa (f : LdF) (i : Nat) : Nat := (f.vaddr + i * f.stride) % 2 ^ 48

/-- Result of a transfer that moved its rows: `st` what the memory side contributed. -/
def LdF.result (f : LdF) (outs : List LOut) (st : Nat) : Result :=
  let r := mkResult (outs.flatMap (·.els)) false f.steps
  if st = 0 then r else noResult st 0 f.steps

/-- Capture of CONVERT and REBLOCK (R240). -/
def LdF.capture (f : LdF) (outs : List LOut) : W32 × Bool × Bool :=
  if f.lop = 3 ∨ f.lop = 5 then
    let els := outs.flatMap (·.els)
    (BitVec.ofNat 32 (outs.foldl (fun m o => max m o.amax) 0), els.any (fun e => e.2.cnt == .sat),
      els.any (fun e => e.2.cnt == .nan || e.2.cnt == .inf))
  else (0, false, false)

/-- Invalid Mite bytes of a source (R102, R125): code 0x2102 for each that is not poisoned. The place of a byte in a local
store, which has no account virtual address, is its offset there. (DESIGN CHOICE, log entry 91.) -/
def State.noteMiteLd (s : State) (core : Nat) (f : LdF) (src : List LRow) : State :=
  if f.sf = 0xF && f.converts then
    src.zipIdx.foldl (fun s (r, i) => ((miteBad r.1 f.cols).filter (fun o => !r.2.getD o false)).foldl (fun s o =>
      let a := if f.out then f.laddr * 64 + i * f.localPitch + o else f.rowVa i + o
      s.note 0x2102 (2 ^ 31 + core) (a % 2 ^ 32) (field r.1 o 1 + a / 2 ^ 32 % 65536 * 65536)) s) s
  else s

/-- A transfer into the local store, as it reads the fast tier: what it will deliver, and the words it found
uncorrectable. (DEDUCED, log entry 56.) -/
def State.ldIn (s : State) (core : Nat) (f : LdF) (x : Ctx) (bad : List Nat) : OrdOut × List Nat × List LRow :=
  let acct := s.coreAcct core
  let rds := (List.range f.rows).map (fun i => s.accRead bad acct (f.rowVa i) f.srcBytes)
  let fresh := rds.flatMap (·.fresh)
  let good := rds.takeWhile (fun r => r.fault.isNone)
  let faulted := decide (good.length < rds.length)
  let src := good.map (fun r => ((r.bytes, r.pois) : LRow))
  let used := if faulted && f.turned then [] else src
  let outs := if faulted && f.turned then [] else f.dest x used
  let cap := f.capture outs
  let st := if faulted then 0x04 else firstStatus (good.map RdRes.status)
  let res := if faulted then noResult 0x04 0x09 f.steps else f.result outs st
  let targets := if f.loc then [(1, csKey core 0)]
    else (f.engines.filter (fun e => s.engPresent core e && !s.engFenced core e)).map (fun e => (0, tsKey (core * 32 + e) 0))
  let wr := targets.flatMap (fun t => outs.zipIdx.map (fun (o, i) =>
    (⟨t.1, t.2 + f.laddr * 64 + i * f.localPitch, o.bytes, o.pois⟩ : Wr)))
  (⟨res, wr, cap.1, cap.2.1, cap.2.2⟩, fresh, src)

/-- The local bytes of source row i of a transfer to the fast tier. -/
def State.ldLocal (s : State) (core : Nat) (f : LdF) (i : Nat) : List Byte :=
  if f.loc then s.csRead core (f.laddr * 64 + i * f.localPitch) f.srcBytes
  else s.tsRead (core * 32 + f.firstEngine) (f.laddr * 64 + i * f.localPitch) f.srcBytes

/-- Local words a transfer to the fast tier reads (R160): whole rows unconverted, the elements' bytes when it converts. -/
def LdF.localSpans (f : LdF) : List (Nat × Nat) :=
  if f.converts then f.srcFmt.spans f.cols (f.laddr * 64) f.localPitch f.rows
  else (List.range f.rows).map (fun i => (f.laddr * 64 + i * f.localPitch, f.srcBytes))

/-- A poisoned word lies in the local source. -/
def State.ldLocalPois (s : State) (core : Nat) (f : LdF) : Bool :=
  f.localSpans.any (fun p => if f.loc then s.csPois core p.1 p.2 else s.tsPois (core * 32 + f.firstEngine) p.1 p.2)

/-- Offsets of a store's bytes that lie in words of `ws`. -/
def State.badOffsets (s : State) (ws : List Nat) (acct va n : Nat) : List Nat :=
  if ws.isEmpty then []
  else (List.range n).filter (fun i => match s.accKey acct (va + i) true with
    | some k => ws.contains (k / 8)
    | none => false)

/-- A transfer to the fast tier: rows whose addresses translate before the first that does not are written (R180); `bad`
are the place words whose write stays uncorrected, which it poisons (R287, R288). (DEDUCED, log entries 55, 56.) -/
def State.ldOut (s : State) (core : Nat) (f : LdF) (x : Ctx) (bad : List Nat) : OrdOut × List Nat × List LRow :=
  if s.ldLocalPois core f then (OrdOut.none (noResult 0x20 0 f.steps), [], [])
  else
    let acct := s.coreAcct core
    let src := (List.range f.rows).map (fun i => let b := s.ldLocal core f i; ((b, b.map (fun _ => false)) : LRow))
    let outs := f.dest x src
    let sts := outs.zipIdx.map (fun (o, i) => s.accWriteStatus acct (f.rowVa i) o.bytes.length)
    let good := (sts.takeWhile (· != 0x04)).length
    let faulted := decide (good < outs.length)
    let kept := if faulted then (if f.turned then [] else outs.take good) else outs
    let cap := f.capture kept
    let fresh := kept.zipIdx.flatMap (fun (o, i) => s.accWriteBad bad acct (f.rowVa i) o.bytes.length)
    let st := firstStatus (sts ++ if fresh.isEmpty then [] else [0x20])
    let res := if faulted then noResult 0x04 0x09 f.steps else f.result outs st
    let wr := kept.zipIdx.map (fun (o, i) =>
      (⟨2, f.rowVa i, o.bytes, s.badOffsets fresh acct (f.rowVa i) o.bytes.length⟩ : Wr))
    (⟨res, wr, cap.1, cap.2.1, cap.2.2⟩, fresh, src)

end Sys2Proof.Machine
end

