-- ==== Sys2Proof/Machine/Tail.lean ====
section
/-! DEFINITION. Tail orders (R168 to R175): fields, regions, malformed orders, and the kernels row by row. -/

namespace Sys2Proof.Machine

/-! ### Fields (R168) -/

structure TailF where
  op : Nat
  kernel : Nat
  sf : Nat
  df : Nat
  rnd : Nat
  ctx : Nat
  rows : Nat
  c : Nat
  sAddr : Nat
  s2Addr : Nat
  dAddr : Nat
  auxAddr : Nat
  tag : Nat
  engine : Nat
  notify : Bool
  mask : Bool
  param : Nat
  deriving DecidableEq, Repr

/-- (DEDUCED, log entry 54.) -/
def tailF (w : Nat) : TailF :=
  { op := bits w 3 0, kernel := bits w 9 4, sf := bits w 13 10, df := bits w 17 14
    rnd := if bits w 20 18 = 1 then 1 else 0
    ctx := bits w 22 21, rows := bits w 26 23 + 1, c := bits w 40 27 + 1
    sAddr := bits w 52 41, s2Addr := bits w 64 53, dAddr := bits w 76 65, auxAddr := bits w 88 77
    tag := bits w 104 89, engine := bits w 109 105, notify := bit w 110, mask := bit w 111, param := bits w 127 112 }

/-- Kernel codes of R169. -/
def tailKernels : List Nat :=
  [0x00, 0x01, 0x02, 0x03, 0x04, 0x05, 0x06, 0x08, 0x09, 0x0A, 0x10, 0x11, 0x12, 0x14, 0x15, 0x16, 0x18, 0x19, 0x1A,
   0x1C, 0x20, 0x21, 0x22, 0x3F]

/-- Kernels that write no D. -/
def TailF.hasD (f : TailF) : Bool := !(f.kernel == 0x08 || f.kernel == 0x09 || f.kernel == 0x0A)

/-- The format D is written in: the block encoders name their own (R169). -/
def TailF.dFmt (f : TailF) : Fmt :=
  match f.kernel with
  | 0x20 => .groat
  | 0x21 => .mite
  | _ => fmtOf f.df

/-- The working format: every step is binary64 for a binary64 source (R170). -/
def TailF.wf (f : TailF) : FFmt := if f.sf = 0 then f64 else f32

def pad64 (n : Nat) : Nat := ceilDiv n 64 * 64

def TailF.sPitch (f : TailF) : Nat := (fmtOf f.sf).stride f.c
def TailF.dPitch (f : TailF) : Nat := f.dFmt.stride f.c
/-- Stride of a row of `n` values of a floating-point format. -/
def FFmt.pitch (g : FFmt) (n : Nat) : Nat := pad64 (n * (g.width / 8))
/-- Bytes of the row statistics in AUX, padded to a unit where rows follow them (R169). -/
def TailF.statBytes (f : TailF) : Nat := pad64 (16 * f.rows)

/-- Bytes of S2 that the kernel uses. (DEDUCED, log entry 54.) -/
def TailF.s2Bytes (f : TailF) : Nat :=
  match f.kernel with
  | 0x01 | 0x02 | 0x18 | 0x19 | 0x1A => f.rows * f.sPitch
  | 0x0A => pad64 (4 * f.rows)
  | 0x10 | 0x12 => 2 * f32.pitch f.c
  | 0x11 => f32.pitch f.c
  | 0x15 => f.rows * f.wf.pitch f.param
  | _ => 0

/-- Bytes of AUX that the kernel uses. (DEDUCED, log entry 54.) -/
def TailF.auxBytes (f : TailF) : Nat :=
  match f.kernel with
  | 0x08 | 0x09 | 0x0A | 0x10 | 0x11 | 0x12 | 0x14 | 0x15 | 0x16 => 16 * f.rows
  | 0x18 => f.statBytes + f32.pitch f.c + 2 * f64.pitch f.c
  | 0x19 => f.statBytes + f32.pitch f.c + f64.pitch f.c
  | 0x1C => 64 + (if bit f.param 0 then 8 else 4) * f.rows
  | _ => 0

/-- Kernels that write AUX, that write S2. -/
def TailF.auxOut (f : TailF) : Bool := f.auxBytes != 0 && !(f.kernel == 0x12 || f.kernel == 0x16)

/-- (DEDUCED, log entry 54.) -/
def TailF.ranges (f : TailF) : List Rng :=
  (if f.kernel = 0x3F then [] else [⟨f.engine, f.sAddr * 64, f.sAddr * 64 + f.rows * f.sPitch, false⟩]) ++
  (if f.s2Bytes = 0 then [] else [⟨f.engine, f.s2Addr * 64, f.s2Addr * 64 + f.s2Bytes, f.kernel == 0x15⟩]) ++
  (if f.hasD then [⟨f.engine, f.dAddr * 64, f.dAddr * 64 + f.rows * f.dPitch, true⟩] else []) ++
  (if f.auxBytes = 0 then [] else [⟨f.engine, f.auxAddr * 64, f.auxAddr * 64 + f.auxBytes, f.auxOut⟩])

/-- The reason of R164 for a tail order, or 0. (DEDUCED, log entry 54.) -/
def State.tailReason (s : State) (core : Nat) (f : TailF) (x : Ctx) : Nat :=
  if !s.engPresent core f.engine || s.engFenced core f.engine then 0x07
  else if !tailKernels.contains f.kernel then 0x01
  else if 3 < f.sf then 0x02
  else if f.kernel = 0x22 && !f.dFmt.isMx then 0x02
  else if f.ranges.any (fun r => decide (262144 < r.hi)) then 0x03
  else if f.dFmt.usesG && f.hasD && !gscaleOk x.gD then 0x08
  else 0

/-- Step-times of a tail order (R169, R175). -/
def TailF.steps (f : TailF) : Nat :=
  let cost := match f.kernel with
    | 0x05 | 0x06 | 0x18 | 0x19 | 0x20 | 0x21 => 4
    | 0x10 | 0x11 => 3
    | 0x14 | 0x15 => 6
    | 0x1A | 0x22 => 2
    | 0x1C => if bit f.param 0 then 8 else 6
    | _ => 1
  let cost := if f.sf = 0 then 2 * cost else cost
  f.rows * ceilDiv f.c 32 * cost + (if f.kernel = 0x15 then f.rows * ceilDiv f.param 32 else 0)

/-! ### Arithmetic of R170 -/

/-- round32, or round64 for a binary64 source. -/
def TailF.rd (f : TailF) (v : FV) : FV := f.wf.rv .rne v
def rd64 (v : FV) : FV := f64.rv .rne v
def fvAdd (x y : FV) : FV := FV.add false x y
def fvSub (x y : FV) : FV := FV.sub false x y
def sum64 (l : List FV) : FV := l.foldl (fun t v => rd64 (fvAdd t v)) (fvZero false)
def fvOne : FV := .fin false 1 1
/-- √(2/π) and 0.044715 to the nearest binary32 (R171). -/
def geluC1 : FV := f32.decode 0x3F4C422A
def geluC2 : FV := f32.decode 0x3D372713
def fvMaxL (l : List FV) : FV := match l with | [] => .inf true | v :: t => t.foldl FV.max v

/-- Elementwise kernels: CONV, ADD, MUL, SCALE, RELU, SILU, GELU and the encoders. -/
def TailF.elemwise (f : TailF) (x z : FV) : FV :=
  let a := bf16.decode f.param
  match f.kernel with
  | 0x01 => f.rd (fvAdd x z)
  | 0x02 => f.rd (x.mul z)
  | 0x03 => f.rd (x.mul a)
  | 0x04 => if x.isNan then .nan else if (fvZero false).lt x then x else fvZero false
  | 0x05 => f.rd (x.mul (f.rd (f.rd (fvAdd fvOne (f.rd x.neg.exp))).recip))
  | 0x06 =>
    let u := f.rd (geluC1.mul (f.rd (fvAdd x (f.rd (geluC2.mul (f.rd (x.mul (f.rd (x.mul x)))))))))
    f.rd ((f.rd ((FV.fin false 1 2).mul x)).mul (f.rd (fvAdd fvOne (f.rd u.tanh))))
  | _ => x

/-- y of NORM from μ and r (R171). -/
def TailF.normY (f : TailF) (mu r : FV) (x g b : FV) : FV :=
  f.rd (fvAdd (f.rd ((f.rd ((f.rd (fvSub x mu)).mul r)).mul g)) b)

def TailF.meanC (f : TailF) (v : FV) : FV := f.rd (v.div (.fin false f.c 1))

/-- Soft-maximum row (R171): m, l, e. -/
def TailF.softmax (f : TailF) (xs : List FV) : FV × FV × List FV :=
  let m := fvMaxL xs
  if m == .inf true then (m, fvZero false, xs.map (fun _ => fvZero false))
  else
    let e := xs.map (fun v => f.rd (f.rd (fvSub v m)).exp)
    (m, sum64 e, e)

/-- Masked entries are -infinity (R171). -/
def TailF.masked (f : TailF) (x : Ctx) (i : Nat) (xs : List FV) : List FV :=
  if f.mask then xs.zipIdx.map (fun (v, j) => if (i : Int) + x.causal < j then .inf true else v) else xs

/-- What one row yields: D values, changes of AUX (offset, bytes), new O row (none where O stays), and products for the column sums. -/
structure TRow where
  d : List FV
  aux : List (Nat × List Byte)
  o : List FV
  colA : List FV
  colB : List FV
  deriving DecidableEq, Repr

def TRow.ofD (d : List FV) : TRow := ⟨d, [], [], [], []⟩

def le32 (v : FV) : List Byte := natLe 4 (f32.ieee .rne v)
def le64f (v : FV) : List Byte := natLe 8 (f64.ieee .rne v)

/-- Row statistics: binary32 at byte `o` of row i, binary64 at 8 (R169). -/
def stat32 (aux : List Byte) (i o : Nat) : FV := f32.decode (field aux (16 * i + o) 4)
def stat64 (aux : List Byte) (i : Nat) : FV := f64.decode (field aux (16 * i + 8) 8)

/-- x̂ of R173. -/
def TailF.xhat (f : TailF) (mu r v : FV) : FV :=
  if f.kernel = 0x18 then f.rd ((f.rd (fvSub v mu)).mul r) else f.rd (v.mul r)

/-- The kernels of R171 to R173 on row i: `xs` the row of S, `z` the row of S2 where S2 has rows, `g` and `b` the γ and
β rows, `aux` the bytes of AUX, `mu2` the μ of RSQD. In the 16 bytes of a row RSUM and RSQD write bytes 8 to 15 and RMAX
bytes 0 to 3, and the losses of XENT begin at byte 64 of AUX. (DEDUCED, log entry 54; DESIGN CHOICE, log entry 93.) -/
def TailF.row (f : TailF) (x : Ctx) (i : Nat) (xs z g b : List FV) (aux : List Byte) (mu2 : FV) : TRow :=
  let a := bf16.decode f.param
  match f.kernel with
  | 0x08 => ⟨[], [(16 * i + 8, le64f (sum64 xs))], [], [], []⟩
  | 0x09 => ⟨[], [(16 * i, le32 (fvMaxL xs))], [], [], []⟩
  | 0x0A =>
    let sq := sum64 (xs.map (fun v => let d := rd64 (fvSub v mu2); rd64 (d.mul d)))
    ⟨[], [(16 * i + 8, le64f sq)], [], [], []⟩
  | 0x10 =>
    let mu := f.meanC (sum64 xs)
    let v := f.meanC (sum64 (xs.map (fun v => let d := rd64 (fvSub v mu); rd64 (d.mul d))))
    let r := f.rd (f.rd (fvAdd v a)).rsqrt
    ⟨(xs.zip (g.zip b)).map (fun p => f.normY mu r p.1 p.2.1 p.2.2), [(16 * i, le32 mu), (16 * i + 4, le32 r)], [], [], []⟩
  | 0x11 =>
    let v := f.meanC (sum64 (xs.map (fun v => rd64 (v.mul v))))
    let r := f.rd (f.rd (fvAdd v a)).rsqrt
    ⟨(xs.zip g).map (fun p => f.rd ((f.rd (p.1.mul r)).mul p.2)), [(16 * i + 4, le32 r)], [], [], []⟩
  | 0x12 =>
    TRow.ofD ((xs.zip (g.zip b)).map (fun p => f.normY (stat32 aux i 0) (stat32 aux i 4) p.1 p.2.1 p.2.2))
  | 0x14 =>
    let sm := f.softmax (f.masked x i (xs.map (fun v => f.rd (v.mul a))))
    let d := if sm.1 == .inf true then sm.2.2 else
      let rl := f.rd sm.2.1.recip
      sm.2.2.map (fun e => f.rd (e.mul rl))
    ⟨d, [(16 * i, le32 sm.1), (16 * i + 8, le64f sm.2.1)], [], [], []⟩
  | 0x15 =>
    let m := stat32 aux i 0
    let l := stat64 aux i
    let ss := f.masked x i xs
    let m2 := FV.max m (fvMaxL ss)
    if m2 == .inf true then TRow.ofD (xs.map (fun _ => fvZero false))
    else
      let alpha := f.rd (f.rd (fvSub m m2)).exp
      let p := ss.map (fun v => f.rd (f.rd (fvSub v m2)).exp)
      let l2 := rd64 (fvAdd (rd64 (l.mul alpha)) (sum64 p))
      ⟨p, [(16 * i, le32 m2), (16 * i + 8, le64f l2)], z.map (fun o => f.rd (o.mul alpha)), [], []⟩
  | 0x16 =>
    let l := stat64 aux i
    if l.isZero then TRow.ofD (xs.map (fun _ => fvZero false))
    else
      let rl := f.rd l.recip
      TRow.ofD (xs.map (fun o => f.rd (o.mul rl)))
  | 0x18 | 0x19 =>
    let mu := stat32 aux i 0
    let r := stat32 aux i 4
    let xh := z.map (f.xhat mu r)
    let gd := (xs.zip g).map (fun p => f.rd (p.1.mul p.2))
    let av := f.meanC (sum64 gd)
    let bv := f.meanC (sum64 ((gd.zip xh).map (fun p => rd64 (p.1.mul p.2))))
    let d := (gd.zip xh).map (fun p =>
      let t := f.rd (p.2.mul bv)
      if f.kernel = 0x18 then f.rd (r.mul (f.rd (fvSub (f.rd (fvSub p.1 av)) t))) else f.rd (r.mul (f.rd (fvSub p.1 t))))
    ⟨d, [], [], (xs.zip xh).map (fun p => rd64 (p.1.mul p.2)), xs⟩
  | 0x1A =>
    let c := f.rd (sum64 ((xs.zip z).map (fun p => rd64 (p.1.mul p.2))))
    TRow.ofD ((xs.zip z).map (fun p => f.rd (a.mul (f.rd (p.2.mul (f.rd (fvSub p.1 c)))))))
  | 0x1C =>
    let t := field aux (4 * i) 4
    let wide := bit f.param 0
    let off := 64 + (if wide then 8 else 4) * i
    let sm := f.softmax (f.masked x i xs)
    if f.c ≤ t then ⟨xs.map (fun _ => .nan), [(off, if wide then le64f .nan else le32 .nan)], [], [], []⟩
    else
      let rl := f.rd sm.2.1.recip
      let y := if sm.1 == .inf true then sm.2.2 else sm.2.2.map (fun e => f.rd (e.mul rl))
      let d := y.zipIdx.map (fun (v, j) => if j = t then f.rd (fvSub v fvOne) else v)
      let loss := rd64 (fvSub (rd64 (fvAdd (rd64 sm.2.1.ln) sm.1)) (xs.getD t .nan))
      ⟨d, [(off, if wide then le64f loss else le32 loss)], [], [], []⟩
  | _ => TRow.ofD (xs.zipIdx.map (fun (v, j) => f.elemwise v (z.getD j (fvZero false))))

/-- What a tail order computes from the tile store as it stands. The column outputs of NORM_BWD are a row of the sums of
dy x̂, padded to a unit, then a row of the sums of dy. (DEDUCED, log entry 54; DESIGN CHOICE, log entry 93.) -/
def State.tailCompute (s : State) (core : Nat) (f : TailF) (x : Ctx) : OrdOut :=
  let e := core * 32 + f.engine
  let sf := fmtOf f.sf
  let df := f.dFmt
  if f.kernel = 0x3F then
    ⟨mkResult [] false f.steps, [⟨0, tsKey e (f.dAddr * 64), List.replicate (f.rows * f.dPitch) 0#8, []⟩], 0, false, false⟩
  else
    let g1 := fvOne
    let srow := fun i => rowVals sf g1 (s.tsRead e (f.sAddr * 64 + i * f.sPitch) (sf.rowBytes f.c)) f.c
    let zrow := fun i =>
      if f.kernel = 0x15 then
        rowVals (.fp f.wf) g1 (s.tsRead e (f.s2Addr * 64 + i * f.wf.pitch f.param) (f.param * (f.wf.width / 8))) f.param
      else if f.kernel = 0x01 ∨ f.kernel = 0x02 ∨ f.kernel = 0x18 ∨ f.kernel = 0x19 ∨ f.kernel = 0x1A then
        rowVals sf g1 (s.tsRead e (f.s2Addr * 64 + i * f.sPitch) (sf.rowBytes f.c)) f.c
      else []
    let rowAt := fun base => rowVals (.fp f32) g1 (s.tsRead e base (4 * f.c)) f.c
    let gam := if f.kernel = 0x10 ∨ f.kernel = 0x11 ∨ f.kernel = 0x12 then rowAt (f.s2Addr * 64)
      else if f.kernel = 0x18 ∨ f.kernel = 0x19 then rowAt (f.auxAddr * 64 + f.statBytes) else []
    let bet := if f.kernel = 0x10 ∨ f.kernel = 0x12 then rowAt (f.s2Addr * 64 + f32.pitch f.c) else []
    let aux := s.tsRead e (f.auxAddr * 64) f.auxBytes
    let mu2 := fun i => f32.decode (leNat (s.tsRead e (f.s2Addr * 64 + 4 * i) 4))
    let rows := (List.range f.rows).map (fun i => f.row x i (srow i) (zrow i) gam bet aux (mu2 i))
    let enc := rows.zipIdx.map (fun (r, i) => df.encRow false (gscaleVal x.gD) (x.rm f.rnd false df.narrow i) r.d)
    let dw := if f.hasD then enc.zipIdx.map (fun (r, i) => (⟨0, tsKey e (f.dAddr * 64 + i * f.dPitch), r.1, []⟩ : Wr)) else []
    let aw := rows.flatMap (fun r => r.aux.map (fun p => (⟨0, tsKey e (f.auxAddr * 64 + p.1), p.2, []⟩ : Wr)))
    let ow := if f.kernel = 0x15 then rows.zipIdx.map (fun (r, i) =>
        (⟨0, tsKey e (f.s2Addr * 64 + i * f.wf.pitch f.param), r.o.flatMap (fun v => natLe (f.wf.width / 8) (f.wf.ieee .rne v)), []⟩ : Wr))
      else []
    let colBase := f.auxAddr * 64 + f.statBytes + f32.pitch f.c
    let colSum := fun (pick : TRow → List FV) => (List.range f.c).flatMap (fun j =>
      le64f (sum64 (rows.map (fun r => (pick r).getD j (fvZero false)))))
    let cw := if f.kernel = 0x18 then
        [(⟨0, tsKey e colBase, colSum TRow.colA, []⟩ : Wr), ⟨0, tsKey e (colBase + f64.pitch f.c), colSum TRow.colB, []⟩]
      else if f.kernel = 0x19 then [⟨0, tsKey e colBase, colSum TRow.colA, []⟩] else []
    let els := if f.hasD then
        (rows.zip enc).zipIdx.flatMap (fun (p, i) => (p.1.d.zip p.2.2).zipIdx.map (fun (q, j) =>
          (i * f.c + j, (⟨q.2, q.1.isNan, q.1.isInf⟩ : ElemOut))))
      else []
    let amax := (List.range f.rows).foldl (fun m i => (srow i).foldl (fun m v => max m (capMag v)) m) 0
    ⟨mkResult els false f.steps, dw ++ ow ++ aw ++ cw, BitVec.ofNat 32 amax, els.any (fun e => e.2.cnt == .sat),
      els.any (fun e => e.2.cnt == .nan || e.2.cnt == .inf)⟩

/-- Bytes of AUX that a kernel reads: statistics of each row, targets, the γ row (R169). -/
def TailF.auxReads (f : TailF) : List (Nat × Nat) :=
  let a := f.auxAddr * 64
  let stats := fun o n => (List.range f.rows).map (fun i => (a + 16 * i + o, n))
  match f.kernel with
  | 0x12 => stats 0 8
  | 0x15 => stats 0 4 ++ stats 8 8
  | 0x16 => stats 8 8
  | 0x18 => stats 0 8 ++ [(a + f.statBytes, 4 * f.c)]
  | 0x19 => stats 4 4 ++ [(a + f.statBytes, 4 * f.c)]
  | 0x1C => [(a, 4 * f.rows)]
  | _ => []

/-- Bytes of S2 that a kernel reads (R169). -/
def TailF.s2Reads (f : TailF) : List (Nat × Nat) :=
  let b := f.s2Addr * 64
  match f.kernel with
  | 0x01 | 0x02 | 0x18 | 0x19 | 0x1A => (fmtOf f.sf).spans f.c b f.sPitch f.rows
  | 0x0A => [(b, 4 * f.rows)]
  | 0x10 | 0x12 => [(b, 4 * f.c), (b + f32.pitch f.c, 4 * f.c)]
  | 0x11 => [(b, 4 * f.c)]
  | 0x15 => (Fmt.fp f.wf).spans f.param b (f.wf.pitch f.param) f.rows
  | _ => []

/-- The byte spans a tail order reads. -/
def TailF.reads (f : TailF) : List (Nat × Nat) :=
  (if f.kernel = 0x3F then [] else (fmtOf f.sf).spans f.c (f.sAddr * 64) f.sPitch f.rows) ++ f.s2Reads ++ f.auxReads

end Sys2Proof.Machine
end

