-- ==== Sys2Proof/Machine/Sequencer.lean ====
section
/-! DEFINITION. The sequencer's scalar instructions (R181 to R189, R239, R241, R253): arithmetic, loads and stores,
branches, binary64 operations, orders, waits, CSRs, the end of a batch. -/

namespace Sys2Proof.Machine

/-! ### Batches as a core sees them -/

/-- The queue a batch runs in. (DESIGN CHOICE, log entry 9.) -/
def queueDef : Queue := ⟨0, 0, 0, 0, 0, 0, 0, 0, 0, 0, 0, 0, 0, 0, [], 0, []⟩

def State.queue (s : State) (q : Nat) : Option Queue := (s.wrt.queues.find? (fun p => p.1 == q)).map (·.2)

def State.setQueue (s : State) (q : Nat) (v : Queue) : State :=
  { s with wrt := { s.wrt with queues := mset queueDef s.wrt.queues q v } }

/-- Change the first batch that satisfies `p`. -/
def updFirst (p : Batch → Bool) (f : Batch → Batch) : List Batch → List Batch
  | [] => []
  | b :: t => if p b then f b :: t else b :: updFirst p f t

/-- Change the running batch of a queue: at most one has started (R71). -/
def State.updRun (s : State) (q : Nat) (f : Batch → Batch) : State :=
  match s.queue q with
  | none => s
  | some v => s.setQueue q { v with batches := updFirst (·.started) f v.batches }

/-- The running batch of a queue. -/
def State.runBatch (s : State) (q : Nat) : Option Batch :=
  match s.queue q with
  | none => none
  | some v => v.batches.find? (·.started)

/-- A batch's deadline with its extension (R78). -/
def Batch.limit (b : Batch) : Nat := b.deadline + b.waited

/-- A queue's running batch has passed its deadline, so that it will be LATE (R81). -/
def State.runLate (s : State) (q : Nat) : Bool :=
  match s.runBatch q with
  | some b => decide (b.limit < s.clk.now)
  | none => false

/-- An order that completes after its batch's deadline carries LATE in place of DONE or DONE_FLAGGED (R83). (DEDUCED, log entry 90.) -/
def State.lateStatus (s : State) (q st : Nat) : Nat := if st < 2 && s.runLate q then 0x02 else st

/-- Saturated elements and NAN_INF of a delivered record count in the batch (R328). -/
def State.batchHealth (s : State) (c : Nat) (r : Result) : State :=
  if r.status ≤ 2 then
    s.updRun (s.coreQueue c) (fun b => { b with sat := b.sat + r.sat, nanInf := b.nanInf || bit r.word.toNat 0 })
  else s

/-! ### Completion records (R166, R167) -/

/-- The 32 bytes of a completion record. -/
def recordBytes (src : Nat) (o : Order) : List Byte :=
  let r := o.res.getD (noResult 0 0 0)
  let unit := if src = 32 then o.ldF.firstEngine else src
  let kind := if src = 32 then 2 else if o.isTail then 1 else 0
  natLe 1 r.status ++ natLe 1 (unit + 32 * kind) ++ natLe 2 (o.tag src) ++ natLe 4 r.word.toNat ++ natLe 4 r.sat ++
    natLe 4 r.flush ++ natLe 4 r.nan ++ natLe 4 r.inf ++ natLe 4 r.steps ++ natLe 4 r.first.toNat

def State.queueOf (s : State) (c src : Nat) : List Order :=
  if src = 32 then s.loader c else (s.engine (c * 32 + src)).queue

def State.setQueueOf (s : State) (c src : Nat) (q : List Order) : State :=
  if src = 32 then s.setLoader c q else s.setEngine (c * 32 + src) { s.engine (c * 32 + src) with queue := q }

/-- The source whose record is written next: engines in ascending number, the loader after them (R167). -/
def State.recordSource (s : State) (c : Nat) : Option Nat :=
  ((List.range 32) ++ [32]).find? (fun src => match s.queueOf c src with
    | o :: _ => o.finished
    | [] => false)

/-- The next record enters the ring while it has room, and its order's slot frees. (DEDUCED, log entry 57.) -/
def State.putRecord (s : State) (c : Nat) : State :=
  let head := (s.csr c 0x011).toNat % 256
  let tail := (s.csr c 0x012).toNat % 256
  if (head + 1) % 256 = tail then s
  else match s.recordSource c with
    | none => s
    | some src =>
      match s.queueOf c src with
      | [] => s
      | o :: q =>
        let s := s.csWrite c ((s.csr c 0x010).toNat % 2 ^ 21 + 32 * head) (recordBytes src o)
        (s.setQueueOf c src q).setCsr c 0x011 (BitVec.ofNat 64 ((head + 1) % 256))

/-- Every record that still fits is written. -/
def State.putRecords (s : State) (c : Nat) : Nat → State
  | 0 => s
  | n + 1 => (s.putRecord c).putRecords c n

/-! ### The vector unit's power (R225, R226) -/

/-- The unit has powered down: it never woke, or 4 local µs passed without a vector instruction, none of which waits under
R219, while HOLD was 0. -/
def State.vAsleep (s : State) (c : Nat) : Bool :=
  !(s.core c).vAwake || ((s.csr c 0x023).toNat % 2 == 0 && s.after (s.core c).vLast (usec 4) &&
    !(s.seqState c == 2 && (s.core c).wait == .vector))

/-- A power-down that is due is done. -/
def State.vSettle (s : State) (c : Nat) : State :=
  if s.vAsleep c then s.setCore c { s.core c with vAwake := false } else s

/-- HOLD returns to 0: the unit it has kept powered powers down 4 µs from here. -/
def State.vRelease (s : State) (c : Nat) : State :=
  let s := if (s.core c).vAwake && (s.csr c 0x023).toNat % 2 == 1 then s.setCore c { s.core c with vLast := s.clk.now } else s
  s.setCsr c 0x023 0

/-! ### The end of a core's part -/

/-- The core's part of a batch ends (R189, R191, R193, R226): its statuses join the batch's, the records that fit in the
completion ring are written, poisoned engines are zeroed and return to service, a store with an uncorrectable word is zeroed,
HOLD returns to 0, the sequencer idles. (DEDUCED, log entry 57.) -/
def State.endCore (s : State) (c : Nat) : State :=
  let s := s.putRecords c (s.orders c).length
  let core := s.core c
  let sts := core.stats.map (·.2) ++ core.fault.toList
  let s := s.updRun (s.coreQueue c) (fun b =>
    { b with running := b.running.filter (· != c), status := b.status ++ [firstStatus sts] })
  let s := (List.range 32).foldl (fun s e =>
    let en := s.engine (c * 32 + e)
    let s := s.setEngine (c * 32 + e) { en with queue := [], poisoned := false }
    if en.poisoned then s.zeroTile (c * 32 + e) else s) s
  let s := s.setLoader c []
  let s := if core.zeroes then s.zeroCore c else s
  let s := s.setCore c { s.core c with stats := [], fault := none, held := false, zeroes := false, wait := .other }
  let s := s.vRelease c
  if s.seqState c = 4 then s else s.setSeqState c 0

/-! ### Integer operations (R184) -/

def clz64 (v : W64) : W64 := if v = 0 then 64 else BitVec.ofNat 64 (63 - v.toNat.log2)

def popcount (n v : Nat) : Nat := (List.range n).foldl (fun c i => c + v / 2 ^ i % 2) 0

def boolW (b : Bool) : W64 := if b then 1 else 0

/-- ALU func codes; none is an illegal instruction. -/
def aluOp (func : BitVec 11) (a b : W64) : Option W64 :=
  match func.toNat with
  | 0x000 => some (a + b)
  | 0x001 => some (a - b)
  | 0x002 => some (a &&& b)
  | 0x003 => some (a ||| b)
  | 0x004 => some (a ^^^ b)
  | 0x005 => some (a <<< (b.toNat % 64))
  | 0x006 => some (a >>> (b.toNat % 64))
  | 0x007 => some (a.sshiftRight (b.toNat % 64))
  | 0x008 => some (boolW (a.slt b))
  | 0x009 => some (boolW (a.ult b))
  | 0x00A => some (if b.slt a then b else a)
  | 0x00B => some (if a.slt b then b else a)
  | 0x00C => some (if b.ult a then b else a)
  | 0x00D => some (if a.ult b then b else a)
  | 0x010 => some (a * b)
  | 0x011 => some (BitVec.ofInt 64 (a.toInt * b.toInt / 2 ^ 64))
  | 0x012 => some (BitVec.ofNat 64 (a.toNat * b.toNat / 2 ^ 64))
  | 0x014 => some (if b = 0 then BitVec.allOnes 64 else BitVec.ofInt 64 (a.toInt.tdiv b.toInt))
  | 0x015 => some (if b = 0 then BitVec.allOnes 64 else a / b)
  | 0x016 => some (if b = 0 then a else BitVec.ofInt 64 (a.toInt.tmod b.toInt))
  | 0x017 => some (if b = 0 then a else a % b)
  | 0x020 => some (clz64 a)
  | 0x021 => some (BitVec.ofNat 64 (popcount 64 a.toNat))
  | _ => none

/-! ### Binary64 operations (R185) -/

/-- Rounding of strict mode from a 3-bit code (R109, R185). -/
def rmStrict (code : Nat) : Rm := rmOf code true false 0

/-- FOP; none is an illegal instruction. -/
def fopOp (func : BitVec 11) (a b : W64) : Option W64 :=
  let rm := rmStrict (func.toNat % 8)
  let x := f64.decode a.toNat
  let y := f64.decode b.toNat
  let dn := rm == .rdn
  let r := fun v => some (BitVec.ofNat 64 (f64.ieee rm v))
  match func.toNat / 8 with
  | 0x00 => r (FV.add dn x y)
  | 0x01 => r (FV.sub dn x y)
  | 0x02 => r (x.mul y)
  | 0x03 => r (x.div y)
  | 0x04 => r x.sqrt
  | 0x05 => r (x.min y)
  | 0x06 => r (x.max y)
  | 0x08 => some (boolW (x.eqv y))
  | 0x09 => some (boolW (x.lt y))
  | 0x0A => some (boolW (x.lt y || x.eqv y))
  | 0x10 => r (fvOfInt a.toInt)
  | 0x11 => some (BitVec.ofInt 64 (intConv 64 rm x).1)
  | 0x12 => some (BitVec.ofNat 64 (f32.ieee rm x))
  | 0x13 => r (f32.decode (a.toNat % 2 ^ 32))
  | _ => none

/-- FMA variants of R183; none is an illegal instruction. -/
def fmaOp (variant rnd : Nat) (a b c : W64) : Option W64 :=
  let rm := rmStrict rnd
  let dn := rm == .rdn
  let x := f64.decode a.toNat
  let y := f64.decode b.toNat
  let z := f64.decode c.toNat
  let r := fun v => some (BitVec.ofNat 64 (f64.ieee rm v))
  match variant with
  | 0 => r (FV.fma dn x y z)
  | 1 => r (FV.fma dn x y z.neg)
  | 2 => r (FV.fma dn x.neg y z)
  | _ => none

/-- SHI (R183): imm[7:6] selects, imm[5:0] is the amount; selector 3 is illegal. -/
def shiOp (imm : BitVec 16) (a : W64) : Option W64 :=
  let n := imm.toNat % 64
  match imm.toNat / 64 % 4 with
  | 0 => some (a <<< n)
  | 1 => some (a >>> n)
  | 2 => some (a.sshiftRight n)
  | _ => none

def sext16 (imm : BitVec 16) : W64 := imm.signExtend 64

/-- An instruction that yields a scalar value, or is illegal (R191 cause 1). -/
def State.scalarOpt (s : State) (c : Nat) (rd : BitVec 5) (v : Option W64) : State :=
  match v with
  | some v => s.scalarOp c rd v
  | none => s.programFault c 1

/-! ### Core-store access (R186) -/

/-- An access of `n` bytes lies in the store and is aligned. -/
def csOk (a : W64) (n : Nat) : Bool := decide (a.toNat + n ≤ 2 ^ 21) && a.toNat % n == 0

def ldBytes : LdKind → Nat
  | .ld => 8
  | .lwu | .lw => 4
  | .lbu => 1

def stBytes : StKind → Nat
  | .sd => 8
  | .sw => 4
  | .sb => 1

/-- The value a load delivers from its bytes. -/
def ldValue (k : LdKind) (v : Nat) : W64 :=
  match k with
  | .lw => (BitVec.ofNat 32 v).signExtend 64
  | _ => BitVec.ofNat 64 v

/-- A word that lies in one of the spans read and comes back uncorrectable. -/
def badRead (bad : List Nat) (spans : List (Nat × Nat)) : Option Nat :=
  bad.find? (fun w => spans.any (fun p => (wordsOf p.1 p.2).contains w))

/-- `bad` names a word of the core store that the access touches. -/
def badWord (bad : List Nat) (a n : Nat) : Bool := (wordsOf a n).any (bad.contains ·)

def State.scalarLoad (s : State) (c : Nat) (k : LdKind) (rd : BitVec 5) (a : W64) (bad : BadWords) : State :=
  if !csOk a (ldBytes k) then s.programFault c 2
  else if badWord bad.unc a.toNat (ldBytes k) then s.coreUnc c (a.toNat / 8)
  else if s.csPois c a.toNat (ldBytes k) then s.programFault c 4
  else (s.coreCor c bad.cor [(a.toNat, ldBytes k)]).scalarOp c rd (ldValue k (leNat (s.csRead c a.toNat (ldBytes k))))

def State.scalarStore (s : State) (c : Nat) (k : StKind) (v a : W64) : State :=
  if !csOk a (stBytes k) then s.programFault c 2
  else (s.csWrite c a.toNat (natLe (stBytes k) v.toNat)).retire c

/-! ### Branches -/

def brTest (k : BrKind) (a b : W64) : Bool :=
  match k with
  | .beq => a == b
  | .bne => a != b
  | .blt => a.slt b
  | .bge => b.sle a
  | .bltu => a.ult b
  | .bgeu => b.ule a

/-- Jump (R183): the sequencer runs on at the target. -/
def State.jump (s : State) (c : Nat) (t : W64) : State := (s.setPc c t).setSeqState c 1

/-! ### CSRs (R187, R205, R239) -/

/-- The slot and field of a context-slot CSR. -/
def slotOf (n : Nat) : Option (Nat × Nat) :=
  if 0x100 ≤ n ∧ n < 0x140 ∧ n % 16 < 8 then some ((n - 0x100) / 16, n % 16) else none

/-- What a CSR reads; none for a number no table lists. WO CSRs read zero (R14). -/
def State.csrRead (s : State) (c n : Nat) : Option W64 :=
  match n with
  | 0x000 => some (BitVec.ofNat 64 c)
  | 0x001 => some (BitVec.ofNat 64 (s.coreAcct c))
  | 0x002 => some (BitVec.ofNat 64 (s.coreQueue c))
  | 0x003 => some (BitVec.ofNat 64 (s.engMask c))
  | 0x004 => some (BitVec.ofNat 64 s.clk.now)
  | 0x010 | 0x011 | 0x012 | 0x013 | 0x020 | 0x021 | 0x022 | 0x024 | 0x025 | 0x026 | 0x027 | 0x028 => some (s.csr c n)
  | 0x023 => some (s.csr c 0x023 + BitVec.ofNat 64 (2 * b2n (!s.vAsleep c)))
  | 0x030 | 0x031 => some 0
  | _ => if (slotOf n).isSome then some (s.csr c n) else none

/-- The value an RW CSR keeps of a written one (R187): masked to its field, COMPL_BASE with its low 13 bits zero. -/
def csrMask (n : Nat) (v : W64) : Option W64 :=
  let m := fun w => some (BitVec.ofNat 64 (v.toNat % 2 ^ w))
  match n with
  | 0x010 => some (BitVec.ofNat 64 (v.toNat % 2 ^ 21 / 2 ^ 13 * 2 ^ 13))
  | 0x012 => m 8
  | 0x013 => m 32
  | 0x022 => m 22
  | 0x023 => m 1
  | 0x024 | 0x025 | 0x026 | 0x027 => m 32
  | _ => match slotOf n with
    | some (_, 0) => m 64
    | some (_, 1) => m 24
    | some (_, 2) | some (_, 3) => m 40
    | some (_, 7) => m 34
    | some _ => m 32
    | none => none

/-- RO CSRs: a write is ignored. -/
def csrRo (n : Nat) : Bool := [0x000, 0x001, 0x002, 0x003, 0x004, 0x011, 0x020, 0x021, 0x028].contains n

/-- A write of LPOST (R241): slot c's LCAPT goes to the keeping dispatcher's post queue, and the slot is zeroed. -/
def State.lpost (s : State) (c : Nat) (v : W64) : State :=
  let slot := v.toNat % 4
  let tid := (s.csr c (slotCsr slot 1)).toNat % 2 ^ 24
  let p : Post := ⟨tid % 4, s.coreAcct c, false, tid, s.csr c (slotCsr slot 7), some c⟩
  ({ s with train := { s.train with posts := s.train.posts ++ [p] } }).setCsr c (slotCsr slot 7) 0

/-- A write of WPOST (R253): a layer's watch outcome goes to the layer's keeper. Outcome 3 clamps to 2 (R239). -/
def State.wpost (s : State) (c : Nat) (v : W64) : State :=
  let layer := v.toNat % 4096
  let o := v.toNat / 4096 % 4
  let p : Post := ⟨layer % 4, s.coreAcct c, true, layer, BitVec.ofNat 64 (if o = 3 then 2 else o), some c⟩
  { s with train := { s.train with posts := s.train.posts ++ [p] } }

/-- CSRW (R187, R239). -/
def State.csrWrite (s : State) (c n : Nat) (v : W64) : State :=
  if csrRo n then s.retire c
  else if n = 0x030 then (s.lpost c v).retire c
  else if n = 0x031 then (s.wpost c v).retire c
  else match csrMask n v with
    | some w => ((if n = 0x023 then s.vSettle c else s).setCsr c n w).retire c
    | none => s.programFault c 1

/-! ### Orders and waits -/

/-- An order as issued. -/
def newOrder (w0 w1 w2 w3 : W64) (x : Ctx) (issue reason : Nat) : Order :=
  ⟨w0, w1, w2, w3, x, issue, reason, false, none, false, [], 0, false, false⟩

def orderWord (w0 w1 : W64) : Nat := w0.toNat + w1.toNat * 2 ^ 64

/-- Engine an order names: tail orders by R168, every other by R162. -/
def orderEngine (w : Nat) : Nat := if w % 16 = 2 then bits w 109 105 else bits w 119 115

/-- Context slot an order names. -/
def orderSlot (w : Nat) : Nat := if w % 16 = 2 then bits w 22 21 else bits w 25 24

/-- Reason of R164 when the order is issued, or 0. -/
def State.orderReason (s : State) (c w : Nat) (x : Ctx) : Nat :=
  if w % 16 = 2 then s.tailReason c (tailF w) x else s.arrReason c (arrF w) x

/-- TORD (R158, R162): the order enters its engine's queue of 8, or the sequencer stalls; for an engine that is absent
or fenced it completes ABORTED at once (R164). (DEDUCED, log entries 6, 60.) -/
def State.tord (s : State) (c : Nat) (w0 w1 : W64) : State :=
  let w := orderWord w0 w1
  let e := orderEngine w
  let en := s.engine (c * 32 + e)
  if 8 ≤ en.queue.length then s.waitSeq c .other
  else
    let x := s.ctx c (orderSlot w)
    let r := s.orderReason c w x
    let i := (s.core c).issue
    let o := newOrder w0 w1 0 0 x i r
    let s := s.setEngine (c * 32 + e) { en with queue := en.queue ++ [o] }
    let s := s.setCore c { s.core c with issue := i + 1 }
    (if r = 7 then s.finish c e i (noResult 0x04 0x07 0) else s).retire c

/-- TLD (R176, R574): the descriptor at a core-store offset enters the loader's queue of 8, or the sequencer stalls. Its
reason of R164 is settled here: a transfer out of a tile store whose engine is fenced while it waits still runs. (DEDUCED, log entries 6, 56, 60; DESIGN CHOICE, log entry 92.) -/
def State.tld (s : State) (c : Nat) (a : W64) (bad : BadWords) : State :=
  if a.toNat % 32 ≠ 0 ∨ 2 ^ 21 - 32 < a.toNat then s.programFault c 2
  else if 8 ≤ (s.loader c).length then s.waitSeq c .other
  else if badWord bad.unc a.toNat 32 then s.coreUnc c ((badRead bad.unc [(a.toNat, 32)]).getD 0)
  else if s.csPois c a.toNat 32 then s.programFault c 4
  else
    let s := s.coreCor c bad.cor [(a.toNat, 32)]
    let w := fun i => BitVec.ofNat 64 (leNat (s.csRead c (a.toNat + 8 * i) 8))
    let f := ldF (w 0).toNat (w 1).toNat (w 2).toNat (w 3).toNat
    let x := s.ctx c f.ctx
    let i := (s.core c).issue
    let o := newOrder (w 0) (w 1) (w 2) (w 3) x i (s.ldReason c f x)
    let s := s.setLoader c (s.loader c ++ [o])
    (s.setCore c { s.core c with issue := i + 1 }).retire c

/-- First status of the completed orders of some sources (R82, R183). -/
def State.waitStatus (s : State) (c : Nat) (p : Nat → Bool) : Nat :=
  firstStatus (((s.core c).stats.filter (fun e => p e.1)).map (·.2))

/-- Wait for every earlier order or transfer of some sources; rd := the first of their statuses. (DEDUCED, log entry 6.) -/
def State.waitFor (s : State) (c : Nat) (rd : BitVec 5) (p : Nat → Bool) : State :=
  if (s.orders c).all (fun o => o.2.finished || !p o.1) then s.scalarOp c rd (BitVec.ofNat 64 (s.waitStatus c p))
  else s.waitSeq c .orders

/-- Everything the batch has issued on the core has completed, and what its program posted has been merged (R189, R241). -/
def State.coreDone (s : State) (c : Nat) : Bool := s.drained c && !s.train.posts.any (fun p => p.core == some c)

/-- DONE (R189): waits for everything the batch has issued on the core and for its posts' merges, then reports it. -/
def State.seqDone (s : State) (c : Nat) : State := if s.coreDone c then s.endCore c else s.waitSeq c .other

/-- A JTAG debugger is attached (MGT_SLOT.DEBUG). (DEDUCED, log entry 51.) -/
def State.debugger (s : State) : Bool := s.flag F.MGT_SLOT_DEBUG

/-- SYS (R183): 0 does nothing, 1 breaks to the debugger, which holds the sequencer at the next instruction; without a
debugger it is a program fault with cause 3; any other value is illegal. (DEDUCED, log entry 51.) -/
def State.sys (s : State) (c : Nat) (imm : BitVec 16) : State :=
  if imm = 0 then s.retire c
  else if imm = 1 then
    (if s.debugger then let s := s.retire c; s.setCore c { s.core c with held := true }
     else s.programFault c 3)
  else s.programFault c 1

/-! ### The meanings -/

def execAlu (core : Fin 256) (rd ra rb : BitVec 5) (func : BitVec 11) (s : State) : Res :=
  .next (s.instr core (fun s => s.scalarOpt core rd (aluOp func (s.sreg core ra) (s.sreg core rb))))

def execAddi (core : Fin 256) (rd ra : BitVec 5) (imm : BitVec 16) (s : State) : Res :=
  .next (s.instr core (fun s => s.scalarOp core rd (s.sreg core ra + sext16 imm)))

def execAndi (core : Fin 256) (rd ra : BitVec 5) (imm : BitVec 16) (s : State) : Res :=
  .next (s.instr core (fun s => s.scalarOp core rd (s.sreg core ra &&& imm.setWidth 64)))

def execOri (core : Fin 256) (rd ra : BitVec 5) (imm : BitVec 16) (s : State) : Res :=
  .next (s.instr core (fun s => s.scalarOp core rd (s.sreg core ra ||| imm.setWidth 64)))

def execXori (core : Fin 256) (rd ra : BitVec 5) (imm : BitVec 16) (s : State) : Res :=
  .next (s.instr core (fun s => s.scalarOp core rd (s.sreg core ra ^^^ imm.setWidth 64)))

def execSlti (core : Fin 256) (rd ra : BitVec 5) (imm : BitVec 16) (s : State) : Res :=
  .next (s.instr core (fun s => s.scalarOp core rd (boolW ((s.sreg core ra).slt (sext16 imm)))))

def execShi (core : Fin 256) (rd ra : BitVec 5) (imm : BitVec 16) (s : State) : Res :=
  .next (s.instr core (fun s => s.scalarOpt core rd (shiOp imm (s.sreg core ra))))

/-- LIS: ra is ignored (R183). -/
def execLis (core : Fin 256) (rd _ra : BitVec 5) (imm : BitVec 16) (s : State) : Res :=
  .next (s.instr core (fun s => s.scalarOp core rd ((s.sreg core rd <<< 16) ||| imm.setWidth 64)))

def execScalarLoad (core : Fin 256) (kind : LdKind) (rd ra : BitVec 5) (imm : BitVec 16) (bad : BadWords) (s : State) :
    Res :=
  .next (s.instr core (fun s => s.scalarLoad core kind rd (s.sreg core ra + sext16 imm) bad))

def execScalarStore (core : Fin 256) (kind : StKind) (rd ra : BitVec 5) (imm : BitVec 16) (s : State) : Res :=
  .next (s.instr core (fun s => s.scalarStore core kind (s.sreg core rd) (s.sreg core ra + sext16 imm)))

def execBranch (core : Fin 256) (kind : BrKind) (ra rb : BitVec 5) (off : BitVec 16) (s : State) : Res :=
  .next (s.instr core (fun s =>
    if brTest kind (s.sreg core ra) (s.sreg core rb) then s.jump core (s.pc core + 4 * sext16 off) else s.retire core))

def execJal (core : Fin 256) (off : BitVec 26) (s : State) : Res :=
  .next (s.instr core (fun s => (s.setSreg core 31 (s.pc core + 4)).jump core (s.pc core + 4 * off.signExtend 64)))

def execJalr (core : Fin 256) (rd ra : BitVec 5) (imm : BitVec 16) (s : State) : Res :=
  .next (s.instr core (fun s =>
    (s.setSreg core rd (s.pc core + 4)).jump core ((s.sreg core ra + sext16 imm) &&& ~~~3#64)))

def execFop (core : Fin 256) (rd ra rb : BitVec 5) (func : BitVec 11) (s : State) : Res :=
  .next (s.instr core (fun s => s.scalarOpt core rd (fopOp func (s.sreg core ra) (s.sreg core rb))))

def execFma (core : Fin 256) (rd ra rb rc : BitVec 5) (rnd variant : BitVec 3) (s : State) : Res :=
  .next (s.instr core (fun s =>
    s.scalarOpt core rd (fmaOp variant.toNat rnd.toNat (s.sreg core ra) (s.sreg core rb) (s.sreg core rc))))

def execTord (core : Fin 256) (ra rb : BitVec 5) (s : State) : Res :=
  .next (s.instr core (fun s => s.tord core (s.sreg core ra) (s.sreg core rb)))

def execTld (core : Fin 256) (ra : BitVec 5) (bad : BadWords) (s : State) : Res :=
  .next (s.instr core (fun s => s.tld core (s.sreg core ra) bad))

/-- WAITE: the engines in the 32-bit mask in ra. -/
def execWaite (core : Fin 256) (rd ra : BitVec 5) (s : State) : Res :=
  .next (s.instr core (fun s =>
    s.waitFor core rd (fun src => decide (src < 32) && bit ((s.sreg core ra).toNat % 2 ^ 32) src)))

def execWaitl (core : Fin 256) (rd : BitVec 5) (s : State) : Res :=
  .next (s.instr core (fun s => s.waitFor core rd (fun src => src == 32)))

def execCsrr (core : Fin 256) (rd : BitVec 5) (csr : BitVec 12) (s : State) : Res :=
  .next (s.instr core (fun s => s.scalarOpt core rd (s.csrRead core csr.toNat)))

def execCsrw (core : Fin 256) (ra : BitVec 5) (csr : BitVec 12) (s : State) : Res :=
  .next (s.instr core (fun s => s.csrWrite core csr.toNat (s.sreg core ra)))

/-- The write of CSR LPOST (R241). -/
def execLpost (core : Fin 256) (ra : BitVec 5) (s : State) : Res :=
  .next (s.instr core (fun s => s.csrWrite core 0x030 (s.sreg core ra)))

/-- The write of CSR WPOST (R253). -/
def execWpost (core : Fin 256) (ra : BitVec 5) (s : State) : Res :=
  .next (s.instr core (fun s => s.csrWrite core 0x031 (s.sreg core ra)))

def execDone (core : Fin 256) (s : State) : Res := .next (s.instr core (fun s => s.seqDone core))

def execSys (core : Fin 256) (imm : BitVec 16) (s : State) : Res := .next (s.instr core (fun s => s.sys core imm))

/-- The debugger releases a sequencer it holds at a break, and the program goes on (R183). (DEDUCED, log entry 51.) -/
def execDebuggerResume (core : Fin 256) (s : State) : Res :=
  .next (if (s.core core).held then s.setCore core { s.core core with held := false } else s)

end Sys2Proof.Machine
end

