-- ==== Sys2Proof/Machine/Vector.lean ====
section
/-! DEFINITION. The vector unit (06_vector_extensions.md): registers and groups, VTYPE and VL, and the vector
instructions. -/

namespace Sys2Proof.Machine

/-! ### Registers and elements (R198 to R202) -/

/-- Vector register v and mask register m of a core (R203). -/
def State.vreg (s : State) (c v : Nat) : W512 := mget 0 s.cpu.vregs (c * 32 + v)
def State.setVreg (s : State) (c v : Nat) (x : W512) : State :=
  { s with cpu := { s.cpu with vregs := mset 0 s.cpu.vregs (c * 32 + v) x } }
def State.mreg (s : State) (c m : Nat) : W512 := mget 0 s.cpu.mregs (c * 8 + m)
def State.setMreg (s : State) (c m : Nat) (x : W512) : State :=
  { s with cpu := { s.cpu with mregs := mset 0 s.cpu.mregs (c * 8 + m) x } }

/-- Element width, group size and vector length in force (R199, R200). -/
def State.sew (s : State) (c : Nat) : Nat := 8 * 2 ^ ((s.csr c 0x021).toNat % 4)
def State.vgroup (s : State) (c : Nat) : Nat := 2 ^ ((s.csr c 0x021).toNat / 4 % 4)
def State.vl (s : State) (c : Nat) : Nat := (s.csr c 0x020).toNat
def State.vlmax (s : State) (c : Nat) : Nat := s.vgroup c * 512 / s.sew c

/-- Element i, of width w, of the group named by v (R199). -/
def State.velem (s : State) (c v w i : Nat) : Nat :=
  (s.vreg c (v + i * w / 512)).toNat / 2 ^ (i * w % 512) % 2 ^ w

def State.setVelem (s : State) (c v w i x : Nat) : State :=
  let r := v + i * w / 512
  let p := i * w % 512
  let old := (s.vreg c r).toNat
  s.setVreg c r (BitVec.ofNat 512 (old - old / 2 ^ p % 2 ^ w * 2 ^ p + x % 2 ^ w * 2 ^ p))

/-- Write (index, value) pairs of a group in order. -/
def State.setVelems (s : State) (c v w : Nat) (l : List (Nat × Nat)) : State :=
  l.foldl (fun s p => s.setVelem c v w p.1 p.2) s

def State.mbit (s : State) (c m i : Nat) : Bool := bit (s.mreg c m).toNat i

/-- Replace bits of a mask register. -/
def State.setMbits (s : State) (c m : Nat) (l : List (Nat × Bool)) : State :=
  s.setMreg c m (BitVec.ofNat 512 (l.foldl (fun v p =>
    v - v / 2 ^ p.1 % 2 * 2 ^ p.1 + b2n p.2 * 2 ^ p.1) (s.mreg c m).toNat))

/-- A register group of `n` is named by a multiple of its size and ends by v31 (R207). -/
def grpOk (v n : Nat) : Bool := decide (0 < n) && v % n == 0 && decide (v + n ≤ 32)

/-- Two groups share a register. -/
def grpMeet (v n u k : Nat) : Bool := decide (v < u + k ∧ u < v + n)

/-- Element i is active (R201). -/
def State.active (s : State) (c : Nat) (m : Bool) (mr : Nat) (i : Nat) : Bool := !m || s.mbit c mr i

/-- The active elements below VL. -/
def State.actives (s : State) (c : Nat) (o : VOp) : List Nat :=
  (List.range (s.vl c)).filter (s.active c o.m o.mr.toNat)

/-! ### Power (R225) -/

/-- A vector instruction wakes the unit, which counts in VWAKES, and marks the time. -/
def State.vwake (s : State) (c : Nat) : State :=
  let s := if s.vAsleep c then s.setCsr c 0x028 (BitVec.ofNat 64 (min ((s.csr c 0x028).toNat + 1) (2 ^ 32 - 1))) else s
  s.setCore c { s.core c with vAwake := true, vLast := s.clk.now }

/-- A vector instruction: illegal, or the unit awake and its effect (R207, R225). -/
def State.vinstr (s : State) (c : Nat) (legal : Bool) (f : State → State) : State :=
  s.instr c (fun s => if legal then f (s.vwake c) else s.programFault c 1)

/-! ### Configuration and moves (R208) -/

/-- VTYPE := t, VL := min(s_a, VLMAX) or VLMAX, s_d := VL. -/
def State.vset (s : State) (c : Nat) (d a : BitVec 5) (t : Nat) : State :=
  let n := s.sreg c a
  let s := s.setCsr c 0x021 (BitVec.ofNat 64 t)
  let vl := if a = 0 then s.vlmax c else min n.toNat (s.vlmax c)
  (s.setCsr c 0x020 (BitVec.ofNat 64 vl)).scalarOp c d (BitVec.ofNat 64 vl)

/-- A mask named by a register field: bits [4:3] must be zero. -/
def maskOk (a : BitVec 5) : Bool := decide (a.toNat < 8)

/-- Mask operation on bits below VL. -/
def State.maskOp (s : State) (c : Nat) (d a b : BitVec 5) (f : Bool → Bool → Bool) : State :=
  (s.setMbits c d.toNat ((List.range (s.vl c)).map (fun i => (i, f (s.mbit c a.toNat i) (s.mbit c b.toNat i))))).retire c

def execVsetvl (core : Fin 256) (d a : BitVec 5) (imm : BitVec 6) (s : State) : Res :=
  .next (s.vinstr core (decide (imm.toNat < 16)) (fun s => s.vset core d a imm.toNat))

def execVsetvlr (core : Fin 256) (d a b : BitVec 5) (s : State) : Res :=
  .next (s.vinstr core true (fun s => s.vset core d a ((s.sreg core b).toNat % 16)))

def execVmvxs (core : Fin 256) (d a b : BitVec 5) (s : State) : Res :=
  .next (s.vinstr core (grpOk a.toNat (s.vgroup core)) (fun s =>
    let i := (s.sreg core b).toNat
    let w := s.sew core
    s.scalarOp core d (if s.vlmax core ≤ i then 0 else BitVec.ofInt 64 (toSigned w (s.velem core a.toNat w i)))))

def execVmvsx (core : Fin 256) (d a b : BitVec 5) (s : State) : Res :=
  .next (s.vinstr core (grpOk d.toNat (s.vgroup core)) (fun s =>
    let i := (s.sreg core b).toNat
    (if s.vlmax core ≤ i then s else s.setVelem core d.toNat (s.sew core) i (s.sreg core a).toNat).retire core))

def execVmand (core : Fin 256) (d a b : BitVec 5) (s : State) : Res :=
  .next (s.vinstr core (maskOk d && maskOk a && maskOk b) (fun s => s.maskOp core d a b (· && ·)))

def execVmor (core : Fin 256) (d a b : BitVec 5) (s : State) : Res :=
  .next (s.vinstr core (maskOk d && maskOk a && maskOk b) (fun s => s.maskOp core d a b (· || ·)))

def execVmxor (core : Fin 256) (d a b : BitVec 5) (s : State) : Res :=
  .next (s.vinstr core (maskOk d && maskOk a && maskOk b) (fun s => s.maskOp core d a b (fun x y => x != y)))

def execVmandn (core : Fin 256) (d a b : BitVec 5) (s : State) : Res :=
  .next (s.vinstr core (maskOk d && maskOk a && maskOk b) (fun s => s.maskOp core d a b (fun x y => x && !y)))

def execVmpop (core : Fin 256) (d a : BitVec 5) (s : State) : Res :=
  .next (s.vinstr core (maskOk a) (fun s =>
    s.scalarOp core d (BitVec.ofNat 64 (((List.range (s.vl core)).filter (s.mbit core a.toNat)).length))))

def execVmfirst (core : Fin 256) (d a : BitVec 5) (s : State) : Res :=
  .next (s.vinstr core (maskOk a) (fun s =>
    s.scalarOp core d (match (List.range (s.vl core)).find? (s.mbit core a.toNat) with
      | some i => BitVec.ofNat 64 i
      | none => BitVec.allOnes 64)))

def execVmset (core : Fin 256) (d : BitVec 5) (imm : BitVec 6) (s : State) : Res :=
  .next (s.vinstr core (maskOk d) (fun s =>
    (s.setMbits core d.toNat ((List.range (s.vl core)).map (fun i => (i, bit imm.toNat 0)))).retire core))

def execVidx (core : Fin 256) (d : BitVec 5) (s : State) : Res :=
  .next (s.vinstr core (grpOk d.toNat (s.vgroup core)) (fun s =>
    (s.setVelems core d.toNat (s.sew core) ((List.range (s.vl core)).map (fun i => (i, i)))).retire core))

def execVmvr (core : Fin 256) (d a : BitVec 5) (imm : BitVec 6) (s : State) : Res :=
  let n := imm.toNat
  .next (s.vinstr core ([1, 2, 4, 8].contains n && grpOk d.toNat n && grpOk a.toNat n) (fun s =>
    let vals := (List.range n).map (fun i => s.vreg core (a.toNat + i))
    (vals.zipIdx.foldl (fun s p => s.setVreg core (d.toNat + p.2) p.1) s).retire core))

/-! ### Integer operations (R209) -/

/-- Saturate an exact result to `w` bits, signed or unsigned. -/
def satS (w : Nat) (v : Int) : Int := if v < -(2 ^ (w - 1) : Int) then -(2 ^ (w - 1)) else if (2 ^ (w - 1) : Int) ≤ v then 2 ^ (w - 1) - 1 else v
def satU (w : Nat) (v : Int) : Int := if v < 0 then 0 else if (2 ^ w : Int) ≤ v then 2 ^ w - 1 else v

/-- The operation of func on elements of width w as patterns; none for a func not listed. -/
def vintOp (func w a b : Nat) : Option Nat :=
  let sa := toSigned w a
  let sb := toSigned w b
  let r := fun (v : Int) => some (ofSigned w v)
  match func with
  | 0x00 => some ((a + b) % 2 ^ w)
  | 0x01 => r ((a : Int) - b)
  | 0x02 => some (a &&& b)
  | 0x03 => some (a ||| b)
  | 0x04 => some (Nat.xor a b)
  | 0x05 => some (a * 2 ^ (b % w) % 2 ^ w)
  | 0x06 => some (a / 2 ^ (b % w))
  | 0x07 => r (sa / 2 ^ (b % w))
  | 0x08 => r (min sa sb)
  | 0x09 => r (max sa sb)
  | 0x0A => some (min a b)
  | 0x0B => some (max a b)
  | 0x0C => some (a * b % 2 ^ w)
  | 0x0D => r (sa * sb / 2 ^ w)
  | 0x0E => some (a * b / 2 ^ w)
  | 0x0F => some b
  | 0x10 => r (satS w (sa + sb))
  | 0x11 => r (satU w ((a : Int) + b))
  | 0x12 => r (satS w (sa - sb))
  | 0x13 => r (satU w ((a : Int) - b))
  | 0x14 => some (((a : Int) - b).natAbs % 2 ^ w)
  | 0x15 => some ((sa - sb).natAbs % 2 ^ w)
  | 0x18 => some b
  | _ => none

/-- Operand b of element i under SRC (R206): vector, low bits of a scalar, or the immediate. -/
def State.vsrc (s : State) (c : Nat) (b : BitVec 5) (src : Nat) (zext : Bool) (w i : Nat) : Nat :=
  match src with
  | 0 => s.velem c b.toNat w i
  | 1 => (s.sreg c b).toNat % 2 ^ w
  | _ => if zext then b.toNat % 2 ^ w else ofSigned w b.toInt

/-- Groups of a form VI instruction are well named; SRC 3 is reserved. (DEDUCED, log entry 59.) -/
def State.viOk (s : State) (c : Nat) (o : VOp) (src : Nat) : Bool :=
  let g := s.vgroup c
  grpOk o.vd.toNat g && grpOk o.va.toNat g && decide (src < 3) && (src != 0 || grpOk o.b.toNat g)

def execVectorIntegerOp (core : Fin 256) (o : VOp) (src : BitVec 2) (func : BitVec 5) (s : State) : Res :=
  let fn := func.toNat
  let legal := s.viOk core o src.toNat && (vintOp fn 8 0 0).isSome && (fn != 0x0F || o.m) && (fn != 0x18 || o.va == 0)
  .next (s.vinstr core legal (fun s =>
    let w := s.sew core
    let shift := fn == 5 || fn == 6 || fn == 7
    let one := fun i =>
      let a := s.velem core o.va.toNat w i
      let b := s.vsrc core o.b src.toNat shift w i
      if fn = 0x0F then (i, if s.mbit core o.mr.toNat i then b else a) else (i, (vintOp fn w a b).getD a)
    let is := if fn = 0x0F then List.range (s.vl core) else s.actives core o
    (s.setVelems core o.vd.toNat w (is.map one)).retire core))

/-! ### Floating point (R210, R211) -/

/-- The format of SEW 64 or 32. -/
def vfmt (w : Nat) : FFmt := if w = 64 then f64 else f32

def fpSew (w : Nat) : Bool := w == 64 || w == 32

/-- Operand b of form VF: vector, or the low bits of a scalar. -/
def State.vfsrc (s : State) (c : Nat) (b : BitVec 5) (scalar : Bool) (w i : Nat) : FV :=
  (vfmt w).decode (if scalar then (s.sreg c b).toNat % 2 ^ w else s.velem c b.toNat w i)

def State.vfOk (s : State) (c : Nat) (o : VOp) (scalar : Bool) : Bool :=
  let g := s.vgroup c
  fpSew (s.sew c) && grpOk o.vd.toNat g && grpOk o.va.toNat g && (scalar || grpOk o.b.toNat g)

/-- Major 0x32 (R211). -/
def vfpOp (func : Nat) (rm : Rm) (x y : FV) : FV :=
  let dn := rm == .rdn
  match func with
  | 0 => FV.add dn x y
  | 1 => FV.sub dn x y
  | 2 => x.mul y
  | 3 => x.div y
  | 4 => x.sqrt
  | 5 => x.min y
  | _ => x.max y

/-- Major 0x33 (R211). -/
def vfmaOp (func : Nat) (rm : Rm) (x y z : FV) : FV :=
  let dn := rm == .rdn
  match func with
  | 0 => FV.fma dn x y z
  | 1 => FV.fma dn x y z.neg
  | 2 => FV.fma dn x.neg y z
  | _ => FV.fma dn x.neg y z.neg

def execVectorFpOp (core : Fin 256) (o : VOp) (scalar : Bool) (rnd : BitVec 3) (func : BitVec 3) (s : State) : Res :=
  let fn := func.toNat
  let legal := s.vfOk core o scalar && fn != 7 && (fn != 4 || (o.b == 0 && !scalar))
  .next (s.vinstr core legal (fun s =>
    let w := s.sew core
    let f := vfmt w
    let rm := rmStrict rnd.toNat
    (s.setVelems core o.vd.toNat w ((s.actives core o).map (fun i =>
      (i, f.ieee rm (vfpOp fn rm (f.decode (s.velem core o.va.toNat w i)) (s.vfsrc core o.b scalar w i)))))).retire core))

def execVectorFma (core : Fin 256) (o : VOp) (scalar : Bool) (rnd : BitVec 3) (func : BitVec 3) (s : State) : Res :=
  let fn := func.toNat
  .next (s.vinstr core (s.vfOk core o scalar && decide (fn < 4)) (fun s =>
    let w := s.sew core
    let f := vfmt w
    let rm := rmStrict rnd.toNat
    (s.setVelems core o.vd.toNat w ((s.actives core o).map (fun i =>
      (i, f.ieee rm (vfmaOp fn rm (f.decode (s.velem core o.va.toNat w i)) (s.vfsrc core o.b scalar w i)
        (f.decode (s.velem core o.vd.toNat w i))))))).retire core))

/-! ### Reductions (R213, R214) -/

/-- A reduction: SRC 0, va a group, the result in element 0 of vd; nothing when VL is 0. -/
def State.reduce (s : State) (c : Nat) (o : VOp) (f : Nat → Nat → Nat) : State :=
  let w := s.sew c
  (if s.vl c = 0 then s
   else s.setVelem c o.vd.toNat w 0 ((s.actives c o).foldl (fun acc i => f acc (s.velem c o.va.toNat w i))
     (s.velem c o.b.toNat w 0))).retire c

def execVredsum (core : Fin 256) (o : VOp) (src : BitVec 2) (func : BitVec 5) (s : State) : Res :=
  let fn := func.toNat
  .next (s.vinstr core (decide (fn < 5) && src == 0 && grpOk o.va.toNat (s.vgroup core)) (fun s =>
    s.reduce core o (fun a b =>
      (vintOp (match fn with | 0 => 0x00 | 1 => 0x09 | 2 => 0x08 | 3 => 0x0B | _ => 0x0A) (s.sew core) a b).getD a)))

def execVfredsum (core : Fin 256) (o : VOp) (src : BitVec 2) (s : State) : Res :=
  .next (s.vinstr core (src == 0 && fpSew (s.sew core) && grpOk o.va.toNat (s.vgroup core)) (fun s =>
    let f := vfmt (s.sew core)
    s.reduce core o (fun a b => f.ieee .rne (FV.add false (f.decode a) (f.decode b)))))

def execVfredmax (core : Fin 256) (o : VOp) (src : BitVec 2) (func : BitVec 5) (s : State) : Res :=
  let fn := func.toNat
  .next (s.vinstr core ((fn == 0x09 || fn == 0x0A) && src == 0 && fpSew (s.sew core) && grpOk o.va.toNat (s.vgroup core))
    (fun s =>
      let f := vfmt (s.sew core)
      s.reduce core o (fun a b =>
        f.ieee .rne (if fn = 0x09 then (f.decode a).max (f.decode b) else (f.decode a).min (f.decode b)))))

/-! ### Sums of absolute differences (R215) -/

/-- (DEDUCED, log entry 59.) -/
def execVsad (core : Fin 256) (o : VOp) (src : BitVec 2) (signed : Bool) (s : State) : Res :=
  let g := s.vgroup core
  let legal := s.viOk core o src.toNat && (s.sew core == 8 || s.sew core == 16) &&
    !grpMeet o.vd.toNat g o.va.toNat g && (src != 0 || !grpMeet o.vd.toNat g o.b.toNat g)
  .next (s.vinstr core legal (fun s =>
    let w := s.sew core
    let diff := fun i =>
      let a := s.velem core o.va.toNat w i
      let b := s.vsrc core o.b src.toNat false w i
      if signed then (toSigned w a - toSigned w b).natAbs else ((a : Int) - b).natAbs
    let sum := fun j => (((List.range 4).map (4 * j + ·)).filter (fun i =>
      decide (i < s.vl core) && s.active core o.m o.mr.toNat i)).foldl (fun acc i => acc + diff i) 0
    (s.setVelems core o.vd.toNat (4 * w) ((List.range (ceilDiv (s.vl core) 4)).map (fun j =>
      (j, (s.velem core o.vd.toNat (4 * w) j + sum j) % 2 ^ (4 * w))))).retire core))

/-! ### Permutes (R213) -/

/-- Slide distance: low 32 bits of a scalar, or the zero-extended immediate. -/
def State.slideBy (s : State) (c : Nat) (b : BitVec 5) (src : Nat) : Nat :=
  if src = 1 then (s.sreg c b).toNat % 2 ^ 32 else b.toNat

def execVslideup (core : Fin 256) (o : VOp) (src : BitVec 2) (s : State) : Res :=
  let g := s.vgroup core
  let legal := s.viOk core o src.toNat && src != 0 && !grpMeet o.vd.toNat g o.va.toNat g
  .next (s.vinstr core legal (fun s =>
    let w := s.sew core
    let b := s.slideBy core o.b src.toNat
    (s.setVelems core o.vd.toNat w (((s.actives core o).filter (fun i => decide (b ≤ i))).map (fun i =>
      (i, s.velem core o.va.toNat w (i - b))))).retire core))

def execVslidedn (core : Fin 256) (o : VOp) (src : BitVec 2) (s : State) : Res :=
  .next (s.vinstr core (s.viOk core o src.toNat && src != 0) (fun s =>
    let w := s.sew core
    let b := s.slideBy core o.b src.toNat
    (s.setVelems core o.vd.toNat w ((s.actives core o).map (fun i =>
      (i, if s.vlmax core ≤ i + b then 0 else s.velem core o.va.toNat w (i + b))))).retire core))

def execVgather (core : Fin 256) (o : VOp) (src : BitVec 2) (s : State) : Res :=
  let g := s.vgroup core
  let legal := s.viOk core o src.toNat && src == 0 && !grpMeet o.vd.toNat g o.va.toNat g &&
    !grpMeet o.vd.toNat g o.b.toNat g
  .next (s.vinstr core legal (fun s =>
    let w := s.sew core
    (s.setVelems core o.vd.toNat w ((s.actives core o).map (fun i =>
      let k := s.velem core o.b.toNat w i
      (i, if s.vlmax core ≤ k then 0 else s.velem core o.va.toNat w k)))).retire core))

def execVcompress (core : Fin 256) (o : VOp) (src : BitVec 2) (s : State) : Res :=
  let g := s.vgroup core
  let legal := decide (src.toNat < 3) && grpOk o.vd.toNat g && grpOk o.va.toNat g && !grpMeet o.vd.toNat g o.va.toNat g &&
    (src != 0 || !grpMeet o.vd.toNat g o.b.toNat g)
  .next (s.vinstr core legal (fun s =>
    let w := s.sew core
    (s.setVelems core o.vd.toNat w ((s.actives core o).zipIdx.map (fun p =>
      (p.2, s.velem core o.va.toNat w p.1)))).retire core))

/-! ### Compares (R213) -/

def vcmp (func w a b : Nat) : Bool :=
  match func with
  | 0x18 => a == b
  | 0x19 => a != b
  | 0x1A => decide (toSigned w a < toSigned w b)
  | 0x1B => decide (a < b)
  | _ => decide (toSigned w a ≤ toSigned w b)

def execVmseq (core : Fin 256) (o : VOp) (src : BitVec 2) (func : BitVec 5) (s : State) : Res :=
  let g := s.vgroup core
  let fn := func.toNat
  let legal := decide (0x18 ≤ fn ∧ fn ≤ 0x1C) && maskOk o.vd && grpOk o.va.toNat g && decide (src.toNat < 3) &&
    (src != 0 || grpOk o.b.toNat g)
  .next (s.vinstr core legal (fun s =>
    let w := s.sew core
    (s.setMbits core o.vd.toNat ((s.actives core o).map (fun i =>
      (i, vcmp fn w (s.velem core o.va.toNat w i) (s.vsrc core o.b src.toNat false w i))))).retire core))

def execVmfeq (core : Fin 256) (o : VOp) (src : BitVec 2) (func : BitVec 5) (s : State) : Res :=
  let g := s.vgroup core
  let fn := func.toNat
  let legal := decide (0x1D ≤ fn ∧ fn ≤ 0x1F) && maskOk o.vd && grpOk o.va.toNat g && decide (src.toNat < 3) &&
    (src != 0 || grpOk o.b.toNat g) && fpSew (s.sew core)
  .next (s.vinstr core legal (fun s =>
    let w := s.sew core
    let f := vfmt w
    (s.setMbits core o.vd.toNat ((s.actives core o).map (fun i =>
      let x := f.decode (s.velem core o.va.toNat w i)
      let y := f.decode (s.vsrc core o.b src.toNat false w i)
      (i, match fn with
        | 0x1D => x.eqv y
        | 0x1E => x.lt y
        | _ => x.lt y || x.eqv y)))).retire core))

/-! ### Loads and stores (R216 to R221) -/

/-- Address of field f of element i (R216): the base plus the unit, strided or indexed offset. -/
def State.vaddr (s : State) (c : Nat) (o : VOp) (mop nf i f : Nat) : W64 :=
  let w := s.sew c / 8
  let base := s.sreg c o.va
  match mop with
  | 1 => base + BitVec.ofNat 64 i * s.sreg c o.b + BitVec.ofNat 64 (f * w)
  | 2 => base + BitVec.ofNat 64 (s.velem c o.b.toNat (8 * w) i) + BitVec.ofNat 64 (f * w)
  | _ => base + BitVec.ofNat 64 (i * nf * w + f * w)

/-- The accesses of an instruction in order: element, field, address (R218). -/
def State.vaccs (s : State) (c : Nat) (o : VOp) (mop nf : Nat) : List (Nat × Nat × W64) :=
  (s.actives c o).flatMap (fun i => (List.range nf).map (fun f => (i, f, s.vaddr c o mop nf i f)))

/-- A running loader transfer with LOCAL 1 whose core-store range the accesses overlap: they wait (R219). -/
def State.vblocked (s : State) (c : Nat) (w : Nat) (as_ : List W64) : Bool :=
  ((s.loader c).filter (fun o => o.running && o.ldF.loc)).any (fun o =>
    o.ldF.ranges.any (fun r => as_.any (fun a => decide (a.toNat < r.hi ∧ r.lo < a.toNat + w))))

/-- Groups of a form VM instruction (R207, R216, R217). -/
def State.vmOk (s : State) (c : Nat) (o : VOp) (mop nf : Nat) : Bool :=
  let g := s.vgroup c
  grpOk o.vd.toNat g && decide (nf * g ≤ 8) && decide (o.vd.toNat + nf * g ≤ 32) && (nf == 1 || decide (mop < 2)) &&
    (mop != 2 || grpOk o.b.toNat g)

/-- Load element by element until one faults (R218, R229): the state so far and the cause that stopped it. -/
def State.vloadGo (c : Nat) (o : VOp) (w g : Nat) (bad : BadWords) : List (Nat × Nat × W64) → State → State
  | [], s => s.retire c
  | (i, f, a) :: t, s =>
    if !csOk a (w / 8) then s.programFault c 2
    else if badWord bad.unc a.toNat (w / 8) then s.coreUnc c (a.toNat / 8)
    else if s.csPois c a.toNat (w / 8) then s.programFault c 4
    else State.vloadGo c o w g bad t ((s.coreCor c bad.cor [(a.toNat, w / 8)]).setVelem c (o.vd.toNat + f * g) w i (leNat (s.csRead c a.toNat (w / 8))))

def State.vload (s : State) (c : Nat) (o : VOp) (mop nf : Nat) (bad : BadWords) : State :=
  let as_ := s.vaccs c o mop nf
  let w := s.sew c
  if s.vblocked c (w / 8) (as_.map (·.2.2)) then s.waitSeq c .vector else State.vloadGo c o w (s.vgroup c) bad as_ s

/-- A first-fault element (R221): outside the store, unaligned, or at or above a non-zero VFF_LIMIT. -/
def State.ffFault (s : State) (c : Nat) (a : W64) : Bool :=
  let l := (s.csr c 0x022).toNat
  !csOk a (s.sew c / 8) || (l != 0 && decide (l ≤ a.toNat))

/-- First-fault load (R221): element 0 faults as a load does; a later one shortens VL to it. -/
def State.vloadFf (s : State) (c : Nat) (o : VOp) (bad : BadWords) : State :=
  let as_ := s.vaccs c o 0 1
  let w := s.sew c
  match as_.find? (fun p => s.ffFault c p.2.2) with
  | some (k, _, _) =>
    if k = 0 then s.programFault c 2
    else
      let keep := as_.filter (fun p => decide (p.1 < k))
      if s.vblocked c (w / 8) (keep.map (·.2.2)) then s.waitSeq c .vector
      else
        let s' := State.vloadGo c o w (s.vgroup c) bad keep s
        if (s'.core c).fault.isSome then s' else s'.setCsr c 0x020 (BitVec.ofNat 64 k)
  | none => if s.vblocked c (w / 8) (as_.map (·.2.2)) then s.waitSeq c .vector else State.vloadGo c o w (s.vgroup c) bad as_ s

def State.vstoreGo (c : Nat) (o : VOp) (w g : Nat) : List (Nat × Nat × W64) → State → State
  | [], s => s.retire c
  | (i, f, a) :: t, s =>
    if !csOk a (w / 8) then s.programFault c 2
    else State.vstoreGo c o w g t (s.csWrite c a.toNat (natLe (w / 8) (s.velem c (o.vd.toNat + f * g) w i)))

/-- MOP 3 is the first-fault form, with NF 1 (R216). -/
def execVectorLoad (core : Fin 256) (o : VOp) (mop nf : BitVec 2) (bad : BadWords) (s : State) : Res :=
  let n := nf.toNat + 1
  let g := s.vgroup core
  let legal := s.vmOk core o mop.toNat n && (mop != 2 || !grpMeet o.vd.toNat g o.b.toNat g)
  .next (s.vinstr core legal (fun s =>
    if mop.toNat = 3 then s.vloadFf core o bad else s.vload core o mop.toNat n bad))

def execFirstFaultLoad (core : Fin 256) (o : VOp) (nf : BitVec 2) (bad : BadWords) (s : State) : Res :=
  .next (s.vinstr core (s.vmOk core o 3 (nf.toNat + 1)) (fun s => s.vloadFf core o bad))

def execVectorStore (core : Fin 256) (o : VOp) (mop nf : BitVec 2) (s : State) : Res :=
  let n := nf.toNat + 1
  .next (s.vinstr core (s.vmOk core o mop.toNat n && mop != 3) (fun s =>
    let as_ := s.vaccs core o mop.toNat n
    let w := s.sew core
    if s.vblocked core (w / 8) (as_.map (·.2.2)) then s.waitSeq core .vector
    else State.vstoreGo core o w (s.vgroup core) as_ s))

/-! ### Conversions (R222 to R224) -/

/-- Width and kind of a vector conversion's format code: floating point, or a signed integer. -/
def cvtFmt (code : Nat) : Option (Nat × Option FFmt) :=
  match code with
  | 0x0 => some (64, some f64)
  | 0x1 => some (32, some f32)
  | 0x2 => some (16, some bf16)
  | 0x3 => some (16, some f16)
  | 0x4 => some (8, some e4m3)
  | 0x5 => some (8, some e5m2)
  | 0x8 => some (8, none)
  | 0x9 => some (16, none)
  | 0xA => some (32, none)
  | 0xB => some (64, none)
  | _ => none

/-- Registers of an operand of width x (R223). -/
def cvtRegs (g sew x : Nat) : Nat := max 1 (g * x / sew)

/-- One element: pattern and counter. -/
def cvtElem (rm : Rm) (sw : Nat) (sf : Option FFmt) (dw : Nat) (df : Option FFmt) (p : Nat) : Nat × Cnt :=
  let v := match sf with
    | some f => f.decode p
    | none => fvOfInt (toSigned sw p)
  match df with
  | some f => f.conv true rm v
  | none => let r := intConv dw rm v; (ofSigned dw r.1, r.2)

/-- Add to a saturating 32-bit counter CSR. -/
def State.csrCount (s : State) (c n k : Nat) : State :=
  if k = 0 then s else s.setCsr c n (BitVec.ofNat 64 (min ((s.csr c n).toNat + k) (2 ^ 32 - 1)))

def execVcvt (core : Fin 256) (vd va : BitVec 5) (sfmt dfmt : BitVec 4) (rnd : BitVec 3) (m : Bool) (mr : BitVec 3)
    (s : State) : Res :=
  match cvtFmt sfmt.toNat, cvtFmt dfmt.toNat with
  | some (sw, sf), some (dw, df) =>
    let g := s.vgroup core
    let sn := cvtRegs g (s.sew core) sw
    let dn := cvtRegs g (s.sew core) dw
    let legal := decide (sn ≤ 8 ∧ dn ≤ 8) && grpOk va.toNat sn && grpOk vd.toNat dn &&
      (sw == dw || !grpMeet vd.toNat dn va.toNat sn)
    .next (s.vinstr core legal (fun s =>
      let rs := (s.actives core ⟨vd, va, 0, m, mr⟩).map (fun i =>
        (i, cvtElem (rmStrict rnd.toNat) sw sf dw df (s.velem core va.toNat sw i)))
      let cs := rs.map (·.2.2)
      let s := s.setVelems core vd.toNat dw (rs.map (fun r => (r.1, r.2.1)))
      let s := (s.csrCount core 0x024 (countCnt .sat cs)).csrCount core 0x026 (countCnt .nan cs)
      (s.csrCount core 0x027 (countCnt .inf cs)).retire core))
  | _, _ => .next (s.vinstr core false id)

/-- After 4 local µs without a vector instruction and with HOLD 0, the unit powers down (R225). -/
def execVectorPowerDown (core : Fin 256) (s : State) : Res :=
  .next (if (s.core core).vAwake then s.vSettle core else s)

end Sys2Proof.Machine
end

