-- ==== Sys2Proof/Machine/SeqDecode.lean ====
section
/-! DEFINITION. The words of sequencer instructions (R182 to R185, R206 to R223): which command each spells, and the
illegal instruction (R183, R191, R207). -/

namespace Sys2Proof.Machine

/-- Bits hi to lo of an instruction word as a register or field of `n` bits. -/
def wf (w : W32) (lo n : Nat) : BitVec n := BitVec.ofNat n (w.toNat / 2 ^ lo)

/-- Operand fields of forms VI, VF and VM (R206). -/
def vop (w : W32) : VOp := ⟨wf w 21 5, wf w 16 5, wf w 11 5, bit w.toNat 10, wf w 7 3⟩

/-- Major 0x30 (R208). -/
def decodeVC (core : Fin 256) (w : W32) : Option Instr :=
  let d := wf w 21 5
  let a := wf w 16 5
  let b := wf w 11 5
  let imm : BitVec 6 := wf w 0 6
  match bits w.toNat 10 6 with
  | 0x00 => if imm.toNat < 16 then some (.vsetvl core d a imm) else none
  | 0x01 => some (.vsetvlr core d a b)
  | 0x02 => some (.vmvxs core d a b)
  | 0x03 => some (.vmvsx core d a b)
  | 0x04 => some (.vmand core d a b)
  | 0x05 => some (.vmor core d a b)
  | 0x06 => some (.vmxor core d a b)
  | 0x07 => some (.vmandn core d a b)
  | 0x08 => some (.vmpop core d a)
  | 0x09 => some (.vmfirst core d a)
  | 0x0A => some (.vmset core d imm)
  | 0x0B => some (.vidx core d)
  | 0x0C => if [1, 2, 4, 8].contains imm.toNat then some (.vmvr core d a imm) else none
  | _ => none

/-- Major 0x36 (R213). -/
def decodeV36 (core : Fin 256) (w : W32) : Option Instr :=
  let o := vop w
  let src : BitVec 2 := wf w 5 2
  let func : BitVec 5 := wf w 0 5
  let fn := func.toNat
  if src = 3 then none
  else if fn ≤ 0x04 then some (.vredsum core o src func)
  else if fn = 0x08 then some (.vfredsum core o src)
  else if fn = 0x09 ∨ fn = 0x0A then some (.vfredmax core o src func)
  else if fn = 0x10 then some (.vsad core o src false)
  else if fn = 0x11 then some (.vsad core o src true)
  else if fn = 0x14 then some (.vslideup core o src)
  else if fn = 0x15 then some (.vslidedn core o src)
  else if fn = 0x16 then some (.vgather core o src)
  else if fn = 0x17 then some (.vcompress core o src)
  else if 0x18 ≤ fn ∧ fn ≤ 0x1C then some (.vmseq core o src func)
  else if 0x1D ≤ fn then some (.vmfeq core o src func)
  else none

/-- Majors 0x34 and 0x35 (R216): bits [2:0] are reserved. -/
def decodeVM (core : Fin 256) (w : W32) (store : Bool) : Option Instr :=
  let o := vop w
  let mop : BitVec 2 := wf w 5 2
  let nf : BitVec 2 := wf w 3 2
  if w.toNat % 8 ≠ 0 ∨ (nf ≠ 0 ∧ 2 ≤ mop.toNat) then none
  else if store then (if mop = 3 then none else some (.vectorStore core o mop nf))
  else if mop = 3 then some (.firstFaultLoad core o nf {}) else some (.vectorLoad core o mop nf {})

/-- The instruction a word spells, with nothing uncorrectable met; none for an illegal one. (DESIGN CHOICE, log entry 5.) -/
def seqDecode (core : Fin 256) (w : W32) : Option Instr :=
  let rd := wf w 21 5
  let ra := wf w 16 5
  let rb := wf w 11 5
  let imm : BitVec 16 := wf w 0 16
  let func : BitVec 11 := wf w 0 11
  match bits w.toNat 31 26 with
  | 0x00 => if (aluOp func 0 0).isSome then some (.alu core rd ra rb func) else none
  | 0x01 => some (.addi core rd ra imm)
  | 0x02 => some (.andi core rd ra imm)
  | 0x03 => some (.ori core rd ra imm)
  | 0x04 => some (.xori core rd ra imm)
  | 0x05 => some (.slti core rd ra imm)
  | 0x06 => if (shiOp imm 0).isSome then some (.shi core rd ra imm) else none
  | 0x07 => some (.lis core rd ra imm)
  | 0x08 => some (.scalarLoad core .ld rd ra imm {})
  | 0x09 => some (.scalarLoad core .lwu rd ra imm {})
  | 0x0A => some (.scalarLoad core .lw rd ra imm {})
  | 0x0B => some (.scalarLoad core .lbu rd ra imm {})
  | 0x0C => some (.scalarStore core .sd rd ra imm)
  | 0x0D => some (.scalarStore core .sw rd ra imm)
  | 0x0E => some (.scalarStore core .sb rd ra imm)
  | 0x10 => some (.branch core .beq rd ra imm)
  | 0x11 => some (.branch core .bne rd ra imm)
  | 0x12 => some (.branch core .blt rd ra imm)
  | 0x13 => some (.branch core .bge rd ra imm)
  | 0x14 => some (.branch core .bltu rd ra imm)
  | 0x15 => some (.branch core .bgeu rd ra imm)
  | 0x16 => some (.jal core (wf w 0 26))
  | 0x17 => some (.jalr core rd ra imm)
  | 0x18 => if (fopOp func 0 0).isSome then some (.fop core rd ra rb func) else none
  | 0x19 =>
    if bits w.toNat 2 0 < 3 then some (.fma core rd ra rb (wf w 6 5) (wf w 3 3) (wf w 0 3)) else none
  | 0x20 => some (.tord core ra rb)
  | 0x21 => some (.tld core ra {})
  | 0x22 => some (.waite core rd ra)
  | 0x23 => some (.waitl core rd)
  | 0x24 => some (.csrr core rd (wf w 0 12))
  | 0x25 =>
    let n : BitVec 12 := wf w 0 12
    if n = 0x030 then some (.lpost core ra) else if n = 0x031 then some (.wpost core ra) else some (.csrw core ra n)
  | 0x26 => some (.done core)
  | 0x27 => if imm.toNat < 2 then some (.sys core imm) else none
  | 0x30 => decodeVC core w
  | 0x31 =>
    if wf w 5 2 = (3 : BitVec 2) ∨ !(vintOp (w.toNat % 32) 8 0 0).isSome then none
    else some (.vectorIntegerOp core (vop w) (wf w 5 2) (wf w 0 5))
  | 0x32 => if w.toNat % 8 = 7 then none else some (.vectorFpOp core (vop w) (bit w.toNat 6) (wf w 3 3) (wf w 0 3))
  | 0x33 => if 3 < w.toNat % 8 then none else some (.vectorFma core (vop w) (bit w.toNat 6) (wf w 3 3) (wf w 0 3))
  | 0x34 => decodeVM core w false
  | 0x35 => decodeVM core w true
  | 0x36 => decodeV36 core w
  | 0x37 =>
    if bit w.toNat 0 || (cvtFmt (bits w.toNat 15 12)).isNone || (cvtFmt (bits w.toNat 11 8)).isNone then none
    else some (.vcvt core rd ra (wf w 12 4) (wf w 8 4) (wf w 5 3) (bit w.toNat 4) (wf w 1 3))
  | _ => none

/-- A CSR instruction that names a number no table lists (R187). -/
def csrUnlisted (i : Instr) : Bool :=
  match i with
  | .csrr _ _ n | .csrw _ _ n => !(csrRo n.toNat || (csrMask n.toNat 0).isSome || n == 0x030 || n == 0x031)
  | _ => false

/-- The fetch at the PC yields no instruction. A word that spells none: the batch ends ABORTED with code 0x2303, cause 1; a
word that comes back uncorrectable (none): code 0x2301 (R191). A word that spells an instruction is none of these, and
nothing happens. (DESIGN CHOICE, log entries 5, 16.) -/
def execIllegalInstruction (core : Fin 256) (word : Option W32) (s : State) : Res :=
  .next (s.instr core (fun s =>
    match word with
    | none => s.coreUnc core ((s.pc core).toNat / 8)
    | some w =>
      match seqDecode core w with
      | none => s.programFault core 1
      | some i => if csrUnlisted i then s.programFault core 1 else s))

end Sys2Proof.Machine
end

