-- ==== Sys2Proof/Machine/Engine.lean ====
section
/-! DEFINITION. Orders and transfers as they run (R158 to R167, R177 to R180, R574), and the faults of engines, cores and
clusters (R191 to R193). -/

namespace Sys2Proof.Machine

/-! ### Turns and hazards (R158, R159, R574) -/

/-- The ranges an order or transfer of source `src` uses; a malformed one uses none. (DEDUCED, log entry 57.) -/
def State.orderRanges (s : State) (src : Nat) (o : Order) : List Rng :=
  if o.reason ≠ 0 then []
  else if src = 32 then o.ldF.ranges
  else if o.isTail then (tailF o.word).ranges
  else match s.arrClass (arrF o.word) with
    | some c => (arrF o.word).ranges c
    | none => []

/-- The next order of a kind in a queue whose turn it is: the first unfinished one, if it is not running. -/
def turn (p : Order → Bool) (q : List Order) : Option Order :=
  match q.find? (fun o => p o && !o.finished) with
  | some o => if o.running then none else some o
  | none => none

/-- The running order of a kind. -/
def runningOf (p : Order → Bool) (q : List Order) : Option Order := q.find? (fun o => p o && o.running)

/-- No earlier unfinished order or transfer of the core has a clashing range (R159). (DEDUCED, log entry 57.) -/
def State.noHazard (s : State) (c src : Nat) (o : Order) : Bool :=
  let rs := s.orderRanges src o
  (s.orders c).all (fun p =>
    p.2.finished || decide (o.issue ≤ p.2.issue) ||
      !(s.orderRanges p.1 p.2).any (fun x => rs.any (fun y => x.clash y)))

/-- Replace an order in its queue. -/
def putOrder (o : Order) (q : List Order) : List Order := q.map (fun p => if p.issue = o.issue then o else p)

/-- The order starts: what it will deliver is known from the stores as they stand, since nothing that clashes runs. -/
def State.startOrder (s : State) (c src : Nat) (o : Order) (r : OrdOut) : State :=
  let s := if src = 32 then s else s.setEngine (c * 32 + src) { s.engine (c * 32 + src) with stepAt := s.clk.now }
  s.setQueueOf c src (putOrder { o with running := true, res := some r.res, writes := r.writes, amax := r.amax,
                                         capSat := r.capSat, capNonfin := r.capNonfin } (s.queueOf c src))

/-- A malformed order or transfer (R164): reason 0x07 writes no record. Code 0x2101 is written when 0x08 is the reason
reported, and not when a lower one hides it; with two bad scales it gives GSCALE_A before GSCALE_B or GSCALE_D. (DEDUCED, log entry 57; DESIGN CHOICE, log entry 91.) -/
def State.refuseOrder (s : State) (c src : Nat) (o : Order) : State :=
  let g := if src = 32 then (if o.ldF.srcFmt.usesG && !gscaleOk o.ctx.gA then o.ctx.gA else o.ctx.gD)
    else if o.isTail then o.ctx.gD
    else if (fmtOf (arrF o.word).af).usesG && !gscaleOk o.ctx.gA then o.ctx.gA else o.ctx.gB
  let s := if o.reason = 8 then s.note 0x2101 o.ctx.tensorId.toNat g.toNat c else s
  let s := if o.reason = 7 then s else s.note 0x2204 c (if src = 32 then 32 else c * 32 + src) o.reason
  s.finish c src o.issue (noResult 0x04 o.reason 0)

/-! ### Delivery -/

/-- Write delivered bytes; a dst of 2 is an account virtual address (R178 to R180). -/
def State.applyWr (s : State) (acct : Nat) (w : Wr) : State :=
  match w.dst with
  | 0 =>
    let s := { s with mem := let r := wrStore s.mem.ts s.mem.tsPoison w.at_ w.bytes; { s.mem with ts := r.1, tsPoison := r.2 } }
    { s with mem := { s.mem with tsPoison := addPoison s.mem.tsPoison (w.pois.map (fun i => (w.at_ + i) / 8)) } }
  | 1 =>
    let s := { s with mem := let r := wrStore s.mem.cs s.mem.csPoison w.at_ w.bytes; { s.mem with cs := r.1, csPoison := r.2 } }
    { s with mem := { s.mem with csPoison := addPoison s.mem.csPoison (w.pois.map (fun i => (w.at_ + i) / 8)) } }
  | _ => w.pois.foldl (fun s i => match s.accKey acct (w.at_ + i) true with
      | some k => s.poisonDev [k / 8]
      | none => s) (s.accWrite acct w.at_ w.bytes)

/-- Bytes for the tile store of an engine that has been fenced meanwhile: they are not written (R179, R194). -/
def State.skips (s : State) (w : Wr) : Bool := w.dst == 0 && s.engFenced (w.at_ / 2 ^ 18 / 32) (w.at_ / 2 ^ 18 % 32)

/-- What the fast tier answers to a delivery: a group fenced or a share lost since the order started (R289, R297). -/
def State.deliverStatus (s : State) (acct : Nat) (ws : List Wr) : Nat :=
  firstStatus ((ws.filter (fun w => w.dst == 2)).map (fun w =>
    let st := s.accWriteStatus acct w.at_ w.bytes.length
    if st = 0x04 then 0 else st))

/-- Merge a capture into LCAPT of its slot (R240). -/
def State.capture (s : State) (c : Nat) (o : Order) : State :=
  let n := slotCsr o.ctx.slot 7
  let v := (s.csr c n).toNat
  let a := max (v % 2 ^ 32) o.amax.toNat
  let sat := bit v 32 || o.capSat
  let nf := bit v 33 || o.capNonfin
  s.setCsr c n (BitVec.ofNat 64 (a + 2 ^ 32 * b2n sat + 2 ^ 33 * b2n nf))

/-- The result of a running order as it completes: LATE after its batch's deadline, or what the fast tier answers. -/
def State.endResult (s : State) (c : Nat) (o : Order) : Result :=
  let r := o.res.getD (noResult 0 0 0)
  let st := s.deliverStatus (s.coreAcct c) o.writes
  if statusRank st < statusRank r.status then noResult st 0 r.steps
  else { r with status := s.lateStatus (s.coreQueue c) r.status }

/-- A running order completes with what it computed (R154, R166, R180); one on an engine poisoned meanwhile completes
ABORTED (R193). (DEDUCED, log entry 57.) -/
def State.deliver (s : State) (c src : Nat) (o : Order) : State :=
  if src ≠ 32 && (s.engine (c * 32 + src)).poisoned then s.finish c src o.issue (noResult 0x04 0 0)
  else
    let r := s.endResult c o
    let s := o.writes.foldl (fun s w => if s.skips w then s else s.applyWr (s.coreAcct c) w) s
    let s := s.capture c o
    (s.finish c src o.issue r).batchHealth c r

/-! ### Array and tail orders -/

/-- Start an order of the array or of the tail unit on its turn: malformed, on a poisoned engine, with an uncorrectable
or a poisoned word among what it reads, or running (R159, R164, R180, R191, R193). (DEDUCED, log entry 57.) -/
def State.beginOrder (s : State) (c e : Nat) (o : Order) (bad : BadWords) (spans : List (Nat × Nat)) (steps : Nat)
    (go : State → State) : State :=
  if o.reason ≠ 0 then s.refuseOrder c e o
  else if (s.engine (c * 32 + e)).poisoned then s.finish c e o.issue (noResult 0x04 0 0)
  else if !s.noHazard c e o then s
  else match badRead bad.unc spans with
    | some w => (s.finish c e o.issue (noResult 0x04 0 0)).engUnc c e (o.tag e) w
    | none =>
      let s := s.engCor c e bad.cor spans
      if spans.any (fun p => s.tsPois (c * 32 + e) p.1 p.2) then s.finish c e o.issue (noResult 0x20 0 steps)
      else go s

def execArrayOrder (engine : Fin 8192) (bad : BadWords) (s : State) : Res :=
  let c := engine.val / 32
  let e := engine.val % 32
  .next (s.working fun s => match turn (fun o => !o.isTail) (s.engine engine).queue with
    | none => s
    | some o =>
      let f := arrF o.word
      let k := (s.arrClass f).getD .fp32
      s.beginOrder c e o bad (f.reads k) (orderSteps k f.mode f.k) (fun s =>
        (s.noteMite c f).startOrder c e o (s.arrCompute c f k o.ctx)))

/-- The running array order completes; a residue mismatch fences the engine instead (R191). -/
def execArrayOrderComplete (engine : Fin 8192) (residue : Bool) (s : State) : Res :=
  let c := engine.val / 32
  let e := engine.val % 32
  .next (s.working fun s => match runningOf (fun o => !o.isTail) (s.engine engine).queue with
    | none => s
    | some o => if residue then s.fenceEngine c e 1 (o.tag e) else s.deliver c e o)

def execTailOrder (engine : Fin 8192) (bad : BadWords) (s : State) : Res :=
  let c := engine.val / 32
  let e := engine.val % 32
  .next (s.working fun s => match turn Order.isTail (s.engine engine).queue with
    | none => s
    | some o =>
      let f := tailF o.word
      s.beginOrder c e o bad f.reads f.steps (fun s => s.startOrder c e o (s.tailCompute c f o.ctx)))

def execTailOrderComplete (engine : Fin 8192) (s : State) : Res :=
  let c := engine.val / 32
  let e := engine.val % 32
  .next (s.working fun s => match runningOf Order.isTail (s.engine engine).queue with
    | none => s
    | some o => s.deliver c e o)

/-! ### Loader transfers -/

/-- A translation fault of a transfer (R180, R191): code 0x2304, counted on the die. (DEDUCED, log entry 56.) -/
def State.loaderFault (s : State) (c : Nat) (f : LdF) : State :=
  ((s.seqErr c 4).inc F.STR_FAULTS_COUNT 1 (c / 64)).note 0x2304 c (f.vaddr % 2 ^ 32) (f.vaddr / 2 ^ 32)

/-- A transfer starts with what it will deliver, the place words it found uncorrected and its source rows. -/
def State.startTransfer (s : State) (c : Nat) (o : Order) (dev : DevEvents) (r : OrdOut × List Nat × List LRow) : State :=
  let s := s.devAccess dev
  let s := s.takeUnc (s.coreAcct c) r.2.1
  let s := s.noteMiteLd c o.ldF r.2.2
  let s := if r.1.res.first = 0x09 && r.1.res.status == 4 then s.loaderFault c o.ldF else s
  s.startOrder c 32 o r.1

/-- A row of a transfer lies in a share whose port retrains: the transfer waits (R297). -/
def State.ldWaits (s : State) (c : Nat) (f : LdF) : Bool :=
  (List.range (if f.out then f.dstRows else f.rows)).any (fun i =>
    s.accWaits (s.coreAcct c) (f.rowVa i) (if f.out then f.dstBytes else f.srcBytes))

/-- (DEDUCED, log entry 56.) -/
def execLoaderTransfer (core : Fin 256) (dev : DevEvents) (bad : BadWords) (s : State) : Res :=
  let c := core.val
  .next (s.working fun s => match turn (fun _ => true) (s.loader c) with
    | none => s
    | some o =>
      let f := o.ldF
      if o.reason ≠ 0 then s.refuseOrder c 32 o
      else if !s.noHazard c 32 o || s.ldWaits c f then s
      else if f.out then
        match badRead bad.unc f.localSpans with
        | some w =>
          let s := s.finish c 32 o.issue (noResult 0x04 0 0)
          if f.loc then s.coreUnc c w else s.engUnc c f.firstEngine (o.tag 32) w
        | none =>
          let s := if f.loc then s.coreCor c bad.cor f.localSpans else s.engCor c f.firstEngine bad.cor f.localSpans
          s.startTransfer c o dev (s.ldOut c f o.ctx dev.bad)
      else s.startTransfer c o dev (s.ldIn c f o.ctx dev.bad))

def execLoaderTransferComplete (core : Fin 256) (s : State) : Res :=
  .next (s.working fun s => match runningOf (fun _ => true) (s.loader core) with
    | none => s
    | some o => if o.ldF.out && s.ldWaits core o.ldF then s else s.deliver core 32 o)

/-! ### Completion records (R166, R167) -/

def execCompletionRecordWrite (core : Fin 256) (s : State) : Res := .next (s.working (fun s => s.putRecord core))

/-! ### Faults of engines, cores and clusters (R191) -/

/-- TAG of an engine's running order, or 0. -/
def State.runningTag (s : State) (c e : Nat) : Nat :=
  match (s.engine (c * 32 + e)).queue.find? (·.running) with
  | some o => o.tag e
  | none => 0

/-- No step acknowledged for ENG_CTRL.HANG_US while an order runs. (DEDUCED, log entry 94.) -/
def execEngineHang (engine : Fin 8192) (s : State) : Res :=
  let c := engine.val / 32
  let e := engine.val % 32
  .next (s.working fun s =>
    if (s.engine engine).queue.any (·.running) && s.after (s.engine engine).stepAt (usec (s.rd F.ENG_CTRL_HANG_US (c / 64)))
    then s.fenceEngine c e 2 (s.runningTag c e) else s)

/-- A core stopped at cluster level: code 0x2401, the core fenced. -/
def State.clusterStop (s : State) (c kind cause : Nat) : State :=
  ((s.seqErr c kind).note 0x2401 c cause (s.pc c).toNat).fenceCore c 0x2401

/-- A batch runs and no instruction has retired for SEQ_CTRL.HANG_US outside WAITE and WAITL; a debugger that holds the
sequencer holds the test. (DEDUCED, log entry 94.) -/
def State.seqHangs (s : State) (c : Nat) : Bool :=
  (s.seqState c == 1 || (s.seqState c == 2 && (s.core c).wait != .orders && (s.core c).wait != .unit)) && !(s.core c).held &&
    s.after (s.core c).retiredAt (usec (s.rd F.SEQ_CTRL_HANG_US (c / 64)))

def execSequencerHang (core : Fin 256) (s : State) : Res :=
  .next (s.working fun s => if s.seqHangs core then s.clusterStop core 5 2 else s)

/-- ENG_FENCE_REQ of a die (R197): an absent engine is unaffected. -/
def State.engFenceWrite (s : State) (die n : Nat) : State :=
  let c := die * 64 + n / 32
  s.fenceEngine c (n % 32) 4 (s.runningTag c (n % 32))

end Sys2Proof.Machine
end

