-- ==== Sys2Proof/Machine/Operands.lean ====
section
/-! DEFINITION. Operands of the commands that reach the module from outside: requesters of control space (R559 to R563,
R570), the command ring (R452, R453), the firmware processors that serve commands (R430). -/

namespace Sys2Proof.Machine

/-! ### Free values -/

/-- The next free value, of `n` bits at most. (DESIGN CHOICE, log entry 11.) -/
def State.freeNat (s : State) (n : Nat) : Nat := (Config.freeValue s.free).toNat % 2 ^ n

/-! ### Firmware processors -/

def State.fwState (s : State) (p : Nat) : Nat := s.rd F.GLB_FW_STATE 0 p

/-- Running. -/
def State.fwRuns (s : State) (p : Nat) : Bool := s.fwState p == 2

/-- Running, restarting or updating: commands to it wait in hardware (R439, R442). -/
def State.fwAlive (s : State) (p : Nat) : Bool := s.fwState p == 2 || s.fwState p == 3 || s.fwState p == 4

/-! ### Requesters -/

/-- Control space answers: main rails are up, power is good and no halt of R58 stops the domains. -/
def State.ctlAlive (s : State) : Bool :=
  match s.boot.phase with
  | .off | .railsUp | .halted => false
  | _ => true

/-- The service responder serves: in service state and before start step 7 completes (R542). -/
def State.svcTime (s : State) : Bool :=
  s.boot.phase == .service || (s.boot.phase == .starting && decide (s.rd F.GLB_STATE_STEP < 7))

/-- A write of this requester takes effect now: general-purpose cores and the service responder are held off while a
fatal dump runs (R570); the I2C target only reads (R544). -/
def State.ctlWrite (s : State) (q : Requester) : Bool :=
  s.ctlAlive && (match q with
    | .i2c => false
    | .hart _ => s.boot.phase != .fatal
    | .service => s.svcTime
    | _ => true)

/-- The answer of a read. -/
def State.answer (s : State) (q : Requester) (v : W64) : State :=
  { s with bus := { s.bus with rdata := (q, v) :: s.bus.rdata.filter (fun e => e.1 != q) } }

/-- A requester accesses a register: its held half of any other register is discarded. (DEDUCED, log entry 23.) -/
def State.dropHeld (s : State) (q : Requester) (key : Nat) : State :=
  { s with bus := { s.bus with held := s.bus.held.filter (fun e => !(e.1 == q && e.2.1 != key)) } }

/-- No held half of this requester survives. -/
def State.dropAllHeld (s : State) (q : Requester) : State :=
  { s with bus := { s.bus with held := s.bus.held.filter (fun e => e.1 != q) } }

/-! ### The command ring (R452) -/

def State.cmdSlots (s : State) : Nat := s.rd F.GLB_CMD_SLOTS_SLOTS

/-- Device address of an entry. -/
def State.cmdAddr (s : State) (slot : Nat) : Nat := s.rd F.GLB_CMD_BASE_ADDR + 64 * slot

def State.cmdBytes (s : State) (slot : Nat) : List Byte := (s.devRead [] (s.cmdAddr slot) 64).bytes

/-- The account of an outstanding command with this OP, if the slot holds one. -/
def State.cmdAcct (s : State) (slot op : Nat) : Option Nat :=
  (s.sess.cmds.find? (fun c => c.1 == slot && c.2.1 == op)).map (·.2.2)

/-- The index of the oldest entry not yet completed, from `h` on (R452). -/
def headFrom (busy : Nat → Bool) (n tail : Nat) : Nat → Nat → Nat
  | 0, h => h
  | k + 1, h => if h = tail ∨ busy h then h else headFrom busy n tail k ((h + 1) % n)

/-- GLB_CMD_HEAD follows the completed entries. -/
def State.cmdHead (s : State) : State :=
  s.st F.GLB_CMD_HEAD_INDEX (headFrom (fun i => s.sess.cmds.any (fun c => c.1 == i)) s.cmdSlots
    (s.rd F.GLB_CMD_TAIL_INDEX) s.cmdSlots (s.rd F.GLB_CMD_HEAD_INDEX))

/-- A command completes: bytes 1, 3 and 8 to 15 of its entry, then bit 0 of byte 2 (R452). (DEDUCED, log entry 30.) -/
def State.cmdEnd (s : State) (slot status reason : Nat) (result : Nat := 0) : State :=
  let a := s.cmdAddr slot
  let s := s.devWrite (a + 8) (natLe 8 result)
  let s := s.devWrite (a + 1) [BitVec.ofNat 8 status, 1#8, BitVec.ofNat 8 reason]
  ({ s with sess := { s.sess with cmds := s.sess.cmds.filter (fun c => c.1 != slot) } }).cmdHead

/-- Run the outstanding command of a slot when it has this OP; `f` takes its account and bytes. (DEDUCED, log entry 30.) -/
def State.cmdGo (s : State) (slot : BitVec 10) (op : Nat) (f : Nat → List Byte → State → State) : State :=
  if !s.running && !(s.boot.phase == .fatal) then s
  else match s.cmdAcct slot.toNat op with
    | none => s
    | some a => f a (s.cmdBytes slot.toNat) s

/-- The driver has attached and its session has not lapsed (R444, R452). -/
def State.attached (s : State) : Bool := s.sess.token.isSome && s.sess.lapsedAt.isNone

/-- Operand bytes that R453 names for an OP: the others of bytes 16 to 63 are reserved. (DEDUCED, log entry 30.) -/
def opNamed (op i : Nat) : Bool :=
  match op with
  | 0x01 => decide (16 ≤ i ∧ i < 48)
  | 0x02 => decide (16 ≤ i ∧ i ≤ 24)
  | 0x03 => i == 24
  | 0x04 => i == 16 || decide (24 ≤ i ∧ i < 32)
  | 0x05 => decide (16 ≤ i ∧ i < 56)
  | 0x06 => decide (16 ≤ i ∧ i ≤ 26)
  | 0x07 => i == 16
  | 0x08 => decide (16 ≤ i ∧ i ≤ 24) || i == 26 || i == 27 || decide (32 ≤ i ∧ i < 40)
  | 0x09 => decide (16 ≤ i ∧ i ≤ 18)
  | 0x0A => decide (16 ≤ i ∧ i ≤ 24)
  | 0x0B => i == 24
  | 0x0C => decide (16 ≤ i ∧ i ≤ 24)
  | 0x0D => i == 16 || decide (24 ≤ i ∧ i < 32)
  | 0x0E => decide (16 ≤ i ∧ i < 28)
  | 0x0F => false
  | 0x10 => decide (16 ≤ i ∧ i < 52)
  | _ => false

/-- An OP of R453, every reserved byte zero, an account of the module. (DEDUCED, log entry 30.) -/
def cmdWellFormed (b : List Byte) : Bool :=
  let op := field b 0 1
  decide (1 ≤ op ∧ op ≤ 0x10) && field b 6 2 == 0 && decide (field b 4 2 < 64) &&
    (List.range 48).all (fun i => opNamed op (16 + i) || field b (16 + i) 1 == 0)

/-- The hub starts one entry: refused 0xFE before an attach, 0xFF when it is no command; else it is outstanding. (DEDUCED, log entry 30.) -/
def State.cmdStart (s : State) (slot : Nat) : State :=
  let b := s.cmdBytes slot
  let op := field b 0 1
  let s := { s with sess := { s.sess with cmds := s.sess.cmds ++ [(slot, op, field b 4 2)] } }
  if op ≠ 1 ∧ !s.attached then s.cmdEnd slot 0x03 0xFE
  else if !cmdWellFormed b then s.cmdEnd slot 0x03 0xFF
  else s

/-- GLB_CMD_TAIL is written: the entries from the previous tail up to the new one start in ring order (R452). -/
def State.cmdTail (s : State) (v : Nat) : State :=
  let n := s.cmdSlots
  let old := s.rd F.GLB_CMD_TAIL_INDEX % n
  let new := v % n
  let s := s.st F.GLB_CMD_TAIL_INDEX new
  (List.range ((new + n - old) % n)).foldl (fun s i => s.cmdStart ((old + i) % n)) s

end Sys2Proof.Machine
end

