-- ==== Sys2Proof/Machine/Recorder.lean ====
section
/-! DEFINITION. The Daybook and the fatal dump (13_daybook_and_dump.md): persistence, freezes, reading, clears, nonces, and
what reaching module level does (R27, R478 to R483). -/

namespace Sys2Proof.Machine

/-! ### Persistence (R466 to R469, R572) -/

/-- A record enters the Daybook, or is dropped and counted (R468). -/
def State.persistOne (s : State) (r : DbkRec) : State :=
  match enter 65536 s.nor.book r with
  | some l => { s with nor := { s.nor with book := l } }
  | none => s.inc F.DBK_LOSS_COUNT 1 0 r.sev.toNat

/-- Every staged record enters in order; numbering continues from here at the next start (R463). (DEDUCED, log entry 19.) -/
def State.persistAll (s : State) : State :=
  let l := s.dbk.staging
  let s := { s with dbk := { s.dbk with staging := [] } }
  let s := l.foldl State.persistOne s
  { s with nor := { s.nor with seq := s.dbk.seqNext } }

/-- OPSEC goes to SPI NOR with the mark of what wrote it (R462). -/
def State.saveOpsec (s : State) (pfail : Bool) : State :=
  { s with nor := { s.nor with opsec := s.clk.opsec, opsecPfail := pfail }
           dbk := { s.dbk with opsecPersistAt := s.clk.now } }

/-- Records and OPSEC are persisted before a reset or a power-down; with the recorder steward failed or absent the staged
records are lost and their numbers given again (R463, R572). -/
def State.persistForReset (s : State) (pfail : Bool) : State :=
  if s.fwAlive 7 then s.persistAll.saveOpsec pfail
  else { s with dbk := { s.dbk with staging := [], seqNext := s.nor.seq } }

/-- The recorder steward copies what is staged; nothing enters a frozen Daybook (R473). -/
def execRecordPersist (s : State) : Res :=
  .next (if s.ctlAlive && s.fwRuns 7 && s.dbk.frozenAt.isNone then s.persistAll else s)

/-- Every 360 s (R462). -/
def execOpsecPersist (s : State) : Res :=
  .next (if s.ctlAlive && s.fwRuns 7 && s.after s.dbk.opsecPersistAt (second 360) then s.saveOpsec false else s)

/-- A parameter of a code whose first `n` parameters are named. -/
def named (n i : Nat) (p : W32) : W32 := if i < n then p else 0

/-- A unit submits a record. Codes of the chapters carry their own severity; no unit writes another, nor a parameter that a
code's table does not name (R459). -/
def execRecordAdmission (code : BitVec 16) (p0 p1 p2 : W32) (p3 : BitVec 28) (s : State) : Res :=
  let n := paramCount code.toNat
  .next (if s.ctlAlive && codeList.contains code.toNat then
      s.record code (named n 0 p0) (named n 1 p1) (named n 2 p2) (if param3 code.toNat then p3 else 0)
    else s)

/-! ### Freezes (R473, R474) -/

def State.freezeOn (s : State) : State :=
  if s.dbk.frozenAt.isSome || s.boot.phase == .fatal then s
  else { s with dbk := { s.dbk with frozenAt := some s.clk.now, lostNow := 0 } }

/-- Word of a FREEZE command: byte 16. -/
def freezes (b : List Byte) : Bool := bit (field b 16 1) 0

/-- (DEDUCED, log entry 50.) -/
def execFreeze (slot : Option (BitVec 10)) (req : Requester) (s : State) : Res :=
  .next (match slot with
    | none => if s.ctlWrite req then (s.dropAllHeld req).freezeOn else s
    | some k => s.cmdGo k 0x07 (fun _ b s =>
        if !freezes b then s
        else if s.boot.phase == .fatal then s.cmdEnd k.toNat 0x03 0x01
        else s.freezeOn.cmdEnd k.toNat 0 0))

def execFreezeRelease (slot : Option (BitVec 10)) (req : Requester) (s : State) : Res :=
  .next (match slot with
    | none => if s.ctlWrite req then (s.dropAllHeld req).endFreeze 1 else s
    | some k => s.cmdGo k 0x07 (fun _ b s => if freezes b then s else (s.endFreeze 1).cmdEnd k.toNat 0 0))

def execFreezeExpiry (s : State) : Res :=
  .next (match s.dbk.frozenAt with
    | some t => if s.after t (second 10) then s.endFreeze 2 else s
    | none => s)

/-! ### Reading (R470, R471) -/

/-- Records of a DBK_READ: from a start index, or from the oldest record with a sequence number. (DEDUCED, log entry 50.) -/
def readRange (book : List DbkRec) (b : List Byte) : List DbkRec :=
  let from_ := field b 16 8
  let start := if bit (field b 24 1) 0 then
      (book.findIdx? (fun r => r.seq.toNat == from_ % 65536)).getD book.length
    else from_
  (book.drop start).take (clampNat 1 4096 (field b 26 2))

/-- The recorder steward returns records into a buffer of account 0. -/
def execDbkRead (slot : BitVec 10) (s : State) : Res :=
  .next (s.cmdGo slot 0x08 (fun _ b s =>
    if !s.fwRuns 7 then s
    else
      let rs := readRange s.nor.book b
      (s.devWrite (field b 32 8) (rs.flatMap DbkRec.bytes)).cmdEnd slot.toNat 0 0 rs.length))

/-- Word `w` of the window: the record at INDEX + w / 8, zero beyond the newest (R471). -/
def State.windowWord (s : State) (w : Nat) : W64 :=
  match s.nor.book[s.rd F.DBK_CURSOR_INDEX + w / 8]? with
  | some r => BitVec.ofNat 64 (field r.bytes (4 * (w % 8)) 4)
  | none => 0

/-- A 32-bit read of a window word: a record whose CRC fails sets CRC_BAD (R457); offset 0x1FC advances the cursor
under AUTOADV (R471). -/
def State.windowRead (s : State) (req : Requester) (w : Nat) : State :=
  let bad := match s.nor.book[s.rd F.DBK_CURSOR_INDEX + w / 8]? with
    | some r => crc32c r.body != r.crc
    | none => false
  let s := s.answer req (s.windowWord w)
  let s := if bad then s.st F.DBK_STATUS_CRC_BAD 1 else s
  if w = 63 ∧ s.flag F.DBK_CURSOR_AUTOADV then s.st F.DBK_CURSOR_INDEX ((s.rd F.DBK_CURSOR_INDEX + 8) % 65536) else s

/-! ### Nonces (R476, R498) -/

/-- A new 128-bit nonce: a free value. (DESIGN CHOICE, log entry 39.) -/
def State.newDbkNonce (s : State) : State :=
  { s with dbk := { s.dbk with nonce := some (Config.freeValue s.free, s.clk.now) } }.takeFree

def State.newTrsNonce (s : State) : State :=
  { s with trust := { s.trust with nonce := some (Config.freeValue s.free, s.clk.now) } }.takeFree

/-- A nonce serves for 300 s. -/
def State.nonceLive (s : State) (n : Option (BitVec 128 × Nat)) : Option (BitVec 128) :=
  match n with
  | some (v, t) => if s.after t (second 300) then none else some v
  | none => none

def execNonceExpiry (trs : Bool) (s : State) : Res :=
  .next (if trs then
      (if (s.nonceLive s.trust.nonce).isNone then { s with trust := { s.trust with nonce := none } } else s)
    else if (s.nonceLive s.dbk.nonce).isNone then { s with dbk := { s.dbk with nonce := none } } else s)

/-! ### Clearing (R475, R477) -/

/-- Every record goes, the staged ones among them, loss counters to zero, code 0x0050 first, then what a freeze held. (DEDUCED,
log entry 50.) -/
def State.clearDaybook (s : State) (key : Nat) : State :=
  let n := s.nor.book.length + s.dbk.staging.length
  let s := { s with nor := { s.nor with book := [] }, dbk := { s.dbk with staging := [] } }
  let s := (List.range 4).foldl (fun s i => s.st F.DBK_LOSS_COUNT 0 0 i) s
  let s := (s.st F.DBK_HOLD_LOST_COUNT 0).st F.DBK_SUPPRESSED_COUNT 0
  (s.recordOpen 0x0050 (BitVec.ofNat 32 n) (BitVec.ofNat 32 key) 0 0).endFreeze 1

/-! ### The fatal dump (R478 to R483) -/

/-- Device address of the dump extent (R275). -/
def State.dumpBase (s : State) : Nat := s.steeredSize - 8 * 2 ^ 30

/-- A dump with a valid header is present (DMP_STATUS.VALID). -/
def State.dumpValid (s : State) : Bool := s.flag F.DMP_STATUS_VALID

/-- The latest staged or persisted record of a code. -/
def State.latest (s : State) (code : BitVec 16) : Option DbkRec :=
  (s.nor.book ++ s.dbk.staging).reverse.find? (fun r => r.code == code)

/-- The header of a dump present in the extent checks (R482). -/
def State.dumpCheck (s : State) : Bool :=
  let h := (s.devRead [] s.dumpBase 384).bytes
  slice h 0 8 == [0x48#8, 0x4C#8, 0x58#8, 0x44#8, 0x55#8, 0x4D#8, 0x50#8, 0x31#8] &&
    (crc32c (slice h 0 68 ++ slice h 128 256)).toNat == field h 68 4

/-- Zero the header and clear VALID (R482). -/
def State.dumpDiscard (s : State) : State :=
  if s.flag F.DMP_STATUS_WRITING then s
  else (s.dumpPut s.dumpBase (List.replicate 4096 0#8)).st F.DMP_STATUS_VALID 0

end Sys2Proof.Machine
end

