-- ==== Sys2Proof/Machine/Power.lean ====
section
/-! DEFINITION. Supply, temperature and their hardware limits (R51 to R66, R573), coolant (R548), the input and the rails
(R531 to R536), the loss of the reference (R58). -/

namespace Sys2Proof.Machine

/-! ### Warrants that an event breaks (R77) -/

/-- Outstanding batches of the module. -/
def State.allBatches (s : State) : List Batch := s.wrt.queues.flatMap (fun q => q.2.batches)

/-- Change every outstanding batch. -/
def State.mapBatches (s : State) (f : Batch → Batch) : State :=
  { s with wrt := { s.wrt with queues := s.wrt.queues.map (fun q => (q.1, { q.2 with batches := q.2.batches.map f })) } }

/-- A SET-basis warrant above 0.60 V. -/
def Batch.dropBreaks (b : Batch) : Bool := b.setBasis && decide (60 < b.setPoint)

/-- A hardware drop breaks them: BROKEN and code 0x1003, when there are any. -/
def State.breakByDrop (s : State) (point cause : Nat) : State :=
  let n := (s.allBatches.filter Batch.dropBreaks).length
  if n = 0 then s
  else
    let s := s.mapBatches (fun b => if b.dropBreaks then { b with broken2 := true } else b)
    (s.st F.WRT_STATUS_BROKEN 1).note 0x1003 n point cause

/-- A second steward restart breaks every outstanding warrant: BROKEN and code 0x1002, when there are any. -/
def State.breakByRestart (s : State) (steward ms : Nat) : State :=
  let n := s.allBatches.length
  if n = 0 then s
  else
    let s := s.mapBatches (fun b => { b with broken1 := true })
    (s.st F.WRT_STATUS_BROKEN 1).note 0x1002 n steward ms

/-! ### Set points (R53, R66, R75) -/

def State.vddf (s : State) : Nat := s.rd F.PWR_VDDF_ACTUAL

/-- VDDF is on its way up to the point in force (R75). (DEDUCED, log entry 87.) -/
def State.rising (s : State) : Bool := decide (s.clk.now < s.pow.riseUntil)

/-- The point that warrants take for the one in force: the old one while VDDF rises (R75). -/
def State.warrantPoint (s : State) : Nat := if s.rising then min s.pow.riseFrom s.vddf else s.vddf

/-- A hardware drop is in force. -/
def State.hwDrop (s : State) : Bool := s.flag F.PWR_LIMIT_THERMAL_DROP || s.flag F.PWR_LIMIT_CURRENT_DROP

/-- The lower of the point in force and any pending one (R72, R75). -/
def State.setPoint (s : State) : Nat :=
  if s.rd F.PWR_VDDF_PENDING = 0 then s.vddf else min s.vddf (s.rd F.PWR_VDDF_PENDING)

/-- The point a SET-basis warrant is computed at (R72, R75). -/
def State.setPointBasis (s : State) : Nat :=
  if s.rd F.PWR_VDDF_PENDING = 0 then s.warrantPoint else min s.warrantPoint (s.rd F.PWR_VDDF_PENDING)

/-- The nearest legal point (R61, R66); 60 while a drop is in force (R62, R65). -/
def State.clampPoint (s : State) (v : Nat) : Nat := if s.hwDrop then 60 else clampNat 60 85 v

/-- VDDF starts to rise to `p`, at 10 mV each µs (R54, R75): the old point stands for warrants until it is there. (DEDUCED, log entry 87.) -/
def State.startRise (s : State) (p : Nat) : State :=
  if s.vddf < p then
    { s with pow := { s.pow with
        riseFrom := s.warrantPoint
        riseUntil := (if s.rising then s.pow.riseUntil else s.clk.now) + usec (p - s.vddf) } }
  else s

/-- A set point is requested: VDDF rises at once, a lower point is marked pending (R75). The power steward acts (R443);
while R548 keeps 0.60 V pending no other point is taken. -/
def State.requestPoint (s : State) (v : Nat) : State :=
  let p := s.clampPoint v
  let s := s.st F.PWR_VDDF_TARGET p
  if !s.fwAlive 6 then s
  else
    let p := if s.pow.coolPending then 60 else p
    if s.vddf ≤ p then ((s.startRise p).st F.PWR_VDDF_ACTUAL p).st F.PWR_VDDF_PENDING 0
    else s.st F.PWR_VDDF_PENDING p

/-- Once no outstanding warrant was computed at a higher point (R75). -/
def execLowerPointApply (s : State) : Res :=
  let p := s.rd F.PWR_VDDF_PENDING
  .next (if s.up && p != 0 && s.fwAlive 6 && !(s.allBatches.any (fun b => b.setBasis && decide (p < b.setPoint))) then
      (s.st F.PWR_VDDF_ACTUAL p).st F.PWR_VDDF_PENDING 0
    else s)

/-- VDDF goes to 0.60 V under a hardware drop, whatever waits (R62, R65). -/
def State.dropPoint (s : State) : State :=
  let s := { s with pow := { s.pow with riseUntil := 0 } }
  ((s.st F.PWR_VDDF_TARGET 60).st F.PWR_VDDF_ACTUAL 60).st F.PWR_VDDF_PENDING 0

/-! ### Temperature (R62 to R64) -/

/-- Latest reading of a die, or of the hub (4). -/
def State.setTj (s : State) (unit tj : Nat) : State :=
  match unit with
  | 0 => s.st F.PWR_TJ_DIE0 tj
  | 1 => s.st F.PWR_TJ_DIE1 tj
  | 2 => s.st F.PWR_TJ_DIE2 tj
  | 3 => s.st F.PWR_TJ_DIE3 tj
  | _ => s.st F.PWR_TJ_HUB_HUB tj

def Temps.list (t : Temps) : List Nat := [t.d0.toNat, t.d1.toNat, t.d2.toNat, t.d3.toNat, t.hub.toNat]

def State.setTemps (s : State) (t : Temps) : State :=
  (Temps.list t).zipIdx.foldl (fun s p => s.setTj p.2 p.1) s

def execThermalDrop (unit : Fin 5) (tj : BitVec 8) (s : State) : Res :=
  .next (if !s.railed || decide (tj.toNat < 105) then s
    else
      let s := s.setTj unit tj.toNat
      if s.flag F.PWR_LIMIT_THERMAL_DROP then s
      else
        let point := s.vddf
        let s := s.breakByDrop point 1
        let s := (s.st F.PWR_LIMIT_THERMAL_DROP 1).st F.PWR_LIMIT_THERMAL_SEEN 1
        s.dropPoint.note 0xA010 unit tj.toNat point)

def execThermalDropEnd (t : Temps) (s : State) : Res :=
  .next (if !s.railed then s
    else
      let s := s.setTemps t
      if (Temps.list t).all (fun v => decide (v < 100)) then s.st F.PWR_LIMIT_THERMAL_DROP 0 else s)

def execAbove105Enter (unit : Fin 5) (tj : BitVec 8) (s : State) : Res :=
  .next (if !s.railed || decide (tj.toNat ≤ 105) then s
    else
      let s := s.setTj unit tj.toNat
      if s.flag F.PWR_LIMIT_ABOVE_105 then s
      else
        let s := s.mapBatches (fun b => { b with above105 := true })
        (s.st F.PWR_LIMIT_ABOVE_105 1).note 0xA012 unit tj.toNat 1)

def execAbove105Exit (unit : Fin 5) (t : Temps) (s : State) : Res :=
  .next (if !s.railed then s
    else
      let s := s.setTemps t
      if s.flag F.PWR_LIMIT_ABOVE_105 && (Temps.list t).all (fun v => decide (v ≤ 105)) then
        (s.st F.PWR_LIMIT_ABOVE_105 0).note 0xA012 unit ((Temps.list t).getD unit 0) 0
      else s)

/-! ### Rails -/

/-- The main rails go: every store and every register of the package is lost but what R565 keeps; SPI NOR, UFS, the standby
rail, the Assize unit and the pins stay. -/
def State.railsOff (s : State) : State :=
  { State.reset with
    pending := s.pending
    regs := s.regs.filter (fun e => [F.PWR_LIMIT_TRIP_CLOCK.key / 1024, F.DBK_LOSS_COUNT.key / 1024,
      F.MGT_PFAIL_COUNT.key / 1024, F.TRS_COUNTER_VALUE.key / 1024, F.MGT_COOLANT_INLET.key / 1024].contains (e.1 / 1024))
    boot := { State.reset.boot with phase := .off }
    clk := { s.clk with counting := false }
    pow := { s.pow with mainRails := false, clampSince := none, belowSince := none, capLoweredAt := none,
                        capRaisedAt := none, coolPending := false, coolClear := 0, riseUntil := 0 }
    nor := s.nor
    trust := { State.reset.trust with svn := [] }
    asz := s.asz
    edge := s.edge
    bus := State.reset.bus
    free := s.free }

/-- The trip bits alone stay of PWR_LIMIT. -/
def State.tripsOnly (s : State) : State :=
  let t := [F.PWR_LIMIT_TRIP_THERMAL, F.PWR_LIMIT_TRIP_CURRENT, F.PWR_LIMIT_TRIP_CLOCK].map (fun f => (f, s.rd f))
  t.foldl (fun s p => s.st p.1 p.2) (s.setReg F.PWR_LIMIT_TRIP_CLOCK.key 0)

def State.powerOff (s : State) : State := s.railsOff.tripsOnly

/-- A shutdown of R64 or R65: staged records are persisted (R463, R466), power goes, and the hot-swap controller stays off
(R534). (DEDUCED, log entry 19.) -/
def State.shutdown (s : State) : State :=
  let s := if s.fwAlive 7 then s.persistAll else s
  let s := s.powerOff
  { s with pow := { s.pow with lockedOff := true } }

def execThermalShutdown (unit : Fin 5) (tj : BitVec 8) (s : State) : Res :=
  .next (if !s.pow.mainRails || decide (tj.toNat < 115) then s
    else
      let s := (s.st F.PWR_LIMIT_TRIP_THERMAL 1).shutdown
      { s with pow := { s.pow with tripDie := some unit } })

/-! ### Input current (R65) -/

def State.setCurrent (s : State) (ma : Nat) : State := s.st F.PWR_INPUT_CURRENT_MA ma

def execCurrentDrop (ma volt : BitVec 16) (s : State) : Res :=
  .next (if !s.railed || decide (ma.toNat ≤ 60000) then s
    else
      let s := (s.setCurrent ma.toNat).st F.PWR_INPUT_VOLTAGE volt.toNat
      if s.flag F.PWR_LIMIT_CURRENT_DROP then s
      else
        let point := s.vddf
        let s := s.breakByDrop point 2
        let s := (s.st F.PWR_LIMIT_CURRENT_DROP 1).st F.PWR_LIMIT_CURRENT_SEEN 1
        s.dropPoint.note 0xA011 ma.toNat volt.toNat point)

def execCurrentDropEnd (ma : BitVec 16) (s : State) : Res :=
  .next (if !s.railed || decide (60000 < ma.toNat) then s
    else (s.setCurrent ma.toNat).st F.PWR_LIMIT_CURRENT_DROP 0)

/-- The controller holds the current at 62 A. The mean of the latest 50 µs at that instant is free, up to 62 A. (DESIGN CHOICE, log
entry 104.) -/
def execCurrentClampStart (s : State) : Res :=
  .next (if !s.railed || s.flag F.PWR_LIMIT_CLAMP_ACTIVE then s
    else
      let s := (s.setCurrent (s.freeNat 16 % 62001)).takeFree
      { s with pow := { s.pow with clampSince := some s.clk.now } }.st F.PWR_LIMIT_CLAMP_ACTIVE 1)

def execCurrentClampEnd (ma : BitVec 16) (s : State) : Res :=
  .next (if !s.railed || decide (62000 ≤ ma.toNat) then s
    else ({ s with pow := { s.pow with clampSince := none } }.setCurrent ma.toNat).st F.PWR_LIMIT_CLAMP_ACTIVE 0)

/-- The current has been held at 62 A for 5 ms. -/
def execCurrentShutdown (s : State) : Res :=
  .next (match s.pow.clampSince with
    | some t => if s.after t (msec 5) then
        let s := (s.st F.PWR_LIMIT_TRIP_CURRENT 1).shutdown
        { s with pow := { s.pow with tripCurrent := true } }
      else s
    | none => s)

/-! ### The power cap (R573) -/

/-- Input power from mA and units of 10 mV, in units of 10 µW. (DEDUCED, log entry 21.) -/
def inputPower (ma volt : BitVec 16) : Nat := ma.toNat * volt.toNat

def State.capW (s : State) : Nat := s.rd F.PWR_CAP_WATTS

/-- The monitor's latest readings (R65). -/
def State.setInput (s : State) (ma volt : BitVec 16) : State :=
  (s.setCurrent ma.toNat).st F.PWR_INPUT_VOLTAGE volt.toNat

/-- Every 10 ms while P exceeds WATTS. (DEDUCED, log entry 21.) -/
def execPowerCapLower (ma volt : BitVec 16) (s : State) : Res :=
  let due := match s.pow.capLoweredAt with
    | some t => s.after t (msec 10)
    | none => true
  .next (if !s.up || !s.fwRuns 6 || !due || decide (inputPower ma volt ≤ s.capW * 100000) then s
    else
      let s := { s.setInput ma volt with pow := { s.pow with capLoweredAt := some s.clk.now, belowSince := none } }
      if s.setPoint ≤ 60 then s else s.requestPoint (s.setPoint - 1))

/-- After P has stayed below WATTS - 100 W for 1 s, at most once each second, never above the start set point. (DEDUCED, log entry 21.) -/
def execPowerCapRaise (ma volt : BitVec 16) (s : State) : Res :=
  .next (if !s.up || !s.fwRuns 6 then s
    else
      let s := s.setInput ma volt
      if (s.capW - 100) * 100000 ≤ inputPower ma volt then { s with pow := { s.pow with belowSince := none } }
      else match s.pow.belowSince with
      | none => { s with pow := { s.pow with belowSince := some s.clk.now } }
      | some t =>
        let spaced := match s.pow.capRaisedAt with
          | some r => s.after r (second 1)
          | none => true
        if s.after t (second 1) && spaced && decide (s.setPoint < s.pow.startVddf) && !s.pow.coolPending && !s.hwDrop then
          { s with pow := { s.pow with capRaisedAt := some s.clk.now } }.requestPoint (s.setPoint + 1)
        else s)

/-! ### Coolant (R548) -/

/-- (DEDUCED, log entry 21.) -/
def execCoolantReading (inlet outlet : BitVec 8) (flow : BitVec 16) (s : State) : Res :=
  let s := ((s.st F.MGT_COOLANT_INLET inlet.toNat).st F.MGT_COOLANT_OUTLET outlet.toNat).st F.MGT_COOLANT_FLOW flow.toNat
  .next (if !s.up then s
    else
      let low := decide (flow.toNat < s.rd F.MGT_COOL_LIMIT_FLOW_MIN)
      let hot := decide (s.rd F.MGT_COOL_LIMIT_INLET_MAX < inlet.toNat)
      let nl := if low then s.pow.flowLow + 1 else 0
      let nh := if hot then s.pow.inletHigh + 1 else 0
      let held := decide (50 ≤ nl) || decide (50 ≤ nh)
      let clear := if held then 0 else s.pow.coolClear + 1
      let s := { s with pow := { s.pow with flowLow := nl, inletHigh := nh, coolClear := clear } }
      let s := if nl = 50 then s.note 0xA030 flow.toNat inlet.toNat outlet.toNat else s
      let s := if nh = 50 then s.note 0xA031 inlet.toNat flow.toNat else s
      let s := s.st F.MGT_COOL_LIMIT_WARN (b2n held)
      if held then
        (if s.fwAlive 6 then { s with pow := { s.pow with coolPending := true } }.requestPoint 60 else s)
      else if 600 ≤ clear then { s with pow := { s.pow with coolPending := false } }
      else s)

/-! ### The input (R531 to R536) -/

/-- (DEDUCED, log entry 15.) -/
def turnOn : Nat := clampNat 46000 47000 Config.turnOnMv
def pfWarn : Nat := clampNat 45500 46500 Config.warnMv
def overVolt : Nat := clampNat 59500 60500 Config.overMv

/-- MGT_SLOT shows the pins of the edge connector: the slot straps, PWR_EN, the debug connector's presence. (DEDUCED, log entry 88.) -/
def State.showPins (s : State) : State :=
  ((s.st F.MGT_SLOT_SLOT_ID s.edge.slotId.toNat).st F.MGT_SLOT_PWR_EN (b2n s.pow.pwrEn)).st F.MGT_SLOT_DEBUG (b2n s.edge.debug)

/-- The rails rise to power good (R533 steps 5 to 7). (DEDUCED, log entry 20.) -/
def State.railsUp (s : State) (mv : Nat) : State :=
  let s := { s with
    boot := { State.reset.boot with phase := .railsUp }
    pow := { s.pow with inputMv := mv, mainRails := true, lockedOff := false, overvoltage := false } }
  s.showPins.st F.PWR_INPUT_VOLTAGE (mv / 10)

/-- PWR_EN is raised with the input above the turn-on threshold; after a shutdown this is the rise that follows the
second at low of R534, after an overvoltage the input must also lie below 59.0 V (R536). (DEDUCED, log entry 20.) -/
def execPowerUp (mv : Nat) (s : State) : Res :=
  .next (if s.boot.phase != .off || decide (mv < turnOn) || decide (overVolt ≤ mv) ||
      (s.pow.overvoltage && decide (59000 ≤ mv)) then s
    else { s with pow := { s.pow with pwrEn := true } }.railsUp mv)

/-- The cause of a warning holds at this input. -/
def warns (mv cause : Nat) : Bool :=
  match cause with
  | 1 => decide (mv < pfWarn)
  | 2 => true
  | 3 => decide (overVolt ≤ mv)
  | _ => false

/-- Held records enter before staged ones (R484). -/
def State.mergeHeld (s : State) : State :=
  match s.dbk.frozenAt with
  | none => s
  | some _ =>
    let old := s.dbk.staging
    let s := ({ s with dbk := { s.dbk with staging := [] } }).endFreeze 3
    { s with dbk := { s.dbk with staging := s.dbk.staging ++ old } }

/-- The warning: 0xA040, what is staged and OPSEC persisted, the power-down (R535); in the halt of R58 the staged records
are lost. (DEDUCED, log entry 20.) -/
def execPowerFailWarning (mv : Nat) (cause : BitVec 2) (s : State) : Res :=
  .next (if !s.pow.mainRails || !warns mv cause.toNat then s
    else
      let s := s.inc F.MGT_PFAIL_COUNT
      let s := if s.boot.phase == .halted then
          { s with dbk := { s.dbk with staging := [], seqNext := s.nor.seq } }
        else (s.mergeHeld.note 0xA040 (mv / 10) cause.toNat).persistForReset true
      let s := s.powerOff
      { s with pow := { s.pow with inputMv := mv, pwrEn := cause.toNat != 2, overvoltage := cause.toNat == 3 } })

/-- Input back above the turn-on threshold during the hold-up: a cold start once the power-down is done (R536). -/
def execHoldupReturn (mv : Nat) (s : State) : Res :=
  .next (if s.boot.phase == .off && s.pow.pwrEn && !s.pow.lockedOff && !s.pow.overvoltage && decide (turnOn ≤ mv) &&
      decide (mv < overVolt) then s.railsUp mv else s)

def execOvervoltageCleared (mv : Nat) (s : State) : Res :=
  .next (if s.boot.phase == .off && s.pow.pwrEn && s.pow.overvoltage && decide (turnOn ≤ mv) && decide (mv < 59000) then
      s.railsUp mv else s)

/-! ### The reference (R58) -/

/-- The units halt with a FATAL record staged; the counter counts on through a holdover of at most 10 ms (R59). (DEDUCED, log entry 18.) -/
def execReferenceClockLost (s : State) : Res :=
  .next (if !s.ctlAlive then s
    else
      let now := s.clk.now
      let s := s.note 0x0F01 (now % 2 ^ 32) (now / 2 ^ 32)
      let s := (s.st F.PWR_LIMIT_REF_HALT 1).st F.PWR_LIMIT_TRIP_CLOCK 1
      let s := (s.advance ((Config.freeValue s.free).toNat % 250001)).takeFree
      { s with boot := { s.boot with phase := .halted }, clk := { s.clk with counting := false } })

/-- A warm reset is requested; the first request stands (R419, R552). While a dump is written its own reset, of step 6, has not
been asked for yet (R479). (DEDUCED, log entry 32.) -/
def State.requestReset (s : State) (src : Nat) : State :=
  let due := match s.boot.resetReq with
    | none => true
    | some old => old == 3 && s.boot.dump.isSome && src != 3
  if !due then s
  else { s with boot := { s.boot with resetReq := some src } }.note 0x0003 src

/-- The reference has been good for 100 ms: the counter counts on, the staged records are persisted, TRIP_CLOCK clears,
and the warm reset of source 5 is due. (DEDUCED, log entry 18.) -/
def execReferenceReturned (s : State) : Res :=
  .next (if s.boot.phase != .halted then s
    else
      let s := { s with clk := { s.clk with counting := true } }
      let s := if s.fwRuns 7 then s.persistAll.st F.PWR_LIMIT_TRIP_CLOCK 0 else s
      { s with boot := { s.boot with resetReq := none } }.requestReset 5)

end Sys2Proof.Machine
end

