-- ==== Sys2Proof/Machine/Warrant.lean ====
section
/-! DEFINITION. Warrants (R67 to R83): guaranteed rates and bounds, the rings, admission and refusal, the start and the
completion of batches. -/

namespace Sys2Proof.Machine

/-! ### Fractions: bounds are exact until they are rounded up -/

/-- A non-negative fraction. -/
structure Frac where
  num : Nat
  den : Nat
  deriving DecidableEq, Repr

def Frac.add (x y : Frac) : Frac := ⟨x.num * y.den + y.num * x.den, x.den * y.den⟩
def Frac.le (x y : Frac) : Bool := decide (x.num * y.den ≤ y.num * x.den)
def Frac.max (x y : Frac) : Frac := if x.le y then y else x
def Frac.nat (n : Nat) : Frac := ⟨n, 1⟩
def Frac.ceil (x : Frac) : Nat := (x.num + x.den - 1) / x.den
def Frac.floor (x : Frac) : Nat := x.num / x.den

/-! ### Rates (R51, R72, R73) -/

/-- Step rate at Tj 85 °C of a set point in 10 mV units, in M steps/s (R51, interpolated by R52). -/
def stepRate (v : Nat) : Nat :=
  if v < 70 then 780 + 30 * (v - 60) else if v < 80 then 1080 + 24 * (v - 70) else 1320 + 22 * (v - 80)

/-- r_g in M steps/s (R72). -/
def rateG (v : Nat) : Nat := stepRate v * 94 / 100

/-- What one queue's warrant counts on. -/
structure Rates where
  rg : Nat
  /-- bytes per second, times 256 / 1000 -/
  fast : Nat
  /-- MB/s -/
  vault : Nat
  link : Nat
  deriving DecidableEq, Repr

/-- Bits set in a mask. -/
def maskBits (n m : Nat) : List Nat := (List.range n).filter (fun i => bit m i)

/-- Channels of the fast tier a warrant counts: those present at start and not fenced (R43, R45, R73). -/
def State.warrantChans (s : State) : Nat := ((List.range 512).filter (fun c => s.chanActive c && !s.chanFenced c)).length

/-- A vault share's rate in MB/s: half at x8 (R73, R323). -/
def State.shareRate (s : State) (c : Nat) : Nat :=
  if !s.shareUp c then 0 else if s.rd F.PCI_PORT_WIDTH 0 c = 8 then 56000 else 112000

/-- Rates of a queue at a set point; only ports in the collective set count (R46, R360). -/
def State.rates (s : State) (q : Queue) (point : Nat) : Rates :=
  ⟨rateG point, q.q * s.warrantChans * 35405,
    ((maskBits 8 q.lomef.toNat).map s.shareRate).sum,
    90000 * ((maskBits 16 q.ports.toNat).filter (fun p => s.flag F.ETH_PORT_IN_SET 0 p)).length⟩

/-- The five counts of a phase (R68). -/
structure PhaseW where
  steps : Nat
  fast : Nat
  vault : Nat
  link : Nat
  exq : Nat
  deriving DecidableEq, Repr

def PhaseW.counts (p : PhaseW) : List Nat := [p.steps, p.fast, p.vault, p.link, p.exq]

/-- A term in µs, zero for a count of zero. -/
def term (count num den : Nat) : Frac := if count = 0 then ⟨0, 1⟩ else ⟨count * num, den⟩

/-- The longest term of a phase (R74). -/
def PhaseW.time (p : PhaseW) (r : Rates) : Frac :=
  ((((term p.steps 1 r.rg).max (term p.fast 256 r.fast)).max (term p.vault 1 r.vault)).max (term p.link 1 r.link)).max
    (term p.exq 1 r.rg)

/-- The restart loop of R74: `w + 40,000 n` until it needs no more restarts. -/
def restartLoop (w : Frac) : Nat → Nat → Frac
  | 0, n => w.add (Frac.nat (40000 * n))
  | k + 1, n =>
    let b := w.add (Frac.nat (40000 * n))
    let m := b.num / (b.den * 10000000) + 1
    if n < m then restartLoop w k m else b

/-- The bound of a batch in local µs (R74). (DESIGN CHOICE, log entry 17.) -/
def bound (r : Rates) (ps : List PhaseW) : Nat :=
  let w := ps.foldl (fun (w : Frac) p => w.add (p.time r)) ⟨6000, r.rg⟩
  let w := (w.add (Frac.nat 3)).add ⟨w.num * 3, w.den * 1000⟩
  (restartLoop w 64 1).ceil

/-! ### The rings (R70) -/

/-- An entry of the completion ring. -/
def entryBytes (kind status reason queue tag deadline bnd waited time : Nat) : List Byte :=
  natLe 1 kind ++ natLe 1 status ++ natLe 1 reason ++ natLe 1 queue ++ natLe 4 tag ++ natLe 8 deadline ++ natLe 4 bnd ++
    natLe 4 waited ++ natLe 8 time

/-- A free entry in the completion ring. -/
def Queue.room (q : Queue) : Bool := decide ((q.cplTail + q.cplSlots - q.cplHead) % q.cplSlots + 1 < q.cplSlots)

/-- Write what is due while there is room. -/
def State.flushDue (s : State) (n : Nat) : Nat → State
  | 0 => s
  | k + 1 =>
    match s.queue n with
    | none => s
    | some q =>
      match q.due with
      | [] => s
      | e :: rest =>
        if q.room then
          let s := s.accWrite q.account (q.cplVa + 32 * q.cplTail) e
          (s.setQueue n { q with due := rest, cplTail := (q.cplTail + 1) % q.cplSlots }).flushDue n k
        else s

/-- An entry is due on a queue. (DEDUCED, log entry 61.) -/
def State.putEntry (s : State) (n : Nat) (e : List Byte) : State :=
  match s.queue n with
  | none => s
  | some q => (s.setQueue n { q with due := q.due ++ [e] }).flushDue n (q.due.length + 1)

/-- WRT_DOORBELL: a queue no account holds ignores it. -/
def State.doorbell (s : State) (n tail : Nat) : State :=
  match s.queue n with
  | none => s
  | some q => s.setQueue n { q with subTail := tail % q.subSlots }

/-- WRT_CPL_ACK: consumed entries are returned, and what was held is written into the room. -/
def State.cplAck (s : State) (n head : Nat) : State :=
  match s.queue n with
  | none => s
  | some q => (s.setQueue n { q with cplHead := head % q.cplSlots }).flushDue n q.due.length

/-! ### Descriptors (R71) -/

def descPhases (d : List Byte) : List PhaseW :=
  (List.range (field d 2 1)).map (fun i =>
    let o := 128 + 40 * i
    ⟨field d o 8, field d (o + 8) 8, field d (o + 16) 8, field d (o + 24) 8, field d (o + 32) 8⟩)

/-- The descriptor keeps every rule of R71 but those that need the queue's resources or translation. -/
def descOk (q : Queue) (d : List Byte) : Bool :=
  let ph := field d 2 1
  let nt := field d 3 1
  field d 0 1 == 1 && decide (field d 1 1 < 16) && decide (1 ≤ ph ∧ ph ≤ 16) && decide (nt ≤ 4) &&
    field d (16 + 4 * nt) (4 * (4 - nt)) == 0 &&
    field d 40 4 % 64 == 0 && decide (field d 40 4 ≤ 2 ^ 21) &&
    field d 44 4 % 4 == 0 && decide (field d 44 4 < 2 ^ 21) &&
    field d 70 2 == 0 && field d 88 40 == 0 && field d (128 + 40 * ph) (640 - 40 * ph) == 0 && field d 768 256 == 0 &&
    (field d 66 2 == 0 || field d 66 2 == (maskBits 8 q.lomef.toNat).length) &&
    (descPhases d).all (fun p => p.counts.all (fun c => decide (c < 2 ^ 48)))

/-- The queue holds what a phase names (R80 reason 0x02). -/
def PhaseW.held (p : PhaseW) (r : Rates) (q : Queue) (engines : Nat) : Bool :=
  (p.steps == 0 || decide (engines ≠ 0)) && (p.fast == 0 || decide (r.fast ≠ 0)) && (p.vault == 0 || decide (r.vault ≠ 0)) &&
    (p.link == 0 || decide (r.link ≠ 0)) && (p.exq == 0 || decide (q.exq ≠ 0))

/-- Cores of a queue that are present and not fenced. -/
def State.queueCores (s : State) (q : Queue) : List Nat :=
  (maskBits 256 q.cores.toNat).filter (fun c => s.corePresent c && !s.coreFenced c)

/-- Engines of the queue's set. -/
def State.queueEngines (s : State) (q : Queue) : Nat :=
  ((s.queueCores q).map (fun c => popcount 32 (s.engMask c))).sum

/-- The regions the device reads from the descriptor translate (R80 reason 0x08). A PROG_VA of 0, which copies nothing
(R71), is not checked whatever PROG_BYTES says. (DESIGN CHOICE, log entry 89.) -/
def State.descMapped (s : State) (acct : Nat) (d : List Byte) : Bool :=
  let ok := fun va n => n == 0 || s.accMapped acct va n false
  (field d 32 8 == 0 || ok (field d 32 8) (field d 40 4)) && ok (field d 56 8) (64 * field d 64 2) &&
    ok (field d 72 8) (64 * field d 66 2) && ok (field d 80 8) (64 * field d 68 2)

/-- FLOOR or SET: true for SET (R72). -/
def State.setBasisOf (s : State) (d : List Byte) : Bool :=
  let f := field d 1 1
  if bit f 1 then !bit f 0 else !s.flag F.WRT_CTRL_BASIS_DEFAULT

/-- A batch as admitted. -/
def newBatch (d : List Byte) (set : Bool) (point bnd now deadline : Nat) (above : Bool) : Batch :=
  { tag := BitVec.ofNat 32 (field d 4 4)
    step := if bit (field d 1 1) 2 then some (field d 8 8) else none
    setBasis := set, setPoint := point, bound := bnd, admittedAt := now, deadline := deadline
    noSeq := bit (field d 1 1) 3
    progVa := field d 32 8, progBytes := field d 40 4, entry := field d 44 4
    argVa := BitVec.ofNat 64 (field d 48 8)
    tags := (List.range (field d 3 1)).map (fun i => BitVec.ofNat 32 (field d (16 + 4 * i) 4))
    clrVa := field d 56 8, clrCount := field d 64 2, lmfVa := field d 72 8, lmfCount := field d 66 2
    exqVa := field d 80 8, exqCount := field d 68 2
    started := false, begun := false, waited := 0, broken1 := false, broken2 := false, above105 := above
    running := [], status := [], clr := [], lmf := [], exq := [], sat := 0, nanInf := false }

/-! ### Admission (R80) -/

/-- A refusal: counters, the entry, the slot consumed. -/
def State.refuseBatch (s : State) (n : Nat) (q : Queue) (reason tag : Nat) : State :=
  let s := s.inc F.WRT_REFUSE_COUNT_COUNT
  let s := ((s.st F.WRT_LAST_REFUSE_REASON reason).st F.WRT_LAST_REFUSE_QUEUE n).st F.WRT_LAST_REFUSE_ACCOUNT q.account
  let s := s.setQueue n { q with subHead := (q.subHead + 1) % q.subSlots }
  s.putEntry n (entryBytes 2 0x03 reason n tag 0 0 0 s.clk.now)

/-- The account of a queue has no session that serves it: the module is unattended (R444). -/
def State.unattended (s : State) : Bool := s.boot.phase == .unattended

/-- Answer one slot in the order of R80. (DEDUCED, log entry 61.) -/
def State.admitSlot (s : State) (n : Nat) (q : Queue) (unreadable : Bool) : State :=
  let va := q.subVa + 1024 * q.subHead
  let r := s.accRead [] q.account va 1024
  let d := r.bytes
  let tag := field d 4 4
  if s.boot.phase == .service then s.refuseBatch n q 0x06 0
  else if s.unattended then s.refuseBatch n q 0x05 0
  else if 64 ≤ q.batches.length then s.refuseBatch n q 0x03 0
  else if r.fault.isSome then s.refuseBatch n q 0x08 0
  else if unreadable || r.unc || r.lost then
    let s := if unreadable then
        (match s.accKey q.account va false with
         | some k => s.takeUnc q.account [k / 8]
         | none => s)
      else s
    s.refuseBatch n q 0x09 0
  else if !descOk q d then s.refuseBatch n q 0x01 tag
  else
    let set := s.setBasisOf d
    let point := if set then s.setPointBasis else 60
    let rates := s.rates q point
    let ps := descPhases d
    if !ps.all (fun p => p.held rates q (s.queueEngines q)) then s.refuseBatch n q 0x02 tag
    else if !s.descMapped q.account d then s.refuseBatch n q 0x08 tag
    else
      let b := bound rates ps
      if s.rd F.WRT_CTRL_MAXBOUND_MS * 1000 < b then s.refuseBatch n q 0x04 tag
      else
        let now := s.clk.now
        let deadline := max now q.lastDeadline + usec b
        let bt := newBatch d set point b now deadline (s.flag F.PWR_LIMIT_ABOVE_105)
        let s := s.setQueue n { q with subHead := (q.subHead + 1) % q.subSlots, lastDeadline := deadline,
                                       batches := q.batches ++ [bt] }
        s.putEntry n (entryBytes 1 0 0 n tag deadline b 0 now)

/-- The warrant unit reads the next announced slot of a queue; while the completion ring has no free entry it admits
nothing (R70). -/
def execBatchAdmission (queue : BitVec 8) (unreadable : Bool) (s : State) : Res :=
  .next (if !s.up then s
    else match s.queue queue.toNat with
      | none => s
      | some q =>
        if q.subHead = q.subTail || s.moves.any (fun m => m.drop.contains queue.toNat) || !q.due.isEmpty || !q.room then s else s.admitSlot queue.toNat q unreadable)

/-! ### The end of a batch (R81, R82) -/

/-- An empty health record of a step. -/
def healthDef (acct step : Nat) : StepHealth := ⟨acct, step, false, 0, false, false, []⟩

def State.stepHealth (s : State) (acct step : Nat) : StepHealth :=
  (s.train.health.find? (fun h => h.account == acct && h.step == step)).getD (healthDef acct step)

def State.setHealth (s : State) (h : StepHealth) : State :=
  let l := h :: s.train.health.filter (fun g => !(g.account == h.account && g.step == h.step))
  { s with train := { s.train with health := l } }

/-- What a finished batch adds to the health of its step (R301, R328). -/
def State.addHealth (s : State) (acct : Nat) (b : Batch) (status : Nat) : State :=
  match b.step with
  | none => s
  | some n =>
    let h := s.stepHealth acct n
    s.setHealth { h with
      nanInf := h.nanInf || b.nanInf
      sat := h.sat + b.sat
      batchFailed := h.batchFailed || [0x04, 0x20, 0x21, 0x30, 0x3F].contains status }

/-- Cause of lateness: the lowest that applies (R81). (DESIGN CHOICE, log entry 17.) -/
def Batch.lateCause (b : Batch) : Nat := if b.broken1 then 1 else if b.broken2 then 2 else if b.above105 then 3 else 0

/-- The last batch that used what moves has completed: the time of the re-binding runs from here, and its cores read
re-binding (R450). (DEDUCED, log entry 36.) -/
def State.moveTimes (s : State) : State :=
  s.moves.foldl (fun s m =>
    if m.since.isSome || m.drop.any (fun n => match s.queue n with | some q => !q.batches.isEmpty | none => false) then s
    else
      let s := m.cores.foldl (fun s c => if s.coreFenced c then s else s.setSeqState c 6) s
      { s with moves := s.moves.map (fun v => if v.account = m.account then { v with since := some s.clk.now } else v) }) s

/-- The release of each batch behind a deadline `d` follows the deadline before it, extensions included (R69, R78). (DEDUCED, log entry 61.) -/
def rechain (d : Nat) : List Batch → List Batch
  | [] => []
  | b :: t =>
    let b := { b with deadline := max b.admittedAt d + usec b.bound }
    b :: rechain b.limit t

/-- A count in which `waits` holds of a started batch: its extension grows, and the releases behind it move (R69, R78). -/
def Queue.wait (q : Queue) (waits : Batch → Bool) : Queue :=
  match q.batches.map (fun b => if b.started && waits b then { b with waited := b.waited + 1 } else b) with
  | [] => q
  | b :: t =>
    let bs := b :: rechain b.limit t
    { q with batches := bs, lastDeadline := bs.foldl (fun d b => max d b.limit) q.lastDeadline }

/-- A batch of a queue ends with these statuses, the times of its record and its entry rounded down to whole microseconds: judged against its deadline, its entry due, its place given up. (DESIGN
CHOICE, log entries 17, 106; DEDUCED, log entry 62.) -/
def State.endBatch (s : State) (n i : Nat) (statuses : List Nat) : State :=
  match s.queue n with
  | none => s
  | some q =>
    match q.batches[i]? with
    | none => s
    | some b =>
      let now := s.clk.now
      let limit := b.limit
      let st := firstStatus statuses
      let late := decide (limit < now) && decide (statusRank 0x02 ≤ statusRank st)
      let st := if late then 0x02 else st
      let s := s.setQueue n { q with batches := q.batches.eraseIdx i }
      let s := if late then
          (s.inc F.WRT_LATE_COUNT_COUNT).record 0x1001 (BitVec.ofNat 32 (n + 256 * q.account)) (BitVec.ofNat 32 b.bound)
            (BitVec.ofNat 32 ((now - limit) / 25)) (BitVec.ofNat 28 b.lateCause)
        else s
      let s := s.addHealth q.account b st
      (s.putEntry n (entryBytes 2 st 0 n b.tag.toNat b.deadline b.bound (b.waited / 25) now)).moveTimes

/-- Statuses of a batch's own orders. -/
def Batch.subs (b : Batch) : List SubOrder := b.clr ++ b.lmf ++ b.exq

/-- Every sequencer has reported and every order has completed. -/
def Batch.finished (b : Batch) : Bool := b.begun && b.running.isEmpty && b.subs.all (fun o => o.status.isSome)

/-- (DEDUCED, log entry 62.) -/
def Batch.statuses (b : Batch) : List Nat := b.status ++ b.subs.filterMap (·.status)

/-- A core stopped by a fault ends its part once all it issued has completed (R191). -/
def State.settleCores (s : State) (b : Batch) : State :=
  b.running.foldl (fun s c => if (s.core c).fault.isSome && s.coreDone c then s.endCore c else s) s

def execBatchComplete (queue : BitVec 8) (s : State) : Res :=
  .next (s.working fun s =>
    match s.runBatch queue.toNat with
    | none => s
    | some b =>
      let s := s.settleCores b
      match s.queue queue.toNat with
      | none => s
      | some q =>
        match q.batches.findIdx? (·.started) with
        | none => s
        | some i =>
          match q.batches[i]? with
          | none => s
          | some b => if b.finished then s.endBatch queue.toNat i b.statuses else s)

/-- Units whose running solve order is one of a queue's are idle. -/
def State.idleUnits (s : State) (n : Nat) : State :=
  s.exq.foldl (fun s p => if p.2.order.any (fun o => o.queue == n) then s.st F.EXQ_STATE_STATE 0 (p.1 / 4) (p.1 % 4) else s) s

/-- A batch ends at once: its cores stop with their orders ABORTED as a fence leaves them (R192, R450), its units' orders go,
it completes with a status (R83, R443, R450). (DEDUCED, log entry 62.) -/
def State.killBatch (s : State) (n i status : Nat) : State :=
  match s.queue n with
  | none => s
  | some q =>
    match q.batches[i]? with
    | none => s
    | some b =>
      let s := b.running.foldl (fun s c => (s.abortOrders c).endCore c) s
      let s := if b.started then
          let ids := (s.fab.colls.filter (fun c => c.queue == n)).map (·.id)
          let s := s.idleUnits n
          { s with
            fab := { s.fab with colls := s.fab.colls.filter (fun c => c.queue != n),
                                rx := s.fab.rx.filter (fun m => !ids.contains m.coll),
                                tx := s.fab.tx.filter (fun m => !ids.contains m.coll) }
            train := { s.train with lomef := s.train.lomef.filterMap (fun p =>
              match p.2.filter (fun o => o.queue != n) with
              | [] => none
              | l => some (p.1, l)) }
            exq := s.exq.map (fun p => (p.1, { p.2 with
              orders := p.2.orders.filter (fun o => o.1 != n)
              order := p.2.order.filter (fun o => o.queue != n) })) }
        else s
      s.endBatch n i (b.statuses ++ [status])

/-- Every batch of a queue that satisfies `p` ends with a status, in submission order. -/
def State.killBatches (s : State) (n : Nat) (p : Batch → Bool) (status : Nat) : Nat → State
  | 0 => s
  | k + 1 =>
    match s.queue n with
    | none => s
    | some q =>
      match q.batches.findIdx? p with
      | none => s
      | some i => (s.killBatch n i status).killBatches n p status k

/-- Every outstanding batch of the module that satisfies `p` on its queue ends with a status. -/
def State.killAll (s : State) (p : Queue → Batch → Bool) (status : Nat) : State :=
  s.wrt.queues.foldl (fun s e => s.killBatches e.1 (p e.2) status 64) s

/-! ### The start of a batch (R69, R71, R364) -/

/-- A unit nothing has used since start. (DESIGN CHOICE, log entry 9.) -/
def exqDef : Exq where
  loop := none
  phase := .idle
  table := none
  pend := none
  cyc := none
  cycNew := false
  prob := ⟨[], [], [], [], []⟩
  next := none
  factor := none
  warm := none
  iter := ⟨[], [], [], 0⟩
  k := 0
  bursts := []
  ringSeen := []
  y := []
  flags := 0
  sat := 0
  rp := 0
  rd := 0
  last := none
  progressAt := 0
  uncAt := none
  satRecAt := none
  order := none
  orders := []
  cache := none
  switchReq := none

/-- One 64-byte order of an array: read, or completed at once with the status of an unreadable read. -/
def State.readOrder (s : State) (acct va : Nat) : SubOrder :=
  let r := s.accRead [] acct va 64
  if r.status = 0 then ⟨r.bytes, false, none⟩ else ⟨r.bytes, true, some r.status⟩

def State.readOrders (s : State) (acct va count : Nat) : List SubOrder :=
  (List.range count).map (fun i => s.readOrder acct (va + 64 * i))

/-- A Lomef order enters its share's queue; a solve order its unit's (R71, R406). -/
def State.issueLomef (s : State) (n acct : Nat) (chips : List Nat) (os : List SubOrder) : State :=
  (os.zip chips).foldl (fun s p =>
    if p.1.issued then s
    else { s with train := { s.train with lomef := mupd [] s.train.lomef p.2 (fun l =>
        l ++ [⟨acct, n, p.1.bytes, false, none, 0, 0, []⟩]) } }) s

/-- A solve order joins the queue of the unit it names; one that names no unit of the module joins that of unit 0 and is
malformed there (R406, R413). -/
def State.issueExq (s : State) (n : Nat) (os : List SubOrder) : State :=
  os.zipIdx.foldl (fun s p =>
    if p.1.issued then s
    else
      let u := if field p.1.bytes 5 1 < 16 then field p.1.bytes 5 1 else 0
      { s with exq := mupd exqDef s.exq u (fun e => { e with orders := e.orders ++ [(n, p.2, p.1.bytes)] }) }) s

/-- A core begins the batch (R71, R181, R203). -/
def State.beginCore (s : State) (c idx : Nat) (b : Batch) : State :=
  let lo := c * 4096
  let s := { s with cpu := { s.cpu with
      sregs := s.cpu.sregs.filter (fun p => p.1 / 32 != c)
      csrs := s.cpu.csrs.filter (fun p => !(decide (lo ≤ p.1 ∧ p.1 < lo + 4096))) } }
  let s := (s.setSreg c 1 (BitVec.ofNat 64 idx)).setSreg c 2 b.argVa
  let s := s.setCore c { s.core c with
    pc := BitVec.ofNat 64 b.entry, fault := none, held := false, zeroes := false, issue := 0, stats := [],
    retiredAt := s.clk.now, wait := .other }
  s.setSeqState c 1

/-- The program copied to a core's store: words read as poisoned arrive poisoned (R71, R180). -/
def State.copyProgram (s : State) (c : Nat) (r : RdRes) : State :=
  let s := s.csWrite c 0 r.bytes
  let l := addPoison s.mem.csPoison ((r.pois.zipIdx.filter (·.1)).map (fun p => (csKey c 0 + p.2) / 8))
  { s with mem := { s.mem with csPoison := l } }

/-- The collectives a batch awaits have completed on this module (R364). -/
def State.tagsDone (s : State) (acct : Nat) (b : Batch) : Bool := b.tags.all (fun t => s.fab.doneTags.contains (acct, t))

/-- The cores of a batch start. (DEDUCED, log entry 61.) -/
def State.beginBatch (s : State) (n : Nat) (q : Queue) (b : Batch) : State :=
  let all := maskBits 256 q.cores.toNat
  let cores := s.queueCores q
  let copies := b.progVa ≠ 0 ∧ b.progBytes ≠ 0
  let r := if copies then s.accRead [] q.account b.progVa b.progBytes else ⟨[], [], none, false, []⟩
  let ok := r.fault.isNone && !r.lost
  let s := if ok then cores.foldl (fun s c => s.copyProgram c r) s else s
  let runs := if b.noSeq || !ok then [] else cores
  let s := runs.foldl (fun s c => s.beginCore c (all.idxOf c) b) s
  s.updRun n (fun b => { b with begun := true, running := runs, status := b.status ++ [r.status] })

/-- Dies whose dispatchers serve a queue; a queue with no core is served by die 0. (DEDUCED, log entry 61.) -/
def State.queueDies (s : State) (q : Queue) : List Nat :=
  match (s.queueCores q).map (· / 64) with
  | [] => [0]
  | l => l.eraseDups

/-- The first batch of a queue starts: its orders are issued, and its cores start once its collectives have completed. (DEDUCED, log entry 61.) -/
def execBatchStart (queue : BitVec 8) (s : State) : Res :=
  let n := queue.toNat
  .next (s.working fun s =>
    match s.queue n with
    | none => s
    | some q =>
      match q.batches with
      | [] => s
      | b :: rest =>
        if b.begun then s
        else if (s.queueDies q).any (fun d => s.fwState d == 5) then s.killBatch n 0 0x30
        else if !(s.queueDies q).all s.fwRuns then s
        else
          let s := if b.started then s
            else
              let clr := s.readOrders q.account b.clrVa b.clrCount
              let lmf := s.readOrders q.account b.lmfVa b.lmfCount
              let exq := s.readOrders q.account b.exqVa b.exqCount
              let chips := maskBits 8 q.lomef.toNat
              let s := s.setQueue n { q with batches := { b with
                started := true, clr := clr, exq := exq.map (fun o => { o with issued := true }),
                lmf := lmf.map (fun o => { o with issued := true }) } :: rest }
              (s.issueLomef n q.account chips lmf).issueExq n exq
          if s.tagsDone q.account b then s.beginBatch n q b else s)

end Sys2Proof.Machine
end

