-- ==== Sys2Proof/Machine/Ledger.lean ====
section
/-! DEFINITION. The scale ledger and the demotion ladder (R235 to R258): merges of posts, the close of a step, the reset of
a layer by software. -/

namespace Sys2Proof.Machine

/-- The binding of an account. -/
def State.acct (s : State) (a : Nat) : Option Acct := (s.accts.find? (fun p => p.1 == a)).map (·.2)

/-- The account is in fall-back mode (R259, R260). (DEDUCED, log entry 34.) -/
def State.fallback (s : State) (a : Nat) : Bool := s.flag F.GLB_ACCT_FALLBACK 0 a

/-! ### Keepers (R241, R247, R253) -/

/-- The die that keeps the records of home die `h`. -/
def State.keeperDie (s : State) (h : Nat) : Nat := ((s.train.keepers.find? (fun p => p.1 == h)).map (·.2)).getD h

/-- The die whose dispatcher keeps the records of `id`; none while no dispatcher has taken them over from a failed one.
(DEDUCED, log entries 32, 63.) -/
def State.keeper (s : State) (id : Nat) : Option Nat :=
  let d := s.keeperDie (id % 4)
  if s.fwAlive d then some d else none

/-- Records whose keeper has failed pass to the first running dispatcher after it, until the next start (R247). (DEDUCED,
log entry 63.) -/
def State.settleKeepers (s : State) : State :=
  (List.range 4).foldl (fun s h =>
    let d := s.keeperDie h
    if s.fwAlive d then s
    else match ([1, 2, 3].map (fun i => (d + i) % 4)).find? s.fwRuns with
      | some k => { s with train := { s.train with keepers := (h, k) :: s.train.keepers.filter (fun p => p.1 != h) } }
      | none => s) s

/-! ### Records -/

/-- A record of a table at an account address. -/
structure RecRd where
  ok : Bool
  mapped : Bool
  bytes : List Byte
  fresh : List Nat
  deriving DecidableEq, Repr

/-- Read a record of `n` bytes: usable when it translates for the dispatcher's write too and reads corrected. -/
def State.recRead (s : State) (bad : List Nat) (acct va n : Nat) : RecRd :=
  let r := s.accRead bad acct va n
  let m := r.fault.isNone && s.accMapped acct va n true
  ⟨m && !r.unc && !r.lost, m, r.bytes, r.fresh⟩

/-- Parameter 2 of code 0x2506. -/
def skipWord (layer unreadable close : Bool) : Nat := (if layer then 2 else 1) + 4 * b2n unreadable + 8 * b2n close

/-- VALID of a ledger record or a layer record. -/
def ledgerValid (b : List Byte) : Bool := bit (field b 68 1) 7
def layerValid (b : List Byte) : Bool := bit (field b 4 1) 7

/-! ### Merges (R241, R253) -/

/-- LCAPT of a post merged into a ledger record: amax by maximum, flags by OR. -/
def mergeLedger (b : List Byte) (d : W64) : List Byte :=
  let v := d.toNat
  let fl := field b 68 1
  let b := splice b 64 (natLe 4 (max (field b 64 4) (v % 2 ^ 32)))
  splice b 68 (natLe 1 (Nat.lor fl (b2n (bit v 32) + 2 * b2n (bit v 33))))

/-- A watch outcome merged into a layer record: 0 clean, 1 exceed, others unscored. -/
def mergeLayer (b : List Byte) (outcome : Nat) : List Byte :=
  let set := match outcome with
    | 0 => 1
    | 1 => 3
    | _ => 0
  splice b 4 (natLe 1 (Nat.lor (field b 4 1) set))

/-- Merge one post at its keeper: it changes its record, or nothing, with code 0x2506. -/
def State.mergePost (s : State) (p : Post) (dev : DevEvents) : State :=
  let a := (s.acct p.account)
  let count := (a.map (fun x => if p.layer then x.layerCount else x.ledgerCount)).getD 0
  let base := (a.map (fun x => if p.layer then x.layerVa else x.ledgerVa)).getD 0
  let n := if p.layer then 16 else 128
  let va := base + n * p.id
  let skip := fun (s : State) u => s.note 0x2506 p.account p.id (skipWord p.layer u false)
  if count ≤ p.id then skip s false
  else
    let r := s.recRead dev.bad p.account va n
    let s := (s.devAccess dev).takeUnc p.account r.fresh
    if !r.ok then skip s true
    else if p.layer then
      if !layerValid r.bytes then skip s false
      else s.accWrite p.account va (mergeLayer r.bytes p.data.toNat)
    else if !ledgerValid r.bytes then skip s false
    else s.accWrite p.account va (mergeLedger r.bytes p.data)

/-- The first post of a kind in the queue of a die's dispatcher, with its place. -/
def State.nextPost (s : State) (die : Nat) (layer : Bool) : Option (Nat × Post) :=
  (s.train.posts.zipIdx.find? (fun p => p.1.layer == layer && s.keeper p.1.id == some die)).map (fun p => (p.2, p.1))

/-- The dispatcher of a die takes its next post of a kind. (DEDUCED, log entry 63.) -/
def State.takePost (s : State) (die : Nat) (layer : Bool) (dev : DevEvents) : State :=
  if !s.fwRuns die then s
  else match s.nextPost die layer with
    | none => s
    | some (i, p) => { s with train := { s.train with posts := s.train.posts.eraseIdx i } }.mergePost p dev

def execLedgerMerge (die : Fin 4) (dev : DevEvents) (s : State) : Res :=
  .next (s.working fun s => s.takePost die false dev)

/-- (DEDUCED, log entry 63.) -/
def execLayerOutcomeMerge (die : Fin 4) (dev : DevEvents) (s : State) : Res :=
  .next (s.working fun s => s.takePost die true dev)

/-! ### The close (R244) -/

/-- format_max of a format the ledger manages (R235). -/
def formatMax (fmt : Nat) : Option Nat :=
  match fmt with
  | 0xE => some 688128
  | 0x4 => some 448
  | 0x5 => some 57344
  | 0x3 => some 65504
  | 0xC => some 127
  | 0xD => some 7
  | _ => none

/-- 2^x as a value. -/
def pow2 (x : Int) : FV := fvScale false 1 x

/-- Largest integer s with e * 2^s <= fmax * 2^-h, for a positive e. (DESIGN CHOICE, log entry 65.) -/
def scaleExp (e : FV) (fmax h : Nat) : Int :=
  match e with
  | .fin _ a b => flog2 (fmax * b) (a * 2 ^ h)
  | _ => 0

/-- The value of e is finite and positive, so that the pseudocode of R244 states a scale. -/
def finitePos : FV → Bool
  | .fin _ a _ => decide (0 < a)
  | _ => false

/-- What the close of a ledger record computes: the record, and s before its clamp when it was clamped. `freeE` and
`freeS` stand for floor(log2) of an infinite amax and for s of an infinite e, of which the spec states nothing. (DEDUCED, log entry 64; DESIGN CHOICE, log entry 65.) -/
def closeRecord (b : List Byte) (n : Nat) (freeE freeS : Int) : List Byte × Option Int :=
  let a := field b 64 4
  let av := f32.decode a
  let b := splice b (4 * (n % 16)) (natLe 4 a)
  let hmax := (List.range 16).foldl (fun m i => max m (field b (4 * i) 4)) 0
  let hv := f32.decode hmax
  let fl := field b 68 1
  let sat := bit fl 0
  let held := bit fl 2
  let clean := field b 71 1
  let hold := toSigned 16 (field b 74 2)
  let raise := sat && decide (0 < a)
  let la := if finitePos av then av.log2 else freeE
  let clean := if raise then 0 else if sat then clean else min (clean + 1) 255
  let relax := !raise && !sat && held && decide (8 ≤ clean)
  let hold := if raise then la + 2 else if relax then hold - 1 else hold
  let ends := relax && !(hv.lt (pow2 hold)) && !hv.isNan
  let held := if raise then true else held && !ends
  let e := if held then hv.max (pow2 hold) else hv
  let b := splice b 68 (natLe 1 (fl - bits fl 2 0 + 4 * b2n held))
  let b := splice b 71 (natLe 1 clean)
  let b := splice b 74 (natLe 2 (ofSigned 16 hold))
  let done := fun (b : List Byte) => splice (splice b 64 (natLe 4 0)) 80 (natLe 8 n)
  match formatMax (field b 69 1) with
  | none => (done b, none)
  | some fmax =>
    if e.isZero then (done b, none)
    else
      let s := if finitePos e then scaleExp e fmax (field b 70 1 % 4) else freeS
      let c := if s < -63 then -63 else if 63 < s then 63 else s
      (done (splice b 72 (natLe 2 (ofSigned 16 c))), if s = c then none else some s)

/-- Close ledger record `i` for step `n`; a skipped record stays as it is, code 0x2506. (DEDUCED, log entry 64; DESIGN CHOICE, log entry 65.) -/
def State.closeLedger (s : State) (bad : List Nat) (acct base n i : Nat) : State :=
  let va := base + 128 * i
  let r := s.recRead bad acct va 128
  let s := s.takeUnc acct r.fresh
  if !r.ok then s.note 0x2506 acct i (skipWord false true true)
  else if !ledgerValid r.bytes then s
  else
    let out := closeRecord r.bytes n (toSigned 16 (s.freeNat 16)) (toSigned 32 (s.takeFree.freeNat 32))
    let s := (s.accWrite acct va out.1).takeFree.takeFree
    match out.2 with
    | none => s
    | some v => s.note 0x2505 acct i (ofSigned 32 v)

/-! ### The ladder (R255, R260) -/

/-- What the close of a layer record computes: the record, and the code it writes. (DEDUCED, log entry 34.) -/
def closeLayerRec (b : List Byte) (n : Nat) (fallback : Bool) : List Byte × Option Nat :=
  let fl := field b 4 1
  let done := fun (b : List Byte) => splice b 4 (natLe 1 (fl - bits fl 1 0))
  if !bit fl 0 then (done b, none)
  else
    let w := (field b 0 2 * 2 + b2n (bit fl 1)) % 65536
    let rung := field b 2 1 % 4
    if popcount 16 w < 4 then (done (splice b 0 (natLe 2 w)), none)
    else
      let b := splice b 0 (natLe 2 0)
      if rung < 3 ∧ !fallback then
        (done (splice (splice b 2 (natLe 1 (field b 2 1 + 1))) 8 (natLe 8 n)), some 0x2501)
      else (done b, some 0x2503)

/-- (DEDUCED, log entry 64.) -/
def State.closeLayer (s : State) (bad : List Nat) (acct base n i : Nat) : State :=
  let va := base + 16 * i
  let r := s.recRead bad acct va 16
  let s := s.takeUnc acct r.fresh
  if !r.ok then s.note 0x2506 acct i (skipWord true true true)
  else if !layerValid r.bytes then s
  else
    let out := closeLayerRec r.bytes n (s.fallback acct)
    let s := s.accWrite acct va out.1
    match out.2 with
    | some 0x2501 => s.note 0x2501 acct i (field out.1 2 1 % 4 + n % 2 ^ 24 * 256)
    | some _ => s.note 0x2503 acct i (n % 2 ^ 32)
    | none => s

/-- A dispatcher is left, and the keeper of every record of an account runs: a close waits for one that restarts (R247,
R442). (DEDUCED, log entry 63.) -/
def State.keepersRun (s : State) (a : Acct) : Bool :=
  (List.range 4).any s.fwAlive && (List.range 4).all (fun h =>
    !(decide (h < a.ledgerCount) || decide (h < a.layerCount)) || s.fwRuns (s.keeperDie h))

/-- The close of all records of an account for step `n`: ledger records, then layer records (R244, R255). -/
def State.closeStep (s : State) (bad : List Nat) (acct n : Nat) : State :=
  match s.acct acct with
  | none => s
  | some a =>
    let s := (List.range a.ledgerCount).foldl (fun s i => s.closeLedger bad acct a.ledgerVa n i) s
    (List.range a.layerCount).foldl (fun s i => s.closeLayer bad acct a.layerVa n i) s

/-! ### The exchange of current-step fields (R243) -/

/-- CUR_AMAX, SAT and NONFIN of a ledger record in the form of LCAPT, STEP_WATCHED and STEP_EXCEED of a layer record, of
the records a close would take. -/
def State.curFields (s : State) (acct : Nat) (a : Acct) (i : Nat) : W64 :=
  if i < a.ledgerCount then
    let r := s.recRead [] acct (a.ledgerVa + 128 * i) 128
    if r.ok && ledgerValid r.bytes then
      BitVec.ofNat 64 (field r.bytes 64 4 + (field r.bytes 68 1 % 4) * 2 ^ 32)
    else 0
  else
    let r := s.recRead [] acct (a.layerVa + 16 * (i - a.ledgerCount)) 16
    if r.ok && layerValid r.bytes then BitVec.ofNat 64 (field r.bytes 4 1 % 4) else 0

/-- Combine what another module holds of record `i` (ledger records first, then layer records). (DEDUCED, log entry 70.) -/
def State.combineField (s : State) (acct : Nat) (a : Acct) (i : Nat) (v : W64) : State :=
  if i < a.ledgerCount then
    let va := a.ledgerVa + 128 * i
    let r := s.recRead [] acct va 128
    if r.ok && ledgerValid r.bytes then s.accWrite acct va (mergeLedger r.bytes v) else s
  else if i < a.ledgerCount + a.layerCount then
    let va := a.layerVa + 16 * (i - a.ledgerCount)
    let r := s.recRead [] acct va 16
    if r.ok && layerValid r.bytes then
      s.accWrite acct va (splice r.bytes 4 (natLe 1 (Nat.lor (field r.bytes 4 1) (v.toNat % 4))))
    else s
  else s

/-! ### LAYER_RESET (R257) -/

/-- (DEDUCED, log entry 64.) -/
def execLayerReset (slot : BitVec 10) (s : State) : Res :=
  .next (s.cmdGo slot 0x09 (fun acct b s =>
    let layer := field b 16 2
    let rung := field b 18 1
    match s.keeper layer with
    | none => s
    | some _ =>
      let end_ := fun (s : State) st rs => s.cmdEnd slot.toNat st rs
      match s.acct acct with
      | none => end_ s 0x03 0x02
      | some a =>
        let va := a.layerVa + 16 * layer
        let r := s.recRead [] acct va 16
        if decide (a.layerCount ≤ layer) || !r.ok || !layerValid r.bytes then end_ s 0x03 0x02
        else if rung < field r.bytes 3 1 % 4 ∨ 3 < rung then end_ s 0x03 0x01
        else
          let keep := field r.bytes 2 1 / 4 * 4
          let s := s.accWrite acct va (splice (splice r.bytes 0 (natLe 2 0)) 2 (natLe 1 (keep + rung)))
          end_ (s.note 0x2502 acct layer rung) 0 0))

end Sys2Proof.Machine
end

