-- ==== Sys2Proof/Machine/Train.lean ====
section
/-! DEFINITION. Lomef orders (R309 to R328, R333, R334): tensor records, escrow, the update, watch copies, the posted step,
health words. -/

namespace Sys2Proof.Machine

/-! ### Shares and features -/

/-- Bit of feature word 0 of the agreed set (R436). -/
def State.agreed (s : State) (i : Nat) : Bool := bit (s.rd F.GLB_FEATURES_AGREED) i

/-- Device address of an offset in a Lomef share (R275). -/
def shareAddr (chip off : Nat) : Nat := 0x100000000000 + chip * 2 ^ 40 + off

def State.shareRead (s : State) (bad : List Nat) (chip off n : Nat) : RdRes := s.devRead bad (shareAddr chip off) n

def State.shareWrite (s : State) (chip off : Nat) (b : List Byte) : State := s.devWrite (shareAddr chip off) b

/-- A share an account held was lost in service (R297). -/
def State.shareLost (s : State) (chip : Nat) : Bool := s.flag F.LMF_STATUS_LOST chip

/-- Lomef shares of an account. -/
def Acct.shares (a : Acct) : List Nat := maskBits 8 a.lomef.toNat

/-! ### Tensor records (R311) -/

/-- A tensor record. -/
structure Tensor where
  idx : Nat
  stateOff : Nat
  escOff : Nat
  rows : Nat
  cols : Nat
  wide : Bool
  slots : Nat
  flags : Nat
  layer : Nat
  copyFmt : Nat
  beta1 : Nat
  beta2 : Nat
  eps : Nat
  lambda : Nat
  copyId : Nat
  twinId : Nat
  watchD0 : Nat
  watchD1 : Nat
  elemBase : Nat
  rowStride : Nat
  copyVa : Nat
  twinVa : Nat
  watchVa : Nat
  readyVa : Nat
  s0Step : Nat
  s0T : Nat
  s1Step : Nat
  s1T : Nat
  deriving DecidableEq, Repr

def tensorOf (idx : Nat) (b : List Byte) : Tensor where
  idx := idx
  stateOff := field b 0 8
  escOff := field b 8 8
  rows := field b 16 4
  cols := field b 20 4
  wide := field b 24 1 == 1
  slots := field b 25 1
  flags := field b 26 1
  layer := field b 28 2
  copyFmt := field b 30 2
  beta1 := field b 32 4
  beta2 := field b 36 4
  eps := field b 40 4
  lambda := field b 44 4
  copyId := field b 48 4 % 2 ^ 24
  twinId := field b 52 4 % 2 ^ 24
  watchD0 := field b 56 4
  watchD1 := field b 60 4
  elemBase := field b 64 8
  rowStride := field b 72 8
  copyVa := field b 80 8
  twinVa := field b 88 8
  watchVa := field b 96 8
  readyVa := field b 104 8
  s0Step := field b 128 8
  s0T := field b 136 8
  s1Step := field b 144 8
  s1T := field b 152 8

def Tensor.sparse (t : Tensor) : Bool := bit t.flags 0
def Tensor.decay (t : Tensor) : Bool := bit t.flags 1
def Tensor.copy (t : Tensor) : Bool := bit t.flags 2
def Tensor.twin (t : Tensor) : Bool := bit t.flags 3
def Tensor.watch (t : Tensor) : Bool := bit t.flags 4
/-- Bytes of an element of the tensor's class. -/
def Tensor.w (t : Tensor) : Nat := if t.wide then 8 else 4
def Tensor.fmt (t : Tensor) : FFmt := if t.wide then f64 else f32
def Tensor.elems (t : Tensor) : Nat := t.rows * t.cols
/-- Bytes of one side: w, m, v (R312). -/
def Tensor.side (t : Tensor) : Nat := 3 * t.elems * t.w
/-- Bytes of one gradient slot: elements, or rows with their indices (R318). -/
def Tensor.slotBytes (t : Tensor) : Nat := if t.sparse then t.rows * (4 + t.cols * t.w) else t.elems * t.w

/-- Offset of the first field of a record that breaks R311, if one does; `sparseOk` tells whether SPARSE is agreed. -/
def tensorBad (sparseOk : Bool) (b : List Byte) : Option Nat :=
  let t := tensorOf 0 b
  let z := fun o n => field b o n != 0
  if 2 ^ 40 < t.stateOff + 2 * t.side + (if t.sparse then 32 * t.rows else 0) then some 0
  else if 2 ^ 40 < t.escOff + t.slots * t.slotBytes then some 8
  else if 1 < field b 24 1 then some 24
  else if t.slots = 0 ∨ 16 < t.slots then some 25
  else if 32 ≤ t.flags ∨ (t.sparse ∧ !sparseOk) then some 26
  else if z 27 1 then some 27
  else if 4095 < t.layer then some 28
  else if z 112 16 then some 112
  else if z 160 32 then some 160
  else none

/-- Offset of the first ESC_OFF of a list whose gradient, in an escrow buffer at `buf`, passes the end of the share (R311). -/
def escBad (buf : Nat) (ts : List Tensor) : Option Nat :=
  (ts.find? (fun t => decide (2 ^ 40 < buf + t.escOff + t.slots * t.slotBytes))).map (fun t => 192 * t.idx + 8)

/-! ### Lomef orders (R322) -/

def LOrder.kind (o : LOrder) : Nat := field o.bytes 0 1
def LOrder.count (o : LOrder) : Nat := field o.bytes 2 2
def LOrder.eta (o : LOrder) : Nat := field o.bytes 4 4
def LOrder.step (o : LOrder) : Nat := field o.bytes 8 8
def LOrder.nextStep (o : LOrder) : Nat := field o.bytes 16 8
def LOrder.listOff (o : LOrder) : Nat := field o.bytes 24 8
def LOrder.staging (o : LOrder) : Nat := field o.bytes 32 8
def LOrder.seed (o : LOrder) : Nat := field o.bytes 40 8

/-- Offset of the first field of an order that breaks R322. -/
def LOrder.bad (o : LOrder) : Option Nat :=
  if o.kind = 0 ∨ 3 < o.kind then some 0
  else if 2 ≤ field o.bytes 1 1 then some 1
  else if o.count = 0 then some 2
  else if 2 ^ 40 < o.listOff + 192 * o.count then some 24
  else if field o.bytes 48 16 ≠ 0 then some 48
  else none

/-- The order at the front of a share. -/
def State.front (s : State) (chip : Nat) : Option LOrder := (mget [] s.train.lomef chip).head?

def State.setFront (s : State) (chip : Nat) (o : LOrder) : State :=
  { s with train := { s.train with lomef := mupd [] s.train.lomef chip (fun l => o :: l.tail) } }

/-- The tensor list of an order, and the status of its read (R311). -/
def State.tensors (s : State) (bad : List Nat) (chip : Nat) (o : LOrder) : List (List Byte) × Nat × List Nat :=
  let r := s.shareRead bad chip o.listOff (192 * o.count)
  ((List.range o.count).map (fun i => slice r.bytes (192 * i) 192), r.status, r.fresh)

/-- Lomef registers while an order runs (R337 LMF). -/
def State.lmfBusy (s : State) (chip : Nat) (o : LOrder) : State :=
  let s := ((s.st F.LMF_STATUS_BUSY 1 chip).st F.LMF_STATUS_KIND o.kind chip).st F.LMF_STATUS_ACCOUNT o.account chip
  (s.st F.LMF_STEP_STEP o.step chip).st F.LMF_PROGRESS_ELEMENTS 0 chip

def State.lmfIdle (s : State) (chip : Nat) : State := (s.st F.LMF_STATUS_BUSY 0 chip).st F.LMF_STATUS_KIND 0 chip

/-- Set what a batch holds of a sub-order. -/
def setSub (l : List SubOrder) (i status : Nat) : List SubOrder :=
  l.zipIdx.map (fun p => if p.2 = i then { p.1 with status := some status } else p.1)

/-- The share reports step n, failed unless DONE (R325, R326, R328). (DEDUCED, log entry 66.) -/
def State.reportEscrow (s : State) (acct step chip status : Nat) : State :=
  let h := s.stepHealth acct step
  s.setHealth { h with reported := ins chip h.reported, escrowFailed := h.escrowFailed || status != 0 }

/-- The front order of a share completes, LATE past its batch's deadline (R83): its status joins its batch, the next order
comes to the front. -/
def State.lomefDone (s : State) (chip status : Nat) : State :=
  match s.front chip with
  | none => s
  | some o =>
    let status := s.lateStatus o.queue status
    let s := { s with train := { s.train with lomef := mupd [] s.train.lomef chip List.tail } }.lmfIdle chip
    let mask := ((s.queue o.queue).map (fun q => maskBits 8 q.lomef.toNat)).getD []
    let s := s.updRun o.queue (fun b => { b with lmf := setSub b.lmf (mask.idxOf chip) status })
    if o.kind = 1 then s.reportEscrow o.account o.step chip (if status = 2 then 0 else status) else s

/-- The order is malformed: code 0x5007, ABORTED (R337). -/
def State.lomefBad (s : State) (chip : Nat) (o : LOrder) (off : Nat) : State :=
  (s.note 0x5007 o.account chip off).setFront chip { o with running := true, status := some 0x04 }

/-- The order stops with a status before it has written anything more. -/
def State.lomefStop (s : State) (chip : Nat) (o : LOrder) (status : Nat) : State :=
  s.setFront chip { o with running := true, status := some status }

/-- Start the front order of a share when it has a kind `k` accepts: the checks of R311 and R322 and a lost share end
it; else `f` runs it on its tensors. (DEDUCED, log entry 73.) -/
def State.lomefStart (s : State) (chip : Nat) (k : Nat → Bool) (dev : DevEvents)
    (f : LOrder → List Tensor → State → State) : State :=
  match s.front chip with
  | none => s
  | some o =>
    if o.running || !k o.kind || s.rd F.PCI_PORT_STATE 0 chip == 3 then s
    else
      let s := s.lmfBusy chip o
      if !s.shareUp chip then s.lomefStop chip o 0x21
      else match o.bad with
        | some off => s.lomefBad chip o off
        | none =>
          let l := s.tensors dev.bad chip o
          let s := (s.devAccess dev).takeUnc o.account l.2.2
          if l.2.1 ≠ 0 then s.lomefStop chip o l.2.1
          else match (l.1.zipIdx.filterMap (fun p => (tensorBad (s.agreed 6) p.1).map (· + 192 * p.2))).head? with
            | some off => s.lomefBad chip o off
            | none => f o (l.1.zipIdx.map (fun p => tensorOf p.2 p.1)) s

/-! ### Health words (R328) -/

/-- Outstanding batches of an account's step: their delivered records count before they end. -/
def State.stepBatches (s : State) (acct step : Nat) : List Batch :=
  (s.wrt.queues.filter (fun q => q.2.account == acct)).flatMap (fun q => q.2.batches.filter (fun b => b.step == some step))

/-- The loss at an address is NaN or infinite; one that cannot be read counts as such. -/
def State.lossBad (s : State) (acct va : Nat) : Bool :=
  let r := s.accRead [] acct va 8
  r.status != 0 || (match f64.decode (leNat r.bytes) with | .fin _ _ _ => false | _ => true)

/-- The health word of a step as it stands, with the two bits that need its gate command once that is there. (DEDUCED, log
entry 66.) -/
def State.healthBits (s : State) (acct step : Nat) (gate : Option Gate) : Nat :=
  let h := s.stepHealth acct step
  let bs := s.stepBatches acct step
  let lost := ((s.acct acct).map (fun a => a.shares.any s.shareLost)).getD false
  let sat := h.sat + (bs.map (·.sat)).sum
  let own := match gate with
    | some g => 2 * b2n (g.satLimit != 0 && decide (g.satLimit < sat)) + 4 * b2n (s.lossBad acct g.lossVa)
    | none => 0
  b2n (h.nanInf || bs.any (·.nanInf)) + own + 8 * b2n h.batchFailed + 16 * b2n h.escrowFailed + 32 * b2n lost

/-- The health word with which a gate enters the exchange. -/
def State.healthWord (s : State) (g : Gate) : Nat := s.healthBits g.account g.step (some g)

/-- The health word that an ESCROW order meets (R326). -/
def State.healthBase (s : State) (acct step : Nat) : Nat :=
  s.healthBits acct step (s.train.gates.find? (fun g => g.account == acct && g.step == step))

/-! ### Escrow buffers (R324) -/

/-- Share offsets of an account's two escrow buffers on a chip (R447). (DEDUCED, log entry 67.) -/
def Acct.buffers (a : Acct) (chip : Nat) : List Nat := [a.escrowOff.getD (2 * chip) 0, a.escrowOff.getD (2 * chip + 1) 0]

/-- A header seals bytes 0 to 59 with its CRC. -/
def sealHdr (b : List Byte) : List Byte :=
  let c := slice b 0 60
  c ++ natLe 4 (crc32c c).toNat

/-- A header of a buffer; one that cannot be read or whose CRC fails counts as empty. (DEDUCED, log entry 67.) -/
def State.hdr (s : State) (chip off : Nat) : List Byte :=
  let r := s.shareRead [] chip off 64
  if r.status = 0 ∧ (crc32c (slice r.bytes 0 60)).toNat = field r.bytes 60 4 then r.bytes
  else List.replicate 64 0#8

def hdrStep (b : List Byte) : Nat := field b 0 8
def hdrState (b : List Byte) : Nat := field b 8 1

def State.setHdrState (s : State) (chip off state : Nat) : State :=
  s.shareWrite chip off (sealHdr (splice (s.hdr chip off) 8 (natLe 1 state)))

/-- The header of an escrow. -/
def newHdr (step state segs : Nat) (sumsq : W64) (c : Nat) : List Byte :=
  sealHdr (natLe 8 step ++ natLe 4 state ++ natLe 4 segs ++ natLe 8 sumsq.toNat ++ natLe 4 c ++ List.replicate 32 0#8)

/-- Where the gradient data of a tensor list lies in a buffer: first offset and length. (DEDUCED, log entry 67.) -/
def escExtent (ts : List Tensor) : Nat × Nat :=
  let lo := ts.foldl (fun m t => min m t.escOff) (2 ^ 64)
  let hi := ts.foldl (fun m t => max m (t.escOff + t.slots * t.slotBytes)) 0
  (lo, hi - lo)

/-- Bytes of a segment (R324). -/
def segBytes : Nat := 65536
def segCount (len : Nat) : Nat := (len + segBytes - 1) / segBytes

/-- Rows that a slot of a SPARSE tensor lists, with the place of each row's gradient: ascending indices below ROWS. (DEDUCED, log entry 69.) -/
def listRows (data : List Byte) (rows step : Nat) : Nat → Nat → Option Nat → List (Nat × Nat)
  | 0, _, _ => []
  | k + 1, off, prev =>
    let r := field data off 4
    let more := decide (r < rows) && (match prev with | none => true | some p => decide (p < r))
    if more then (r, off + 4) :: listRows data rows step k (off + step) (some r) else []

/-- Gradients of a tensor from the bytes of an escrow (R310, R318): (row, column, g). (DEDUCED, log entry 69.) -/
def gradsOf (t : Tensor) (data : List Byte) (lo : Nat) : List (Nat × List FV) :=
  let base := t.escOff - lo
  let rd := fun o => t.fmt.decode (field data o t.w)
  let add := fun x y => t.fmt.rv .rne (FV.add false x y)
  if t.sparse then
    let step := 4 + t.cols * t.w
    let slots := (List.range t.slots).map (fun k => listRows data t.rows step t.rows (base + k * t.slotBytes) none)
    let rows := (slots.flatMap (fun l => l.map (·.1))).foldl (fun acc r => ins r acc) []
    rows.map (fun r =>
      let places := slots.filterMap (fun l => (l.find? (fun e => e.1 == r)).map (·.2))
      (r, (List.range t.cols).map (fun c =>
        match places.map (fun o => rd (o + c * t.w)) with
        | [] => fvZero false
        | x :: rest => rest.foldl add x)))
  else
    (List.range t.rows).map (fun r => (r, (List.range t.cols).map (fun c =>
      let e := r * t.cols + c
      ((List.range (t.slots - 1)).foldl (fun g k => add g (rd (base + ((k + 1) * t.elems + e) * t.w)))
        (rd (base + e * t.w))))))

/-- SUMSQ of R325. -/
def sumSquares (ts : List Tensor) (data : List Byte) (lo : Nat) : FV :=
  ts.foldl (fun acc t => (gradsOf t data lo).foldl (fun acc p => p.2.foldl (fun acc g =>
    f64.rv .rne (FV.add false acc (f64.rv .rne (g.mul g)))) acc) acc) (fvZero false)

/-! ### ESCROW (R325, R326) -/

/-- (DEDUCED, log entry 67.) -/
def State.runEscrow (s : State) (chip : Nat) (bad : List Nat) (o : LOrder) (ts : List Tensor) : State :=
  if s.healthBase o.account o.step ≠ 0 then s.lomefStop chip o 0x05
  else match s.acct o.account with
    | none => s.lomefStop chip o 0x05
    | some a =>
      match (a.buffers chip).find? (fun off => hdrState (s.hdr chip off) != 2 && hdrState (s.hdr chip off) != 3) with
      | none => s
      | some off =>
        match escBad off ts with
        | some bad => s.lomefBad chip o bad
        | none =>
        let ext := escExtent ts
        let s := s.shareWrite chip off (newHdr o.step 1 (segCount ext.2) 0 0)
        let r := s.accRead bad o.account o.staging ext.2
        let s := s.takeUnc o.account r.fresh
        if r.fault.isSome then s.lomefBad chip { o with buffer := off } 32
        else if r.status ≠ 0 then s.lomefStop chip { o with buffer := off } r.status
        else
          let segs := (List.range (segCount ext.2)).map (fun k => (r.bytes.drop (segBytes * k)).take segBytes)
          let s := s.shareWrite chip (off + ext.1) r.bytes
          let s := s.shareWrite chip (off + 64) (segs.flatMap (fun b => natLe 4 (crc32c b).toNat))
          let sq := BitVec.ofNat 64 (f64.ieee .rne (sumSquares ts r.bytes ext.1))
          (s.st F.LMF_PROGRESS_ELEMENTS ((ts.map Tensor.elems).sum) chip).setFront chip
            { o with running := true, status := none, buffer := off, sumsq := sq }

/-- An order that is neither UPDATE nor WATCH_REFRESH comes up as an escrow: one of no kind is malformed. -/
def execEscrow (chip : Fin 8) (dev : DevEvents) (s : State) : Res :=
  .next (s.working fun s =>
    s.lomefStart chip (fun k => k != 2 && k != 3) dev (fun o ts s => s.runEscrow chip dev.bad o ts))

/-- The share's vault steward runs: a completion waits in hardware while it restarts (R336). (DEDUCED, log entry 73.) -/
def State.shareServed (s : State) (chip : Nat) : Bool := s.fwRuns (9 + chip) || s.shareLost chip

def execEscrowComplete (chip : Fin 8) (s : State) : Res :=
  .next (s.working fun s =>
    match s.front chip with
    | none => s
    | some o =>
      if !o.running || o.kind = 2 || o.kind = 3 || !s.shareServed chip then s
      else match o.status with
        | some st => s.lomefDone chip st
        | none =>
          if !s.shareUp chip then s.lomefDone chip 0x21
          else
            let segs := field (s.hdr chip o.buffer) 12 4
            (s.shareWrite chip o.buffer (newHdr o.step 2 segs o.sumsq 0)).lomefDone chip 0)

/-! ### UPDATE (R313 to R320, R327, R333, R334) -/

/-- The posted step of a share, and the slot the next post writes (R333). -/
def State.posted (s : State) (chip base : Nat) : Nat × Nat :=
  let v := (List.range 2).map (fun k =>
    let r := s.shareRead [] chip (base + 64 * k) 64
    if r.status = 0 ∧ (crc32c (slice r.bytes 0 60)).toNat = field r.bytes 60 4 then some (field r.bytes 0 8) else none)
  match v with
  | [some a, some b] => if a ≤ b then (b, base) else (a, base + 64)
  | [some a, none] => (a, base + 64)
  | [none, some b] => (b, base)
  | _ => (0, base)

/-- Side that is current for step n (R313). (DEDUCED, log entry 68.) -/
def currentSide (s0 s1 n : Nat) : Nat := if s1 < n ∧ (n ≤ s0 ∨ s0 < s1) then 1 else 0

/-- b^t in binary64, from bit `k` - 1 down (R315). -/
def pow64 (b : FV) (t : Nat) : Nat → FV → FV
  | 0, p => p
  | k + 1, p =>
    let p := f64.rv .rne (p.mul p)
    let p := if bit t k then f64.rv .rne (p.mul b) else p
    pow64 b t k p

/-- k1 and k2 of R315 and R316. -/
def biasFix (fmt : FFmt) (beta : FV) (t : Nat) : FV :=
  fmt.rv .rne (f64.rv .rne (FV.div fvOne (f64.rv .rne (FV.sub false fvOne (pow64 beta t 64 fvOne)))))

/-- New w, m and v of an element (R315). -/
def updRule (fmt : FFmt) (b1 b2 eps lam eta k1 k2 : FV) (clip : Option FV) (g w m v : FV) : FV × FV × FV :=
  let r := fmt.rv .rne
  let g := match clip with
    | some c => r (g.mul c)
    | none => g
  let m := r (FV.add false (r (b1.mul m)) (r ((r (FV.sub false fvOne b1)).mul g)))
  let v := r (FV.add false (r (b2.mul v)) (r ((r (FV.sub false fvOne b2)).mul (r (g.mul g)))))
  let mh := r (m.mul k1)
  let vh := r (v.mul k2)
  let u := r (FV.div mh (r (FV.add false (r vh.sqrt) eps)))
  let w := r (FV.sub false w (r (eta.mul (r (FV.add false u (r (lam.mul w)))))))
  (w, m, v)

/-- The offset in the 16 x 16 grid of watched columns (col_off of R248). -/
def colOff (n d : Nat) : Nat :=
  let z : BitVec 64 := BitVec.ofNat 64 n ^^^ (BitVec.ofNat 64 (d % 2 ^ 24) <<< 40)
  let z := (z ^^^ (z >>> 32)) * 0xD1B54A32D192ED03#64
  let z := (z ^^^ (z >>> 29)) * 0xAEF17502108EF2D9#64
  let z := z ^^^ (z >>> 32)
  (z >>> 60).toNat

/-- Segments of the reduced gradient: from the staging copy, or from escrow with code 0x5001 (R327); none when escrow
cannot be read either. -/
def State.gatherGrad (s : State) (bad : List Nat) (chip : Nat) (o : LOrder) (ext : Nat × Nat) :
    Nat → List Byte → State × Option (List Byte)
  | 0, acc => (s, some acc)
  | k + 1, acc =>
    let i := segCount ext.2 - (k + 1)
    let n := min segBytes (ext.2 - segBytes * i)
    let crc := s.shareRead bad chip (o.buffer + 64 + 4 * i) 4
    let st := s.accRead bad o.account (o.staging + segBytes * i) n
    let s := s.takeUnc o.account (crc.fresh ++ st.fresh)
    if crc.status = 0 ∧ st.status = 0 ∧ (crc32c st.bytes).toNat = leNat crc.bytes then
      s.gatherGrad bad chip o ext k (acc ++ st.bytes)
    else
      let e := s.shareRead bad chip (o.buffer + ext.1 + segBytes * i) n
      let s := s.takeUnc o.account e.fresh
      if crc.status ≠ 0 ∨ e.status ≠ 0 then (s, none)
      else
        let s := (s.inc F.LMF_MISMATCH_COUNT 1 chip).note 0x5001 o.account chip i
        s.gatherGrad bad chip o ext k (acc ++ e.bytes)

/-- Elements of one row as they come out of the update: new values, and which were written poisoned. -/
structure NewRow where
  row : Nat
  w : List FV
  m : List FV
  v : List FV
  pois : List Bool
  deriving DecidableEq, Repr

/-- Update one row of a tensor from its current side. -/
def State.updRow (s : State) (bad : List Nat) (chip : Nat) (t : Tensor) (eta : FV) (clip : Option FV) (cur tNew row : Nat)
    (gs : List FV) : NewRow × List Nat :=
  let at_ := fun k => t.stateOff + cur * t.side + (k * t.elems + row * t.cols) * t.w
  let rs := (List.range 3).map (fun k => s.shareRead bad chip (at_ k) (t.cols * t.w))
  let val := fun k c => t.fmt.decode (field (rs.getD k ⟨[], [], none, false, []⟩).bytes (c * t.w) t.w)
  let bad1 := fun c => rs.any (fun r => (List.range t.w).any (fun i => r.pois.getD (c * t.w + i) false))
  let b1 := f32.decode t.beta1
  let b2 := f32.decode t.beta2
  let lam := if t.decay then f32.decode t.lambda else fvZero false
  let k1 := biasFix t.fmt b1 tNew
  let k2 := biasFix t.fmt b2 tNew
  let out := gs.zipIdx.map (fun p => updRule t.fmt b1 b2 (f32.decode t.eps) lam eta k1 k2 clip p.1
    (val 0 p.2) (val 1 p.2) (val 2 p.2))
  let ps := (List.range gs.length).map bad1
  (⟨row, out.map (·.1), out.map (·.2.1), out.map (·.2.2), ps⟩, rs.flatMap (·.fresh))

/-- Write one row to the other side: poisoned elements are written poisoned (R334). -/
def State.putRow (s : State) (chip : Nat) (t : Tensor) (side : Nat) (r : NewRow) : State :=
  [r.w, r.m, r.v].zipIdx.foldl (fun s p =>
    let off := t.stateOff + side * t.side + (p.2 * t.elems + r.row * t.cols) * t.w
    let s := s.shareWrite chip off (p.1.flatMap (fun x => natLe t.w (t.fmt.ieee .rne x)))
    let ws := (r.pois.zipIdx.filter (·.1)).flatMap (fun q => wordsOf (vaultBase + chip * 2 ^ 40 + off + q.2 * t.w) t.w)
    if s.shareUp chip then s.poisonDev ws else s) s

/-- Counters of a side: the tensor's own, or a SPARSE tensor's row record (R312, R313). -/
def State.sideRec (s : State) (chip : Nat) (o : LOrder) (t : Tensor) (row : Nat) : Nat × (Nat × Nat × Nat × Nat) :=
  if t.sparse then
    let off := t.stateOff + 2 * t.side + 32 * row
    let b := (s.shareRead [] chip off 32).bytes
    (off, field b 0 8, field b 8 8, field b 16 8, field b 24 8)
  else (o.listOff + 192 * t.idx + 128, t.s0Step, t.s0T, t.s1Step, t.s1T)

/-- The update of one tensor: the new rows, whether a value became NaN or infinite, what is written (R315 to R318). (DEDUCED, log entry 68.) -/
def State.updTensor (s : State) (bad : List Nat) (chip : Nat) (o : LOrder) (t : Tensor) (clip : Option FV)
    (grads : List (Nat × List FV)) : State × List NewRow :=
  let eta := f32.decode o.eta
  let nonfin := fun (v : FV) => v.isNan || v.isInf
  let put := fun (s : State) (recRow : Nat) (gs : List (Nat × List FV)) =>
    let sr := s.sideRec chip o t recRow
    let cur := currentSide sr.2.1 sr.2.2.2.1 o.step
    let tNew := ((if cur = 1 then sr.2.2.2.2 else sr.2.2.1) + 1) % 2 ^ 64
    let outs := gs.map (fun g => s.updRow bad chip t eta clip cur tNew g.1 g.2)
    let s := s.takeUnc o.account (outs.flatMap (·.2))
    let s := outs.foldl (fun s r => s.putRow chip t (1 - cur) r.1) s
    let s := s.shareWrite chip (sr.1 + 16 * (1 - cur)) (natLe 8 o.step ++ natLe 8 tNew)
    (s, outs.map (·.1))
  let r := if t.sparse then
      grads.foldl (fun (a : State × List NewRow) g =>
        let x := put a.1 g.1 [g]
        (x.1, a.2 ++ x.2)) (s, [])
    else put s 0 grads
  let bad1 := r.2.any (fun n => ((n.w ++ n.m ++ n.v).zip (n.pois ++ n.pois ++ n.pois)).any (fun p => nonfin p.1 && !p.2))
  let s := if bad1 then r.1.note 0x5006 o.account chip t.idx else r.1
  (s.inc F.LMF_PROGRESS_ELEMENTS ((r.2.map (fun n => n.w.length)).sum) chip, r.2)

/-! ### Copies (R319, R320) -/

/-- The rung that governs a tensor's copies: the layer's after the close; a layer without a valid record stands on 0. -/
def State.rungOf (s : State) (acct layer : Nat) : Nat :=
  if s.fallback acct then 3
  else match s.acct acct with
    | none => 0
    | some a =>
      let r := s.recRead [] acct (a.layerVa + 16 * layer) 16
      if layer < a.layerCount ∧ r.ok ∧ layerValid r.bytes then field r.bytes 2 1 % 4 else 0

/-- S of a ledger record; one that is not valid holds 0. -/
def State.scaleOf (s : State) (acct id : Nat) : Int :=
  match s.acct acct with
  | none => 0
  | some a =>
    let r := s.recRead [] acct (a.ledgerVa + 128 * id) 128
    if id < a.ledgerCount ∧ r.ok ∧ ledgerValid r.bytes then toSigned 16 (field r.bytes 72 2) else 0

/-- Status of a write of an order to account memory; an address that does not translate makes the order malformed. -/
def State.copyWrite (s : State) (chip : Nat) (o : LOrder) (off va : Nat) (b : List Byte) (pois : List Nat) :
    State × Nat :=
  let st := s.accWriteStatus o.account va b.length
  if st = 0x04 then (s.note 0x5007 o.account chip off, 0x04)
  else
    let s := s.accWrite o.account va b
    (pois.foldl (fun s i => s.accPoison o.account (va + i) 1) s, st)

/-- The current w of some rows after the update with which elements are poisoned, the others none, and the words found
uncorrectable. -/
def State.someRows (s : State) (bad : List Nat) (chip : Nat) (o : LOrder) (t : Tensor) (step : Nat) (rows : List Nat) :
    List (Option (List (FV × Bool))) × List Nat :=
  let l := (List.range t.rows).map (fun r =>
    if !rows.contains r then (none, [])
    else
      let sr := s.sideRec chip o t r
      let cur := currentSide sr.2.1 sr.2.2.2.1 step
      let x := s.shareRead bad chip (t.stateOff + cur * t.side + r * t.cols * t.w) (t.cols * t.w)
      (some ((List.range t.cols).map (fun c => (t.fmt.decode (field x.bytes (c * t.w) t.w),
        (List.range t.w).any (fun i => x.pois.getD (c * t.w + i) false)))), x.fresh))
  (l.map (·.1), l.flatMap (·.2))

/-- An element of a copy: its index in the whole tensor, its value and whether it is poisoned; none in a row that is not
copied. -/
abbrev CopyElem := Nat × Option (FV × Bool)

/-- Lines of a copy: along K (columns of the shard) for the copy, along N (its rows) for the twin (R304). -/
def copyLines (t : Tensor) (twin : Bool) (m : List (Option (List (FV × Bool)))) : List (List CopyElem) :=
  let g := fun r c => (t.elemBase + r * t.rowStride + c, (m.getD r none).map (fun l => l.getD c (.nan, false)))
  if twin then (List.range t.rows).map (fun r => (List.range t.cols).map (g r))
  else (List.range t.cols).map (fun c => (List.range t.rows).map (fun r => g r c))

/-- The group of elements a position of a line is encoded with: its block, or its byte. -/
def Fmt.group (f : Fmt) (i : Nat) : Nat := if f.isBlock then i / f.block else if f.bits = 4 then i / 2 else i

/-- Bytes of a line that belong to a group. -/
def Fmt.groupBytes (f : Fmt) (n k : Nat) : List Nat :=
  let size := if f.isBlock then f.block else if f.bits = 4 then 2 else 1
  (List.range size).flatMap (fun i => f.elemBytes n (k * size + i))

/-- Which groups of a line hold an element that is copied; which hold one that is not. -/
def Fmt.mixed (f : Fmt) (l : List CopyElem) : List Nat × List Nat :=
  ((l.zipIdx.filter (fun p => p.1.2.isSome)).map (fun p => f.group p.2),
   (l.zipIdx.filter (fun p => p.1.2.isNone)).map (fun p => f.group p.2))

/-- One line of a copy as bytes: those to write, in runs from an offset, those that lie in poisoned words, whether an element
saturated. A group of which only a part is copied (a SPARSE tensor along its rows) has no stated encoding: its bytes are
`free`. (DESIGN CHOICE, log entry 95.) -/
structure CopyLine where
  bytes : List (Option Byte)
  pois : List Nat
  sat : Bool
  deriving DecidableEq, Repr

def encodeLine (fmt : Fmt) (S : Int) (managed : Bool) (rnd seed id : Nat) (free : Nat → Byte) (l : List CopyElem) : CopyLine :=
  let g := if fmt == .groat then pow2 (-S) else fvOne
  let val := fun (e : CopyElem) => match e.2 with
    | some (v, false) => if managed then v.mul (pow2 S) else v
    | _ => fvZero false
  let rm := fun i => rmOf rnd false fmt.narrow (stoDraw (BitVec.ofNat 64 seed) (BitVec.ofNat 24 id) ((l.getD i (0, none)).1))
  let e := fmt.encRow false g rm (l.map val)
  let kind := fmt.mixed l
  let skip := (kind.2.filter (fun k => !kind.1.contains k)).eraseDups.flatMap (fmt.groupBytes l.length)
  let part := (kind.2.filter (fun k => kind.1.contains k)).eraseDups.flatMap (fmt.groupBytes l.length)
  { bytes := e.1.zipIdx.map (fun p => if skip.contains p.2 then none else if part.contains p.2 then some (free p.2) else some p.1)
    pois := (l.zipIdx.filter (fun p => match p.1.2 with | some (_, b) => b | none => false)).flatMap
      (fun p => fmt.spanBytes l.length p.2)
    sat := (l.zip e.2).any (fun p => (match p.1.2 with | some (_, b) => !b | none => false) && p.2 == .sat) }

/-- Runs of bytes to write, each with its offset. -/
def byteRuns : Nat → List (Option Byte) → List (Nat × List Byte)
  | _, [] => []
  | i, none :: t => byteRuns (i + 1) t
  | i, some b :: t =>
    match byteRuns (i + 1) t with
    | (j, bs) :: r => if j = i + 1 then (i, b :: bs) :: r else (i, [b]) :: (j, bs) :: r
    | [] => [(i, [b])]

/-- Largest finite magnitude, rounded toward +infinity to binary32 (R240). -/
def amaxOf (vs : List FV) : Nat :=
  f32.ieee .rup (maxMag (vs.filter (fun v => !v.isNan && !v.isInf)))

/-- The format of a tensor's copies: of COPY_FMT for the rung of its layer after the close. -/
def State.copyCode (s : State) (o : LOrder) (t : Tensor) : Nat × Nat :=
  let rung := s.rungOf o.account t.layer
  (rung, bits t.copyFmt (4 * rung + 3) (4 * rung))

/-- The first tensor of a list whose Groat copy would take a global scale 2^-S that breaks R106. -/
def State.badScale (s : State) (o : LOrder) (ts : List Tensor) : Option Tensor :=
  ts.find? (fun t => (t.copy || t.twin) && (s.copyCode o t).2 == 0xE &&
    (decide (126 < s.scaleOf o.account t.copyId) || decide (s.scaleOf o.account t.copyId < -127)))

/-- Write one copy, line after line: statuses, and whether an element saturated. -/
def State.writeLines (s : State) (chip : Nat) (o : LOrder) (off va : Nat) (ls : List CopyLine) : State × List Nat :=
  (ls.foldl (fun (a : (State × List Nat) × Nat) l =>
    let runs := byteRuns 0 l.bytes
    let r := runs.foldl (fun (a : State × List Nat) p =>
      let x := a.1.copyWrite chip o off (va + p.1) p.2 ((l.pois.filter (fun i => decide (p.1 ≤ i ∧ i < p.1 + p.2.length))).map (· - p.1))
      (x.1, a.2 ++ [x.2])) a.1
    (r, a.2 + l.bytes.length)) ((s, []), 0)).1

/-- Narrow copy and twin of the updated rows of a tensor: statuses, and the posts of R320. (DEDUCED, log entry 68.) -/
def State.writeCopies (s : State) (bad : List Nat) (chip : Nat) (o : LOrder) (t : Tensor) (rows : List Nat) :
    State × List Nat × List (Nat × W64) :=
  if !t.copy && !t.twin then (s, [], [])
  else
    let rung := (s.copyCode o t).1
    let code := (s.copyCode o t).2
    let S := s.scaleOf o.account t.copyId
    let managed := [0x3, 0x4, 0x5, 0xC, 0xD].contains code
    let m := s.someRows bad chip o t (o.step + 1) rows
    let s := s.takeUnc o.account m.2
    let good := (m.1.filterMap id).flatMap (fun r => r.filterMap (fun p => if p.2 then none else some p.1))
    let one := fun (a : State × List Nat × List (Nat × W64)) (twin : Bool) (off va id : Nat) =>
      let ls := (copyLines t twin m.1).zipIdx.map (fun l => encodeLine (fmtOf code) S managed (if rung = 3 then 1 else 0) o.seed id
        (fun i => BitVec.ofNat 8 (Config.freeValue (a.1.free + l.2 * 2 ^ 34 + i)).toNat) l.1)
      let x := (a.1.takeFrees (ls.length * 2 ^ 34)).writeLines chip o (192 * t.idx + off) va ls
      (x.1, a.2.1 ++ x.2, a.2.2 ++ [(t.copyId, BitVec.ofNat 64 (amaxOf good + b2n (ls.any (·.sat)) * 2 ^ 32))])
    let a := (s, [], [])
    let a := if t.copy then one a false 80 t.copyVa t.copyId else a
    if t.twin then one a true 88 t.twinVa t.twinId else a

/-- The watch copy of some rows: bfloat16 w at the columns and rows that the selections of NEXT_STEP watch (R319); statuses,
and whether a poisoned element was read. (DEDUCED, log entry 68.) -/
def State.writeWatch (s : State) (bad : List Nat) (chip : Nat) (o : LOrder) (t : Tensor) (step : Nat) (rows : List Nat) :
    State × List Nat × Bool :=
  if !t.watch then (s, [], false)
  else
    let m := s.someRows bad chip o t step rows
    let s := s.takeUnc o.account m.2
    let o0 := colOff o.nextStep t.watchD0
    let o1 := colOff o.nextStep t.watchD1
    let r := m.1.zipIdx.foldl (fun (a : State × List Nat) row => ((row.1.getD []).zipIdx).foldl (fun (a : State × List Nat) e =>
      let ix := t.elemBase + row.2 * t.rowStride + e.2
      let gr := if t.rowStride = 0 then row.2 else ix / t.rowStride
      let gc := if t.rowStride = 0 then e.2 else ix % t.rowStride
      if gc / 32 % 16 = o0 ∨ gr / 32 % 16 = o1 then
        let b := natLe 2 (bf16.conv false .rne (if e.1.2 then fvZero false else e.1.1)).1
        let x := a.1.copyWrite chip o (192 * t.idx + 96) (t.watchVa + 2 * (row.2 * t.cols + e.2)) b (if e.1.2 then [0, 1] else [])
        (x.1, a.2 ++ [x.2])
      else a) a) (s, [])
    (r.1, r.2, (m.1.filterMap id).any (fun l => l.any (·.2)))

/-- The update applies: every tensor's other side, then its copies. -/
def State.applyUpdate (s : State) (bad : List Nat) (chip : Nat) (o : LOrder) (ts : List Tensor) (data : List Byte) (lo : Nat)
    (clip : Option FV) : State :=
  let r := ts.foldl (fun (a : State × List Nat × List (Nat × W64)) t =>
    let gs := gradsOf t data lo
    let u := a.1.updTensor bad chip o t clip gs
    let st := if u.2.any (fun n => n.pois.any id) then [0x20] else []
    let t' := ((u.1.tensors [] chip o).1.zipIdx.find? (fun p => p.2 == t.idx)).map (fun p => tensorOf p.2 p.1)
    let c := u.1.writeCopies bad chip o (t'.getD t) (gs.map (·.1))
    let w := c.1.writeWatch bad chip o (t'.getD t) (o.step + 1) (gs.map (·.1))
    (w.1, a.2.1 ++ st ++ c.2.1 ++ w.2.1, a.2.2 ++ c.2.2)) (s, [], [])
  r.1.setFront chip { o with running := true, status := some (firstStatus r.2.1), copies := r.2.2, sumsq := 1 }

/-- Where an UPDATE stands (R334): a status, or the buffer of step n at STATE 3, or it waits. -/
inductive UpdCase where
  | stop (status : Nat)
  | go (buffer : Nat)
  | wait
  deriving DecidableEq, Repr

/-- (DEDUCED, log entry 68.) -/
def State.updCase (s : State) (chip : Nat) (o : LOrder) : UpdCase :=
  match s.acct o.account with
  | none => .stop 0x05
  | some a =>
    if o.step ≤ (s.posted chip (a.postedOff.getD chip 0)).1 then .stop 0x05
    else match (a.buffers chip).find? (fun off => hdrState (s.hdr chip off) != 0 && hdrStep (s.hdr chip off) == o.step) with
      | none => .stop 0x05
      | some off =>
        match hdrState (s.hdr chip off) with
        | 3 => .go off
        | 1 | 2 => .wait
        | _ => .stop 0x05

/-- Code 0x2101 of an UPDATE that does not start for a copy's global scale (R107): it runs in no core, so parameter 2 is free.
(DESIGN CHOICE, log entry 95.) -/
def State.scaleRecord (s : State) (o : LOrder) (t : Tensor) : State :=
  (s.note 0x2101 t.copyId (f32.ieee .rne (pow2 (-(s.scaleOf o.account t.copyId)))) (s.freeNat 32)).takeFree

/-- (DEDUCED, log entry 68.) -/
def State.runUpdate (s : State) (chip : Nat) (bad : List Nat) (o : LOrder) (ts : List Tensor) : State :=
  match s.updCase chip o with
  | .stop st => s.lomefStop chip o st
  | .wait => s
  | .go off =>
    let o := { o with buffer := off }
    let c := field (s.hdr chip off) 24 4
    let ext := escExtent ts
    match escBad off ts, s.badScale o ts with
    | some bad, _ => s.lomefBad chip o bad
    | none, some t => (s.scaleRecord o t).lomefStop chip o 0x04
    | none, none =>
    match s.gatherGrad bad chip o ext (segCount ext.2) [] with
    | (s, none) => (s.note 0x5002 o.account chip (o.step % 2 ^ 32)).lomefStop chip o 0x20
    | (s, some data) =>
      s.applyUpdate bad chip o ts data ext.1 (if f32.decode c = fvOne then none else some (f32.decode c))

def execUpdate (chip : Fin 8) (dev : DevEvents) (s : State) : Res :=
  .next (s.working fun s => s.lomefStart chip (· == 2) dev (fun o ts s => s.runUpdate chip dev.bad o ts))

/-- The update ends: amax posts, READY_VA, the posted record, the escrow applied (R320, R333). An order that applied
nothing delivers its status. (DEDUCED, log entry 73.) -/
def execUpdateComplete (chip : Fin 8) (s : State) : Res :=
  .next (s.working fun s =>
    match s.front chip with
    | none => s
    | some o =>
      if !o.running || o.kind ≠ 2 || !s.shareServed chip then s
      else
        let st := o.status.getD 0
        if o.sumsq = 0 then s.lomefDone chip st
        else if !s.shareUp chip then s.lomefDone chip 0x21
        else
          let posts := o.copies.map (fun p => (⟨p.1 % 4, o.account, false, p.1, p.2, none⟩ : Post))
          let s := { s with train := { s.train with posts := s.train.posts ++ posts } }
          let ts := (s.tensors [] chip o).1.zipIdx.map (fun p => tensorOf p.2 p.1)
          let r := ts.foldl (fun (a : State × List Nat) t =>
            let x := a.1.copyWrite chip o (192 * t.idx + 104) t.readyVa (natLe 8 o.step) []
            (x.1, a.2 ++ [x.2])) (s, [st])
          let base := ((s.acct o.account).map (fun a => a.postedOff.getD chip 0)).getD 0
          let slot := (r.1.posted chip base).2
          let s := r.1.shareWrite chip slot (sealHdr (natLe 8 o.step ++ List.replicate 52 0#8))
          (s.setHdrState chip o.buffer 5).lomefDone chip (firstStatus r.2))

/-- WATCH_REFRESH (R321): the watch copies of every tensor, from the side current for NEXT_STEP. (DEDUCED, log entry 68.) -/
def execWatchRefresh (chip : Fin 8) (dev : DevEvents) (s : State) : Res :=
  .next (s.working fun s =>
    if !s.shareServed chip then s
    else
      let s := s.lomefStart chip (· == 3) dev (fun o ts s =>
        let r := ts.foldl (fun (a : State × List Nat) t =>
          let x := a.1.writeWatch dev.bad chip o t o.nextStep (List.range t.rows)
          let st := if x.2.2 then [0x20] else []
          (x.1, a.2 ++ st ++ x.2.1)) (s, [])
        (r.1.st F.LMF_PROGRESS_ELEMENTS ((ts.map Tensor.elems).sum) chip).lomefStop chip o (firstStatus r.2))
      match s.front chip with
      | some o => if o.kind = 3 ∧ o.running then s.lomefDone chip (o.status.getD 0) else s
      | none => s)

end Sys2Proof.Machine
end

