-- ==== Sys2Proof/Machine/Memory.lean ====
section
/-! DEFINITION. The memory system's own work (R269, R279, R285 to R298): refresh, retraining, scrubs, steering tables, the
run table, the PCIe links of the Lomef chips. -/

namespace Sys2Proof.Machine

/-! ### Processors as the memory system sees them -/

/-- A processor of which nothing is known yet. (DESIGN CHOICE, log entry 9.) -/
def procDef : Proc := ⟨none, none, [], none, none, 0⟩

def State.proc (s : State) (p : Nat) : Proc := mget procDef s.procs p

def State.setProc (s : State) (p : Nat) (v : Proc) : State := { s with procs := mset procDef s.procs p v }

/-! ### Refresh (R285, R286) -/

/-- The row of the table of R285 for a temperature. -/
def refreshRow (t : Nat) : Nat := if t ≤ 85 then 0 else if t ≤ 95 then 1 else if t ≤ 105 then 2 else 3

/-- Threshold above which a row holds. -/
def rowLimit (r : Nat) : Nat := match r with | 0 => 0 | 1 => 85 | 2 => 95 | _ => 105

/-- Multiplier code of a device: 0 for 1x, 1 for 2x, 2 for 4x. -/
def State.multOf (s : State) (d g v : Nat) : Nat := bits (s.rd F.MEM_REFRESH_MULT d g) (2 * v + 1) (2 * v)

def State.cappedOf (s : State) (d g v : Nat) : Bool := bit (s.rd F.MEM_REFRESH_CAPPED d g) v

def State.setMult (s : State) (d g v m : Nat) : State :=
  let w := s.rd F.MEM_REFRESH_MULT d g
  s.st F.MEM_REFRESH_MULT (w - bits w (2 * v + 1) (2 * v) * 4 ^ v + m * 4 ^ v) d g

def State.setCapped (s : State) (d g v : Nat) (on : Bool) : State :=
  if on then s.setBit F.MEM_REFRESH_CAPPED v d g else s.clearBit F.MEM_REFRESH_CAPPED v d g

/-- Update the times since which readings have stayed 2 °C below each row's threshold. (DEDUCED, log entry 71.) -/
def State.coolTimes (s : State) (dev t : Nat) : State :=
  [1, 2, 3].foldl (fun s r =>
    let k := dev * 4 + r
    let v := if t + 2 ≤ rowLimit r then (if mget 0 s.ms.coolSince k = 0 then s.clk.now + 1 else mget 0 s.ms.coolSince k)
      else 0
    { s with ms := { s.ms with coolSince := mset 0 s.ms.coolSince k v } }) s

/-- The row a device moves to: up at once, down one row after 100 ms below its threshold. -/
def State.nextRow (s : State) (dev cur t : Nat) : Nat :=
  if cur < refreshRow t then refreshRow t
  else if cur = 0 then 0
  else match mget 0 s.ms.coolSince (dev * 4 + cur) with
    | 0 => cur
    | k + 1 => if s.after k (msec 100) then cur - 1 else cur

/-- A reading of a device's temperature. A channel that has had no reading yet was trained at this one. (DEDUCED, log entry 71.) -/
def State.readTemp (s : State) (dev t : Nat) : State :=
  let d := dev / 32
  let g := dev % 32 / 4
  let v := dev % 4
  let s := s.st (tempField v) t d g
  let s := (List.range 4).foldl (fun s k =>
    let c := g * 16 + v * 4 + k
    if s.rd F.MEM_CH_STATE_TRAIN_TEMP d c = 0 then s.st F.MEM_CH_STATE_TRAIN_TEMP t d c else s) s
  let s := s.coolTimes dev t
  if !s.fwRuns 4 || s.flag F.MEM_STATUS_STEWARD_ABSENT d then s
  else
    let m0 := s.multOf d g v
    let cur := if s.cappedOf d g v then 3 else m0
    let row := s.nextRow dev cur t
    let m := max (min row 2) (s.rd F.MEM_CTRL_REF_FLOOR d)
    let s := (s.setMult d g v m).setCapped d g v (row == 3)
    let s := if m ≠ m0 then s.note 0x3007 dev (2 ^ m) t else s
    if row = 3 ∧ cur ≠ 3 then s.note 0x3008 dev t else s

def execTemperatureRead (device : Fin 128) (t : BitVec 8) (s : State) : Res :=
  .next (if !s.up || !s.groupPresent (device / 32) (device % 32 / 4) then s else s.readTemp device t.toNat)

/-- 4x on every device, with code 0x3009. -/
def State.refreshAbsent (s : State) : State :=
  let s := (List.range 4).foldl (fun s d =>
    let s := s.st F.MEM_STATUS_STEWARD_ABSENT 1 d
    (List.range 8).foldl (fun s g => s.st F.MEM_REFRESH_MULT 0xAA d g) s) s
  s.note 0x3009

/-- The memory steward's heartbeat has lapsed for more than 100 ms (R286). -/
def execMemoryStewardAbsent (s : State) : Res :=
  .next (if !s.up || s.fwRuns 4 || s.flag F.MEM_STATUS_STEWARD_ABSENT then s
    else match (s.proc 4).downSince with
      | some t => if s.after t (msec 100) then s.refreshAbsent else s
      | none => s)

/-! ### In-service retraining (R292) -/

/-- A channel whose device has moved 5 °C, or whose retraining has begun. -/
def State.retrainDue (s : State) (ch : Nat) : Bool :=
  let t := s.chanTemp ch
  let u := s.rd F.MEM_CH_STATE_TRAIN_TEMP (ch / 128) (ch % 128)
  s.chanActive ch && !s.chanFenced ch && s.flag F.MEM_CTRL_RETRAIN_EN (ch / 128) &&
    (decide (u + 5 ≤ t) || decide (t + 5 ≤ u) || mget 0 s.ms.slices ch != 0)

/-- One slice; after at most six the channel is trained at its device's temperature. How many it takes is free. (DEDUCED, log entry 71.) -/
def execRetrainingSlice (chan : Fin 512) (s : State) : Res :=
  .next (s.working fun s =>
    let paced := match s.ms.lastSlice with
      | some t => s.after t (msec 1)
      | none => true
    if !s.fwRuns 4 || !paced || !s.retrainDue chan || (List.range chan).any s.retrainDue then s
    else
      let n := mget 0 s.ms.slices chan + 1
      let last := n = 6 ∨ s.freeNat 1 = 1
      let s := { s with ms := { s.ms with lastSlice := some s.clk.now, slices := mset 0 s.ms.slices chan n } }.takeFree
      if last then s.trained chan else s)

/-! ### Scrubs (R290, R294) -/

/-- The slot counter of a die moves on once its highest channel has been read. (DEDUCED, log entry 71.) -/
def State.scrubMove (s : State) (ch : Nat) : State :=
  let d := ch / 128
  let rest := (List.range 128).any (fun c => decide (ch % 128 < c) && s.groupPresent d (c / 16) && !s.groupFenced d (c / 16))
  if rest then s
  else if s.rd F.MEM_SCRUB_POS_SLOT d + 1 = 2 ^ 24 then
    (s.st F.MEM_SCRUB_POS_SLOT 0 d).inc F.MEM_SCRUB_POS_PASSES 1 d
  else s.st F.MEM_SCRUB_POS_SLOT (s.rd F.MEM_SCRUB_POS_SLOT d + 1) d

/-- (DEDUCED, log entry 71.) -/
def execPatrolScrub (chan : Fin 512) (sev : Sev) (s : State) : Res :=
  let d := chan.val / 128
  let c := chan.val % 128
  .next (if !s.up || !s.chanActive chan || s.chanFenced chan || !s.flag F.MEM_CTRL_SCRUB_EN d then s
    else
      let slot := s.rd F.MEM_SCRUB_POS_SLOT d
      let s := match sev with
        | .none => s
        | .corrected => ((s.inc F.MEM_ERR_CE_COUNT 1 d).st F.MEM_LAST_ERR_CHANNEL c d).st F.MEM_LAST_ERR_KIND 1 d
        | .uncorrectable =>
          let s := ((s.inc F.MEM_ERR_UE_COUNT 1 d).st F.MEM_LAST_ERR_CHANNEL c d).st F.MEM_LAST_ERR_KIND 7 d
          ((s.poisonDev (wordsOf (chanKey chan slot 0) 256)).note 0x3010 chan slot).groupUnc chan
      s.scrubMove chan)

def execVaultScrub (chip : Fin 8) (sev : Sev) (s : State) : Res :=
  .next (if !s.up || !s.shareUp chip || !s.fwRuns (9 + chip) || !s.flag F.LMF_CTRL_SCRUB_EN chip ||
      s.rd F.PCI_PORT_STATE 0 chip == 3 then s
    else
      let off := mget 0 s.ms.vaultScrub chip * 256
      let s := match sev with
        | .none => s
        | .corrected => s.inc F.LMF_VAULT_CE_COUNT 1 chip
        | .uncorrectable =>
          ((s.inc F.LMF_VAULT_UE_COUNT 1 chip).poisonDev (wordsOf (vaultBase + chip * 2 ^ 40 + off) 256)).note 0x3010
            (1024 + chip) (off % 2 ^ 32)
      { s with ms := { s.ms with vaultScrub := mset 0 s.ms.vaultScrub chip ((off / 256 + 1) % 2 ^ 32) } })

/-! ### Steering tables (R269) -/

/-- A table meets the even fill: each logical number q or q + 1 times. -/
def tableEven (filled : Bool) (tbl : SMap Nat) (base n : Nat) : Bool :=
  decide (n ≠ 0) &&
    (let es := (List.range 8192).map (tblEntry filled tbl base n)
     (List.range n).all (fun l => decide ((es.filter (· == l)).length = 8192 / n + (if l < 8192 % n then 1 else 0))))

def State.steerOk (s : State) : Bool := s.ms.filled && s.ms.steer.isEmpty || tableEven s.ms.filled s.ms.steer 0 s.nChan

def State.localOk (s : State) (d : Nat) : Bool :=
  s.ms.filled && s.ms.localTbl.isEmpty || tableEven s.ms.filled s.ms.localTbl (d * 8192) (s.nLocal d)

/-- STR_CTRL.ARMED is written 1: with a bad table it stays 0, code 0x3030 with reason 0. -/
def State.armWrite (s : State) (d v : Nat) : State :=
  if v % 2 = 0 || s.flag F.STR_CTRL_ARMED d then s
  else if s.steerOk && s.localOk d then
    ((s.st F.STR_CTRL_ARMED 1 d).st F.STR_SIZE_BYTES s.steeredSize d).st F.STR_DUMP_BASE_ADDR s.dumpBase d
  else s.note 0x3030 0 0 0

/-- INDEX advances after an access to STR_TBL_DATA. -/
def State.tblAdvance (s : State) (d : Nat) : State :=
  if s.flag F.STR_TBL_INDEX_AUTOINC d then
    s.st F.STR_TBL_INDEX_INDEX ((s.rd F.STR_TBL_INDEX_INDEX d + 1) % 8192) d
  else s

/-- The selected entry. -/
def State.tblValue (s : State) (d : Nat) : Nat :=
  let i := s.rd F.STR_TBL_INDEX_INDEX d
  if s.flag F.STR_TBL_INDEX_SEL d then tblEntry s.ms.filled s.ms.localTbl (d * 8192) (s.nLocal d) i
  else tblEntry s.ms.filled s.ms.steer 0 s.nChan i

def State.tblRead (s : State) (q : Requester) (d : Nat) : State :=
  (s.answer q (BitVec.ofNat 64 (s.tblValue d))).tblAdvance d

def State.tblWrite (s : State) (d v : Nat) : State :=
  let i := s.rd F.STR_TBL_INDEX_INDEX d
  let s := if s.flag F.STR_CTRL_ARMED d then s
    else if s.flag F.STR_TBL_INDEX_SEL d then
      { s with ms := { s.ms with localTbl := mset 0 s.ms.localTbl (d * 8192 + i) (min (v % 512) (s.nLocal d - 1) + 1) } }
    else { s with ms := { s.ms with steer := mset 0 s.ms.steer i (min (v % 512) (s.nChan - 1) + 1) } }
  s.tblAdvance d

/-! ### The run table (R278, R279) -/

/-- The run that the data registers of a die spell. -/
def State.runRegs (s : State) (d : Nat) : Run :=
  ⟨s.rd F.STR_RUN_DATA0_VPAGE d, s.rd F.STR_RUN_DATA1_PPAGE d, s.rd F.STR_RUN_DATA2_COUNT d,
    s.rd F.STR_RUN_DATA3_ACCOUNT d, s.flag F.STR_RUN_DATA3_VALID d, s.flag F.STR_RUN_DATA3_WRITE d,
    s.flag F.STR_RUN_DATA3_RT d, s.rd F.STR_RUN_DATA3_RT_DIE d⟩

/-- Load the data registers of a die from a run. (DEDUCED, log entry 72.) -/
def State.loadRun (s : State) (d : Nat) (r : Run) : State :=
  let s := ((s.st F.STR_RUN_DATA0_VPAGE r.vpage d).st F.STR_RUN_DATA1_PPAGE r.ppage d).st F.STR_RUN_DATA2_COUNT r.count d
  let s := (s.st F.STR_RUN_DATA3_ACCOUNT r.account d).st F.STR_RUN_DATA3_VALID (b2n r.valid) d
  let s := (s.st F.STR_RUN_DATA3_WRITE (b2n r.write) d).st F.STR_RUN_DATA3_RT (b2n r.rt) d
  s.st F.STR_RUN_DATA3_RT_DIE r.rtDie d

def State.run (s : State) (i : Nat) : Run := mget runDef s.ms.runs i

/-- Pages lie in [lo, lo + n). -/
def inPages (r : Run) (lo n : Nat) : Bool := decide (lo ≤ r.ppage ∧ r.ppage + r.count ≤ lo + n)

/-- First page of a die's window and of a chip's share; pages of a range. -/
def windowPage (d : Nat) : Nat := (0x080000000000 + d * 2 ^ 36) / 2 ^ 21
def sharePage (c : Nat) : Nat := (0x100000000000 + c * 2 ^ 40) / 2 ^ 21

def State.inWindow (s : State) (r : Run) (d : Nat) : Bool := inPages r (windowPage d) (s.nLocal d * s.rtUnits)

def overlaps (a n b m : Nat) : Bool := decide (a < b + m ∧ b < a + n)

/-- The first reason of R279 that refuses a valid run at index `i`, or 0. -/
def State.runReason (s : State) (i : Nat) (r : Run) : Nat :=
  let steered := s.steeredSize / 2 ^ 21
  let chip := (List.range 8).find? (fun c => inPages r (sharePage c) (2 ^ 19))
  let win := (List.range 4).any (s.inWindow r)
  let others := (s.ms.runs.filter (fun p => p.1 != i && p.2.valid)).map (·.2)
  if r.count = 0 then 1
  else if !inPages r 0 steered && !win && chip.isNone then 2
  else if others.any (fun o => overlaps r.ppage r.count o.ppage o.count) then 3
  else if others.any (fun o => o.account == r.account && overlaps r.vpage r.count o.vpage o.count) then 4
  else if r.account ≠ 0 && overlaps r.ppage r.count (steered - 4096) 4096 && inPages r 0 steered then 5
  else if (r.rt && !s.inWindow r r.rtDie) || (!r.rt && win) then 6
  else match chip with
    | some c => if s.shareUp c then 0 else 7
    | none => 0

def State.setRun (s : State) (i : Nat) (r : Run) : State := { s with ms := { s.ms with runs := mset runDef s.ms.runs i r } }

/-- STR_RUN_CMD: the entry is written, refused, made invalid, or read back; the data registers then show the entry. (DEDUCED, log entry 72.) -/
def State.runCmd (s : State) (d cmd : Nat) : State :=
  let i := s.rd F.STR_RUN_INDEX_INDEX d
  match cmd with
  | 1 =>
    let r := s.runRegs d
    let why := if r.valid then s.runReason i r else 0
    let s := s.st F.STR_RUN_STATUS_REASON why d
    if why = 0 then s.setRun i r else (s.note 0x3030 r.account why r.vpage).loadRun d (s.run i)
  | 2 =>
    let r := { s.run i with valid := false }
    (s.setRun i r).loadRun d r
  | 3 => s.loadRun d (s.run i)
  | _ => s

/-! ### PCIe links (R297) -/

/-- Width at which a port came up at this start (R43). -/
def State.startWidth (s : State) (chip : Nat) : Nat := if s.boot.degraded.contains (5, 0, chip) then 8 else 16

/-- A Lomef chip and its share are lost in service: every access LINK_LOST, code 0x5101; its registers read zero but
LOST (R563). (DEDUCED, log entry 32.) -/
def State.loseShare (s : State) (chip width : Nat) : State :=
  if !s.shareUp chip then s
  else
    let s := (s.st F.PCI_PORT_STATE 4 0 chip).st F.PCI_PORT_WIDTH 0 0 chip
    let s := (s.setReg (regKey F.LMF_STATUS_LOST.key chip 0) 0).st F.LMF_STATUS_LOST 1 chip
    let s := (s.st F.LMF_STEP_STEP 0 chip).st F.LMF_PROGRESS_ELEMENTS 0 chip
    let s := ((s.st F.LMF_MISMATCH_COUNT 0 chip).st F.LMF_VAULT_CE_COUNT 0 chip).st F.LMF_VAULT_UE_COUNT 0 chip
    let s := (s.st F.LMF_LINK_WIDTH 0 chip).st F.LMF_LINK_RETRAINS 0 chip
    s.note 0x5101 chip width

def execPcieLinkDown (chip : Fin 8) (s : State) : Res :=
  .next (if s.up && s.rd F.PCI_PORT_STATE 0 chip == 2 then
      ((s.st F.PCI_PORT_STATE 3 0 chip).st F.PCI_PORT_WIDTH 0 0 chip).st F.LMF_LINK_WIDTH 0 chip
    else s)

/-- The retraining ends: at its start-up width within 100 ms traffic resumes, else the share is lost. (DEDUCED, log entry 73.) -/
def execPcieLinkRetrainEnd (chip : Fin 8) (width ms : Nat) (s : State) : Res :=
  .next (if !s.up || s.rd F.PCI_PORT_STATE 0 chip != 3 then s
    else
      let s := s.inc F.PCI_PORT_RETRAINS 1 0 chip
      if width = s.startWidth chip ∧ ms ≤ 100 then
        let s := (s.st F.PCI_PORT_STATE 2 0 chip).st F.PCI_PORT_WIDTH width 0 chip
        let s := (s.st F.LMF_LINK_WIDTH width chip).inc F.LMF_LINK_RETRAINS 1 chip
        s.note 0x5102 chip ms
      else s.loseShare chip (if ms ≤ 100 then width else 0))

end Sys2Proof.Machine
end

