-- ==== Sys2Proof/Machine/Fabric.lean ====
section
/-! DEFINITION. Fabric ports and the tally transport (R338 to R351): host frames, packets, paths, credits, acknowledgement and
resending, books. -/

namespace Sys2Proof.Machine

/-! ### Ports (R341, R342) -/

def State.portState (s : State) (p : Nat) : Nat := s.rd F.ETH_PORT_STATE 0 p

def State.portUp (s : State) (p : Nat) : Bool := s.portState p == 2

/-- Fence a port: out of the collective set, code 0x1103, a degrade entry. -/
def State.fencePort (s : State) (p cause : Nat) : State :=
  let s := (s.st F.ETH_PORT_STATE 4 0 p).st F.ETH_PORT_IN_SET 0 0 p
  (s.note 0x1103 p cause).degradeAdd 4 0 p 0x1103

/-- A link goes down: the fourth time within one hour, or with the fabric steward failed, its port is fenced. -/
def execFabricPortDown (port : Fin 16) (cause : BitVec 2) (s : State) : Res :=
  .next (if !s.up || !s.portUp port then s
    else
      let l := s.clk.now :: s.within (mget [] s.fab.downs port) (second 3600)
      let s := { s with fab := { s.fab with downs := mset [] s.fab.downs port l,
                                            downCause := mset 0 s.fab.downCause port cause.toNat } }
      let s := ((s.st F.ETH_PORT_STATE 3 0 port).st F.ETH_PORT_IN_SET 0 0 port).note 0x1101 port cause.toNat
      if 4 ≤ l.length then s.fencePort port 4
      else if s.fwState 5 == 5 then s.fencePort port cause.toNat
      else s)

def execFabricPortRetrainEnd (port : Fin 16) (returned : Bool) (ms : Nat) (s : State) : Res :=
  .next (if !s.up || s.portState port != 3 || !s.fwRuns 5 then s
    else
      let s := s.inc F.ETH_PORT_RETRAINS 1 0 port
      if returned && decide (ms ≤ 1000) then (s.st F.ETH_PORT_STATE 2 0 port).note 0x1102 port ms
      else s.fencePort port (mget 0 s.fab.downCause port))

/-- Ports that are up and not assigned to exchequer input join the collective set as a collective starts (R47, R341). -/
def State.rejoin (s : State) : State :=
  (List.range 16).foldl (fun s p =>
    if s.portUp p && !s.flag F.ETH_PORT_EXQ 0 p && !s.flag F.ETH_PORT_IN_SET 0 p then s.st F.ETH_PORT_IN_SET 1 0 p else s) s

/-- The local collective port set. -/
def State.portSet (s : State) : List Nat := (List.range 16).filter (fun p => s.flag F.ETH_PORT_IN_SET 0 p)

/-! ### Host frames (R339, R342, R343, R399) -/

/-- A big-endian number of a frame. -/
def beNat (b : List Byte) : Nat := b.foldl (fun v x => v * 256 + x.toNat) 0

/-- EtherType of a frame and where its payload starts, past one 802.1Q tag. -/
def etherType (f : List Byte) : Nat × Nat :=
  let t := beNat (slice f 12 2)
  if t = 0x8100 then (beNat (slice f 16 2), 18) else (t, 14)

/-- UDP destination port of a frame of UDP over IPv6. -/
def udpPort (f : List Byte) : Option Nat :=
  let e := etherType f
  if e.1 = 0x86DD ∧ (f.getD (e.2 + 6) 0).toNat = 17 then some (beNat (slice f (e.2 + 42) 2)) else none

/-- Where the payload of a measurement frame of its port starts: raw Ethernet in mode 1, UDP over IPv6 in mode 0 (R399). -/
def State.exqStart (s : State) (f : List Byte) : Option Nat :=
  let e := etherType f
  if s.flag F.ETH_ENCAP_MODE then (if e.1 = s.rd F.EXQ_FRAME_ETHERTYPE then some e.2 else none)
  else if udpPort f = some (s.rd F.EXQ_FRAME_UDP_PORT) then some (e.2 + 48) else none

/-- The frame is tally transport, or an exchequer measurement frame of a stream that a loop of its port takes (R342, R414). (DEDUCED, log entry 27.) -/
def State.ownFrame (s : State) (port : Nat) (f : List Byte) : Bool :=
  let tally := if s.flag F.ETH_ENCAP_MODE then (etherType f).1 == s.rd F.ETH_TYPE_ETHERTYPE
    else udpPort f == some (s.rd F.ETH_TYPE_UDP_PORT)
  tally || (match s.exqStart f with
    | some n => s.exq.any (fun e => match e.2.loop with
        | some l => bit l.flags 0 && l.port == port && l.stream == field f (n + 2) 2
        | none => false)
    | none => false)

/-- Counts of the local time counter that a frame takes at 10 Gb/s. (DEDUCED, log entry 75.) -/
def hostCounts (bytes : Nat) : Nat := (bytes + 49) / 50

/-- A frame for the operating system; one whose FCS fails is dropped (R339), and one that arrives while the queue still takes
the last one (R342). (DESIGN CHOICE, log entry 4.) -/
def execHostFrameReceive (port : Fin 16) (frame : Arrived) (s : State) : Res :=
  if 9216 < frame.bytes.length then .fault .illFormed
  else .next (if !s.up || !s.portUp port then s
    else if !frame.fcs then s.inc F.ETH_CRC_DROP_COUNT
    else if s.ownFrame port frame.bytes then s
    else if s.clk.now < mget 0 s.fab.hostBusy port then s.inc F.ETH_HOST_DROP_COUNT
    else { s with fab := { s.fab with
        hostRx := mupd [] s.fab.hostRx port (fun l => l ++ [frame.bytes])
        hostBusy := mset 0 s.fab.hostBusy port (s.clk.now + hostCounts frame.bytes.length) } })

/-- Give a frame to a port. -/
def State.emit (s : State) (f : TxFrame) : State :=
  if s.portUp f.port then { s with fab := { s.fab with wire := s.fab.wire ++ [f] } } else s

/-- (DESIGN CHOICE, log entry 4.) -/
def execHostFrameSend (port : Fin 16) (frame : List Byte) (s : State) : Res :=
  if 9216 < frame.length then .fault .illFormed
  else .next (if s.up then s.emit ⟨port, 0, 0, 0, .host, frame⟩ else s)

/-! ### Peers and packets (R343, R344, R351) -/

def State.peer (s : State) (acct r : Nat) : Option Peer := s.fab.peers.find? (fun p => p.account == acct && p.peer == r)

def State.setPeer (s : State) (p : Peer) : State :=
  let l := s.fab.peers.filter (fun q => !(q.account == p.account && q.peer == p.peer))
  { s with fab := { s.fab with peers := p :: l } }

def Peer.gen (p : Peer) : Nat := field p.entry 24 4
def Peer.usable (p : Peer) : Nat := field p.entry 22 2
/-- MAC base of an entry, as the 48-bit number its bytes spell in order. -/
def Peer.mac (p : Peer) : Nat := beNat (slice p.entry 16 6)
/-- Address of a plane: plane p adds p to the last byte. -/
def Peer.addr (p : Peer) (plane : Nat) : List Byte :=
  slice p.entry 0 15 ++ [BitVec.ofNat 8 (field p.entry 15 1 + plane)]

/-- This module's generation in an account's job. -/
def State.ownGen (s : State) (acct : Nat) (a : Acct) : Nat := ((s.peer acct a.rank).map Peer.gen).getD 0 % 65536

/-- Bytes of the largest payload. -/
def State.payload (s : State) : Nat := if s.flag F.ETH_ENCAP_PAYLOAD then 8192 else 4096

/-- Fields of a tally header that vary. -/
structure Hdr where
  typ : Nat
  flags : Nat
  dst : Nat
  msg : Nat
  psn : Nat
  off : Nat
  credit : Nat
  deriving DecidableEq, Repr

/-- The port set as the header announces it. -/
def State.portMask (s : State) : Nat := s.portSet.foldl (fun m p => m + 2 ^ p) 0

/-- A tally packet (R344). (DEDUCED, log entry 75.) -/
def State.packet (s : State) (acct : Nat) (a : Acct) (h : Hdr) (payload : List Byte) : List Byte :=
  let b := natLe 1 (16 + h.typ) ++ natLe 1 h.flags ++ natLe 2 a.job ++ natLe 2 a.rank ++ natLe 2 h.dst ++
    natLe 2 (s.ownGen acct a) ++ natLe 2 payload.length ++ natLe 4 h.msg ++ natLe 4 h.psn ++ natLe 4 h.off ++
    natLe 2 h.credit ++ natLe 2 s.portMask
  b ++ natLe 4 (crc32c (b ++ payload)).toNat ++ payload

/-- A tally packet to a peer on a plane, encapsulated (R343). -/
def State.sendTally (s : State) (acct plane : Nat) (h : Hdr) (payload : List Byte) : State :=
  match s.acct acct, s.peer acct h.dst with
  | some a, some p =>
    let b := s.packet acct a h payload
    let tag := mget 0 s.fab.portTag plane
    if s.flag F.ETH_ENCAP_MODE then
      s.emit ⟨plane, p.mac + plane, s.fab.macBase + plane, tag, .raw (s.rd F.ETH_TYPE_ETHERTYPE), b⟩
    else
      let src := ((s.peer acct a.rank).map (·.addr plane)).getD []
      s.emit ⟨plane, s.rd F.ETH_GATEWAY_MAC 0 plane, s.fab.macBase + plane, tag,
        .udp src (p.addr plane) (0xC000 + (a.rank * 16 + plane) % 16384) (s.rd F.ETH_TYPE_UDP_PORT)
          (s.rd F.ETH_ENCAP_DSCP * 4 + 2), b⟩
  | _, _ => s

/-! ### Paths -/

def newPath (acct peer plane now : Nat) : Path :=
  ⟨acct, peer, plane, 0, 0, 0, 1024, 0, none, [], now, 0, [], 0, none, [], false, 0, 0⟩

def State.path (s : State) (acct peer plane : Nat) : Path :=
  (s.fab.paths.find? (fun p => p.account == acct && p.peer == peer && p.plane == plane)).getD
    (newPath acct peer plane s.clk.now)

def State.setPath (s : State) (p : Path) : State :=
  let l := s.fab.paths.filter (fun q => !(q.account == p.account && q.peer == p.peer && q.plane == p.plane))
  { s with fab := { s.fab with paths := p :: l } }

/-- Credits of 4 KiB that a payload takes (R346). (DEDUCED, log entry 74.) -/
def creditUnits (n : Nat) : Nat := (n + 4095) / 4096

/-- The receiver grants what it may on a path: at most 1,024 unused credits (R346). -/
def Path.grant (p : Path) : Nat × Path :=
  let n := min p.toGrant (1024 - p.granted)
  (n, { p with toGrant := p.toGrant - n, granted := p.granted + n })

/-- Send a CREDIT packet when there is something to grant. -/
def State.grantPath (s : State) (acct peer plane : Nat) : State :=
  let g := (s.path acct peer plane).grant
  if g.1 = 0 then s else (s.setPath g.2).sendTally acct plane ⟨4, 0, peer, 0, 0, 0, g.1⟩ []

/-- Ranges of PSN received above the contiguous part, ascending: (first, last). -/
def psnRanges : List Nat → List (Nat × Nat)
  | [] => []
  | x :: t =>
    match psnRanges t with
    | (a, b) :: r => if x + 1 = a then (x, b) :: r else (x, x) :: (a, b) :: r
    | [] => [(x, x)]

/-- An ACK: the ranges received, ECE, credits (R347, R350). -/
def State.sendAck (s : State) (acct peer plane : Nat) : State :=
  let p := s.path acct peer plane
  let g := p.grant
  let low := if p.rxNext = 0 then [] else [(0, p.rxNext - 1)]
  let rs := (low ++ psnRanges p.rxAbove).take 4
  let s := s.setPath { g.2 with rxUnacked := 0, rxOldest := none, echo := false }
  s.sendTally acct plane ⟨2, 2 * b2n p.echo, peer, 0, 0, 0, g.1⟩ (rs.flatMap (fun r => natLe 4 r.1 ++ natLe 4 r.2))

/-! ### Sending -/

/-- The plane list for a peer: the local collective set and the port set the peer last announced, ascending (R345). (DEDUCED, log entry 74.) -/
def State.planesTo (s : State) (acct peer : Nat) : List Nat :=
  match s.peer acct peer with
  | none => []
  | some p => s.portSet.filter (fun pl => bit p.ports.toNat pl && bit p.usable pl)

/-- Packets of a message: stripe i of 64 KiB on entry i mod P of the plane list (R345). -/
def piecesOf (payload : Nat) (planes : List Nat) (len : Nat) : List (Nat × Nat × Nat) :=
  (List.range ((len + 65535) / 65536)).flatMap (fun i =>
    let n := min 65536 (len - 65536 * i)
    (List.range ((n + payload - 1) / payload)).map (fun j =>
      (65536 * i + payload * j, min payload (n - payload * j), planes.getD (i % planes.length) 0)))

/-- Send one DATA packet, `retx` a retransmission under its old PSN. (DEDUCED, log entry 75.) -/
def State.sendData (s : State) (acct peer plane : Nat) (k : TxPkt) (total : Nat) (retx : Bool) : State :=
  s.sendTally acct plane ⟨1, b2n (decide (k.off + k.bytes.length = total)) + 4 * b2n retx, peer, k.msg, k.psn % 2 ^ 32,
    k.off, 0⟩ k.bytes

/-- Send the packets of a message that their paths have credits for. -/
def State.pumpMsg (s : State) (m : TxMsg) : State :=
  let r := m.pend.foldl (fun (a : State × List (Nat × Nat × Nat)) pc =>
    let p := a.1.path m.account m.peer pc.2.2
    let u := creditUnits pc.2.1
    if p.credits < u then (a.1, a.2 ++ [pc])
    else
      let k : TxPkt := ⟨p.txPsn, m.msg, pc.1, slice m.bytes pc.1 pc.2.1, a.1.clk.now⟩
      let p := { p with txPsn := p.txPsn + 1, credits := p.credits - u,
                        lastAck := if p.unacked.isEmpty then a.1.clk.now else p.lastAck, unacked := p.unacked ++ [k] }
      ((a.1.setPath p).sendData m.account m.peer pc.2.2 k m.bytes.length false, a.2)) (s, [])
  let l := r.1.fab.tx.map (fun t => if t.coll = m.coll ∧ t.peer = m.peer ∧ t.msg = m.msg then { t with pend := r.2 } else t)
  { r.1 with fab := { r.1.fab with tx := l } }

/-- Send what can be sent, messages in order. -/
def State.pump (s : State) : State := s.fab.tx.foldl State.pumpMsg s

/-- Most bytes of a message (R345). -/
def msgBytes : Nat := 2 ^ 26

/-- The silence of a peer counts from now (R348). -/
def State.heard (s : State) (acct peer : Nat) : State :=
  match s.peer acct peer with
  | some p => s.setPeer { p with lastHeard := s.clk.now }
  | none => s

/-- Queue the messages of a leg for sending. (DEDUCED, log entry 74.) -/
def State.queueTx (s : State) (c : Coll) (planes : List Nat) (l : Leg) (b : List Byte) : State :=
  let ms := (List.range ((l.len + msgBytes - 1) / msgBytes)).map (fun i =>
    let part := (b.drop (msgBytes * i)).take msgBytes
    (⟨c.id, c.account, l.peer, l.msg + i, part, planes, piecesOf s.payload planes part.length, 0⟩ : TxMsg))
  { s with fab := { s.fab with tx := s.fab.tx ++ ms } }.heard c.account l.peer

/-- Expect the messages of a leg, and grant credits for them. -/
def State.expectRx (s : State) (c : Coll) (planes : List Nat) (l : Leg) (dst : Nat → RxDst) : State :=
  let n := (l.len + msgBytes - 1) / msgBytes
  let ms := (List.range n).map (fun i =>
    (⟨c.id, c.account, l.peer, l.msg + i, l.stage, dst (msgBytes * i), min msgBytes (l.len - msgBytes * i), [], s.clk.now, 0⟩ :
      RxMsg))
  let s := { s with fab := { s.fab with rx := s.fab.rx ++ ms } }
  let s := ms.foldl (fun s m => (piecesOf s.payload planes m.len).foldl (fun s pc =>
    let p := s.path c.account l.peer pc.2.2
    s.setPath { p with toGrant := p.toGrant + creditUnits pc.2.1 }) s) s
  planes.foldl (fun s pl => s.grantPath c.account l.peer pl) (s.heard c.account l.peer)

/-! ### Receiving (R344, R347) -/

/-- A received packet that passes the checks of R344: its account and source; the drop is counted. -/
def State.checkPacket (s : State) (typ : Nat) (b : List Byte) : State × Option (Nat × Nat) :=
  let crcDrop := (s.inc F.ETH_CRC_DROP_COUNT, none)
  let len := field b 10 2
  if b.length < 32 ∨ field b 0 1 ≠ 16 + typ ∨ b.length ≠ 32 + len ∨
      (crc32c (slice b 0 28 ++ b.drop 32)).toNat ≠ field b 28 4 then crcDrop
  else match s.accts.find? (fun p => p.2.ranks != 0 && p.2.job == field b 2 2 && p.2.rank == field b 6 2) with
    | none => crcDrop
    | some (acct, _) =>
      match s.peer acct (field b 4 2) with
      | none => (s.inc F.ETH_STALE_COUNT, none)
      | some p =>
        if p.gen % 65536 ≠ field b 8 2 then (s.inc F.ETH_STALE_COUNT, none)
        else
          let s := s.setPeer { p with ports := BitVec.ofNat 16 (field b 26 2), lastHeard := s.clk.now }
          (s, some (acct, p.peer))

/-- The PSN that a 32-bit number names near `next`. -/
def psnNear (next v : Nat) : Nat :=
  let d := (v + 2 ^ 32 - next % 2 ^ 32) % 2 ^ 32
  if d < 2 ^ 31 then next + d else next + d - 2 ^ 32

/-- Move the contiguous range up over what was received above it. -/
def advancePsn : Nat → Nat → List Nat → Nat × List Nat
  | 0, n, l => (n, l)
  | k + 1, n, l => if l.contains n then advancePsn k (n + 1) (l.filter (· != n)) else (n, l)

/-- The PSN missing below the highest received, each with the time it was found missing. -/
def Path.missing (p : Path) (now : Nat) : List (Nat × Nat) :=
  let top := p.rxAbove.foldl max 0
  ((List.range (top - p.rxNext)).map (p.rxNext + ·)).filterMap (fun v =>
    if p.rxAbove.contains v then none else some (v, ((p.gaps.find? (fun g => g.1 == v)).map (·.2)).getD now))

/-- Note a received PSN: none for a duplicate. -/
def Path.receive (p : Path) (psn now len : Nat) (ecn : Bool) : Option Path :=
  if psn < p.rxNext ∨ p.rxAbove.contains psn then none
  else
    let r := advancePsn (p.rxAbove.length + 1) p.rxNext (ins psn p.rxAbove)
    let p := { p with rxNext := r.1, rxAbove := r.2 }
    some { p with rxUnacked := p.rxUnacked + 1, rxOldest := some (p.rxOldest.getD now), gaps := p.missing now,
                  echo := p.echo || ecn, granted := p.granted - creditUnits len }

/-- All bytes of a message have arrived. -/
def RxMsg.complete (m : RxMsg) : Bool := decide (m.len ≤ (m.got.map (fun g => g.2.length)).sum)

/-- Write received payload where it belongs (R347); a stage place spreads its stripes over the dies. -/
def State.putPayload (s : State) (acct : Nat) (dst : RxDst) (off : Nat) (b : List Byte) : State :=
  match dst with
  | .buffer => s
  | .va a => s.accWrite acct (a + off) b
  | .stage o =>
    let die := off / 65536 % 4
    s.devWrite (s.rd F.CLR_STAGE_BASE_ADDR die + o + off) b

/-- A permute holds the stage buffers, until its last round has left them (R369). -/
def State.permuteOn (s : State) : Bool := s.fab.colls.any (fun c => field c.bytes 0 1 == 4 && !c.waiting && !c.formed)

/-- Payload of a message that is expected; any other is discarded. What is for the stage buffers of a permute is held back from
them (R369). -/
def State.takePayload (s : State) (acct peer msg off : Nat) (b : List Byte) : State :=
  match s.fab.rx.find? (fun m => m.account == acct && m.peer == peer && m.msg % 2 ^ 32 == msg && !m.complete) with
  | none => s
  | some m =>
    if m.len < off + b.length ∨ m.got.any (fun g => g.1 == off) then s
    else
      let l := s.fab.rx.map (fun n => if n = m then { n with got := mset [] n.got off b, lastAt := s.clk.now } else n)
      let s := { s with fab := { s.fab with rx := l } }
      match m.dst with
      | .stage _ => if s.permuteOn then s else s.putPayload acct m.dst off b
      | _ => s.putPayload acct m.dst off b

/-- Credits arrive: at most 1,024 unused ones are held (R346), of which those beyond the limit of R350 are not used until
acknowledgements come. (DESIGN CHOICE, log entry 99.) -/
def Path.credit (p : Path) (n : Nat) : Path :=
  let t := min 1024 (p.credits + p.spare + n)
  { p with credits := min p.limit t, spare := t - p.limit }

/-- An echo of congestion halves the limit on unused credits, at most once per 10 µs, down to 16 (R350). -/
def Path.halve (p : Path) (now : Nat) : Path :=
  let due := match p.halvedAt with
    | some t => decide (t + usec 10 ≤ now)
    | none => true
  if due then { p with limit := max 16 (p.limit / 2), halvedAt := some now }.credit 0 else p

/-- Unused credits a path has been granted. -/
def Path.held (p : Path) : Nat := p.credits + p.spare

/-- Acknowledged bytes raise the limit by one credit for each 64 KiB (R350). -/
def Path.raise (p : Path) (n : Nat) : Path :=
  { p with limit := min 1024 (p.limit + (p.ackedBytes + n) / 65536), ackedBytes := (p.ackedBytes + n) % 65536 }

/-- Packets acknowledged: their messages count the bytes; whole messages go. -/
def State.ackPackets (s : State) (acct peer : Nat) (ks : List TxPkt) : State :=
  let l := s.fab.tx.map (fun m => if m.account = acct ∧ m.peer = peer then
    { m with acked := m.acked + ((ks.filter (fun k => k.msg == m.msg)).map (fun k => k.bytes.length)).sum } else m)
  { s with fab := { s.fab with tx := l.filter (fun m => !(m.pend.isEmpty && decide (m.bytes.length ≤ m.acked))) } }

/-- An ACK with the ranges of PSN it lists. (DEDUCED, log entry 75.) -/
def execAckReceive (plane : Fin 16) (packet : List Byte) (ranges : List (W32 × W32)) (s : State) : Res :=
  if 8224 < packet.length then .fault .illFormed
  else .next (s.working fun s =>
    if !s.portUp plane then s
    else match s.checkPacket 2 packet with
      | (s, none) => s
      | (s, some (acct, peer)) =>
        let p := s.path acct peer plane
        let hit := fun (k : TxPkt) => ranges.any (fun r => decide (r.1.toNat ≤ k.psn % 2 ^ 32 ∧ k.psn % 2 ^ 32 ≤ r.2.toNat))
        let got := p.unacked.filter hit
        let p := { p with unacked := p.unacked.filter (fun k => !hit k), lastAck := s.clk.now }
        let p := (p.raise ((got.map (fun k => k.bytes.length)).sum)).credit (field packet 24 2)
        let p := if bit (field packet 1 1) 1 && !s.flag F.ETH_ENCAP_MODE then p.halve s.clk.now else p
        ((s.setPath p).ackPackets acct peer got).pump)

/-- Resend packets of a path, counting each (R347). -/
def State.resend (s : State) (acct peer plane : Nat) (sel : TxPkt → Bool) : State :=
  let p := s.path acct peer plane
  let ks := p.unacked.filter sel
  let s := s.setPath { p with unacked := p.unacked.map (fun k => if sel k then { k with sentAt := s.clk.now } else k) }
  ks.foldl (fun s k =>
    let total := ((s.fab.tx.find? (fun m => m.account == acct && m.peer == peer && m.msg == k.msg)).map
      (fun m => m.bytes.length)).getD 0
    (s.sendData acct peer plane k total true).inc F.ETH_RETX_COUNT) s

/-- (DEDUCED, log entry 75.) -/
def execNackReceive (plane : Fin 16) (packet : List Byte) (missing : List W32) (s : State) : Res :=
  if 8224 < packet.length then .fault .illFormed
  else .next (s.working fun s =>
    if !s.portUp plane then s
    else match s.checkPacket 3 packet with
      | (s, none) => s
      | (s, some (acct, peer)) => s.resend acct peer plane (fun k => missing.any (fun v => v.toNat == k.psn % 2 ^ 32)))

def execCreditReceive (plane : Fin 16) (packet : List Byte) (s : State) : Res :=
  if 8224 < packet.length then .fault .illFormed
  else .next (s.working fun s =>
    if !s.portUp plane then s
    else match s.checkPacket 4 packet with
      | (s, none) => s
      | (s, some (acct, peer)) => (s.setPath ((s.path acct peer plane).credit (field packet 24 2))).pump)

/-- RESEND names a message: it is sent again from its start, unless it is complete (R348, R376). -/
def execResendReceive (plane : Fin 16) (packet : List Byte) (s : State) : Res :=
  if 8224 < packet.length then .fault .illFormed
  else .next (s.working fun s =>
    if !s.portUp plane then s
    else match s.checkPacket 5 packet with
      | (s, none) => s
      | (s, some (acct, peer)) =>
        match s.fab.tx.find? (fun m => m.account == acct && m.peer == peer && m.msg % 2 ^ 32 == field packet 12 4) with
        | none => s
        | some m =>
          let ps := s.fab.paths.map (fun p => if p.account = acct ∧ p.peer = peer then
            let back := ((p.unacked.filter (fun k => k.msg == m.msg)).map (fun k => creditUnits k.bytes.length)).sum
            { p.credit back with unacked := p.unacked.filter (fun k => k.msg != m.msg) } else p)
          let l := s.fab.tx.map (fun n => if n = m then
            { n with pend := piecesOf s.payload n.planes n.bytes.length, acked := 0 } else n)
          { s with fab := { s.fab with paths := ps, tx := l } }.pump)

/-! ### Timers (R347) -/

/-- 8 µs after the oldest packet not yet acknowledged. -/
def execAckTimer (account : Fin 64) (peer : BitVec 13) (plane : Fin 16) (s : State) : Res :=
  .next (s.working fun s =>
    match (s.path account peer.toNat plane).rxOldest with
    | some t => if s.after t (usec 8) then s.sendAck account peer.toNat plane else s
    | none => s)

/-- A NACK names the missing packets whose gap has persisted for 16 µs. -/
def execNackTimer (account : Fin 64) (peer : BitVec 13) (plane : Fin 16) (s : State) : Res :=
  .next (s.working fun s =>
    let p := s.path account peer.toNat plane
    let due := fun (g : Nat × Nat) => s.after g.2 (usec 16)
    match (p.gaps.filter due).map (·.1) with
    | [] => s
    | miss =>
      (s.setPath { p with gaps := p.gaps.map (fun g => if due g then (g.1, s.clk.now) else g) }).sendTally account plane
        ⟨3, 0, peer.toNat, 0, 0, 0, 0⟩ (miss.flatMap (fun v => natLe 4 v)))

/-- Packets still unacknowledged 200 µs after they were sent. -/
def execRetransmitTimer (account : Fin 64) (peer : BitVec 13) (plane : Fin 16) (s : State) : Res :=
  .next (s.working fun s => s.resend account peer.toNat plane (fun k => s.after k.sentAt (usec 200)))

/-- A started message that no packet has reached for 200 ms is discarded and asked for again (R348). -/
def execHeldMessageTimeout (account : Fin 64) (peer : BitVec 13) (msg : W32) (s : State) : Res :=
  .next (s.working fun s =>
    match s.fab.rx.find? (fun m => m.account == account.val && m.peer == peer.toNat && m.msg % 2 ^ 32 == msg.toNat) with
    | none => s
    | some m =>
      if m.got.isEmpty || m.complete || !s.after m.lastAt (msec 200) then s
      else
        let l := s.fab.rx.map (fun n => if n = m then { n with got := [], lastAt := s.clk.now, resends := n.resends + 1 } else n)
        let s := { s with fab := { s.fab with rx := l } }
        let planes := s.planesTo account peer.toNat
        let s := m.got.foldl (fun s g =>
          let p := s.path account peer.toNat (planes.getD (g.1 / 65536 % planes.length) 0)
          s.setPath { p with toGrant := p.toGrant + creditUnits g.2.length }) s
        let s := s.sendTally account (planes.headD 0) ⟨5, 0, peer.toNat, m.msg, 0, 0, 0⟩ []
        let s := planes.foldl (fun s pl => s.grantPath account peer.toNat pl) s
        (s.note 0x1105 account peer.toNat msg.toNat).inc F.ETH_HELD_DISCARD_COUNT)

/-! ### The peer table (R351) -/

/-- The table is loaded: paths to a rank whose generation has changed start afresh. Answers the ranks that changed. -/
def State.loadPeers (s : State) (acct : Nat) (a : Acct) : State × List Nat :=
  (List.range a.ranks).foldl (fun (x : State × List Nat) r =>
    let b := (x.1.accRead [] acct (a.peerVa + 32 * r) 32).bytes
    match x.1.peer acct r with
    | some p =>
      if p.gen = field b 24 4 then (x.1.setPeer { p with entry := b }, x.2)
      else
        let l := x.1.fab.paths.filter (fun q => !(q.account == acct && q.peer == r))
        ({ x.1 with fab := { x.1.fab with paths := l } }.setPeer ⟨acct, r, b, BitVec.ofNat 16 (field b 22 2), x.1.clk.now, 0, 0⟩,
          x.2 ++ [r])
    | none => (x.1.setPeer ⟨acct, r, b, BitVec.ofNat 16 (field b 22 2), x.1.clk.now, 0, 0⟩, x.2)) (s, [])

/-! ### Shard books (R352, R353) -/

/-- An outstanding collective names a book of an account. -/
def State.bookBusy (s : State) (acct book : Nat) : Bool :=
  s.fab.colls.any (fun c => c.account == acct && (bits (field c.bytes 1 1) 1 0 == book ||
    (field c.bytes 0 1 == 4 && bits (field c.bytes 1 1) 3 2 == book))) ||
    (book == 2 && s.train.gates.any (fun g => g.account == acct && g.enteredAt.isSome))

/-- The first reason of R353, or the ranks. (DEDUCED, log entry 76.) -/
def State.bookCheck (s : State) (acct : Nat) (a : Acct) (book va : Nat) : Nat × List Nat :=
  let h := s.accRead [] acct va 16
  let j := field h.bytes 0 2
  let r := s.accRead [] acct (va + 16) (2 * j)
  let ranks := (List.range j).map (fun i => field r.bytes (2 * i) 2)
  if s.bookBusy acct book then (1, [])
  else if h.fault.isSome then (4, [])
  else if j = 0 ∨ a.ranks < j then (2, [])
  else if r.fault.isSome then (4, [])
  else if ranks.any (fun x => decide (a.ranks ≤ x)) || ranks.eraseDups.length != ranks.length then (3, [])
  else if book = 2 ∧ j ≠ a.ranks then (5, [])
  else (0, ranks)

def State.setAcct (s : State) (n : Nat) (a : Acct) : State :=
  { s with accts := (s.accts.filter (fun p => decide (p.1 < n))) ++ (n, a) :: s.accts.filter (fun p => decide (n < p.1)) }

/-- (DEDUCED, log entry 76.) -/
def execBookLoad (slot : BitVec 10) (s : State) : Res :=
  .next (s.cmdGo slot 0x04 (fun acct b s =>
    let book := field b 16 1
    let refuse := fun (s : State) r => (s.note 0x4002 acct book r).cmdEnd slot.toNat 0x03 r
    match s.acct acct with
    | none => refuse s 2
    | some a =>
      if 3 < book then s.cmdEnd slot.toNat 0x03 0xFF
      else
        let c := s.bookCheck acct a book (field b 24 8)
        if c.1 ≠ 0 then refuse s c.1
        else (s.setAcct acct { a with books := a.books.set book (some c.2) }).cmdEnd slot.toNat 0 0))

end Sys2Proof.Machine
end

