-- ==== Sys2Proof/Machine/Collective.lean ====
section
/-! DEFINITION. Clearing orders (R354 to R369, R375): collectives over the tally transport, just-in-time gathers, permutes,
ring passes, and the faults of the transport that end them (R347 to R349). -/

namespace Sys2Proof.Machine

/-! ### Orders (R355) -/

/-- The fields of a clearing order. -/
structure ClrF where
  op : Nat
  book : Nat
  fromBook : Nat
  startRound : Nat
  inFmt : Nat
  outFmt : Nat
  rnd : Nat
  flags : Nat
  granule : Nat
  tag : Nat
  tensorId : Nat
  src : Nat
  dst : Nat
  elems : Nat
  seed : Nat
  readyVa : Nat
  readyStep : Nat
  deriving DecidableEq, Repr

def clrF (b : List Byte) : ClrF where
  op := field b 0 1
  book := bits (field b 1 1) 1 0
  fromBook := bits (field b 1 1) 3 2
  startRound := bits (field b 1 1) 6 4
  inFmt := field b 2 1
  outFmt := field b 3 1
  rnd := field b 4 1 % 8
  flags := field b 5 1
  granule := field b 6 2
  tag := field b 8 4
  tensorId := field b 12 3
  src := field b 16 8
  dst := field b 24 8
  elems := field b 32 8
  seed := field b 40 8
  readyVa := field b 48 8
  readyStep := field b 56 8

def ClrF.sparse (f : ClrF) : Bool := bit f.flags 0
def ClrF.jit (f : ClrF) : Bool := bit f.flags 1
def ClrF.reverse (f : ClrF) : Bool := bit f.flags 2
def ClrF.waitReady (f : ClrF) : Bool := bit f.flags 3
def ClrF.maxor (f : ClrF) : Bool := f.op == 3 && bit f.flags 4
def ClrF.slot (f : ClrF) : Nat := b2n (bit f.flags 5)
/-- Layer sequence of JIT and DROP. -/
def ClrF.seq (f : ClrF) : Nat := f.tag / 65536

def Coll.f (c : Coll) : ClrF := clrF c.bytes

/-! ### Chunks (R354) -/

/-- Granules of a tensor. -/
def ClrF.gn (f : ClrF) : Nat := ceilDiv f.elems f.granule

/-- Elements of position `c` in a ring of `j`: first and one past the last. -/
def ClrF.span (f : ClrF) (j c : Nat) : Nat × Nat :=
  (min f.elems (c * f.gn / j * f.granule), min f.elems ((c + 1) * f.gn / j * f.granule))

/-- Granules of position `c`. -/
def ClrF.gspan (f : ClrF) (j c : Nat) : Nat × Nat := (c * f.gn / j, (c + 1) * f.gn / j)

/-- The accumulation format (R357). -/
def ClrF.acc (f : ClrF) : FFmt := if f.inFmt = 0 then f64 else f32

/-- Bytes of an element on the wire of a reduction. -/
def ClrF.w (f : ClrF) : Nat := if f.maxor then (fmtOf f.inFmt).bits / 8 else f.acc.width / 8

/-- Bytes of an input element; of an output element. -/
def ClrF.inB (f : ClrF) : Nat := (fmtOf f.inFmt).bits / 8
def ClrF.outB (f : ClrF) : Nat := (fmtOf f.outFmt).bits / 8

/-- Bytes of the first `n` elements of a tensor in the input format. -/
def ClrF.inOff (f : ClrF) (n : Nat) : Nat := (fmtOf f.inFmt).rowBytes n
def ClrF.outOff (f : ClrF) (n : Nat) : Nat := (fmtOf f.outFmt).rowBytes n

/-- Largest chunk in granules, granules of a segment, bytes of a granule (R365). -/
def ClrF.cmax (f : ClrF) (j : Nat) : Nat := ceilDiv f.gn j
def ClrF.s8 (f : ClrF) (j : Nat) : Nat := ceilDiv (f.cmax j) 8
def ClrF.gb (f : ClrF) : Nat := f.inOff f.granule

/-- Offset and bytes of segment `k` of a shard extent. -/
def ClrF.seg (f : ClrF) (j k : Nat) : Nat × Nat :=
  (k * f.s8 j * f.gb, (min (f.cmax j) ((k + 1) * f.s8 j) - k * f.s8 j) * f.gb)

/-! ### Sparse lists (R358) -/

/-- End of a list that does not fill its place: an index no row has. -/
def listEnd : List Byte := natLe 4 0xFFFFFFFF

/-- Bytes of a list of rows in a place for `cap` rows of `n` bytes each. -/
def putList (rows : List (Nat × List Byte)) (cap n : Nat) : List Byte :=
  let b := rows.flatMap (fun r => natLe 4 r.1 ++ r.2)
  if rows.length < cap then slice (b ++ listEnd) 0 (cap * (4 + n)) else b

/-- Rows of a list of rows of `n` bytes each, indices below `bound`. -/
def getList (b : List Byte) (bound n : Nat) : List (Nat × List Byte) :=
  (listRows b bound (4 + n) (b.length / (4 + n)) 0 none).map (fun p => (p.1, slice b p.2 n))

/-! ### What a collective exchanges -/

/-- Bytes of a leg: what position `to_` receives of position `from_` in a stage. -/
def ClrF.legBytes (f : ClrF) (j stage from_ to_ : Nat) : Nat :=
  let rows := fun c => (f.gspan j c).2 - (f.gspan j c).1
  let elems := fun c => (f.span j c).2 - (f.span j c).1
  match f.op with
  | 1 => if f.sparse then rows from_ * (4 + f.inOff f.granule)
    else f.inOff (f.span j from_).2 - f.inOff (f.span j from_).1
  | 2 => if f.sparse then rows to_ * (4 + f.granule * f.w) else elems to_ * f.w
  | 3 =>
    if stage = 0 then (if f.sparse then rows to_ * (4 + f.granule * f.w) else elems to_ * f.w)
    else if f.sparse then rows from_ * (4 + f.granule * f.outB) else elems from_ * f.outB
  | _ => 0

/-- Legs of a collective before they have message numbers: peer, stage, direction, bytes; `me` is this module's rank,
`pos` its position in the ring. (DEDUCED, log entry 74.) -/
def Coll.plan (c : Coll) (me : Nat) : List (Nat × Nat × Bool × Nat) :=
  let f := c.f
  let j := c.ring.length
  let pos := c.ring.idxOf me
  let ring := c.ring.zipIdx.filter (fun p => p.1 != me)
  match f.op with
  | 4 =>
    let old := c.from_.idxOf me
    let to_ := c.ring.getD old me
    let src := c.from_.getD pos me
    (List.range 8).flatMap (fun k => if k < f.startRound then [] else
      (if to_ = me then [] else [(to_, k, true, (f.seg j k).2)]) ++ (if src = me then [] else [(src, k, false, (f.seg j k).2)]))
  | 5 =>
    let next := c.ring.getD ((pos + 1) % j) me
    let prev := c.ring.getD ((pos + j - 1) % j) me
    let to_ := if f.reverse then prev else next
    let src := if f.reverse then next else prev
    (if to_ = me then [] else [(to_, 0, true, f.elems)]) ++ (if src = me then [] else [(src, 0, false, f.elems)])
  | _ =>
    (List.range (if f.op = 3 then 2 else 1)).flatMap (fun st => ring.flatMap (fun p =>
      [(p.1, st, true, f.legBytes j st pos p.2), (p.1, st, false, f.legBytes j st p.2 pos)]))

/-- Give the legs their message numbers, in order, for each ordered pair of ranks. -/
def State.allocLegs (s : State) (acct : Nat) : List (Nat × Nat × Bool × Nat) → State × List Leg
  | [] => (s, [])
  | (peer, st, out, len) :: rest =>
    match s.peer acct peer with
    | none => s.allocLegs acct rest
    | some p =>
      let n := (len + msgBytes - 1) / msgBytes
      let r := (s.setPeer (if out then { p with txMsg := p.txMsg + n } else { p with rxMsg := p.rxMsg + n })).allocLegs acct rest
      (r.1, ⟨peer, st, out, if out then p.txMsg else p.rxMsg, len⟩ :: r.2)

/-! ### Checks (R375) -/

def State.book (s : State) (acct b : Nat) : Option (List Nat) :=
  ((s.acct acct).bind (fun a => a.books.getD b none))

/-- Bytes of stage buffer that an order needs on each die (R365, R367). (DEDUCED, log entry 74.) -/
def ClrF.stageNeed (f : ClrF) (j : Nat) : Nat := if f.op = 4 then f.s8 j * f.gb else if f.op = 5 then 2 * f.elems else 0

def State.stageOk (s : State) (n : Nat) : Bool :=
  n == 0 || (List.range 4).all (fun d =>
    s.rd F.CLR_STAGE_BASE_ADDR d != 0 && decide (n ≤ s.rd F.CLR_STAGE_SIZE_MIB d * 2 ^ 20))

/-- Bytes of an input of a reduction: a row of the format, or a list of rows of a granule each. -/
def ClrF.srcBytes (f : ClrF) : Nat := if f.sparse then f.gn * (4 + f.inOff f.granule) else f.inOff f.elems

/-- Ranges the order reads and writes: address, bytes, store. -/
def ClrF.regions (f : ClrF) (j pos : Nat) : List (Nat × Nat × Bool) :=
  let own := f.span j pos
  let g := f.gspan j pos
  match f.op with
  | 1 => if f.sparse then
      [(f.src, (g.2 - g.1) * (4 + f.inOff f.granule), false), (f.dst, f.gn * (4 + f.inOff f.granule), true)]
    else [(f.src, f.inOff own.2 - f.inOff own.1, false), (f.dst, f.inOff f.elems, true)]
  | 2 => (f.src, f.srcBytes, false) :: (if f.sparse then [(f.dst, (g.2 - g.1) * (4 + f.granule * f.outB), true)]
    else [(f.dst, (own.2 - own.1) * f.outB, true)])
  | 3 => (f.src, f.srcBytes, false) :: (if f.sparse then [(f.dst, f.gn * (4 + f.granule * f.outB), true)]
    else [(f.dst, f.elems * f.outB, true)])
  | 4 => [(f.src, f.cmax j * f.gb, true)]
  | 5 => [(f.src, f.elems, false)]
  | _ => []

/-- The first reason of R375 that an order meets, or 0. `step` is the batch's step. A sum takes every format but Groat and Mite,
for whose global scale an order has no field (R357). (DEDUCED, log entry 74.) -/
def State.clrReason (s : State) (acct step : Nat) (b : List Byte) : Nat :=
  let f := clrF b
  let ring := s.book acct f.book
  let old := s.book acct f.fromBook
  let rank := ((s.acct acct).map (·.rank)).getD 0
  let named := fun (r : Option (List Nat)) => (r.map (fun l => l.contains rank)).getD false
  let iff_ := fmtOf f.inFmt
  let fmtBad := match f.op with
    | 1 | 4 => decide (15 < f.inFmt) || f.inFmt != f.outFmt
    | 2 | 3 =>
      if f.maxor then decide (15 < f.inFmt) || f.inFmt != f.outFmt || iff_.isBlock || iff_.bits % 8 != 0
      else decide (0xD < f.inFmt) || !(f.outFmt == (if f.inFmt = 0 then 0 else 1) || f.outFmt == 2)
    | _ => false
  let j := (ring.getD []).length
  let pos := (ring.getD []).idxOf rank
  let laid := (s.fab.layouts.find? (fun l => l.1 == acct && l.2.1 == f.src)).map (·.2.2)
  if f.op = 0 ∨ 6 < f.op ∨ (f.op = 4 ∧ !s.agreed 8) ∨ (f.op = 5 ∧ !s.agreed 7) ∨ (f.sparse ∧ !s.agreed 6) ∨
      128 ≤ field b 1 1 ∨ 8 ≤ field b 4 1 ∨ 64 ≤ f.flags ∨ field b 15 1 ≠ 0 ∨ f.granule = 0 then 1
  else if f.op = 6 then 0
  else if !named ring || (f.op == 4 && !named old) then 2
  else if fmtBad then 3
  else if f.op = 4 ∧ ((old.getD []).length ≠ j ∨ (laid.isSome ∧ laid ≠ some f.granule)) then 4
  else if !s.stageOk (f.stageNeed j) then 5
  else if f.elems = 0 then 6
  else if f.op = 1 ∧ f.jit ∧ s.fab.jit.any (fun e => e.account == acct && e.step == step && decide (f.seq < e.seq)) then 7
  else if (f.regions j pos).any (fun r => decide (r.2.1 ≠ 0) && !s.accMapped acct r.1 r.2.1 r.2.2) then 9
  else if f.waitReady && !s.accMapped acct f.readyVa 8 false then 9
  else 0

/-! ### Completion -/

/-- The record of a clearing order of a die (R166, R375). (DEDUCED, log entry 76.) -/
def clrRecord (die tag status : Nat) (r : Result) : List Byte :=
  natLe 1 status ++ natLe 1 (0x60 + die) ++ natLe 2 tag ++ natLe 4 r.word.toNat ++ natLe 4 r.sat ++ natLe 4 r.flush ++
    natLe 4 r.nan ++ natLe 4 r.inf ++ natLe 4 r.steps ++ natLe 4 r.first.toNat

/-- The die whose clearing unit reports the orders of a queue: the lowest whose dispatcher serves it. (DEDUCED, log entry 76.) -/
def State.clrDie (s : State) (n : Nat) : Nat := ((s.queue n).map (fun q => (s.queueDies q).headD 0)).getD 0

/-- A clearing order of a batch completes, LATE past the batch's deadline (R83): its status joins the batch, its record is
there, its tag is done, it is counted on the four dies. -/
def State.finishClr (s : State) (n acct index tag status : Nat) (r : Result) : State :=
  let status := s.lateStatus n status
  let die := s.clrDie n
  let s := s.updRun n (fun b => { b with
    clr := setSub b.clr index status, sat := b.sat + r.sat, nanInf := b.nanInf || bit r.word.toNat 0 })
  let t := BitVec.ofNat 32 tag
  let s := { s with fab := { s.fab with
    doneTags := (acct, t) :: s.fab.doneTags.filter (fun p => !(p.1 == acct && p.2 == t))
    records := s.fab.records ++ [(acct, clrRecord die (tag % 65536) status r)] } }
  (List.range 4).foldl (fun s d =>
    let s := s.inc F.CLR_ORDERS_COUNT 1 d
    let s := if status = 0x21 then s.inc F.CLR_LINK_LOST_COUNT 1 d else s
    if status = 0x21 ∨ status = 0x04 then
      ((s.st F.CLR_LAST_ERR_REASON (if status = 0x21 then 0x21 else r.first.toNat % 256) d).st F.CLR_LAST_ERR_ACCOUNT acct d).st
        F.CLR_LAST_ERR_TAG (tag % 65536) d
    else s) s

/-- An order stops ABORTED with a reason, code 0x4001. -/
def State.abortClr (s : State) (n acct index tag reason : Nat) : State :=
  (s.note 0x4001 acct (s.clrDie n) reason).finishClr n acct index tag 0x04 (noResult 0x04 reason 0)

/-- Payload held back from the stage buffers during a permute is put there (R369). -/
def State.flushStage (s : State) : State :=
  s.fab.rx.foldl (fun s m => match m.dst with
    | .stage _ => m.got.foldl (fun s g => s.putPayload m.account m.dst g.1 g.2) s
    | _ => s) s

/-- The collective leaves the clearing units; paths to peers from which nothing more is due hold no stale grants. -/
def State.leaveColl (s : State) (c : Coll) : State :=
  let rx := s.fab.rx.filter (fun m => m.coll != c.id)
  let ps := s.fab.paths.map (fun p =>
    if p.account = c.account ∧ !rx.any (fun m => m.account == p.account && m.peer == p.peer) then
      { p with toGrant := 0, granted := 0 } else p)
  { s with fab := { s.fab with colls := s.fab.colls.filter (fun d => d.id != c.id), rx := rx,
                               tx := s.fab.tx.filter (fun m => m.coll != c.id), paths := ps } }

/-- What the stage buffers held back goes there when a permute leaves before its last round. -/
def State.dropColl (s : State) (c : Coll) : State :=
  let s := s.leaveColl c
  if c.f.op = 4 ∧ !c.formed then s.flushStage else s

/-- A collective completes. -/
def State.endColl (s : State) (c : Coll) (status : Nat) : State :=
  let st := firstStatus (c.status ++ [status])
  (s.dropColl c).finishClr c.queue c.account c.index c.f.tag st (if st = 0 ∨ st = 1 then c.result else noResult st 0 0)

/-- A collective completes LINK_LOST for a peer: code 0x1106, and 0x4004 for a permute, whose segment stays in the stage buffers
(R348, R349, R366). -/
def State.loseColl (s : State) (c : Coll) (peer : Nat) : State :=
  let s := s.note 0x1106 c.account peer c.f.tag
  let s := if c.f.op = 4 then
      { s with fab := { s.fab with staged := (c.account, c.f.src, c.stage) :: s.fab.staged } }.note 0x4004 c.account c.f.tag c.stage
    else s
  s.endColl c 0x21

def State.setColl (s : State) (c : Coll) : State :=
  { s with fab := { s.fab with colls := s.fab.colls.map (fun d => if d.id = c.id then c else d) } }

def State.coll (s : State) (id : Nat) : Option Coll := s.fab.colls.find? (fun c => c.id == id)

def State.rankOf (s : State) (acct : Nat) : Nat := ((s.acct acct).map (·.rank)).getD 0

/-! ### A collective's own part -/

def Coll.planesFor (c : Coll) (peer : Nat) : List Nat := ((c.planes.find? (fun p => p.1 == peer)).map (·.2)).getD []

/-- Send the bytes `b` gives for each outgoing leg of a stage. -/
def State.sendLegs (s : State) (c : Coll) (stage : Nat) (b : Leg → List Byte) : State :=
  ((c.legs.filter (fun l => l.out && l.stage == stage)).foldl (fun s l => s.queueTx c (c.planesFor l.peer) l (b l)) s).pump

/-- Expect the incoming legs of a stage. -/
def State.expectLegs (s : State) (c : Coll) (stage : Nat) (dst : Leg → Nat → RxDst) : State :=
  (c.legs.filter (fun l => !l.out && l.stage == stage)).foldl (fun s l => s.expectRx c (c.planesFor l.peer) l (dst l)) s

/-- Offsets of bytes of a read that lie in poisoned words. -/
def RdRes.poisAt (r : RdRes) : List Nat := (r.pois.zipIdx.filter (·.1)).map (·.2)

/-- Note statuses a collective has met. -/
def State.addCollStat (s : State) (id st : Nat) : State :=
  if st = 0 then s
  else match s.coll id with
    | some c => s.setColl { c with status := c.status ++ [st] }
    | none => s

/-- Write account memory with poison carried over, the write's status noted. -/
def State.clrWrite (s : State) (c : Coll) (va : Nat) (b : List Byte) (pois : List Nat) : State :=
  let st := s.accWriteStatus c.account va b.length
  let s := (s.accWrite c.account va b).addCollStat c.id st
  pois.foldl (fun s i => s.accPoison c.account (va + i) 1) s

/-- Value of element `k` of an input row of `n` elements (R357). -/
def ClrF.inVal (f : ClrF) (b : List Byte) (n k : Nat) : FV := (fmtOf f.inFmt).elem fvOne b n k

/-- The wire's element of a reduction from the bytes of an input row of `n` elements. -/
def ClrF.wireElem (f : ClrF) (b : List Byte) (n k : Nat) : List Byte :=
  if f.maxor then slice b (k * f.inB) f.inB else natLe f.w (f.acc.ieee .rne (f.inVal b n k))

/-- The wire's list of the rows of position `c` from a sparse input. -/
def ClrF.wireList (f : ClrF) (j c : Nat) (src : List Byte) : List Byte :=
  let g := f.gspan j c
  let rows := (getList src f.gn (f.inOff f.granule)).filter (fun r => decide (g.1 ≤ r.1 ∧ r.1 < g.2))
  putList (rows.map (fun r => (r.1, (List.range f.granule).flatMap (f.wireElem r.2 f.granule)))) (g.2 - g.1) (f.granule * f.w)

/-- Bytes of the stage buffers from their start, as stripes spread them over the dies. -/
def State.stageBytes (s : State) (n : Nat) : List Byte :=
  (List.range ((n + 65535) / 65536)).flatMap (fun i =>
    (s.devRead [] (s.rd F.CLR_STAGE_BASE_ADDR (i % 4) + 65536 * i) (min 65536 (n - 65536 * i))).bytes)

/-- Round `k` of a permute sends the segment that the stage buffers kept from an interrupted one (R366). -/
def State.fromStage (s : State) (c : Coll) (k : Nat) : Bool :=
  k == c.f.startRound && (k != 0 || s.fab.staged.contains (c.account, c.f.src, k))

/-- Start round `k` of a permute: the old segment goes to the stage buffers and to the module that holds the chunk in the
new layout; the new segment is expected. A chunk that stays moves nothing (R365). The round that an interruption left takes
its segment from the stage buffers (R366). -/
def State.permuteRound (s : State) (c : Coll) (k : Nat) (bad : List Nat) : State :=
  let f := c.f
  let seg := f.seg c.ring.length k
  let s := s.setColl { c with stage := k }
  if !c.legs.any (fun l => l.out && l.stage == k) then s.expectLegs c k (fun _ i => .va (f.src + seg.1 + i))
  else if s.fromStage c k then
    let b := s.stageBytes seg.2
    let s := s.expectLegs c k (fun _ i => .va (f.src + seg.1 + i))
    s.sendLegs c k (fun _ => b)
  else
    let r := s.accRead bad c.account (f.src + seg.1) seg.2
    let s := (s.takeUnc c.account r.fresh).addCollStat c.id (if r.unc then 0x20 else if r.lost then 0x21 else 0)
    let s := (List.range ((seg.2 + 65535) / 65536)).foldl (fun s i =>
      s.putPayload c.account (.stage 0) (65536 * i) ((r.bytes.drop (65536 * i)).take 65536)) s
    let s := s.expectLegs c k (fun _ i => .va (f.src + seg.1 + i))
    s.sendLegs c k (fun _ => r.bytes)

/-- Send this module's own part of a collective. -/
def State.sendOwn (s : State) (c : Coll) (bad : List Nat) : State :=
  let f := c.f
  let j := c.ring.length
  let pos := c.ring.idxOf (s.rankOf c.account)
  let c := { c with waiting := false }
  let s := s.setColl c
  let read := fun va n => s.accRead bad c.account va n
  let note := fun (r : RdRes) => (s.takeUnc c.account r.fresh).addCollStat c.id (if r.unc then 0x20 else if r.lost then 0x21 else 0)
  match f.op with
  | 1 =>
    let n := f.legBytes j 0 pos pos
    let r := read f.src n
    let s := note r
    let s := if f.sparse then s else s.clrWrite c (f.dst + f.inOff (f.span j pos).1) r.bytes r.poisAt
    s.sendLegs c 0 (fun _ => r.bytes)
  | 2 | 3 =>
    let r := read f.src f.srcBytes
    let s := note r
    s.sendLegs c 0 (fun l =>
      let q := c.ring.idxOf l.peer
      if f.sparse then f.wireList j q r.bytes
      else
        let sp := f.span j q
        (List.range (sp.2 - sp.1)).flatMap (fun k => f.wireElem r.bytes f.elems (sp.1 + k)))
  | 4 => s.permuteRound c f.startRound bad
  | 5 =>
    let r := read f.src f.elems
    let s := note r
    if j = 1 then
      (List.range ((f.elems + 65535) / 65536)).foldl (fun s i =>
        s.putPayload c.account (.stage (f.slot * f.elems)) (65536 * i) ((r.bytes.drop (65536 * i)).take 65536)) s
    else s.sendLegs c 0 (fun _ => r.bytes)
  | _ => s

/-! ### Reductions (R357, R358) -/

/-- The bytes a peer sent in a stage of a collective. -/
def State.rxBytes (s : State) (c : Coll) (peer stage : Nat) : List Byte :=
  (s.fab.rx.filter (fun m => m.coll == c.id && m.peer == peer && m.stage == stage)).flatMap (fun m => m.got.flatMap (·.2))

/-- Combine the inputs of one element in the order of R357: those of positions c + 1, c + 2, ... c. -/
def ClrF.combine (f : ClrF) (xs : List (List Byte)) : List Byte × FV :=
  let vals := xs.map leNat
  if f.maxor then
    let m := vals.foldl max 0
    (natLe f.w m, .nan)
  else
    match vals.map f.acc.decode with
    | [] => ([], fvZero false)
    | x :: rest => let v := rest.foldl (fun a y => f.acc.rv .rne (FV.add false a y)) x; ([], v)

/-- Encode sums into the output format: bytes and outcomes; `first` is the index in the whole tensor of the first. -/
def ClrF.encode (f : ClrF) (first : Nat) (vs : List (List Byte × FV)) : List Byte × List ElemOut :=
  if f.maxor then (vs.flatMap (·.1), [])
  else
    let narrow := f.outFmt == 2
    outRow (fmtOf f.outFmt) (fun i => rmOf f.rnd false narrow
      (stoDraw (BitVec.ofNat 64 f.seed) (BitVec.ofNat 24 f.tensorId) (first + i))) (vs.map (fun v => (v.2, false)))

/-- Form the reductions of this module's chunk and write them; an ALL_REDUCE sends them on. -/
def State.formColl (s : State) (c : Coll) : State :=
  let f := c.f
  let j := c.ring.length
  let me := s.rankOf c.account
  let pos := c.ring.idxOf me
  let own := s.accRead [] c.account f.src f.srcBytes
  let order := (List.range j).map (fun i => c.ring.getD ((pos + 1 + i) % j) me)
  let sp := f.span j pos
  let gs := f.gspan j pos
  if f.sparse then
    let lists := order.map (fun r =>
      getList (if r = me then f.wireList j pos own.bytes else s.rxBytes c r 0) f.gn (f.granule * f.w))
    let rows := (lists.flatMap (fun l => l.map (·.1))).foldl (fun acc r => ins r acc) []
    let outs := rows.map (fun r =>
      let xs := lists.filterMap (fun l => (l.find? (fun e => e.1 == r)).map (·.2))
      (r, f.encode (r * f.granule) ((List.range f.granule).map (fun k =>
        f.combine (xs.map (fun b => slice b (k * f.w) f.w))))))
    let b := putList (outs.map (fun o => (o.1, o.2.1))) (gs.2 - gs.1) (f.granule * f.outB)
    let els := (outs.flatMap (fun o => o.2.2)).zipIdx.map (fun p => (p.2, p.1))
    let c := { c with own := b, formed := true, result := mkResult els false 0, stage := if f.op = 3 then 1 else 0 }
    let s := (s.setColl c).clrWrite c f.dst (if f.op = 2 then b else []) []
    if f.op = 3 then s.sendLegs c 1 (fun _ => b) else s
  else
    let parts := order.map (fun r =>
      if r = me then (List.range (sp.2 - sp.1)).flatMap (fun k => f.wireElem own.bytes f.elems (sp.1 + k)) else s.rxBytes c r 0)
    let vs := (List.range (sp.2 - sp.1)).map (fun k => f.combine (parts.map (fun b => slice b (k * f.w) f.w)))
    let e := f.encode sp.1 vs
    let els := e.2.zipIdx.map (fun p => (p.2, p.1))
    let c := { c with formed := true, result := mkResult els false 0, stage := if f.op = 3 then 1 else 0 }
    let ps := (List.range (sp.2 - sp.1)).flatMap (fun k =>
      if ((fmtOf f.inFmt).elemBytes f.elems (sp.1 + k)).any (fun i => own.pois.getD i false) then
        (List.range f.outB).map (k * f.outB + ·) else [])
    let s := (s.setColl c).clrWrite c (f.dst + (if f.op = 3 then sp.1 * f.outB else 0)) e.1 ps
    if f.op = 3 then s.sendLegs c 1 (fun _ => e.1) else s

/-- Every message of a stage has arrived. -/
def State.stageIn (s : State) (c : Coll) (stage : Nat) : Bool :=
  (s.fab.rx.filter (fun m => m.coll == c.id && m.stage == stage)).all RxMsg.complete

/-- Form what can be formed. -/
def State.advanceColls (s : State) : State :=
  s.fab.colls.foldl (fun s c =>
    if (c.f.op = 2 ∨ c.f.op = 3) ∧ !c.waiting ∧ !c.formed ∧ s.stageIn c 0 then s.formColl c else s) s

/-- A message for memory that is not free yet: its collective is held back. Its packets are not taken, and their sender
resends them (R346, R347). (DEDUCED, log entry 75.) -/
def State.heldBack (s : State) (acct peer msg : Nat) : Bool :=
  s.fab.colls.any (fun c => c.account == acct && !c.opened && c.legs.any (fun l => l.peer == peer && !l.out &&
    decide ((msg + 2 ^ 32 - l.msg % 2 ^ 32) % 2 ^ 32 < (l.len + msgBytes - 1) / msgBytes)))

/-- A DATA packet on a plane, in a frame whose FCS holds or fails (R339), `marked` by congestion (R347, R350). (DESIGN CHOICE, log entry 4.) -/
def execDataPacketReceive (plane : Fin 16) (packet : Arrived) (marked : Bool) (s : State) : Res :=
  let b := packet.bytes
  if 8224 < b.length then .fault .illFormed
  else .next (s.working fun s =>
    if !s.portUp plane then s
    else if !packet.fcs then s.inc F.ETH_CRC_DROP_COUNT
    else match s.checkPacket 1 b with
      | (s, none) => s
      | (s, some (acct, peer)) =>
        let p := s.path acct peer plane
        if s.heldBack acct peer (field b 12 4) then s
        else match p.receive (psnNear p.rxNext (field b 16 4)) s.clk.now (b.length - 32)
            (marked && !s.flag F.ETH_ENCAP_MODE) with
        | none => s.setPath { p with rxOldest := some (p.rxOldest.getD s.clk.now) }
        | some p =>
          let s := (s.setPath p).takePayload acct peer (field b 12 4) (field b 20 4) (b.drop 32)
          let s := if 16 ≤ p.rxUnacked then s.sendAck acct peer plane else s
          s.advanceColls)

/-! ### Waiting (R361, R362, R369) -/

/-- Every earlier gather that the look-ahead holds back has been followed by its DROP. (DEDUCED, log entry 76.) -/
def State.jitOk (s : State) (c : Coll) : Bool :=
  !(c.f.op == 1 && c.f.jit) || s.fab.jit.all (fun e =>
    e.account != c.account || e.step != c.step || e.dropped ||
      decide (c.f.seq < e.seq + s.rd F.CLR_CTRL_LOOKAHEAD + 1))

/-- READY_VA holds READY_STEP or a larger value. -/
def State.readyOk (s : State) (c : Coll) : Bool :=
  !c.f.waitReady || decide (c.f.readyStep ≤ leNat (s.accRead [] c.account c.f.readyVa 8).bytes)

/-- No permute holds the stage buffers (R369). -/
def State.stageFree (s : State) (c : Coll) : Bool := c.f.op != 5 || !s.permuteOn

/-- What the collective reads lies in no share whose port retrains (R297). -/
def State.reachable (s : State) (c : Coll) : Bool :=
  (c.f.regions c.ring.length (c.ring.idxOf (s.rankOf c.account))).all (fun r => r.2.2 || !s.accWaits c.account r.1 r.2.1)

/-- The memory it receives into is free: its receive side may open (R346). -/
def State.mayOpen (s : State) (c : Coll) : Bool := s.jitOk c && s.stageFree c

def State.mayStart (s : State) (c : Coll) : Bool := s.mayOpen c && s.readyOk c && s.reachable c

/-- Where an incoming leg's message goes. -/
def Coll.dstOf (c : Coll) (l : Leg) (i : Nat) : RxDst :=
  let f := c.f
  let q := c.ring.idxOf l.peer
  match f.op with
  | 1 => if f.sparse then .buffer else .va (f.dst + f.inOff (f.span c.ring.length q).1 + i)
  | 3 => if l.stage = 0 ∨ f.sparse then .buffer else .va (f.dst + (f.span c.ring.length q).1 * f.outB + i)
  | 5 => .stage (f.slot * f.elems + i)
  | _ => .buffer

/-- The receive side opens: what is due is expected and its credits granted; a permute does so round by round. -/
def State.openColl (s : State) (c : Coll) : State :=
  if c.opened || !s.mayOpen c then s
  else
    let s := s.setColl { c with opened := true }
    if c.f.op = 4 then s else (s.expectLegs c 0 c.dstOf).expectLegs c 1 c.dstOf

/-- A waiting collective opens and sends its part as far as it may now. -/
def State.wakeColl (s : State) (bad : List Nat) (c : Coll) : State :=
  if !c.waiting then s
  else
    let s := s.openColl c
    if s.mayStart c then s.sendOwn { c with opened := true } bad else s

/-- Collectives that waited and may start now send their part. -/
def State.wakeColls (s : State) (bad : List Nat) : State := (s.fab.colls.foldl (fun s c => s.wakeColl bad c) s).advanceColls

/-! ### Issue -/

/-- The next clearing order of the running batch of a queue, with its place. -/
def State.nextClr (s : State) (n : Nat) : Option (Nat × SubOrder) :=
  match s.runBatch n with
  | none => none
  | some b => (b.clr.zipIdx.find? (fun p => !p.1.issued)).map (fun p => (p.2, p.1))

/-- Issue a clearing order that is not a DROP. (DEDUCED, log entry 74.) -/
def State.startColl (s : State) (n acct index step : Nat) (b : List Byte) (bad : List Nat) : State :=
  let f := clrF b
  let s := s.rejoin
  let me := s.rankOf acct
  let c : Coll := ⟨s.fab.nextColl, acct, n, index, step, b, (s.book acct f.book).getD [], (s.book acct f.fromBook).getD [],
    true, false, f.startRound * b2n (f.op == 4), false, [], [], [], noResult 0 0 0, []⟩
  let plan := c.plan me
  let peers := (plan.map (·.1)).eraseDups
  let c := { c with planes := peers.map (fun r => (r, s.planesTo acct r)) }
  let t := BitVec.ofNat 32 f.tag
  let jit := if f.op = 1 ∧ f.jit then s.fab.jit.filter (fun e => e.account != acct || e.step == step) ++ [⟨acct, step, f.seq, false⟩]
    else s.fab.jit
  let lay := if f.op = 5 then s.fab.layouts
    else (acct, if f.op = 4 then f.src else f.dst, f.granule) ::
      s.fab.layouts.filter (fun l => !(l.1 == acct && l.2.1 == (if f.op = 4 then f.src else f.dst)))
  let kept := if f.op = 4 ∨ f.op = 5 then s.fab.staged.filter (fun x => f.op == 4 && x == (acct, f.src, f.startRound))
    else s.fab.staged
  let s := { s with fab := { s.fab with nextColl := s.fab.nextColl + 1, jit := jit, layouts := lay, staged := kept,
                                        doneTags := s.fab.doneTags.filter (fun p => !(p.1 == acct && p.2 == t)) } }
  let r := s.allocLegs acct plan
  let c := { c with legs := r.2 }
  let s := { r.1 with fab := { r.1.fab with colls := r.1.fab.colls ++ [c] } }
  match c.planes.find? (fun p => p.2.isEmpty) with
  | some p => s.loseColl c p.1
  | none => s.wakeColls bad

/-- The dispatchers of a queue issue its next clearing order when its OP is one `k` accepts (R355). -/
def State.clrCmd (s : State) (n : Nat) (k : Nat → Bool) (dev : DevEvents) : State :=
  let s := (s.devAccess dev).wakeColls dev.bad
  match s.queue n, s.runBatch n, s.nextClr n with
  | some q, some b, some (i, o) =>
    if !k (field o.bytes 0 1) || !(s.queueDies q).all s.fwRuns then s
    else
      let s := s.updRun n (fun b => { b with clr := b.clr.zipIdx.map (fun p => if p.2 = i then { p.1 with issued := true } else p.1) })
      let step := b.step.getD 0
      let why := s.clrReason q.account step o.bytes
      if why ≠ 0 then s.abortClr n q.account i (clrF o.bytes).tag why
      else s.startColl n q.account i step o.bytes dev.bad
  | _, _, _ => s

/-- A clearing order of no OP comes up as a gather and is malformed. (DEDUCED, log entry 76.) -/
def execAllGather (queue : BitVec 8) (dev : DevEvents) (s : State) : Res :=
  .next (s.working fun s => s.clrCmd queue.toNat (fun op => op == 1 || op == 0 || decide (6 < op)) dev)

def execReduceScatter (queue : BitVec 8) (dev : DevEvents) (s : State) : Res :=
  .next (s.working fun s => s.clrCmd queue.toNat (· == 2) dev)

def execAllReduce (queue : BitVec 8) (dev : DevEvents) (s : State) : Res :=
  .next (s.working fun s => s.clrCmd queue.toNat (· == 3) dev)

def execPermute (queue : BitVec 8) (dev : DevEvents) (s : State) : Res :=
  .next (s.working fun s => s.clrCmd queue.toNat (· == 4) dev)

def execRingPass (queue : BitVec 8) (dev : DevEvents) (s : State) : Res :=
  .next (s.working fun s => s.clrCmd queue.toNat (· == 5) dev)

/-- A JIT gather that the look-ahead held back starts (R361). -/
def execJitGatherStart (account : Fin 64) (tag : W32) (s : State) : Res :=
  .next (s.working fun s =>
    match s.fab.colls.find? (fun c => c.account == account.val && c.f.tag == tag.toNat && c.f.jit && c.waiting) with
    | some c => if s.jitOk c then (s.wakeColl [] c).advanceColls else s
    | none => s)

/-- Batches of an account admitted before the running batch of queue `n` are still outstanding; of those admitted in its count,
the ones of lower queues came before it. (DEDUCED, log entry 76.) -/
def State.readersLeft (s : State) (n acct : Nat) (b : Batch) : Bool :=
  s.wrt.queues.any (fun q => q.2.account == acct && q.2.batches.any (fun x =>
    decide (x.admittedAt < b.admittedAt) || decide (x.admittedAt = b.admittedAt ∧ q.1 < n)))

/-- DROP ends the use of a layer once the orders before it that read the layer have completed (R361, R363). (DEDUCED, log entry 76.) -/
def execDrop (queue : BitVec 8) (s : State) : Res :=
  let n := queue.toNat
  .next (s.working fun s =>
    match s.queue n, s.runBatch n, s.nextClr n with
    | some q, some b, some (i, o) =>
      let f := clrF o.bytes
      if f.op ≠ 6 ∨ s.readersLeft n q.account b ∨ !(s.queueDies q).all s.fwRuns then s
      else
        let s := s.updRun n (fun b => { b with clr := b.clr.zipIdx.map (fun p => if p.2 = i then { p.1 with issued := true } else p.1) })
        let why := s.clrReason q.account (b.step.getD 0) o.bytes
        if why ≠ 0 then s.abortClr n q.account i f.tag why
        else
          let l := s.fab.jit.map (fun e =>
            if e.account = q.account ∧ e.step = b.step.getD 0 ∧ e.seq = f.seq then { e with dropped := true } else e)
          let s := { s with fab := { s.fab with jit := l } }
          (s.finishClr n q.account i f.tag 0 (noResult 0 0 0)).wakeColls []
    | _, _, _ => s)

/-- A round of a permute has ended on every module: this module's segment has arrived and its own is acknowledged. -/
def execPermuteRoundEnd (account : Fin 64) (tag : W32) (s : State) : Res :=
  .next (s.working fun s =>
    match s.fab.colls.find? (fun c => c.account == account.val && c.f.tag == tag.toNat && c.f.op == 4) with
    | none => s
    | some c =>
      if c.waiting || c.formed || !s.stageIn c c.stage || s.fab.tx.any (fun m => m.coll == c.id) then s
      else if c.stage = 7 then ((s.setColl { c with formed := true }).flushStage).wakeColls []
      else s.permuteRound c (c.stage + 1) [])

/-- Lists gathered by a sparse gather or ALL_REDUCE, as one list at DST_VA. -/
def State.sparseGather (s : State) (c : Coll) : State :=
  let f := c.f
  let j := c.ring.length
  let me := s.rankOf c.account
  let pos := c.ring.idxOf me
  let n := if f.op = 3 then f.granule * f.outB else f.inOff f.granule
  let stage := if f.op = 3 then 1 else 0
  let own := if f.op = 1 then (s.accRead [] c.account f.src (f.legBytes j 0 pos pos)).bytes
    else c.own
  let rows := c.ring.flatMap (fun r => getList (if r = me then own else s.rxBytes c r stage) f.gn n)
  s.clrWrite c f.dst (let b := rows.flatMap (fun r => natLe 4 r.1 ++ r.2); if rows.length < f.gn then b ++ listEnd else b) []

/-- A collective has received everything it is due and every message it sent is acknowledged (R364). -/
def State.collDone (s : State) (c : Coll) : Bool :=
  !c.waiting && (s.fab.rx.filter (fun m => m.coll == c.id)).all RxMsg.complete &&
    !s.fab.tx.any (fun m => m.coll == c.id) &&
    (match c.f.op with | 2 | 3 | 4 => c.formed | 5 => !s.permuteOn | _ => true)

def execCollectiveComplete (account : Fin 64) (tag : W32) (s : State) : Res :=
  .next (s.working fun s =>
    match s.fab.colls.find? (fun c => c.account == account.val && c.f.tag == tag.toNat && s.collDone c) with
    | none => s
    | some c =>
      let s := if c.f.sparse && (c.f.op == 1 || c.f.op == 3) then s.sparseGather c else s
      let c := (s.coll c.id).getD c
      (s.endColl c c.result.status).wakeColls [])

/-! ### Faults of the transport (R348, R349, R376) -/

/-- Collectives of an account that exchange with a peer. -/
def State.collsWith (s : State) (acct peer : Nat) : List Coll :=
  s.fab.colls.filter (fun c => c.account == acct && c.legs.any (fun l => l.peer == peer))

/-- 1 s without a packet from a peer with which a message is under way, either way, or a third RESEND of one of its messages
(R348). -/
def execPeerSilenceTimeout (account : Fin 64) (peer : BitVec 13) (s : State) : Res :=
  .next (s.working fun s =>
    let owed := s.fab.rx.filter (fun m => m.account == account.val && m.peer == peer.toNat && !m.complete)
    let silent := match s.peer account peer.toNat with
      | some p => s.after p.lastHeard (second 1)
      | none => false
    let sent := s.fab.tx.filter (fun m => m.account == account.val && m.peer == peer.toNat)
    let gone := s.collsWith account peer.toNat |>.filter (fun c =>
      owed.any (fun m => m.coll == c.id && (silent || decide (3 ≤ m.resends))) ||
        (silent && sent.any (fun m => m.coll == c.id)))
    gone.foldl (fun s c => s.loseColl c peer.toNat) s)

/-- A path with data outstanding and no ACK for 50 ms is dead: its stripes move to the next plane of each list, and the
plane leaves the lists; an empty list ends the collective. -/
def execPathDead (account : Fin 64) (peer : BitVec 13) (plane : Fin 16) (s : State) : Res :=
  .next (s.working fun s =>
    let r := peer.toNat
    let p := s.path account r plane
    if p.unacked.isEmpty || !s.after p.lastAck (msec 50) then s
    else
      let next := fun (l : List Nat) => (l.find? (fun q => decide (plane.val < q))).getD (l.headD 0)
      let cut := fun (l : List Nat) => l.filter (· != plane.val)
      let tx := s.fab.tx.map (fun m =>
        if m.account = account.val ∧ m.peer = r then
          let l := cut m.planes
          let back := (p.unacked.filter (fun k => k.msg == m.msg)).map (fun k => (k.off, k.bytes.length, plane.val))
          { m with planes := l, pend := (back ++ m.pend).map (fun c => if c.2.2 = plane.val then (c.1, c.2.1, next l) else c) }
        else m)
      let colls := s.fab.colls.map (fun c => if c.account = account.val then
        { c with planes := c.planes.map (fun q => if q.1 = r then (q.1, cut q.2) else q) } else c)
      let paid := (p.unacked.map (fun k => creditUnits k.bytes.length)).sum + p.held
      let s := { s with fab := { s.fab with tx := tx, colls := colls } }.setPath { p with unacked := [], credits := 0, spare := 0 }
      let to_ := next (cut (s.planesTo account r))
      let t := s.path account r to_
      let s := (s.setPath (t.credit paid)).pump
      ((s.collsWith account r).filter (fun c => (c.planesFor r).isEmpty)).foldl (fun s c => s.loseColl c r) s)

/-- A peer table is loaded: collectives with a rank whose generation has changed complete LINK_LOST (R351, R376). -/
def State.reloadPeers (s : State) (acct : Nat) (a : Acct) : State :=
  let r := s.loadPeers acct a
  r.2.foldl (fun s p => (s.collsWith acct p).foldl (fun s c => s.loseColl c p) s) r.1

/-! ### Waits on other modules (R78) -/

/-- Data or credits of a collective are owed by another module. -/
def State.collOwed (s : State) (c : Coll) : Bool :=
  !c.waiting && (s.fab.rx.any (fun m => m.coll == c.id && !m.complete) ||
    s.fab.tx.any (fun m => m.coll == c.id && !m.pend.isEmpty))

/-- The batch that runs on a queue waits on other modules: for a collective of its own or one it awaits, or with an UPDATE
for the exchange of a gate. -/
def State.remoteWait (s : State) (n acct : Nat) (b : Batch) : Bool :=
  s.fab.colls.any (fun c => s.collOwed c && (c.queue == n ||
    (!b.begun && c.account == acct && b.tags.any (fun t => t.toNat == c.f.tag)))) ||
  (s.train.lomef.any (fun p => match p.2 with
    | o :: _ => o.queue == n && o.kind == 2 && !o.running &&
        s.train.gates.any (fun g => g.account == acct && g.step == o.step && g.enteredAt.isSome)
    | [] => false))

end Sys2Proof.Machine
end

