-- ==== Sys2Proof/Machine/Flags.lean ====
section
/-! DEFINITION. What a read of control space shows: the fields that follow the state of a unit, and the windows (R13 to R18,
R471, R563). -/

namespace Sys2Proof.Machine

/-- Seconds left of the 600 s hold, 0 when none (GLB_SESSION.HOLD_LEFT). (DEDUCED, log entry 25.) -/
def State.holdLeft (s : State) : Nat :=
  let from_ := match s.sess.lapsedAt with
    | some t => if s.sess.token.isSome then some t else none
    | none => s.sess.heldAccts.head?.map (·.2)
  match from_ with
  | some t => 600 - (s.clk.now - t) / 25000000
  | none => 0

/-- Collectives of the queues that a die serves. (DEDUCED, log entry 27.) -/
def State.dieColls (s : State) (d : Nat) : List Coll :=
  s.fab.colls.filter (fun c => match s.queue c.queue with
    | some q => (s.queueDies q).contains d
    | none => false)

/-- Put several fields in a word. -/
def putFields (w : W64) (l : List (Field × Nat)) : W64 := l.foldl (fun w p => putField w p.1 p.2) w

/-- A restart has begun within the last 10 s (WRT_STATUS.RESTART_WINDOW). -/
def State.restartWindow (s : State) : Bool := s.wrt.restarts.any (fun t => !s.after t (second 10))

/-- Grain requests of a loader transfer that runs on a core, by the channels they go to. -/
def State.ldGrains (s : State) (core : Nat) (o : Order) : List Nat :=
  let f := o.ldF
  let n := if f.out then f.dstBytes else f.srcBytes
  (List.range (if f.out then f.dstRows else f.rows)).flatMap (fun i =>
    (grains (f.rowVa i) n).filterMap (fun p => (s.accKey (s.coreAcct core) p.2.1 f.out).map (· / 2 ^ 32)))

/-- Requests in a channel's reorder queue, of 64 entries: the grains of the loader transfers that run (R282). (DESIGN CHOICE, log entry 98.) -/
def State.chanQueue (s : State) (ch : Nat) : Nat :=
  min 64 ((s.cpu.loaders.map (fun l => match l.2 with
    | o :: _ => if o.running && !o.finished then (s.ldGrains l.1 o).countP (· == ch) else 0
    | [] => 0)).sum)

/-- Fields of a register that follow the state, by the register's number; `inst` is the die or chip, `idx` the element. (DEDUCED, log entry 25.) -/
def State.liveFields (s : State) (reg inst idx : Nat) : List (Field × Nat) :=
  let colls := s.dieColls inst
  let permute := colls.find? (fun c => c.f.op == 4 && !c.waiting)
  if reg = F.WRT_NOW_COUNT.key then [(F.WRT_NOW_COUNT, s.clk.now)]
  else if reg = F.WRT_STATUS_BROKEN.key then
    [(F.WRT_STATUS_RESTART_WINDOW, b2n s.restartWindow), (F.WRT_STATUS_LOWER_PENDING, b2n (s.rd F.PWR_VDDF_PENDING != 0)),
      (F.WRT_STATUS_HW_DROP, b2n s.hwDrop), (F.WRT_STATUS_UNATTENDED, b2n s.unattended),
      (F.WRT_STATUS_OUTSTANDING, s.allBatches.length)]
  else if reg = F.WRT_RATE_SET_RATE.key then [(F.WRT_RATE_SET_RATE, rateG s.setPointBasis), (F.WRT_RATE_FLOOR_RATE, rateG 60)]
  else if reg = F.MEM_CH_STATE_STATE.key then [(F.MEM_CH_STATE_QUEUE, s.chanQueue (128 * inst + idx))]
  else if reg = F.STR_TBL_DATA_LOGICAL.key then [(F.STR_TBL_DATA_LOGICAL, s.tblValue inst)]
  else if reg = F.CLR_STATUS_BUSY.key then
    [(F.CLR_STATUS_BUSY, b2n (!colls.isEmpty)), (F.CLR_STATUS_PERMUTE, b2n permute.isSome),
      (F.CLR_STATUS_ROUND, (permute.map (·.stage)).getD 0),
      (F.CLR_STATUS_RING_WAIT, b2n (colls.any (fun c => c.f.op == 5 && c.waiting))), (F.CLR_STATUS_ACTIVE, colls.length)]
  else if reg = F.GLB_SESSION_ATTACHED.key then
    [(F.GLB_SESSION_ATTACHED, b2n s.attached), (F.GLB_SESSION_UNATTENDED, b2n s.unattended),
      (F.GLB_SESSION_HOLD_LEFT, s.holdLeft)]
  else if reg = F.DBK_STATUS_COUNT.key then
    [(F.DBK_STATUS_COUNT, s.nor.book.length), (F.DBK_STATUS_FROZEN, b2n s.dbk.frozenAt.isSome)]
  else if reg = F.DBK_SEQ_NEXT.key then [(F.DBK_SEQ_NEXT, s.dbk.seqNext.toNat), (F.DBK_SEQ_STAGED, s.dbk.staging.length)]
  else if reg = F.DBK_FREEZE_HELD.key then [(F.DBK_FREEZE_HELD, s.dbk.holding.length)]
  else if reg = F.DBK_OPSEC_SECONDS.key then [(F.DBK_OPSEC_SECONDS, s.clk.opsec)]
  else if reg = F.DBK_POWER_CYCLES.key then [(F.DBK_POWER_CYCLES, s.nor.power)]
  else if reg = F.DBK_NONCE_WORD.key then
    [(F.DBK_NONCE_WORD, ((s.nonceLive s.dbk.nonce).getD 0).toNat / 2 ^ (32 * idx))]
  else if reg = F.DBK_WINDOW_WORD.key then [(F.DBK_WINDOW_WORD, (s.windowWord idx).toNat)]
  else if reg = F.TRS_NONCE_WORD.key then
    [(F.TRS_NONCE_WORD, ((s.nonceLive s.trust.nonce).getD 0).toNat / 2 ^ (32 * idx))]
  else []

/-- A Lomef window by the state of its chip (R563): zero before bring-up and when retired; LOST alone when lost. -/
def State.lomefReg (s : State) (r : RegInfo) (chip idx : Nat) : W64 :=
  if s.shareUp chip then s.reg (regKey r.key chip idx)
  else if r.key = F.LMF_STATUS_LOST.key ∧ s.shareLost chip then putField 0 F.LMF_STATUS_LOST 1
  else 0

/-- What a register element reads as. (DEDUCED, log entry 25; DESIGN CHOICE, log entry 28.) -/
def State.readReg (s : State) (r : RegInfo) (inst idx : Nat) : W64 :=
  if r.page = 32 then s.lomefReg r inst idx
  else putFields (s.reg (regKey r.key inst idx)) (s.liveFields r.key inst idx)

/-- ALERT_N is low (R543). -/
def State.alert (s : State) : Bool :=
  s.flag F.GLB_STATE_RESTART_NEEDED || s.hwDrop || s.flag F.PWR_LIMIT_TRIP_THERMAL || s.flag F.PWR_LIMIT_TRIP_CURRENT ||
    s.flag F.PWR_LIMIT_TRIP_CLOCK || s.flag F.MGT_COOL_LIMIT_WARN

/-- The word the I2C status target gives at an offset (R544): while the main rails are off all but PWR_LIMIT and MGT_COOLANT
read zero. (DEDUCED, log entry 47.) -/
def State.i2cWord (s : State) (off : Nat) : Nat :=
  let on := fun (f : Field) => if s.pow.mainRails then (s.reg f.key).toNat else 0
  match off with
  | 0x00 => on F.GLB_STATE_STATE
  | 0x04 => on F.PWR_INPUT_CURRENT_MA
  | 0x08 => on F.PWR_TJ_DIE0
  | 0x0C => on F.PWR_TJ_HUB_HUB
  | 0x10 => (s.reg F.PWR_LIMIT_TRIP_CLOCK.key).toNat
  | 0x14 => (s.reg F.MGT_COOLANT_INLET.key).toNat
  | 0x18 => on F.ASZ_NOW_VOLTAGE
  | _ => 0

/-- The byte the FRU memory gives at an offset, rails on or off: 2 KiB, which no command writes (R544). (DESIGN CHOICE, log entry
107.) -/
def fruByte (off : Nat) : Byte := Config.fruByte (BitVec.ofNat 11 off)

/-! ### Where an access falls (R19, R555 to R558) -/

/-- First address of a block page: a hub block, a block of a die, a Lomef window. -/
def pageBase (page inst : Nat) : Nat :=
  if page < 16 then 0x3F0000000000 + page * 0x10000
  else if page < 32 then 0x3F0001000000 + inst * 0x1000000 + (page - 16) * 0x10000
  else 0x3F0000200000 + inst * 0x10000

/-- Page, instance and offset of an address of control space; none in an unassigned range. -/
def pageOf (a : Nat) : Option (Nat × Nat × Nat) :=
  let x := a - 0x3F0000000000
  if x < 0xB0000 then some (x / 65536, 0, x % 65536)
  else if 0x200000 ≤ x ∧ x < 0x280000 then some (32, (x - 0x200000) / 65536, x % 65536)
  else if 0x1000000 ≤ x ∧ x < 0x5000000 then
    let o := x % 0x1000000
    if o < 0x70000 then some (16 + o / 65536, x / 0x1000000 - 1, o % 65536) else none
  else none

/-- Bytes of a register. -/
def RegInfo.width (r : RegInfo) : Nat := if r.w64 then 8 else 4

/-- The element of a register that holds an offset, if one does. -/
def RegInfo.elem (r : RegInfo) (off : Nat) : Option Nat :=
  (List.range r.cnt).find? (fun i => decide (r.off + i * r.stride ≤ off ∧ off < r.off + i * r.stride + r.width))

/-- The register and element at an offset of a page. -/
def regAt (page off : Nat) : Option (RegInfo × Nat) :=
  (regTable.filter (fun r => r.page == page)).findSome? (fun r => (r.elem off).map (fun i => (r, i)))

/-- What an access reaches: a whole register, the lower or upper half of a 64-bit register, an offset with no register, an
unassigned range, nothing of control space; or it has the wrong size or alignment. -/
inductive Target where
  | whole (r : RegInfo) (inst idx : Nat)
  | lower (r : RegInfo) (inst idx : Nat)
  | upper (r : RegInfo) (inst idx : Nat)
  | empty
  | unassigned
  | outside
  | wrong
  deriving DecidableEq, Repr

/-- The target of a 32-bit access at an offset. (DEDUCED, log entry 23.) -/
def target32 (page inst off : Nat) : Target :=
  match regAt page off with
  | none => .empty
  | some (r, i) =>
    if !r.w64 then .whole r inst i
    else if off = r.off + i * r.stride then .lower r inst i else .upper r inst i

/-- Alignment and size are tested before the range (R19). (DEDUCED, log entry 23.) -/
def target (a width : Nat) : Target :=
  if a < 0x3F0000000000 then .outside
  else if (width ≠ 4 ∧ width ≠ 8) ∨ a % width ≠ 0 then .wrong
  else match pageOf a with
    | none => .unassigned
    | some (page, inst, off) =>
      if width = 4 then target32 page inst off
      else match target32 page inst off, target32 page inst (off + 4) with
        | .lower r inst i, _ => .whole r inst i
        | .empty, .empty => .empty
        | _, _ => .wrong

/-! ### Who reaches what (R559, R542) -/

/-- Registers that the service responder writes. (DEDUCED, log entry 47.) -/
def serviceWrites : List Nat :=
  [F.DBK_CURSOR_INDEX.key, F.DBK_FREEZE_FREEZE.key, F.DBK_CLEAR_NONCE.key, F.TRS_NONCE_CTRL_NEW.key, F.MGT_CTRL_IDENTIFY.key,
    F.GLB_RESET_KEY.key]

/-- A requester writes a register: the boot ROM no Lomef window, the responder the registers of R542. (DEDUCED, log entry 47.) -/
def writes (q : Requester) (page key : Nat) : Bool :=
  match q with
  | .service => serviceWrites.contains key
  | .bootRom => page != 32
  | .i2c => false
  | _ => true

/-- A requester reads a block. -/
def reads (q : Requester) (page : Nat) : Bool :=
  match q with
  | .service => decide (page < 8)
  | .bootRom => page != 32
  | .i2c => false
  | _ => true

end Sys2Proof.Machine
end

