-- ==== Sys2Proof/Machine/Dump.lean ====
section
/-! DEFINITION. The fatal dump (R479 to R483): its sections from the state of the units, and its header. The spec names what a
section holds and its size; the order of the parts within a section is the model's. (DESIGN CHOICE, log entry 44.) -/

namespace Sys2Proof.Machine

/-- Numbers of eight bytes. -/
def nums (l : List Nat) : List Byte := l.flatMap (natLe 8)

/-- Bytes that the spec names without saying what they hold: `part` of a section. -/
def dumpFree (sec part n : Nat) : List Byte := (List.range n).map (Config.dumpByte sec part)

/-! ### The sections (R481) -/

/-- Type 1: the last 4,096 records in write order, zero beyond them. -/
def State.dumpRecords (s : State) : List Byte :=
  let b := s.nor.book ++ s.dbk.staging
  let r := (b.drop (b.length - 4096)).flatMap DbkRec.bytes
  r ++ List.replicate (131072 - r.length) 0#8

/-- A 64-byte entry of the warrant table: queue, account, basis with its set point, deadline, admission time, digest. -/
def Batch.dumpEntry (b : Batch) (q : Queue) (free : Nat) : List Byte :=
  natLe 1 q.q ++ natLe 1 q.account ++ natLe 1 (b2n b.setBasis) ++ natLe 1 b.setPoint ++ natLe 4 0 ++ natLe 8 b.deadline ++
    natLe 8 b.admittedAt ++ natLe 8 0 ++ (dumpFree 2 free 32)

/-- Type 2: the outstanding warrants. The digest of a work descriptor has no layout: free bytes. -/
def State.dumpWarrants (s : State) : List Byte :=
  (s.wrt.queues.flatMap (fun q => q.2.batches.map (fun b => (b, q.2)))).zipIdx.flatMap (fun e =>
    e.1.1.dumpEntry e.1.2 (s.free + e.2))

/-- A hand-off record in its 64 KiB area (R441). -/
def Handoff.area (h : Option Handoff) : List Byte :=
  let b := match h with
    | some h => natLe 2 h.hrec ++ natLe 1 h.proc ++ [0#8] ++ natLe 4 h.version.toNat ++ natLe 4 h.body.length ++
        natLe 4 h.crc.toNat ++ h.body
    | none => []
  slice b 0 65536

/-- Type 3: SRAM, hand-off area, GLB_FW word and hardware queue of the 17 processors; what the SRAM and the queue hold is
free. -/
def State.dumpStewards (s : State) : List Byte :=
  (List.range 17).flatMap (fun p =>
    dumpFree 3 (64 * s.free + 2 * p) 524288 ++ Handoff.area (s.proc p).handoff ++ natLe 8 (s.reg (regKey F.GLB_FW_STATE.key 0 p)).toNat ++
      dumpFree 3 (64 * s.free + 2 * p + 1) (Config.queueBytes p))

/-- The registers of a block by rising offset. -/
def State.pageBytes (s : State) (page inst : Nat) : List Byte :=
  (List.range 16384).flatMap (fun w => match regAt page (4 * w) with
    | some (r, i) => if r.off + i * r.stride = 4 * w then natLe r.width (s.readReg r inst i).toNat else []
    | none => [])

/-- Type 4: every register, block by block in address order. -/
def State.dumpBlocks (s : State) : List Byte :=
  (List.range 11).flatMap (fun p => s.pageBytes p 0) ++ (List.range 8).flatMap (fun c => s.pageBytes 32 c) ++
    (List.range 4).flatMap (fun d => (List.range 7).flatMap (fun p => s.pageBytes (16 + p) d))

/-- A warrant queue with its completion ring. -/
def Queue.dumpBytes (q : Queue) : List Byte :=
  nums [q.q, q.account, q.subVa, q.subSlots, q.subHead, q.subTail, q.cplVa, q.cplSlots, q.cplHead, q.cplTail, q.lastDeadline,
    q.due.length] ++ q.due.flatMap id

def Post.dumpBytes (p : Post) : List Byte := nums [p.die, p.account, b2n p.layer, p.id, p.data.toNat]

def Coll.dumpBytes (c : Coll) : List Byte := nums [c.id, c.account, c.queue, c.index, c.stage] ++ slice c.bytes 0 64

def LOrder.dumpBytes (o : LOrder) : List Byte := nums [o.account, o.queue, b2n o.running, o.buffer] ++ slice o.bytes 0 64

/-- Type 5: warrant queues, completion rings, post queues, clearing and Lomef orders. -/
def State.dumpQueues (s : State) : List Byte :=
  s.wrt.queues.flatMap (fun q => q.2.dumpBytes) ++ s.train.posts.flatMap Post.dumpBytes ++ s.fab.colls.flatMap Coll.dumpBytes ++
    s.train.lomef.flatMap (fun l => l.2.flatMap LOrder.dumpBytes)

/-- The CSRs of a core that a program can read, by number. -/
def State.csrBytes (s : State) (c : Nat) : List Byte :=
  (List.range 4096).flatMap (fun n => match s.csrRead c n with
    | some v => natLe 8 v.toNat
    | none => [])

/-- Store, scalar, vector and mask registers, CSRs and program counter of a core. -/
def State.dumpCore (s : State) (c : Nat) : List Byte :=
  s.csRead c 0 2097152 ++ nums ((List.range 32).map (fun r => (s.sreg c (BitVec.ofNat 5 r)).toNat)) ++
    (List.range 32).flatMap (fun v => natLe 64 (s.vreg c v).toNat) ++
    (List.range 8).flatMap (fun m => natLe 64 (s.mreg c m).toNat) ++ s.csrBytes c ++ natLe 8 (s.pc c).toNat

/-- Type 6: the present cores. -/
def State.dumpCores (s : State) : List Byte := ((List.range 256).filter s.corePresent).flatMap s.dumpCore

/-- Type 7: the tile stores of the present engines. -/
def State.dumpTiles (s : State) : List Byte :=
  ((List.range 8192).filter (fun e => s.engPresent (e / 32) (e % 32))).flatMap (fun e => s.tsRead e 0 262144)

def Path.dumpBytes (p : Path) : List Byte :=
  nums [p.account, p.peer, p.plane, p.txPsn, p.credits, p.spare, p.limit, p.ackedBytes, p.unacked.length, p.lastAck, p.rxNext,
    p.rxAbove.length, p.rxUnacked, p.toGrant, p.granted] ++ nums (p.unacked.map (·.psn)) ++ nums p.rxAbove

def Peer.dumpBytes (p : Peer) : List Byte :=
  nums [p.account, p.peer, p.ports.toNat, p.lastHeard, p.txMsg, p.rxMsg] ++ slice p.entry 0 64

/-- Type 8: transport state of the paths, peer tables, the fabric block's registers with the port counters. -/
def State.dumpFabric (s : State) : List Byte :=
  s.fab.paths.flatMap Path.dumpBytes ++ s.fab.peers.flatMap Peer.dumpBytes ++ s.pageBytes 8 0

/-- The bytes of a section by its type; the records come from `r`, the units from `u`. -/
def dumpSection (r u : State) (t : Nat) : List Byte :=
  match t with
  | 1 => r.dumpRecords
  | 2 => u.dumpWarrants
  | 3 => u.dumpStewards
  | 4 => u.dumpBlocks
  | 5 => u.dumpQueues
  | 6 => u.dumpCores
  | 7 => u.dumpTiles
  | _ => u.dumpFabric

/-- The sections of a dump in order; tile stores under DMP_CTRL.TILES. -/
def State.dumpTypes (s : State) : List Nat :=
  if s.flag F.DMP_CTRL_TILES then [1, 2, 3, 4, 5, 6, 7, 8] else [1, 2, 3, 4, 5, 6, 8]

/-- A section of the directory: type, offset in 4 KiB units, bytes. -/
structure DumpSec where
  typ : Nat
  off : Nat
  bytes : List Byte
  deriving DecidableEq, Repr

/-- LENGTH of a section: whole units of 4 KiB. -/
def DumpSec.len (d : DumpSec) : Nat := ceilDiv d.bytes.length 4096

/-- Each section on the 4 KiB boundary after the one before, filled with zeros. -/
def placeSections (off : Nat) : List (Nat × List Byte) → List DumpSec
  | [] => []
  | (t, b) :: l =>
    let n := ceilDiv b.length 4096
    ⟨t, off, slice b 0 (4096 * n)⟩ :: placeSections (off + n) l

/-- All sections (R481). -/
def dumpSections (r u : State) : List DumpSec :=
  placeSections 1 (r.dumpTypes.map (fun t => (t, dumpSection r u t)))

/-! ### The header (R480) -/

def DumpSec.entry (d : DumpSec) : List Byte :=
  natLe 2 d.typ ++ natLe 2 0 ++ natLe 4 d.off ++ natLe 4 d.len ++ natLe 4 (crc32c d.bytes).toNat

/-- Some grains of the dump lie on a fenced group and are discarded (R298, R480). -/
def State.dumpIncomplete (s : State) : Bool := (List.range 4).any (fun d => s.rd F.MEM_STATUS_FENCED d != 0)

/-- "HLXDUMP1". -/
def dumpMagic : List Byte := [0x48#8, 0x4C#8, 0x58#8, 0x44#8, 0x55#8, 0x4D#8, 0x50#8, 0x31#8]

/-- The 4,096 bytes of the header. -/
def State.dumpHeader (s : State) (r : DbkRec) (secs : List DumpSec) : List Byte :=
  let len := (secs.map (fun d => d.off + d.len)).foldl max 1
  let head := dumpMagic ++ natLe 4 1 ++ natLe 4 secs.length ++ natLe 8 (4096 * len) ++ natLe 8 s.clk.now ++ r.bytes ++
    natLe 4 (b2n (s.flag F.DMP_CTRL_TILES) + 2 * b2n s.dumpIncomplete)
  let dir := slice (secs.flatMap DumpSec.entry) 0 256
  slice (head ++ natLe 4 (crc32c (head ++ dir)).toNat ++ List.replicate 56 0#8 ++ dir) 0 4096

/-! ### Writing (R479) -/

/-- Steps 2 to 4: the sections are in the extent, the units as they stood in `u`; the header is to follow. An earlier header
is gone. -/
def State.writeSections (s : State) (u : State) (r : DbkRec) : State :=
  let secs := dumpSections s u
  let h := s.dumpHeader r secs
  let s := s.dumpPut s.dumpBase (List.replicate 4096 0#8)
  let s := secs.foldl (fun s d => s.dumpPut (s.dumpBase + 4096 * d.off) d.bytes) s
  let s := ((s.st F.DMP_STATUS_WRITING 1).st F.DMP_STATUS_VALID 0).takeFrees (u.allBatches.length + 1)
  { s with boot := { s.boot with dump := some h } }

/-- Step 5: the header is written last, and the dump is counted. -/
def State.endDump (s : State) : State :=
  match s.boot.dump with
  | none => s
  | some h => { (s.dumpPut s.dumpBase h).inc F.DMP_STATUS_DUMPS with boot := { s.boot with dump := none } }

/-- Code 0x0051 tells of the freeze that a dump or its FATAL record cancelled (R474, R479). -/
def State.tellCancelled (s : State) : State :=
  match s.dbk.cancelled with
  | none => s
  | some held => { s with dbk := { s.dbk with cancelled := none } }.recordOpen 0x0051 (BitVec.ofNat 32 held) 0x0F10 0 0

end Sys2Proof.Machine
end

