-- ==== Sys2Proof/Machine/ExqSolver.lean ====
section
/-! DEFINITION. The exchequer's arithmetic (R381 to R392, R408 to R410): fixed point, the parameter table, the front stage,
the factorisation, the iteration and the adjoint solve. -/

namespace Sys2Proof.Machine

/-! ### Fixed point (R381 to R383) -/

/-- An exact value `m × 2^-e`. -/
structure Dy where
  m : Int
  e : Nat
  deriving DecidableEq, Repr

def Dy.add (x y : Dy) : Dy := ⟨x.m * 2 ^ y.e + y.m * 2 ^ x.e, x.e + y.e⟩
def Dy.mul (x y : Dy) : Dy := ⟨x.m * y.m, x.e + y.e⟩
def Dy.neg (x : Dy) : Dy := ⟨-x.m, x.e⟩
def Dy.sub (x y : Dy) : Dy := x.add y.neg
def Dy.le (x y : Dy) : Bool := decide (x.m * 2 ^ y.e ≤ y.m * 2 ^ x.e)
def Dy.max (x y : Dy) : Dy := if x.le y then y else x
def Dy.min (x y : Dy) : Dy := if x.le y then x else y

/-- The nearest integer to a quotient, ties to even. -/
def rne (num : Int) (den : Nat) : Int :=
  let q := num / den
  let r := (num % den).toNat
  if 2 * r < den then q else if den < 2 * r then q + 1 else if q % 2 = 0 then q else q + 1

/-- Bound to ±b; true when the value lay outside. -/
def satAt (b v : Int) : Int × Bool := if b < v then (b, true) else if v < -b then (-b, true) else (v, false)

/-- A quotient at width `f` (R382). -/
def fxQ (num : Int) (den f : Nat) : Int × Bool := satAt (2 ^ 31 - 1) (rne (num * 2 ^ f) den)

/-- fx(v, f) (R382). -/
def fx (v : Dy) (f : Nat) : Int × Bool := fxQ v.m (2 ^ v.e) f

/-- Align a product of width `w` to an accumulator of width `a` (R383 step 2). -/
def alignTo (p : Int) (w a : Nat) : Int × Bool :=
  if a < w then (p / 2 ^ (w - a), false)
  else
    let v := p * 2 ^ (a - w)
    if v < -(2 ^ 63) ∨ 2 ^ 63 ≤ v then satAt (2 ^ 63 - 1) v else (v, false)

/-- A dot product of exact products and their widths, at width `f` (R383). -/
def fxDot (ts : List Dy) (f : Nat) : Int × Bool :=
  let r := ts.foldl (fun (a : Int × Bool) t =>
    let p := alignTo t.m t.e (f + 24)
    let v := satAt (2 ^ 63 - 1) (a.1 + p.1)
    (v.1, a.2 || p.2 || v.2)) (0, false)
  let v := fx ⟨r.1, f + 24⟩ f
  (v.1, r.2 || v.2)

/-- Values and the number of elements that saturated. -/
def gather (l : List (Int × Bool)) : List Int × Nat := (l.map (·.1), (l.filter (·.2)).length)

/-- Element `i` of a list, zero beyond its end. -/
def nthI (l : List Int) (i : Nat) : Int := l.getD i 0

/-! ### Widths of a table (R381, R386) -/

def ExqTable.bn (t : ExqTable) : Nat := ceilDiv t.n 32
def ExqTable.bm (t : ExqTable) : Nat := ceilDiv t.m 32
def ExqTable.bN (t : ExqTable) : Nat := ceilDiv (t.n + t.m) 32
def ExqTable.big (t : ExqTable) : Nat := t.n + t.m

/-- Block and segment counts in the order of R381: H, A, L, x, z, y, f, l, u, D, t, measurement. (DEDUCED, log entry 79.) -/
def fmtCounts (n m yLen : Nat) : List Nat :=
  let bn := ceilDiv n 32
  let bm := ceilDiv m 32
  let b := ceilDiv (n + m) 32
  [bn * bn, bm * bn, b * b, bn, bm, bm, bn, bm, bm, b, 16, ceilDiv yLen 32]

/-- Where the widths of item `k` begin. -/
def ExqTable.fmtAt (t : ExqTable) (k : Nat) : Nat := ((fmtCounts t.n t.m t.yLen).take k).sum

def ExqTable.w (t : ExqTable) (k i : Nat) : Nat := t.fmt.getD (t.fmtAt k + i / 32) 0
def ExqTable.wH (t : ExqTable) (i j : Nat) : Nat := t.fmt.getD (i / 32 * t.bn + j / 32) 0
def ExqTable.wA (t : ExqTable) (i j : Nat) : Nat := t.fmt.getD (t.fmtAt 1 + i / 32 * t.bn + j / 32) 0
def ExqTable.wL (t : ExqTable) (i j : Nat) : Nat := t.fmt.getD (t.fmtAt 2 + i / 32 * t.bN + j / 32) 0
def ExqTable.wX (t : ExqTable) (i : Nat) : Nat := t.w 3 i
def ExqTable.wZ (t : ExqTable) (i : Nat) : Nat := t.w 4 i
def ExqTable.wY (t : ExqTable) (i : Nat) : Nat := t.w 5 i
def ExqTable.wF (t : ExqTable) (i : Nat) : Nat := t.w 6 i
def ExqTable.wLo (t : ExqTable) (i : Nat) : Nat := t.w 7 i
def ExqTable.wUp (t : ExqTable) (i : Nat) : Nat := t.w 8 i
def ExqTable.wD (t : ExqTable) (i : Nat) : Nat := t.w 9 i
def ExqTable.wT (t : ExqTable) (i : Nat) : Nat := t.w 10 i
def ExqTable.wMeas (t : ExqTable) (i : Nat) : Nat := t.w 11 i

/-- Width of element `i` of an assembly destination. -/
def ExqTable.wDst (t : ExqTable) (dst i : Nat) : Nat :=
  match dst with
  | 0 => t.wF i
  | 1 => t.wLo i
  | 2 => t.wUp i
  | _ => t.wT i

/-- Bit `k` of the structure mask (R387). -/
def maskBit (mask : List Byte) (k : Nat) : Bool := bit (field mask (k / 8) 1) (k % 8)

/-- Mask bit of a block of H on or above the diagonal, of a block of A. -/
def ExqTable.hMask (t : ExqTable) (bi bj : Nat) : Bool := maskBit t.mask (bi * t.bn - bi * (bi - 1) / 2 + (bj - bi))
def ExqTable.aMask (t : ExqTable) (k : Nat) : Bool := maskBit t.mask (t.bn * (t.bn + 1) / 2 + k)

/-- The structure fingerprint (R387). -/
def fingerprint (n m : Nat) (mask : List Byte) : W32 := crc32c (natLe 2 n ++ natLe 2 m ++ mask)

/-! ### Step-times (R388, R392) -/

def ExqIns.steps (i : ExqIns) : Nat :=
  match i.op with
  | 1 => ceilDiv i.len 8 + 8
  | 2 => ceilDiv (i.len * i.yLen) 8 + 8
  | 3 => ceilDiv i.len 8 + 8
  | 4 => ceilDiv (1024 * (i.yLen + 1)) 8 + 8
  | _ => 0

def ExqTable.aSteps (t : ExqTable) : Nat := 48 + (t.prog.map ExqIns.steps).sum
def ExqTable.iSteps (t : ExqTable) : Nat :=
  ceilDiv (t.big * t.big) 512 + ceilDiv (t.m * t.n) 1024 + ceilDiv t.big 4 + 4
def ExqTable.fSteps (t : ExqTable) : Nat := ceilDiv (t.big * t.big * t.big) 3072 + 8 * t.big + 96

/-- Step-times divided by 0.733 ns and 40 ns, rounded up to counts (R394). -/
def stepCounts (n : Nat) : Nat := ceilDiv (n * 25) 733

def ExqTable.b0 (t : ExqTable) (cap : Nat) : Nat := stepCounts (t.aSteps + cap * t.iSteps)
def ExqTable.b1 (t : ExqTable) (cap : Nat) : Nat := stepCounts (t.aSteps + t.fSteps + cap * t.iSteps)
def ExqTable.cutoff (t : ExqTable) : Nat := stepCounts t.aSteps

/-! ### The table and the program (R386 to R389) -/

/-- Elements a destination has. -/
def ExqTable.dstLen (t : ExqTable) (dst : Nat) : Nat :=
  match dst with
  | 0 => t.n
  | 1 => t.m
  | 2 => t.m
  | _ => 512

/-- An instruction breaks R389; `ha` is ASM_HA. (DEDUCED, log entry 77.) -/
def ExqTable.badIns (t : ExqTable) (ha : Bool) (i : ExqIns) : Bool :=
  if i.op = 4 then
    let bi := i.off / t.bn
    let bj := i.off % t.bn
    !ha || !(i.dst == 4 || i.dst == 5) || decide (t.yLen < i.yOff + i.yLen) ||
      (if i.dst = 4 then decide (t.bn * t.bn ≤ i.off) || decide (bj < bi) || !t.hMask bi bj
       else decide (t.bm * t.bn ≤ i.off) || !t.aMask i.off)
  else
    decide (4 < i.op) || decide (3 < i.dst) || decide (t.dstLen i.dst < i.off + i.len) ||
      (i.op == 2 && (decide (2 < i.src) || decide (t.yLen < i.yOff + i.yLen))) ||
      (i.op == 3 && decide (512 < i.yOff + i.len))

/-- Elements of an instruction's parameter matrix. -/
def ExqIns.parLen (i : ExqIns) : Nat :=
  match i.op with
  | 1 => i.len
  | 2 => i.len * i.yLen
  | 4 => 1024 * (i.yLen + 1)
  | _ => 0

/-- Words of a region as signed integers (R382). -/
def ints (b : List Byte) (k : Nat) : List Int := (List.range k).map (fun i => toSigned 32 (field b (4 * i) 4))

/-- What a read answers: bytes, or a reason of R413; 0x120 and 0x121 stand for an uncorrectable and a lost read. -/
abbrev ExqRd := Nat → Nat → Except Nat (List Byte)

/-- The instructions of a program up to END. (DEDUCED, log entry 77.) -/
def readProgram (rd : ExqRd) (t : ExqTable) (ha : Bool) (progVa : Nat) : Nat → Nat → Except Nat (List ExqIns)
  | 0, _ => .ok []
  | k + 1, i => do
    let b ← rd (progVa + 16 * i) 16
    let ins : ExqIns := ⟨field b 0 1, field b 1 1, field b 2 2, field b 4 2, field b 6 2, field b 8 2, field b 10 1,
      field b 11 1, []⟩
    if ins.op = 0 then .ok []
    else if 31 < ins.parF then .error 2
    else if t.badIns ha ins then .error 3
    else
      let p ← rd (t.va + field b 12 4) (4 * ins.parLen)
      let rest ← readProgram rd t ha progVa k (i + 1)
      .ok ({ ins with par := ints p ins.parLen } :: rest)

/-- A parameter table is read and checked (R386, R389, R413). (DEDUCED, log entry 77.) -/
def readTable (rd : ExqRd) (va progVa : Nat) (ha : Bool) (yLen : Nat) : Except Nat ExqTable := do
  let b ← rd va 128
  let n := field b 0 2
  let m := field b 2 2
  if n = 0 ∨ 256 < n ∨ 512 < m ∨ 2048 < yLen then .error 1
  else if field b 41 3 ≠ 0 ∨ field b 76 52 ≠ 0 ∨ 31 < field b 40 1 then .error 2
  else
    let q := fun o => toSigned 32 (field b o 4)
    if q 4 ≤ 0 ∨ q 12 ≤ 0 ∨ q 16 ≤ 0 ∨ 2 ^ 25 ≤ q 16 then .error 4
    else
      let total := (fmtCounts n m yLen).sum
      let bn := ceilDiv n 32
      let mBytes := ceilDiv (bn * (bn + 1) / 2 + ceilDiv m 32 * bn) 8
      let fmt ← rd (va + field b 48 4) total
      if fmt.any (fun w => decide (31 < w.toNat)) then .error 2
      else
        let mask ← rd (va + field b 52 4) mBytes
        let h ← rd (va + field b 56 4) (4 * n * n)
        let a ← rd (va + field b 60 4) (4 * m * n)
        let f ← rd (va + field b 64 4) (4 * n)
        let l ← rd (va + field b 68 4) (4 * m)
        let u ← rd (va + field b 72 4) (4 * m)
        let t : ExqTable := {
          va := va, n := n, m := m, yLen := yLen, rho := q 4, rhoinv := q 8, sigma := q 12, alpha := q 16
          epsP := q 20, epsD := q 24, tolAct := q 28
          tau := if q 32 = 0 then 2 ^ 14 else q 32, delta := if q 36 = 0 then 2 ^ 14 else q 36
          resF := field b 40 1, version := field b 44 4, fmt := fmt.map BitVec.toNat, mask := mask
          h := ints h (n * n), a := ints a (m * n), f := ints f n, l := ints l m, u := ints u m, prog := []
          fp := fingerprint n m mask }
        let prog ← readProgram rd t ha progVa 256 0
        .ok { t with prog := prog }

/-- Bytes of a table with its regions and program, for the time of R395 step 2. -/
def ExqTable.bytes (t : ExqTable) : Nat :=
  128 + t.fmt.length + t.mask.length + 16 * t.prog.length + 4 * (t.n * t.n + t.m * t.n + t.n + 2 * t.m)

/-! ### Assembly (R388) -/

/-- The vectors an assembly works on. -/
structure AsmState where
  h : List Int
  a : List Int
  f : List Int
  l : List Int
  u : List Int
  t : List Int
  sat : Nat
  deriving DecidableEq, Repr

def AsmState.vec (v : AsmState) (dst : Nat) : List Int :=
  match dst with
  | 0 => v.f
  | 1 => v.l
  | 2 => v.u
  | _ => v.t

def AsmState.put (v : AsmState) (dst i : Nat) (q : Int × Bool) : AsmState :=
  let v := { v with sat := v.sat + b2n q.2 }
  match dst with
  | 0 => { v with f := v.f.set i q.1 }
  | 1 => { v with l := v.l.set i q.1 }
  | 2 => { v with u := v.u.set i q.1 }
  | _ => { v with t := v.t.set i q.1 }

/-- The base vector of a destination; t has none and reads as zero. -/
def ExqTable.base (t : ExqTable) (dst i : Nat) : Int :=
  match dst with
  | 0 => nthI t.f i
  | 1 => nthI t.l i
  | 2 => nthI t.u i
  | _ => 0

/-- Element `i` of a vector instruction. -/
def asmElem (t : ExqTable) (ins : ExqIns) (y : List Int) (v : AsmState) (i : Nat) : AsmState :=
  let j := ins.off + i
  let w := t.wDst ins.dst j
  let base : Dy := ⟨t.base ins.dst j, w⟩
  let ts : List Dy :=
    match ins.op with
    | 1 => [⟨nthI ins.par i, ins.parF⟩]
    | 2 =>
      (match ins.src with
       | 1 => [base]
       | 2 => [⟨nthI v.t j, t.wT j⟩]
       | _ => []) ++
      (List.range ins.yLen).map (fun k =>
        (⟨nthI ins.par (i * ins.yLen + k) * nthI y (ins.yOff + k), ins.parF + t.wMeas (ins.yOff + k)⟩ : Dy))
    | _ => [base, ⟨nthI v.t (ins.yOff + i), t.wT (ins.yOff + i)⟩]
  v.put ins.dst j (fxDot ts w)

/-- The sum of a SETM for element `e` of its block. -/
def setmTerms (t : ExqTable) (ins : ExqIns) (y : List Int) (e : Nat) : List Dy :=
  ⟨nthI ins.par e, ins.parF⟩ :: (List.range ins.yLen).map (fun k =>
    (⟨nthI y (ins.yOff + k) * nthI ins.par ((k + 1) * 1024 + e), t.wMeas (ins.yOff + k) + ins.parF⟩ : Dy))

/-- Element (r, c) of a SETM's block, with its transpose for an off-diagonal block of H. -/
def setmElem (t : ExqTable) (ins : ExqIns) (y : List Int) (v : AsmState) (e : Nat) : AsmState :=
  let bi := ins.off / t.bn
  let bj := ins.off % t.bn
  let r := 32 * bi + e / 32
  let c := 32 * bj + e % 32
  let ts := setmTerms t ins y e
  if ins.dst = 5 then
    if r < t.m ∧ c < t.n then
      let q := fxDot ts (t.wA r c)
      { v with a := v.a.set (r * t.n + c) q.1, sat := v.sat + b2n q.2 }
    else v
  else if r < t.n ∧ c < t.n then
    let q := fxDot ts (t.wH r c)
    let v := { v with h := v.h.set (r * t.n + c) q.1, sat := v.sat + b2n q.2 }
    if bi = bj then v
    else
      let p := fxDot ts (t.wH c r)
      { v with h := v.h.set (c * t.n + r) p.1, sat := v.sat + b2n p.2 }
  else v

def asmIns (t : ExqTable) (y : List Int) (v : AsmState) (ins : ExqIns) : AsmState :=
  if ins.op = 4 then (List.range 1024).foldl (setmElem t ins y) v
  else (List.range ins.len).foldl (asmElem t ins y) v

/-- The front stage assembles a problem: the problem and the elements that saturated (R388). -/
def assemble (t : ExqTable) (y : List Int) : Problem × Nat :=
  let v := t.prog.foldl (asmIns t y) ⟨t.h, t.a, t.f, t.l, t.u, List.replicate 512 0, 0⟩
  (⟨v.h, v.a, v.f, v.l, v.u⟩, v.sat)

/-- The program runs a SETM (R397). -/
def ExqTable.hasSetm (t : ExqTable) : Bool := t.prog.any (fun i => i.op == 4)

/-! ### Factorisation (R390) -/

/-- What a factorisation works on: its order, the first constraint, the lower part of K with widths, the exact diagonal, the
widths of L and D, τ and δ. -/
structure Kkt where
  size : Nat
  n : Nat
  k : Nat → Nat → Dy
  diag : Nat → Dy
  wL : Nat → Nat → Nat
  wD : Nat → Nat
  tau : Dy
  delta : Dy

/-- A value that the spec leaves open, from the numbers it may depend on (R384). (DESIGN CHOICE, log entry 11; DEDUCED, log
entry 79.) -/
def openInt (i : Nat) (key : List Int) : Int := (Config.exqOpen i key).toInt

/-- Column `j` of L below the diagonal, row by row, from the rows so far. -/
def ldlColumn (q : Kkt) (rows : List (List Int)) (w : List Int) (j : Nat) (rj : Int) : List (Int × Bool) :=
  (List.range (q.size - (j + 1))).map (fun o =>
    let i := j + 1 + o
    let row := rows.getD i []
    let lw := q.wL i j
    let d := fxDot (q.k i j :: (List.range j).map (fun k => (⟨-(nthI row k) * nthI w k, q.wL i k + q.wD k⟩ : Dy))) lw
    let v := fx ((Dy.mk d.1 lw).mul ⟨rj, q.wD j⟩) lw
    (v.1, d.2 || v.2))

/-- Step `j` of the elimination on (factor, saturations). (DEDUCED, log entry 79.) -/
def ldlStep (q : Kkt) (a : Factor × Nat) (j : Nat) : Factor × Nat :=
  let (f, sat) := a
  let row := f.l.getD j []
  let wq := gather ((List.range j).map (fun k => fx ((Dy.mk (nthI row k) (q.wL j k)).mul ⟨nthI f.d k, q.wD k⟩) (q.wD k)))
  let dw := q.wD j
  let kq := fx (q.diag j) dw
  let dj := fxDot (⟨kq.1, dw⟩ :: (List.range j).map (fun k =>
    (⟨-(nthI row k) * nthI wq.1 k, q.wL j k + q.wD k⟩ : Dy))) dw
  let tau := fx q.tau dw
  let delta := fx q.delta dw
  let small := decide (|dj.1| < tau.1)
  let sign : Int := if 0 < dj.1 then 1 else if dj.1 < 0 then -1 else if j < q.n then 1 else -1
  let d := if small then sign * delta.1 else dj.1
  let r := if d = 0 then (openInt 0 [dw], false)
    else fxQ (if 0 < d then 2 ^ dw else -(2 ^ dw)) d.natAbs dw
  let col := gather (ldlColumn q f.l wq.1 j r.1)
  let rows := f.l.zipIdx.map (fun p => if j < p.2 then p.1 ++ [nthI col.1 (p.2 - (j + 1))] else p.1)
  (⟨rows, f.d ++ [d], f.r ++ [r.1], if small && f.pivot.isNone then some j else f.pivot, f.replaced + b2n small⟩,
    sat + wq.2 + b2n (kq.2 || dj.2 || tau.2 || delta.2) + b2n r.2 + col.2)

/-- L, d and r of a quasi-definite matrix, and the elements that saturated. -/
def ldl (q : Kkt) : Factor × Nat :=
  (List.range q.size).foldl (ldlStep q) (⟨List.replicate q.size [], [], [], none, 0⟩, 0)

/-- K of a problem. (DEDUCED, log entry 79.) -/
def ExqTable.kkt (t : ExqTable) (p : Problem) : Kkt where
  size := t.big
  n := t.n
  k := fun i j =>
    if i < t.n then ⟨nthI p.h (i * t.n + j), t.wH i j⟩
    else if j < t.n then ⟨nthI p.a ((i - t.n) * t.n + j), t.wA (i - t.n) j⟩
    else ⟨0, 0⟩
  diag := fun j => if j < t.n then (Dy.mk (nthI p.h (j * t.n + j)) (t.wH j j)).add ⟨t.sigma, 24⟩ else ⟨-t.rhoinv, 24⟩
  wL := t.wL
  wD := t.wD
  tau := ⟨t.tau, 30⟩
  delta := ⟨t.delta, 30⟩

/-! ### Substitution and iteration (R391) -/

/-- Forward and back substitution on a factor: `w` gives the width of each element of the vector. (DEDUCED, log entry 79.) -/
def ldlSolve (q : Kkt) (f : Factor) (w : Nat → Nat) (b : List Int) : List Int × Nat :=
  let fwd := (List.range q.size).foldl (fun (v : List (Int × Bool)) i =>
    let row := f.l.getD i []
    v ++ [fxDot (⟨nthI b i, w i⟩ :: (List.range i).map (fun k =>
      (⟨-(nthI row k) * (v.getD k (0, false)).1, q.wL i k + w k⟩ : Dy))) (w i)]) []
  let mid := fwd.zipIdx.map (fun p =>
    let v := fx ((Dy.mk p.1.1 (w p.2)).mul ⟨nthI f.r p.2, q.wD p.2⟩) (w p.2)
    (v.1, p.1.2 || v.2))
  let back := (List.range q.size).foldl (fun (v : List (Int × Bool)) o =>
    let i := q.size - 1 - o
    let m := mid.getD i (0, false)
    let e := fxDot (⟨m.1, w i⟩ :: (List.range (q.size - (i + 1))).map (fun k' =>
      let k := i + 1 + k'
      (⟨-(nthI (f.l.getD k []) i) * (v.getD k' (0, false)).1, q.wL k i + w k⟩ : Dy))) (w i)
    (e.1, m.2 || e.2) :: v) []
  gather back

/-- One iteration of R391 on a problem with its factor: the new iterate and the elements that saturated. (DEDUCED, log entry 79.) -/
def exqIterate (t : ExqTable) (p : Problem) (q : Kkt) (f : Factor) (it : Iterate) : Iterate × Nat :=
  let s : Dy := ⟨t.sigma, 24⟩
  let al : Dy := ⟨t.alpha, 24⟩
  let al1 : Dy := (Dy.mk 1 0).sub al
  let ri : Dy := ⟨t.rhoinv, 24⟩
  let x := fun i => Dy.mk (nthI it.x i) (t.wX i)
  let z := fun i => Dy.mk (nthI it.z i) (t.wZ i)
  let y := fun i => Dy.mk (nthI it.y i) (t.wY i)
  let ns := List.range t.n
  let ms := List.range t.m
  let bx := gather (ns.map (fun i => fx ((s.mul (x i)).sub ⟨nthI p.f i, t.wF i⟩) (t.wX i)))
  let by_ := gather (ms.map (fun i => fx ((z i).sub (ri.mul (y i))) (t.wY i)))
  let sol := ldlSolve q f (fun i => if i < t.n then t.wX i else t.wY (i - t.n)) (bx.1 ++ by_.1)
  let nu := fun i => Dy.mk (nthI sol.1 (t.n + i)) (t.wY i)
  let zt := gather (ms.map (fun i => fx ((z i).add (ri.mul ((nu i).sub (y i)))) (t.wZ i)))
  let xn := gather (ns.map (fun i => fx ((al.mul ⟨nthI sol.1 i, t.wX i⟩).add (al1.mul (x i))) (t.wX i)))
  let zr := gather (ms.map (fun i => fx ((al.mul ⟨nthI zt.1 i, t.wZ i⟩).add (al1.mul (z i))) (t.wZ i)))
  let zn := gather (ms.map (fun i =>
    let a := fx ((Dy.mk (nthI zr.1 i) (t.wZ i)).add (ri.mul (y i))) (t.wZ i)
    let c := fx ((Dy.max ⟨a.1, t.wZ i⟩ ⟨nthI p.l i, t.wLo i⟩).min ⟨nthI p.u i, t.wUp i⟩) (t.wZ i)
    (c.1, a.2 || c.2)))
  let yn := gather (ms.map (fun i =>
    fx ((y i).add ((Dy.mk t.rho 24).mul ((Dy.mk (nthI zr.1 i) (t.wZ i)).sub ⟨nthI zn.1 i, t.wZ i⟩))) (t.wY i)))
  (⟨xn.1, zn.1, yn.1, t.fp⟩, bx.2 + by_.2 + sol.2 + zt.2 + xn.2 + zr.2 + zn.2 + yn.2)

/-- The largest magnitude of a list. -/
def maxAbs (l : List Int) : Int := l.foldl (fun m v => max m |v|) 0

/-- rp and rd of an iterate, and the elements that saturated. (DEDUCED, log entry 79.) -/
def residuals (t : ExqTable) (p : Problem) (it : Iterate) : Int × Int × Nat :=
  let ns := List.range t.n
  let ms := List.range t.m
  let pr := gather (ms.map (fun i =>
    fxDot (ns.map (fun j => (⟨nthI p.a (i * t.n + j) * nthI it.x j, t.wA i j + t.wX j⟩ : Dy)) ++
      [⟨-(nthI it.z i), t.wZ i⟩]) t.resF))
  let dr := gather (ns.map (fun j =>
    fxDot (ns.map (fun c => (⟨nthI p.h (j * t.n + c) * nthI it.x c, t.wH j c + t.wX c⟩ : Dy)) ++
      [⟨nthI p.f j, t.wF j⟩] ++
      ms.map (fun i => (⟨nthI p.a (i * t.n + j) * nthI it.y i, t.wA i j + t.wY i⟩ : Dy))) t.resF))
  (maxAbs pr.1, maxAbs dr.1, pr.2 + dr.2)

/-- The zero iterate of a table. -/
def ExqTable.zeroIter (t : ExqTable) : Iterate := ⟨List.replicate t.n 0, List.replicate t.m 0, List.replicate t.m 0, t.fp⟩

/-- Where an iteration leaves: goes on, converged, at the cap. -/
inductive IterEnd where
  | more | done | cap
  deriving DecidableEq, Repr

/-- Iteration `k` with its residual test (R391). -/
structure IterRes where
  iter : Iterate
  rp : Int
  rd : Int
  sat : Nat
  res : IterEnd
  deriving DecidableEq, Repr

def iterStep (t : ExqTable) (p : Problem) (f : Factor) (k cap check : Nat) (it : Iterate) (rp rd : Int) : IterRes :=
  let n := exqIterate t p (t.kkt p) f it
  if k % check = 0 ∨ k = cap then
    let r := residuals t p n.1
    let conv := decide (r.1 ≤ t.epsP ∧ r.2.1 ≤ t.epsD)
    ⟨n.1, r.1, r.2.1, n.2 + r.2.2, if conv then .done else if k = cap then .cap else .more⟩
  else ⟨n.1, rp, rd, n.2, .more⟩

/-- Iterations from `k` until convergence or the cap: the result and the iterations completed. -/
def iterAll (t : ExqTable) (p : Problem) (f : Factor) (cap check : Nat) : Nat → Nat → IterRes → IterRes × Nat
  | 0, k, r => (r, k)
  | n + 1, k, r =>
    let q := iterStep t p f (k + 1) cap check r.iter r.rp r.rd
    let q := { q with sat := q.sat + r.sat }
    if q.res = .more then iterAll t p f cap check n (k + 1) q else (q, k + 1)

/-! ### The adjoint solve (R409, R410) -/

/-- A fixed-point value in binary64: exact (R408). -/
def dyBytes (v : Dy) : List Byte := natLe 8 (f64.ieee .rne (.fin (decide (v.m < 0)) v.m.natAbs (2 ^ v.e)))

/-- How a constraint is active: lower, upper, or not. -/
inductive Active where
  | none | lower | upper
  deriving DecidableEq, Repr

/-- Constraint `i` at an iterate (R409). -/
def activeAt (t : ExqTable) (p : Problem) (it : Iterate) (i : Nat) : Active :=
  let l : Dy := ⟨nthI p.l i, t.wLo i⟩
  let u : Dy := ⟨nthI p.u i, t.wUp i⟩
  let z : Dy := ⟨nthI it.z i, t.wZ i⟩
  let tol : Dy := ⟨t.tolAct, t.resF⟩
  let y := nthI it.y i
  if l.le u && u.le l then (if y < 0 then .lower else .upper)
  else if (u.sub z).le tol ∧ 0 < y then .upper
  else if (z.sub l).le tol ∧ y < 0 then .lower
  else .none

/-- K_A over the active rows `act`. -/
def ExqTable.kktA (t : ExqTable) (p : Problem) (act : List Nat) : Kkt where
  size := t.n + act.length
  n := t.n
  k := fun i j =>
    if i < t.n then ⟨nthI p.h (i * t.n + j), t.wH i j⟩
    else if j < t.n then ⟨nthI p.a (act.getD (i - t.n) 0 * t.n + j), t.wA (act.getD (i - t.n) 0) j⟩
    else ⟨0, 0⟩
  diag := fun j => if j < t.n then (Dy.mk (nthI p.h (j * t.n + j)) (t.wH j j)).add ⟨t.sigma, 24⟩ else ⟨-t.sigma, 24⟩
  wL := t.wL
  wD := t.wD
  tau := ⟨t.tau, 30⟩
  delta := ⟨t.delta, 30⟩

/-- [[H, A_Aᵀ], [A_A, 0]] times a vector subtracted from `b`. -/
def adjResidual (t : ExqTable) (p : Problem) (act : List Nat) (w : Nat → Nat) (b d : List Int) : List Int × Nat :=
  let ns := List.range t.n
  gather ((List.range (t.n + act.length)).map (fun i =>
    let ts := if i < t.n then
        ns.map (fun c => (⟨-(nthI p.h (i * t.n + c)) * nthI d c, t.wH i c + w c⟩ : Dy)) ++
          act.zipIdx.map (fun r => (⟨-(nthI p.a (r.1 * t.n + i)) * nthI d (t.n + r.2), t.wA r.1 i + w (t.n + r.2)⟩ : Dy))
      else
        let r := act.getD (i - t.n) 0
        ns.map (fun c => (⟨-(nthI p.a (r * t.n + c)) * nthI d c, t.wA r c + w c⟩ : Dy))
    fxDot (⟨nthI b i, w i⟩ :: ts) (w i)))

/-- One step of iterative refinement. -/
def adjRefine (t : ExqTable) (p : Problem) (act : List Nat) (q : Kkt) (f : Factor) (w : Nat → Nat) (b : List Int)
    (a : List Int × Nat) : List Int × Nat :=
  let r := adjResidual t p act w b a.1
  let e := ldlSolve q f w r.1
  let d := gather ((List.range q.size).map (fun i => fx ((Dy.mk (nthI a.1 i) (w i)).add ⟨nthI e.1 i, w i⟩) (w i)))
  (d.1, a.2 + r.2 + e.2 + d.2)

/-- The gradient block's items (R410), the factor of K_A and the elements that saturated. (DEDUCED, log entry 79.) -/
def adjoint (t : ExqTable) (p : Problem) (it : Iterate) (g : List FV) : List Byte × Factor × Nat :=
  let ms := List.range t.m
  let act := ms.filter (fun i => activeAt t p it i != .none)
  let q := t.kktA p act
  let f := ldl q
  let w := fun i => if i < t.n then t.wX i else t.wY (act.getD (i - t.n) 0)
  let gx := gather (g.zipIdx.map (fun v =>
    match v.1 with
    | .fin neg a b => fxQ (if neg then (a : Int) else -(a : Int)) b (t.wX v.2)
    | .inf neg => ((if neg then 2 ^ 31 - 1 else -(2 ^ 31 - 1)), true)
    | .nan => (openInt 1 [t.wX v.2], false)))
  let b := gx.1 ++ List.replicate act.length 0
  let d0 := ldlSolve q f.1 w b
  let d := adjRefine t p act q f.1 w b (adjRefine t p act q f.1 w b (d0.1, d0.2))
  let lam := fun i => match act.idxOf? i with
    | some k => Dy.mk (nthI d.1 (t.n + k)) (t.wY i)
    | none => ⟨0, 0⟩
  let side := fun (a : Active) i => if activeAt t p it i = a then (lam i).neg else ⟨0, 0⟩
  let out := (List.range t.n).map (fun i => Dy.mk (nthI d.1 i) (t.wX i)) ++ ms.map (side .lower) ++ ms.map (side .upper) ++
    ms.map lam ++ (List.range t.n).map (fun i => Dy.mk (nthI it.x i) (t.wX i)) ++
    ms.map (fun i => if activeAt t p it i = .none then ⟨0, 0⟩ else ⟨nthI it.y i, t.wY i⟩)
  (out.flatMap dyBytes, f.1, f.2 + gx.2 + d.2)

end Sys2Proof.Machine
end

