-- ==== Sys2Proof/Machine/Exq.lean ====
section
/-! DEFINITION. The exchequer units (R378 to R414): real-time loops, their input and output, solve orders, faults. -/

namespace Sys2Proof.Machine

/-! ### Accessors -/

def State.unit (s : State) (u : Nat) : Exq := mget exqDef s.exq u
def State.setUnit (s : State) (u : Nat) (e : Exq) : State := { s with exq := mset exqDef s.exq u e }

/-- Set a field of a unit's registers; read one; count in one. -/
def State.xst (s : State) (f : Field) (u v : Nat) : State := s.st f v (u / 4) (u % 4)
def State.xrd (s : State) (f : Field) (u : Nat) : Nat := s.rd f (u / 4) (u % 4)
def State.xinc (s : State) (f : Field) (u n : Nat) : State := s.inc f n (u / 4) (u % 4)

/-- The host core of a unit (R379). -/
def hostCore (u : Nat) : Nat := u / 4 * 64 + 16 * (u % 4) + 7

def State.exqFenced (s : State) (u : Nat) : Bool := s.xrd F.EXQ_STATE_STATE u == 5

/-- The host core and all its engines are present (R380), the unit is not fenced. -/
def State.exqAvail (s : State) (u : Nat) : Bool :=
  s.corePresent (hostCore u) && !s.coreFenced (hostCore u) && (List.range 32).all (s.engPresent (hostCore u)) &&
    !s.exqFenced u

/-- A free 32-bit integer. (DESIGN CHOICE, log entry 11.) -/
def State.freeInt (s : State) (j : Nat) : Int := toSigned 32 ((Config.freeValue (s.free + j)).toNat % 2 ^ 32)

/-- The integers of a problem, on which the open values of its results depend (R384). -/
def Problem.key (p : Problem) : List Int := p.h ++ p.a ++ p.f ++ p.l ++ p.u

/-- Set bit `i` of flags. -/
def flagOn (v i : Nat) : Nat := if bit v i then v else v + 2 ^ i

/-- Serial comparison of cycle numbers (R400). -/
def newer (c c' : Nat) : Bool :=
  let d := (c + 2 ^ 32 - c') % 2 ^ 32
  decide (1 ≤ d ∧ d < 2 ^ 31)

/-- Agreed feature bits EXQ_LOOP and EXQ_SOLVE (R436). -/
def State.exqFeature (s : State) (i : Nat) : Bool := bit (s.rd F.GLB_FEATURES_AGREED 0 0) i

/-- A loop or order is refused or aborted (R413). (DEDUCED, log entry 77.) -/
def State.exqReject (s : State) (u acct reason : Nat) : State := s.note 0x600C u acct reason

/-! ### Reads (R280, R393) -/

/-- The 2 MiB pages of a region. -/
def pagesIn (va n : Nat) : List Nat :=
  if n = 0 then [] else (List.range ((va + n - 1) / 2 ^ 21 + 1 - va / 2 ^ 21)).map (va / 2 ^ 21 + ·)

/-- A region lies in a die's real-time window through runs with RT set (R393). -/
def State.rtRegion (s : State) (acct die va n : Nat) (write : Bool) : Bool :=
  (pagesIn va n).all (fun p => match s.findRun acct p with
    | some r => r.rt && r.rtDie == die && (!write || r.write)
    | none => false)

/-- A read for a unit: from the window of a die for a loop, from anywhere for an order. -/
def State.exqRead (s : State) (acct : Nat) (die : Option Nat) : ExqRd := fun va n =>
  if n = 0 then .ok []
  else if (match die with | some d => !s.rtRegion acct d va n false | none => false) then .error 5
  else
    let r := s.accRead [] acct va n
    if r.fault.isSome then .error 5 else if r.unc then .error 0x120 else if r.lost then .error 0x121 else .ok r.bytes

/-! ### Ports (R46, R47) -/

def State.assignPort (s : State) (p u : Nat) : State :=
  ((s.st F.ETH_PORT_EXQ 1 0 p).st F.ETH_PORT_IN_SET 0 0 p).note 0x1104 p 1 u

/-- A loop gives its port up; the port leaves exchequer use with the last loop that holds it. -/
def State.releasePort (s : State) (p u : Nat) : State :=
  let others := (List.range 16).any (fun v =>
    decide (v ≠ u) && s.xrd F.EXQ_STATE_PORT_HELD v == 1 && s.xrd F.EXQ_STATE_PORT v == p)
  (if others then s else s.st F.ETH_PORT_EXQ 0 0 p).note 0x1104 p 0 u

/-! ### Saturations (R385) -/

/-- The saturations of a cycle or order: counted, and recorded for the first of each 10 s. -/
def State.exqRange (s : State) (u tag sat : Nat) : State :=
  if sat = 0 then s
  else
    let s := s.xinc F.EXQ_RANGE_COUNT u sat
    let e := s.unit u
    let due := match e.satRecAt with
      | some t => s.after t (second 10)
      | none => true
    if due then (s.setUnit u { e with satRecAt := some s.clk.now }).note 0x6006 u tag sat else s

/-- A new factor: pivots replaced are told (R390). -/
def State.exqPivot (s : State) (u : Nat) (f : Factor) : State :=
  match f.pivot with
  | some i => s.note 0x6004 u i f.replaced
  | none => s

/-! ### Output frames (R405) -/

/-- Elements of a vector as words. -/
def wordsOfInts (l : List Int) : List Byte := l.flatMap (fun v => natLe 4 (ofSigned 32 v))

/-- Header and elements with their CRC. (DEDUCED, log entry 81.) -/
def exqBlock (status flags u stream iter cycle sol pivot nout rp rd : Nat) (body : List Byte) : List Byte :=
  let h := natLe 1 1 ++ natLe 1 status ++ natLe 1 flags ++ natLe 1 u ++ natLe 2 stream ++ natLe 2 iter ++ natLe 4 cycle ++
    natLe 4 sol ++ natLe 2 pivot ++ natLe 2 nout ++ natLe 4 rp ++ natLe 4 rd
  h ++ natLe 4 (crc32c (h ++ body)).toNat ++ body

/-- Bytes of an entry of a ring with `n` bytes of frame. -/
def slotBytes (n : Nat) : Nat := ceilDiv n 64 * 64

/-- Give an output frame to the loop's port (R343, R405): the source address and port of mode 0 are free. -/
def State.exqSend (s : State) (lp : Loop) (b : List Byte) : State :=
  let tag := mget 0 s.fab.portTag lp.port
  let mac := s.fab.macBase + lp.port
  if s.flag F.ETH_ENCAP_MODE then
    s.emit ⟨lp.port, lp.dstMac, mac, tag, .raw (s.rd F.EXQ_FRAME_ETHERTYPE), b⟩
  else
    (s.emit ⟨lp.port, s.rd F.ETH_GATEWAY_MAC 0 lp.port, mac, tag,
      .udp (natLe 16 (Config.freeValue s.free).toNat) lp.dstIp ((Config.freeValue (s.free + 1)).toNat % 65536)
        (s.rd F.EXQ_FRAME_UDP_PORT) (s.rd F.ETH_ENCAP_DSCP * 4 + 2), b⟩).takeFrees 2

/-- Commit the frame of local cycle `j`: with `x` of this cycle, or with the last converged solution (R398). -/
def State.exqOut (s : State) (u j status flags iter : Nat) (x : Option (List Int)) (deadline : Option Nat) : State :=
  let e := s.unit u
  match e.loop with
  | none => s
  | some lp =>
    let cyc := s.xrd F.EXQ_PLANT_C_LAST u
    let n := match e.table with | some t => t.n | none => 0
    let (xs, sol, flags) := match x, e.last with
      | some x, _ => (x, cyc, flags)
      | none, some (x, c) => (x, c, flagOn flags 4)
      | none, none => (List.replicate n 0, (Config.exqOpen 2 e.prob.key).toNat, flagOn flags 5)
    let flags := if s.xrd F.EXQ_STATE_FACT_RISK u = 1 then flagOn flags 6 else flags
    let status := if status = 0 ∧ flags ≠ 0 ∧ flags ≠ 16 then 1 else status
    let pivot := match e.factor with
      | some f => f.pivot.getD 0xFFFF
      | none => 0xFFFF
    let b := exqBlock status flags u lp.stream iter cyc sol pivot lp.nout (ofSigned 32 e.rp) (ofSigned 32 e.rd)
      (wordsOfInts (xs.take lp.nout))
    let s := ((s.xst F.EXQ_LAST_STATUS u status).xst F.EXQ_LAST_FLAGS u flags).xst F.EXQ_LAST_ITER u iter
    let s := match deadline with
      | some d => s.xst F.EXQ_SLACK_MIN u (min (s.xrd F.EXQ_SLACK_MIN u) (d - s.clk.now))
      | none => s
    let s := if bit lp.flags 1 then s.exqSend lp b else s
    if lp.outVa = 0 then s
    else
      let size := slotBytes (32 + 4 * lp.nout)
      s.accWrite lp.account (lp.outVa + size * (j % lp.outSlots)) (slice b 0 size)

/-! ### The end of cycles and loops -/

/-- A loop stops: its port is released and code 0x600B follows (R411). -/
def State.endLoop (s : State) (u : Nat) : State :=
  let e := s.unit u
  match e.loop with
  | none => s
  | some lp =>
    let s := if s.xrd F.EXQ_STATE_PORT_HELD u = 1 then s.releasePort (s.xrd F.EXQ_STATE_PORT u) u else s
    let s := s.note 0x600B u 0 lp.stream
    let s := ((((s.xst F.EXQ_STATE_PORT_HELD u 0).xst F.EXQ_STATE_PORT u 0).xst F.EXQ_STATE_FACT_RISK u 0).xst
      F.EXQ_STATE_SWITCH_PENDING u 0).xst F.EXQ_STATE_STATE u 0
    s.setUnit u { exqDef with orders := e.orders, order := e.order, uncAt := e.uncAt, satRecAt := e.satRecAt }

/-- The cycle in progress has committed its frame: the next release, or the end of a loop that is to stop. -/
def State.endCycle (s : State) (u : Nat) (next : ExqPhase) : State :=
  let e := s.unit u
  match e.loop with
  | none => s
  | some lp =>
    if lp.stopping then s.endLoop u
    else s.setUnit u { e with phase := next, loop := some { lp with release := lp.release + lp.period }
                              cyc := none, cycNew := false, next := none }

/-- Local cycle number of the cycle in progress. -/
def State.exqCycle (s : State) (u : Nat) : Nat := s.xrd F.EXQ_CYCLES_COUNT u - 1

/-- The cycle in progress ends: its saturations, its frame, the next release. -/
def State.finishCycle (s : State) (u status : Nat) (x : Option (List Int)) (next : ExqPhase) : State :=
  let e := s.unit u
  match e.loop with
  | none => s
  | some lp =>
    let s := s.exqRange u (s.xrd F.EXQ_PLANT_C_LAST u) e.sat
    let flags := if e.sat = 0 then e.flags else flagOn e.flags 2
    (s.exqOut u (s.exqCycle u) status flags e.k x (some (lp.release + lp.period))).endCycle u next

/-! ### The start of a loop (R393 to R395) -/

/-- The checks of R395 step 1 on a descriptor, in the order its parts are read. (DEDUCED, log entries 77, 78.) -/
def State.admitLoop (s : State) (acct u va : Nat) : Except Nat (Loop × ExqTable × Nat × Nat) :=
  let die := u / 4
  let held := match s.acct acct with | some a => bit a.exq.toNat u | none => false
  if 16 ≤ u ∨ !s.exqFeature 0 ∨ !s.exqAvail u ∨ (s.unit u).loop.isSome ∨ (s.unit u).order.isSome ∨ !held ∨
      s.fwState die = 5 then .error 8
  else do
    let rd := s.exqRead acct (some die)
    let b ← rd va 128
    let fl := field b 51 1
    let port := field b 52 1
    let lp : Loop := ⟨acct, field b 8 8, field b 16 8, field b 24 8, field b 40 4, field b 48 2, field b 50 1, fl, port,
      field b 53 1, field b 54 1, field b 56 2, field b 58 2, field b 60 2, slice b 64 16, beNat (slice b 80 6), 0, false⟩
    if 16 ≤ fl ∨ field b 55 1 ≠ 0 ∨ field b 62 2 ≠ 0 ∨ field b 86 42 ≠ 0 then .error 2
    else if lp.period < 50 ∨ lp.cap = 0 ∨ 4096 < lp.cap ∨ lp.check = 0 ∨ 16 < lp.check ∨ lp.inSlots = 0 ∨ 64 < lp.inSlots ∨
        lp.outSlots = 0 ∨ 64 < lp.outSlots then .error 6
    else if fl % 4 ≠ 0 ∧ (16 ≤ port ∨ s.portState port = 0 ∨ s.portState port = 4) then .error 7
    else if lp.inVa ≠ 0 ∧ !s.rtRegion acct die lp.inVa (lp.inSlots * slotBytes (20 + 4 * lp.yLen)) false then .error 5
    else if lp.outVa ≠ 0 ∧ !s.rtRegion acct die lp.outVa (lp.outSlots * slotBytes (32 + 4 * lp.nout)) true then .error 5
    else
      let t ← readTable rd (field b 0 8) lp.progVa (bit fl 3) lp.yLen
      if t.n < lp.nout then .error 6
      else .ok (lp, t, field b 32 8, field b 44 4)

/-- The first release at least 100 µs from now (R395 step 3). -/
def firstRelease (start period now : Nat) : Nat :=
  let t := now + usec 100
  if t ≤ start then start else start + ceilDiv (t - start) period * period

/-- The problem a table's base vectors and matrices give. -/
def ExqTable.baseProblem (t : ExqTable) : Problem := ⟨t.h, t.a, t.f, t.l, t.u⟩

/-- The base problem is loaded and factored (R395 step 2, R412). (DEDUCED, log entry 78.) -/
def State.factorBase (s : State) (u : Nat) (t : ExqTable) : State :=
  let p := t.baseProblem
  let f := ldl (t.kkt p)
  let s := s.exqPivot u f.1
  let s := s.xinc F.EXQ_RANGE_COUNT u f.2
  s.setUnit u { s.unit u with prob := p, factor := some f.1, next := none }

/-- A loop that passed its checks starts. -/
def State.startLoop (s : State) (u : Nat) (lp : Loop) (t : ExqTable) (start first : Nat) : State :=
  let b0 := t.b0 lp.cap
  let b1 := t.b1 lp.cap
  let holds := lp.flags % 4 ≠ 0
  let e := s.unit u
  let lp := { lp with release := firstRelease start lp.period s.clk.now }
  let s := s.setUnit u { exqDef with loop := some lp, table := some t, orders := e.orders, uncAt := e.uncAt,
                                     satRecAt := e.satRecAt, rp := openInt 3 t.baseProblem.key,
                                     rd := openInt 4 t.baseProblem.key }
  let s := if holds then s.assignPort lp.port u else s
  let s := s.note 0x600B u 1 lp.stream
  let s := [(F.EXQ_STATE_STATE, 2), (F.EXQ_STATE_FACT_RISK, b2n (decide (lp.period < b1))),
    (F.EXQ_STATE_SWITCH_PENDING, 0), (F.EXQ_STATE_PORT_HELD, b2n (decide holds)),
    (F.EXQ_STATE_PORT, if holds then lp.port else 0), (F.EXQ_STATE_ACCOUNT, lp.account), (F.EXQ_CYCLES_COUNT, 0),
    (F.EXQ_PLANT_C_LAST, (first + 2 ^ 32 - 1) % 2 ^ 32), (F.EXQ_MISS_DEADLINE, 0), (F.EXQ_MISS_FACTOR, 0),
    (F.EXQ_INPUT_INCOMPLETE, 0), (F.EXQ_INPUT_LATE_DROP, 0), (F.EXQ_SLACK_MIN, 2 ^ 32 - 1), (F.EXQ_BOUND_COUNTS, b0),
    (F.EXQ_FBOUND_COUNTS, b1)].foldl (fun s p => s.xst p.1 u p.2) s
  s.factorBase u t

/-- LOOP_START: while the steward restarts the command waits (R411); a failed one refuses it (R443). -/
def execLoopStart (slot : BitVec 10) (s : State) : Res :=
  .next (s.cmdGo slot 0x0A (fun acct b s =>
    let u := field b 24 1
    if s.fwState 8 = 5 then (s.exqReject u acct 8).cmdEnd slot.toNat 0x04 8
    else if !s.fwRuns 8 then s
    else match s.admitLoop acct u (field b 16 8) with
      | .error r =>
        if 0x100 ≤ r then s.cmdEnd slot.toNat 0x04 0
        else (s.exqReject u acct r).cmdEnd slot.toNat 0x04 r
      | .ok (lp, t, start, first) =>
        if lp.period < t.b0 lp.cap then s.cmdEnd slot.toNat 0x03 7
        else (s.startLoop u lp t start first).cmdEnd slot.toNat 0 0 (t.b0 lp.cap + t.b1 lp.cap * 2 ^ 32)))

/-! ### Input (R396, R399, R400) -/

/-- The table of the next cycle. -/
def Exq.nextTable (e : Exq) : Option ExqTable := match e.pend with | some t => some t | none => e.table

/-- The cutoff of the cycle in progress (R396). -/
def Exq.cutoffAt (e : Exq) (lp : Loop) : Nat :=
  lp.release + lp.period - (match e.nextTable with | some t => t.cutoff | none => 0)

/-- An element of a fragment at its segment's width (R399). -/
def fragElem (t : ExqTable) (efmt k w : Nat) : Int × Bool :=
  if efmt = 0 then (toSigned 32 w, false)
  else match f32.decode w with
    | .fin neg a b => fxQ (if neg then -(a : Int) else (a : Int)) b (t.wMeas k)
    | .inf neg => ((if neg then -(2 ^ 31 - 1) else 2 ^ 31 - 1), true)
    | .nan => (0, false)

/-- The measurement vector of a burst: elements that no fragment carries are free. (DEDUCED, log entry 80.) -/
def State.burstVector (s : State) (t : ExqTable) (b : Burst) : List Int × Nat :=
  let es := b.got.flatMap (fun f => f.words.zipIdx.map (fun w => (f.eoff + w.2, fragElem t f.efmt (f.eoff + w.2) w.1)))
  ((List.range t.yLen).map (fun k => match es.find? (fun p => p.1 == k) with
    | some p => p.2.1
    | none => s.freeInt k), (es.filter (fun p => p.2.2)).length)

/-- The newest burst of some that is newer than c_last. (DEDUCED, log entry 80.) -/
def newestBurst (c : Nat) (l : List Burst) : Option Burst :=
  (l.filter (fun b => newer b.cycle c)).foldl (fun m b => match m with
    | none => some b
    | some x => if newer b.cycle x.cycle then some b else some x) none

/-- The cycle that waits takes the newest complete burst, at the cutoff at the latest (R396, R400). -/
def State.takeBurst (s : State) (u : Nat) : State :=
  let e := s.unit u
  match e.loop, e.nextTable with
  | some lp, some t =>
    if e.phase ≠ .waitInput ∨ e.cutoffAt lp < s.clk.now then s
    else
      let c := s.xrd F.EXQ_PLANT_C_LAST u
      match newestBurst c (e.bursts.filter (fun b => b.doneAt.isSome)) with
      | none => s
      | some b =>
        let v := s.burstVector t b
        let skipped := b.cycle != (c + 1) % 2 ^ 32
        let s := (s.takeFrees t.yLen).xst F.EXQ_PLANT_C_LAST u b.cycle
        s.setUnit u { e with phase := .assembling, y := v.1, sat := v.2, progressAt := s.clk.now
                             flags := if skipped then flagOn e.flags 3 else e.flags
                             cyc := some t, cycNew := e.pend.isSome
                             bursts := e.bursts.filter (fun x => newer x.cycle b.cycle) }
  | _, _ => s

/-- Field checks of a fragment (R399). -/
def fragOk (lp : Loop) (b : List Byte) : Bool :=
  let n := field b 12 2
  decide (20 + 4 * n ≤ b.length) && field b 0 1 == 1 && decide (field b 1 1 ≤ 1) && field b 2 2 == lp.stream &&
    decide (1 ≤ field b 9 1 ∧ field b 9 1 ≤ 32) && decide (field b 8 1 < field b 9 1) &&
    decide (field b 10 2 + n ≤ lp.yLen) && field b 14 2 == 0 &&
    (crc32c (slice b 0 (16 + 4 * n))).toNat == field b (16 + 4 * n) 4

/-- Index of the first NaN element of a fragment. -/
def fragNan (f : Frag) : Option Nat :=
  if f.efmt = 0 then none else (f.words.findIdx? (fun w => (f32.decode w).isNan)).map (f.eoff + ·)

/-- Room for a cycle number: a fifth discards the oldest incomplete burst, or the oldest (R400). (DEDUCED, log entry 80.) -/
def dropOldest (c : Nat) (l : List Burst) : List Burst :=
  if l.length < 4 then l
  else
    let inc := l.filter (fun b => b.doneAt.isNone)
    let pool := if inc.isEmpty then l else inc
    let key := fun (b : Burst) => (b.cycle + 2 ^ 32 - c) % 2 ^ 32
    match pool.foldl (fun (m : Option Burst) b => match m with
        | none => some b
        | some x => if key b < key x then some b else some x) none with
    | some b => l.filter (fun x => x.cycle != b.cycle)
    | none => l

/-- A fragment is held by the front stage (R399, R400). (DEDUCED, log entry 80.) -/
def State.holdFragment (s : State) (u : Nat) (b : List Byte) : State :=
  let e := s.unit u
  let c := s.xrd F.EXQ_PLANT_C_LAST u
  let cyc := field b 4 4
  let n := field b 12 2
  let f : Frag := ⟨field b 8 1, field b 1 1, field b 10 2, (List.range n).map (fun i => field b (16 + 4 * i) 4)⟩
  let known := e.bursts.find? (fun x => x.cycle == cyc)
  let old := known.getD ⟨cyc, field b 9 1, [], false, none⟩
  if old.doneAt.isSome ∨ old.got.any (fun g => g.idx == f.idx) then s
  else
    let bad := fragNan f
    let got := old.got ++ [f]
    let nan := old.nan || bad.isSome
    let x := { old with got := got, nan := nan
                        doneAt := if old.frags ≤ got.length ∧ !nan then some s.clk.now else none }
    let l := if known.isSome then e.bursts.map (fun y => if y.cycle = cyc then x else y)
      else dropOldest c e.bursts ++ [x]
    let s := s.setUnit u { e with bursts := l }
    match bad with
    | some k => if old.nan then s else s.note 0x6008 u cyc k
    | none => s

/-- A fragment reaches a loop (R400): one that is not newer than c_last is dropped, counted and told. `slot` is the ring
entry it comes from: an entry is read every 1 µs, and the fragment in it is one fragment (log entry 80). -/
def State.takeFragment (s : State) (u : Nat) (b : List Byte) (slot : Option Nat) : State :=
  match (s.unit u).loop with
  | none => s
  | some lp =>
    let c := s.xrd F.EXQ_PLANT_C_LAST u
    let cyc := field b 4 4
    if !fragOk lp b then s
    else
      let known := match slot with
        | some i => mget 0 (s.unit u).ringSeen i == cyc + 1
        | none => false
      let s := match slot with
        | some i => s.setUnit u { s.unit u with ringSeen := mset 0 (s.unit u).ringSeen i (cyc + 1) }
        | none => s
      if newer cyc c then (s.holdFragment u b).takeBurst u
      else if known then s
      else (s.xinc F.EXQ_INPUT_LATE_DROP u 1).note 0x6007 u cyc c

/-- (DESIGN CHOICE, log entry 4.) -/
def execMeasurementFragment (unit : Fin 16) (frag : List Byte) (s : State) : Res :=
  if 9216 < frag.length then .fault .illFormed
  else .next (s.working fun s => match (s.unit unit).loop with
    | some lp => if bit lp.flags 0 && s.portUp lp.port then s.takeFragment unit frag none else s
    | none => s)

/-- The ring entry of the plant cycle expected next is read (R399). (DEDUCED, log entry 80.) -/
def State.pollRing (s : State) (u : Nat) : State :=
  match (s.unit u).loop with
  | none => s
  | some lp =>
    if lp.inVa = 0 then s
    else
      let c := (s.xrd F.EXQ_PLANT_C_LAST u + 1) % 2 ^ 32
      let size := slotBytes (20 + 4 * lp.yLen)
      match s.exqRead lp.account (some (u / 4)) (lp.inVa + size * (c % lp.inSlots)) size with
      | .ok b => if field b 4 4 % lp.inSlots = c % lp.inSlots then s.takeFragment u b (some (c % lp.inSlots)) else s
      | .error _ => s

def execInputRingPoll (unit : Fin 16) (s : State) : Res :=
  .next (s.working fun s => if (s.unit unit).phase = .waitInput then s.pollRing unit else s)

/-! ### Cycles (R396 to R402) -/

/-- R_k: a cycle is released; during a rebuild it completes SKIPPED (R412). -/
def execCycleRelease (unit : Fin 16) (s : State) : Res :=
  let u := unit.val
  .next (s.working fun s =>
    let e := s.unit u
    match e.loop with
    | none => s
    | some lp =>
      if s.clk.now < lp.release then s
      else if e.phase = .rebuilding then
        let s := s.xinc F.EXQ_CYCLES_COUNT u 1
        (s.setUnit u { e with flags := 0, sat := 0, k := 0 }).finishCycle u 0x05 none .rebuilding
      else if e.phase ≠ .idle then s
      else
        let s := s.xinc F.EXQ_CYCLES_COUNT u 1
        let e := { e with flags := 0, sat := 0, k := 0, progressAt := s.clk.now }
        if lp.yLen = 0 then
          s.setUnit u { e with phase := .assembling, y := [], cyc := e.nextTable, cycNew := e.pend.isSome }
        else ((s.setUnit u { e with phase := .waitInput }).pollRing u).takeBurst u)

/-- The cycle that waits for its input ends INPUT_INCOMPLETE (R398, R400). -/
def State.missInput (s : State) (u : Nat) : State :=
  let e := s.unit u
  let c := s.xrd F.EXQ_PLANT_C_LAST u
  let expected := (c + 1) % 2 ^ 32
  let held := (e.bursts.filter (fun b => b.cycle == expected)).map (fun b => b.got.length)
  let c' := ((newestBurst c e.bursts).map (·.cycle)).getD c
  let s := (s.setUnit u { e with bursts := e.bursts.filter (fun b => newer b.cycle c') }).xst F.EXQ_PLANT_C_LAST u c'
  ((s.note 0x6003 u expected held.sum).xinc F.EXQ_INPUT_INCOMPLETE u 1).finishCycle u 0x12 none .idle

/-- The cutoff passes without a complete burst. -/
def execInputCutoff (unit : Fin 16) (s : State) : Res :=
  let u := unit.val
  .next (s.working fun s =>
    let e := s.unit u
    match e.loop with
    | none => s
    | some lp => if e.phase ≠ .waitInput ∨ s.clk.now < e.cutoffAt lp then s else s.missInput u)

/-- Work that completes at a count at or below the deadline counts (R398). -/
def Loop.inTime (lp : Loop) (now : Nat) : Bool := decide (now ≤ lp.release + lp.period)

/-- The iterations begin: from the iterate of R401 if its fingerprint is the problem's (R402), else from zero. -/
def State.beginIter (s : State) (u : Nat) (t : ExqTable) (lp : Loop) : State :=
  let e := s.unit u
  let e := { e with phase := .iterating, k := 0, progressAt := s.clk.now
                    flags := if (match e.factor with | some f => f.pivot.isSome | none => false) then flagOn e.flags 0
                      else e.flags }
  match e.warm with
  | some w =>
    if !bit lp.flags 2 then s.setUnit u { e with iter := t.zeroIter }
    else if w.fp = t.fp then s.setUnit u { e with iter := w }
    else (s.setUnit u { e with iter := t.zeroIter, flags := flagOn e.flags 1 }).note 0x6005 u w.fp.toNat t.fp.toNat
  | none => s.setUnit u { e with iter := t.zeroIter }

/-- Assembly ends (R388); a SETM or a table switch makes a factorisation due (R397). -/
def execAssemblyComplete (unit : Fin 16) (s : State) : Res :=
  let u := unit.val
  .next (s.working fun s =>
    let e := s.unit u
    match e.loop, e.cyc with
    | some lp, some t =>
      if e.phase ≠ .assembling ∨ !lp.inTime s.clk.now then s
      else
        let r := assemble t e.y
        let e := { e with sat := e.sat + r.2, progressAt := s.clk.now }
        if t.hasSetm || e.cycNew then s.setUnit u { e with phase := .factoring, next := some r.1 }
        else (s.setUnit u { e with prob := { r.1 with h := e.prob.h, a := e.prob.a } }).beginIter u t lp
    | _, _ => s)

/-- The new factor replaces the old one, and a table switch takes place (R397, R403). -/
def execFactorisationComplete (unit : Fin 16) (s : State) : Res :=
  let u := unit.val
  .next (s.working fun s =>
    let e := s.unit u
    match e.loop, e.cyc, e.next with
    | some lp, some t, some p =>
      if e.phase ≠ .factoring ∨ !lp.inTime s.clk.now then s
      else
        let f := ldl (t.kkt p)
        let s := s.exqPivot u f.1
        let pend := if e.cycNew ∧ e.pend = some t then none else e.pend
        let s := s.xst F.EXQ_STATE_SWITCH_PENDING u (b2n pend.isSome)
        (s.setUnit u { e with prob := p, next := none, factor := some f.1, sat := e.sat + f.2, table := some t,
                              pend := pend }).beginIter u t lp
    | _, _, _ => s)

/-- The work of a cycle is abandoned and the frame prepared is committed (R398). (DEDUCED, log entry 82.) -/
def State.missCycle (s : State) (u : Nat) : State :=
  let e := s.unit u
  let c := s.xrd F.EXQ_PLANT_C_LAST u
  match e.phase with
  | .factoring =>
    let cols := (Config.freeValue s.free).toNat % (match e.cyc with | some t => t.big | none => 1)
    ((s.takeFree.note 0x6002 u c cols).xinc F.EXQ_MISS_FACTOR u 1).finishCycle u 0x11 none .idle
  | .assembling => ((s.note 0x6001 u c 0).xinc F.EXQ_MISS_DEADLINE u 1).finishCycle u 0x10 none .idle
  | .iterating =>
    let s := s.setUnit u { e with warm := if e.k = 0 then e.warm else some e.iter }
    ((s.note 0x6001 u c e.k).xinc F.EXQ_MISS_DEADLINE u 1).finishCycle u 0x10 none .idle
  | _ => s

/-- The deadline. (DESIGN CHOICE, log entry 17.) -/
def execCycleDeadline (unit : Fin 16) (s : State) : Res :=
  let u := unit.val
  .next (s.working fun s => match (s.unit u).loop with
    | none => s
    | some lp => if s.clk.now < lp.release + lp.period then s else s.missCycle u)

/-- A loop stops now: the cycle in progress ends under R398 with the frame it can commit, and none follows (R411). (DEDUCED, log entry 82.) -/
def State.cutLoop (s : State) (u : Nat) : State :=
  let e := s.unit u
  match e.loop with
  | none => s
  | some lp =>
    if e.phase == .idle || e.phase == .rebuilding then s.endLoop u
    else
      let s := s.setUnit u { e with loop := some { lp with stopping := true } }
      if e.phase == .waitInput then s.missInput u else s.missCycle u

/-- Every loop stops now: a warm reset, a module-level error (R411). -/
def State.stopLoops (s : State) : State := (List.range 16).foldl State.cutLoop s

/-! ### Orders in the batch -/

/-- A solve order of a batch has completed. -/
def State.exqDone (s : State) (queue index status : Nat) : State :=
  s.updRun queue (fun b => { b with exq := b.exq.zipIdx.map (fun p =>
    if p.2 = index then { p.1 with status := some status } else p.1) })

/-- The queue of a unit's orders moves on past its first. -/
def State.exqPop (s : State) (u : Nat) : State :=
  s.setUnit u { s.unit u with orders := (s.unit u).orders.tail }

/-! ### Faults (R412) -/

/-- Fence a unit: its loop stops with one last frame, its orders complete ABORTED. -/
def State.fenceUnit (s : State) (u cause : Nat) : State :=
  if s.exqFenced u then s
  else
    let e := s.unit u
    let s := s.needRestart.note 0x600A u cause
    let cyc := s.xrd F.EXQ_CYCLES_COUNT u
    let s := match e.loop with
      | none => s
      | some lp =>
        let idle := e.phase == ExqPhase.idle || e.phase == ExqPhase.rebuilding
        let s := s.exqRange u (s.xrd F.EXQ_PLANT_C_LAST u) (if idle then 0 else e.sat)
        let flags := if idle then 0 else if e.sat = 0 then e.flags else flagOn e.flags 2
        (s.exqOut u (if idle then cyc else cyc - 1) 0x04 flags (if idle then 0 else e.k) none
          (if idle then none else some (lp.release + lp.period))).endLoop u
    let s := match e.order with
      | some o => s.exqDone o.queue o.index 0x04
      | none => s
    let s := e.orders.foldl (fun s o => s.exqDone o.1 o.2.1 0x04) s
    (s.setUnit u { s.unit u with order := none, orders := [], cache := none }).xst F.EXQ_STATE_STATE u 5

/-- The unit rebuilds its working store. -/
def State.rebuild (s : State) (u : Nat) : State :=
  (s.setUnit u { s.unit u with phase := .rebuilding }).xst F.EXQ_STATE_STATE u 4

/-- An uncorrectable word of the working store (R412): the cycle or order ends MEM_UNCORRECTED and the unit rebuilds. -/
def State.exqStoreFault (s : State) (u word : Nat) : State :=
  let e := s.unit u
  let again := match e.uncAt with
    | some t => !s.after t (second 10)
    | none => false
  let s := (s.inc F.ENG_ERR_UE_COUNT 1 (u / 4)).engErr (hostCore u) (word / 32768 % 32) 2
  let s := (s.setUnit u { e with uncAt := some s.clk.now, cache := none }).note 0x6009 u (hostCore u * 32 + word / 32768 % 32)
    (word % 32768)
  if again then s.fenceUnit u 1
  else match e.order with
    | some o =>
      let s := s.exqDone o.queue o.index 0x20
      (s.setUnit u { s.unit u with order := none }).rebuild u
    | none =>
      let s := if e.loop.isNone || e.phase == .idle || e.phase == .rebuilding then s else s.finishCycle u 0x20 none .rebuilding
      if e.loop.isSome && (s.unit u).loop.isNone then s else s.rebuild u

/-- Words of the working store that check bits find wrong (R412): word `w` lies in the tile store of engine w / 32,768 of the
host core. A corrected one is counted and told, as a tile store's is; an uncorrectable one faults, while the unit holds a
problem. -/
def State.exqWords (s : State) (u : Nat) (bad : BadWords) : State :=
  let s := bad.cor.foldl (fun s w => s.engCor (hostCore u) (w / 32768 % 32) [w % 32768] [(0, 2 ^ 18)]) s
  bad.unc.foldl (fun s w => if s.exqFenced u || (s.unit u).table.isNone then s else s.exqStoreFault u w) s

/-- A unit works on its store. -/
def Exq.busy (e : Exq) : Bool :=
  e.order.isSome || e.phase == .assembling || e.phase == .factoring || e.phase == .iterating || e.phase == .rebuilding

/-- An iteration completes (R391), or meets words of the working store that check bits find wrong (R412). -/
def execIterationComplete (unit : Fin 16) (bad : BadWords) (s : State) : Res :=
  let u := unit.val
  .next (s.working fun s =>
    let s := s.exqWords u bad
    let e := s.unit u
    if !bad.unc.isEmpty then s
    else match e.loop, e.cyc, e.factor with
      | some lp, some t, some f =>
        if e.phase ≠ .iterating ∨ !lp.inTime s.clk.now then s
        else
          let k := e.k + 1
          let r := iterStep t e.prob f k lp.cap lp.check e.iter e.rp e.rd
          let e := { e with k := k, iter := r.iter, rp := r.rp, rd := r.rd, sat := e.sat + r.sat, progressAt := s.clk.now }
          match r.res with
          | .more => s.setUnit u e
          | .done =>
            let x := r.iter.x
            (s.setUnit u { e with warm := some r.iter, last := some (x, s.xrd F.EXQ_PLANT_C_LAST u) }).finishCycle u 0
              (some x) .idle
          | .cap =>
            ((s.setUnit u { e with warm := some r.iter }).xinc F.EXQ_CAP_COUNT u 1).finishCycle u 0x13 (some r.iter.x) .idle
      | _, _, _ => s)

/-- The working store is rebuilt from the table and factored; the next cycle starts from zero (R412). (DEDUCED, log entry 82.) -/
def execRebuildComplete (unit : Fin 16) (s : State) : Res :=
  let u := unit.val
  .next (s.working fun s =>
    let e := s.unit u
    match e.table with
    | none => s
    | some t =>
      if e.phase ≠ .rebuilding then s
      else
        let s := s.factorBase u t
        (s.setUnit u { s.unit u with phase := .idle, warm := none }).xst F.EXQ_STATE_STATE u (if e.loop.isSome then 2 else 0))

/-- No progress for HANG_US. -/
def execExqHang (unit : Fin 16) (s : State) : Res :=
  let u := unit.val
  .next (s.working fun s =>
    if (s.unit u).busy && s.after (s.unit u).progressAt (usec (s.rd F.EXQ_CTRL_HANG_US (u / 4))) then s.fenceUnit u 2 else s)

/-- Units whose host core has been fenced (R412). (DEDUCED, log entry 58.) -/
def State.fenceHosts (s : State) : State :=
  (List.range 16).foldl (fun s u => if s.corePresent (hostCore u) && s.coreFenced (hostCore u) then s.fenceUnit u 3 else s) s

/-- A sequencer, vector or mask register's parity (R191, R204). -/
def execSequencerParityError (core : Fin 256) (s : State) : Res :=
  .next (s.working fun s => if s.corePresent core && !s.coreFenced core then (s.clusterStop core 6 1).fenceHosts else s)

/-- A mesh stop fault: the cluster is stopped and fenced, its cores' batches end ABORTED, each core is logged (R427). -/
def execMeshStopFault (die : Fin 4) (cluster : Fin 8) (s : State) : Res :=
  .next (s.working fun s => if bit (s.rd F.SEQ_CLUSTER_FENCE_MASK die) cluster then s
    else
      let s := s.setBit F.SEQ_CLUSTER_FENCE_MASK cluster die 0
      let s := (s.clearBit F.MSH_STATUS_STOPS cluster die 0).inc F.MSH_STOP_ERR_COUNT 1 die
      let s := s.note 0x2402 die cluster
      ((List.range 8).foldl (fun s k =>
        let c := die.val * 64 + cluster.val * 8 + k
        if s.corePresent c && !s.coreFenced c then (s.seqLast c 7).fenceCore c 0x2402 else s) s).fenceHosts)

/-! ### Stopping and switching (R403, R404, R411) -/

/-- A stop: at once between cycles and in a rebuild (R414), else at the end of the cycle. (DEDUCED, log entry 82.) -/
def State.stopUnit (s : State) (u : Nat) : State :=
  let e := s.unit u
  match e.loop with
  | none => s
  | some lp =>
    if e.phase == .idle || e.phase == .rebuilding then s.endLoop u
    else s.setUnit u { e with loop := some { lp with stopping := true } }

/-- The unit runs a loop of this account. -/
def State.loopOf (s : State) (u acct : Nat) : Bool :=
  match (s.unit u).loop with
  | some lp => lp.account == acct
  | none => false

def execLoopStop (slot : BitVec 10) (s : State) : Res :=
  .next (s.cmdGo slot 0x0B (fun acct b s =>
    let u := field b 24 1
    if s.fwState 8 = 5 then (s.exqReject u acct 8).cmdEnd slot.toNat 0x03 8
    else if !s.fwRuns 8 then s
    else if !s.loopOf u acct then (s.exqReject u acct 8).cmdEnd slot.toNat 0x03 8
    else (s.stopUnit u).cmdEnd slot.toNat 0 0))

/-- A new table is read and checked: pending, or the reason it is refused for. (DEDUCED, log entry 78.) -/
def State.switchTable (s : State) (u va : Nat) : State × Nat :=
  let e := s.unit u
  match e.loop, e.table with
  | some lp, some old =>
    match readTable (s.exqRead lp.account (some (u / 4))) va lp.progVa (bit lp.flags 3) lp.yLen with
    | .error r => (if 0x100 ≤ r then s else s.exqReject u lp.account r, r)
    | .ok t =>
      if t.n ≠ old.n ∨ t.m ≠ old.m then (s.exqReject u lp.account 1, 1)
      else ((s.setUnit u { e with pend := some t }).xst F.EXQ_STATE_SWITCH_PENDING u 1, 0)
  | _, _ => (s.exqReject u (s.xrd F.EXQ_STATE_ACCOUNT u) 8, 8)

def execTableSwitch (slot : BitVec 10) (s : State) : Res :=
  .next (s.cmdGo slot 0x0C (fun acct b s =>
    let u := field b 24 1
    if s.fwState 8 = 5 then (s.exqReject u acct 8).cmdEnd slot.toNat 0x03 8
    else if !s.fwRuns 8 then s
    else if !s.loopOf u acct then (s.exqReject u acct 8).cmdEnd slot.toNat 0x03 8
    else
      let r := s.switchTable u (field b 16 8)
      if 0x100 ≤ r.2 then r.1.cmdEnd slot.toNat 0x04 0
      else r.1.cmdEnd slot.toNat (if r.2 = 0 then 0 else 0x03) r.2))

/-- A write of EXQ_STOP; of EXQ_SWITCH_VA, which the steward carries out, once it runs again if it restarts. -/
def State.exqStopWrite (s : State) (u v : Nat) : State := if bit v 0 then s.stopUnit u else s

/-- (DEDUCED, log entry 82.) -/
def State.exqSwitchWrite (s : State) (u va : Nat) : State :=
  if s.fwState 8 = 5 then s.exqReject u (s.xrd F.EXQ_STATE_ACCOUNT u) 8
  else if !s.fwRuns 8 then s.setUnit u { s.unit u with switchReq := some va }
  else (s.switchTable u va).1

/-- The steward is back: register requests that waited. -/
def State.exqWaiting (s : State) : State :=
  (List.range 16).foldl (fun s u => match (s.unit u).switchReq with
    | some va => (s.setUnit u { s.unit u with switchReq := none }).exqSwitchWrite u va
    | none => s) s

/-! ### Solve orders (R406 to R410) -/

/-- The checks of an order and its measurement: format, count and bytes. (DEDUCED, log entry 81.) -/
def State.orderInput (s : State) (u acct n : Nat) (b : List Byte) : Except Nat (Nat × Nat × List Byte) :=
  let held := match s.queue n with | some q => bit q.exq.toNat u | none => false
  let rd := s.exqRead acct none
  if !(field b 0 1 == 1 || field b 0 1 == 2) ∨ 8 ≤ field b 1 1 ∨ field b 6 2 ≠ 0 then .error 2
  else if 16 ≤ field b 5 1 ∨ !held ∨ !s.exqFeature 1 ∨ !s.exqAvail u ∨ (s.unit u).loop.isSome ∨ s.fwState (u / 4) = 5 then
    .error 8
  else if field b 2 2 = 0 ∨ 4096 < field b 2 2 ∨ field b 4 1 = 0 ∨ 16 < field b 4 1 then .error 6
  else if field b 24 8 = 0 then .ok (0, 0, [])
  else do
    let h ← rd (field b 24 8) 16
    let n := field h 12 2
    if 1 < field h 1 1 then .error 2
    else if 2048 < n then .error 1
    else
      let d ← rd (field b 24 8 + 16) (4 * n)
      .ok (field h 1 1, n, d)

/-- Measurement of an order: elements with saturations, or the first NaN. (DEDUCED, log entry 81.) -/
def orderVector (t : ExqTable) (efmt n : Nat) (d : List Byte) : List Int × Nat × Option Nat :=
  let f : Frag := ⟨0, efmt, 0, (List.range n).map (fun i => field d (4 * i) 4)⟩
  let v := gather (f.words.zipIdx.map (fun w => fragElem t efmt w.2 w.1))
  (v.1, v.2, fragNan f)

/-- An iterate of a table read from memory: x, z, y. -/
def readIter (t : ExqTable) (b : List Byte) (fp : W32) : Iterate :=
  let v := ints b (t.n + 2 * t.m)
  ⟨v.take t.n, (v.drop t.n).take t.m, v.drop (t.n + t.m), fp⟩

/-- What an order reads: its table, measurement, saturations of it, and the first NaN. -/
def State.orderRead (s : State) (u acct n : Nat) (b : List Byte) :
    Except Nat (ExqTable × List Int × Nat × Option Nat) := do
  let i ← s.orderInput u acct n b
  let t ← readTable (s.exqRead acct none) (field b 8 8) (field b 16 8) true i.2.1
  let v := orderVector t i.1 i.2.1 i.2.2
  .ok (t, v.1, v.2.1, v.2.2)

/-- An order ends before it runs. -/
def State.orderAbort (s : State) (u acct n i r : Nat) : State :=
  let s := s.exqPop u
  if 0x100 ≤ r then s.exqDone n i (r - 0x100) else (s.exqReject u acct r).exqDone n i 0x04

/-- Exact bytes of a vector in binary64 (R408). -/
def mirrorOf (l : List Int) (w : Nat → Nat) : List Byte := l.zipIdx.flatMap (fun p => dyBytes ⟨p.1, w p.2⟩)

/-- The mirror dump: H, f, A, l, u, x, z, y (R408). (DEDUCED, log entry 81.) -/
def mirrorBytes (t : ExqTable) (p : Problem) (it : Iterate) : List Byte :=
  mirrorOf p.h (fun k => t.wH (k / t.n) (k % t.n)) ++ mirrorOf p.f t.wF ++
    mirrorOf p.a (fun k => t.wA (k / t.n) (k % t.n)) ++ mirrorOf p.l t.wLo ++ mirrorOf p.u t.wUp ++
    mirrorOf it.x t.wX ++ mirrorOf it.z t.wZ ++ mirrorOf it.y t.wY

/-- BATCH_TAG of the batch that runs on a queue. -/
def State.batchTag (s : State) (n : Nat) : Nat := match s.runBatch n with | some b => b.tag.toNat | none => 0

/-- A SOLVE runs: what it will deliver (R407, R408). (DEDUCED, log entry 81.) -/
def State.runSolve (s : State) (u acct n i : Nat) (b : List Byte) (t : ExqTable) (y : List Int) (sat0 : Nat)
    (warm : Option Iterate) : State :=
  let e := s.unit u
  let a := assemble t y
  let keep := bit (field b 1 1) 2 && e.cache == some (acct, t.va, t.version, t.n, t.m)
  let f := match e.factor with
    | some f => if keep then (f, 0) else ldl (t.kkt a.1)
    | none => ldl (t.kkt a.1)
  let stream := (Config.exqOpen 5 a.1.key).toNat % 65536
  let s := if keep then s else s.exqPivot u f.1
  let (it, wf, s) := match warm with
    | some w =>
      if w.fp = t.fp then (w, 0, s) else (t.zeroIter, 2, s.note 0x6005 u w.fp.toNat t.fp.toNat)
    | none => (t.zeroIter, 0, s)
  let r := iterAll t a.1 f.1 (field b 2 2) (field b 4 1) (field b 2 2) 0 ⟨it, 0, 0, 0, .more⟩
  let sat := sat0 + a.2 + f.2 + r.1.sat
  let flags := wf + b2n f.1.pivot.isSome + 4 * b2n (decide (sat ≠ 0))
  let status := if r.1.res = .cap then 0x13 else b2n (decide (flags ≠ 0))
  let body := wordsOfInts (r.1.iter.x ++ r.1.iter.z ++ r.1.iter.y)
  let blk := exqBlock status flags u stream r.2 0 0 (f.1.pivot.getD 0xFFFF) (t.n + 2 * t.m) (ofSigned 32 r.1.rp)
    (ofSigned 32 r.1.rd) body ++ natLe 4 t.fp.toNat
  let ws := (field b 40 8, blk) :: (if bit (field b 1 1) 1 then [(field b 56 8, mirrorBytes t a.1 r.1.iter)] else [])
  let s := s.exqRange u (s.batchTag n) sat
  let s := s.setUnit u { s.unit u with
    table := some t, prob := a.1, factor := some f.1, cache := some (acct, t.va, t.version, t.n, t.m),
    progressAt := s.clk.now
    order := some ⟨n, i, acct, status, ws, (status, flags, r.2)⟩ }
  (s.exqPop u).xst F.EXQ_STATE_STATE u 3

/-- The front order of a unit that is free, with its queue's account. -/
def State.frontOrder (s : State) (u : Nat) : Option (Nat × Nat × List Byte × Nat) :=
  let e := s.unit u
  match e.orders with
  | [] => none
  | o :: _ => if e.order.isSome || e.phase == .rebuilding then none else (s.queue o.1).map (fun q => (o.1, o.2.1, o.2.2, q.account))

def execSolve (unit : Fin 16) (s : State) : Res :=
  let u := unit.val
  .next (s.working fun s => match s.frontOrder u with
    | none => s
    | some (n, i, b, acct) =>
      if field b 0 1 = 2 then s
      else match s.orderRead u acct n b with
        | .error r => s.orderAbort u acct n i r
        | .ok (_, _, _, some k) => ((s.exqPop u).note 0x6008 u 0 k).exqDone n i 0x04
        | .ok (t, y, sat, none) =>
          if bit (field b 1 1) 0 then
            match s.exqRead acct none (field b 32 8) (4 + 4 * (t.n + 2 * t.m)) with
            | .error r => s.orderAbort u acct n i r
            | .ok w => s.runSolve u acct n i b t y sat (some (readIter t (w.drop 4) (BitVec.ofNat 32 (field w 0 4))))
          else s.runSolve u acct n i b t y sat none)

/-- An ADJOINT runs: the gradient block (R409, R410). (DEDUCED, log entry 81.) -/
def State.runAdjoint (s : State) (u acct n i : Nat) (b : List Byte) (t : ExqTable) (y : List Int) (sat0 : Nat)
    (it : Iterate) (g : List FV) : State :=
  let a := assemble t y
  let r := adjoint t a.1 it g
  let sat := sat0 + a.2 + r.2.2
  let f := r.2.1
  let flags := b2n f.pivot.isSome + 4 * b2n (decide (sat ≠ 0))
  let free := fun (j w : Nat) => (Config.exqOpen (6 + j) a.1.key).toNat % 2 ^ w
  let status := b2n (decide (flags ≠ 0))
  let blk := exqBlock status flags u (free 0 16) (free 1 16) 0 0 (f.pivot.getD 0xFFFF) (2 * t.n + 4 * t.m) (free 2 32)
    (free 3 32) r.1
  let s := (s.exqPivot u f).exqRange u (s.batchTag n) sat
  let s := s.setUnit u { s.unit u with
    table := some t, progressAt := s.clk.now, order := some ⟨n, i, acct, status, [(field b 56 8, blk)], (status, flags, 0)⟩ }
  (s.exqPop u).xst F.EXQ_STATE_STATE u 3

def execAdjoint (unit : Fin 16) (s : State) : Res :=
  let u := unit.val
  .next (s.working fun s => match s.frontOrder u with
    | none => s
    | some (n, i, b, acct) =>
      if field b 0 1 ≠ 2 then s
      else match s.orderRead u acct n b with
        | .error r => s.orderAbort u acct n i r
        | .ok (_, _, _, some k) => ((s.exqPop u).note 0x6008 u 0 k).exqDone n i 0x04
        | .ok (t, y, sat, none) =>
          match s.exqRead acct none (field b 40 8 + 32) (4 * (t.n + 2 * t.m)), s.exqRead acct none (field b 48 8) (8 * t.n) with
          | .ok w, .ok g =>
            s.runAdjoint u acct n i b t y sat (readIter t w t.fp) ((List.range t.n).map (fun j => f64.decode (field g (8 * j) 8)))
          | .error r, _ => s.orderAbort u acct n i r
          | _, .error r => s.orderAbort u acct n i r)

/-- The order's blocks are written and it completes; CAP contributes DONE_FLAGGED (R407). -/
def execSolveOrderComplete (unit : Fin 16) (s : State) : Res :=
  let u := unit.val
  .next (s.working fun s =>
    let e := s.unit u
    match e.order with
    | none => s
    | some o =>
      let sts := o.writes.map (fun w => s.accWriteStatus o.account w.1 w.2.length)
      let s := (s.setUnit u { e with order := none }).xst F.EXQ_STATE_STATE u 0
      let s := ((s.xst F.EXQ_LAST_STATUS u o.last.1).xst F.EXQ_LAST_FLAGS u o.last.2.1).xst F.EXQ_LAST_ITER u o.last.2.2
      let s := if o.status = 0x13 then s.xinc F.EXQ_CAP_COUNT u 1 else s
      let st := firstStatus sts
      if st = 0x04 then (s.exqReject u o.account 5).exqDone o.queue o.index 0x04
      else
        let s := o.writes.foldl (fun s w => s.accWrite o.account w.1 w.2) s
        s.exqDone o.queue o.index (firstStatus [st, if o.status = 0x13 then 1 else o.status]))

end Sys2Proof.Machine
end

