-- ==== Sys2Proof/Machine/Charter.lean ====
section
/-! DEFINITION. The charter (R421 to R426) and the checks of signed images (R487 to R491, R495). -/

namespace Sys2Proof.Machine

/-! ### Signed images (R489 to R491) -/

def sigCls (i : SigBlock) : Nat := field i.hdr 8 2
def sigSvn (i : SigBlock) : Nat := field i.hdr 12 4
def sigVersion (i : SigBlock) : Nat := field i.hdr 16 4
def sigHrecMin (i : SigBlock) : Nat := field i.hdr 24 2
def sigHrecMax (i : SigBlock) : Nat := field i.hdr 26 2

/-- "HLXSIG01" and "HLXT". -/
def sigMagic : List Byte := ascii [0x48, 0x4C, 0x58, 0x53, 0x49, 0x47, 0x30, 0x31]
def tokenMagic : List Byte := ascii [0x48, 0x4C, 0x58, 0x54]

/-- DIGEST of a header. -/
def sigDigest (i : SigBlock) : List Byte := slice i.hdr 32 48

/-- Classes of the processors whose records are handed over: dispatchers, recorder and exchequer steward (R430, R490). -/
def handoffCls (c : Nat) : Bool := c == 3 || c == 7 || c == 8

/-- MAGIC, reserved fields and BODY_LENGTH fit the image (R488, R489). (DEDUCED, log entry 13.) -/
def sigForm (cls : Nat) (i : SigBlock) : Bool :=
  i.hdr.length == 128 && slice i.hdr 0 8 == sigMagic && field i.hdr 10 2 == 0 && field i.hdr 28 4 == 0 &&
    field i.hdr 80 48 == 0 && field i.hdr 20 4 == i.body.length && certForm i.cert &&
    (handoffCls cls || field i.hdr 24 4 == 0) && (cls != 0 || sigVersion i == field i.body 8 4)

/-- The certificate names a root set in force, under which both issuer signatures verify, and the key may sign the class. -/
def certOk (cls rootMin : Nat) (i : SigBlock) : Bool :=
  let root := field i.cert 6 2
  decide (rootMin ≤ root ∧ root ≤ 3) && verifies i.issuerRsa .rsa (rootRsa root) i.cert &&
    verifies i.issuerSlh .slhS (rootSlh root) i.cert && field i.cert 4 2 == (if cls = 0 then 2 else 1) &&
    bit (field i.cert 8 4) cls

/-- The checks of R491 for a class, in order: the reason of the first that fails, or 0. -/
def imgCheck (cls rootMin floor : Nat) (i : SigBlock) : Nat :=
  if !sigForm cls i then 1
  else if sigCls i ≠ cls then 2
  else if sha i.body ≠ sigDigest i then 3
  else if !certOk cls rootMin i then 4
  else if !verifies i.rsa .rsa (certRsa i.cert) i.hdr then 5
  else if !verifies i.slh .slhS (certSlh i.cert) i.hdr then 6
  else if sigSvn i < floor then 7
  else 0

/-- A charter as a signed image of class 0: its header, directory and sections, with its signature block (R489). -/
def charterSigned (c : CharterImage) : SigBlock := { c.sig with body := c.body }

/-- The 33,856 bytes of a signature block (R489). -/
def sigBlockBytes (i : SigBlock) : List Byte :=
  i.hdr ++ i.cert ++ sigBytes i.issuerRsa ++ sigBytes i.issuerSlh ++ sigBytes i.rsa ++ sigBytes i.slh

/-- The effective floor of a class (R495). (DEDUCED, log entry 13.) -/
def State.floor (s : State) (c : Nat) : Nat := max (s.rd F.TRS_COUNTER_VALUE 0 c) (s.rd F.TRS_FLOOR_VALUE 0 c)

/-- An image is refused: code 0x8001 and TRS_LAST_REFUSE (R491, R503). -/
def State.refuseImage (s : State) (cls reason index svn : Nat) : State :=
  (((s.st F.TRS_LAST_REFUSE_CLASS cls).st F.TRS_LAST_REFUSE_REASON reason).st F.TRS_LAST_REFUSE_INDEX index).note 0x8001
    cls reason svn

/-! ### The charter -/

/-- An entry of the directory (R421). -/
structure DirEnt where
  typ : Nat
  off : Nat
  len : Nat
  crc : Nat
  deriving DecidableEq, Repr

def charterDir (b : List Byte) : List DirEnt :=
  (List.range (field b 12 4)).map (fun i =>
    let o := 64 + 16 * i
    ⟨field b o 2, field b (o + 4) 4, field b (o + 8) 4, field b (o + 12) 4⟩)

/-- The charter is readable, of a known format and length, and its directory and sections check (R429 cause 0x01). (DEDUCED, log entry 13.) -/
def charterReadable (c : CharterImage) : Bool :=
  let b := c.body
  c.readable && field b 0 4 == 1 && decide (field b 4 4 ≤ 262144) && decide (1 ≤ field b 12 4 ∧ field b 12 4 ≤ 64) &&
    decide (64 + 16 * field b 12 4 ≤ b.length) &&
    (charterDir b).all (fun e => decide (e.off + e.len ≤ b.length) && (crc32c (slice b e.off e.len)).toNat == e.crc)

/-- Length and reserved bytes of a section (R423 to R427, R497). -/
def sectionOk (typ : Nat) (b : List Byte) : Bool :=
  let n := b.length
  match typ with
  | 1 =>
    let f := field b 5 1
    n == 32 + 16384 * (f % 2) + 65536 * (f / 2 % 2) && decide (f < 4) && field b 6 2 == 0 && field b 18 14 == 0
  | 2 =>
    n == 192 && field b 2 2 == 0 && field b 10 2 == 0 && field b 13 3 == 0 && field b 62 2 == 0 &&
      (List.range 16).all (fun p => !bit (field b (24 + 2 * p) 2) 15) && !bit (field b 60 2) 15
  | 3 => n == 8 && field b 3 1 == 0 && field b 6 2 == 0
  | 4 => n % 16 == 0 && decide (n ≤ 16384)
  | 5 => n == 64
  | 6 => n == 48 && field b 1 3 == 0
  | 7 => n == 32
  | 8 =>
    n % 512 == 0 && decide (512 ≤ n ∧ n ≤ 8192) &&
      (List.range (n / 512)).all (fun i => field b (512 * i + 2) 14 == 0 && field b (512 * i + 448) 64 == 0)
  | _ => false

/-- The first section of a type, when it has its layout. -/
def charterSec (b : List Byte) (typ : Nat) : Option (List Byte) :=
  match (charterDir b).find? (fun e => e.typ == typ) with
  | some e => let x := slice b e.off e.len; if sectionOk typ x then some x else none
  | none => none

/-- A section's bytes, none for one that is missing. -/
def charterBytes (b : List Byte) (typ : Nat) : List Byte := (charterSec b typ).getD []

/-- Types a charter must hold (R422). -/
def charterRequired : List Nat := [1, 2, 3, 6, 7, 8]

def charterComplete (b : List Byte) : Bool := charterRequired.all (fun t => (charterSec b t).isSome)

/-- Entries that are ignored: unknown types, optional sections that break their layout (R422, R423). -/
def charterIgnored (b : List Byte) : List DirEnt :=
  (charterDir b).filter (fun e => !(decide (1 ≤ e.typ ∧ e.typ ≤ 8)) ||
    ((e.typ == 4 || e.typ == 5) && !sectionOk e.typ (slice b e.off e.len)))

/-- The management settings of a link section (R425). -/
def mgtOf (link : List Byte) : Mgt where
  mode := some (field link 56 1)
  pfx := field link 57 1
  tag := field link 60 2
  addr := slice link 64 16
  gateway := slice link 80 16

/-- Every LCK field of R564 from the charter's sections (R423: out-of-range values clamp), and the start values that go
with them. (DEDUCED, log entry 40.) -/
def State.fillCharter (s : State) (b : List Byte) : State :=
  let pop := charterBytes b 1
  let link := charterBytes b 2
  let pw := charterBytes b 3
  let fl := charterBytes b 6
  let pol := charterBytes b 7
  let s := s.st F.PWR_CAP_WATTS (clampNat 1000 3000 (field pw 0 2))
  let s := (List.range 4).foldl (fun s d => s.st F.STR_CTRL_RT_UNITS (clampNat 0 64 (field pop 4 1)) d) s
  let enc := field link 12 1
  let s := ((s.st F.ETH_ENCAP_MODE (enc % 2)).st F.ETH_ENCAP_PAYLOAD (enc / 2 % 2)).st F.ETH_ENCAP_DSCP (enc / 4)
  let s := (s.st F.ETH_TYPE_ETHERTYPE (clampNat 0x600 0xFFFF (field link 16 2))).st F.ETH_TYPE_UDP_PORT
    (clampNat 1024 65535 (field link 18 2))
  let s := (List.range 4).foldl (fun s d => (s.st F.EXQ_FRAME_ETHERTYPE (clampNat 0x600 0xFFFF (field link 20 2)) d).st
    F.EXQ_FRAME_UDP_PORT (clampNat 1024 65535 (field link 22 2)) d) s
  let s := s.st F.MGT_CTRL_SPDM_PORT (clampNat 1024 65535 (field link 58 2))
  let s := (s.st F.GLB_POLICY_POLICY (field pol 0 8 % 1024) 0 0)
  let s := s.st F.TRS_STATUS_ROOT_MIN (min 3 (field fl 0 1))
  let s := (List.range 11).foldl (fun s c => s.st F.TRS_FLOOR_VALUE (field fl (4 + 4 * c) 4) 0 c) s
  let mhz := if field pw 4 2 = 0 then 2000 else clampNat 400 3000 (field pw 4 2)
  let s := (s.st F.GPC_CLOCK_TARGET_MHZ mhz).st F.GPC_CLOCK_ACTUAL_MHZ mhz
  let tags := (List.range 16).foldl (fun m p => mset 0 m p (field link (24 + 2 * p) 2)) []
  { s with
    pow := { s.pow with startVddf := if field pw 2 1 = 0 then 75 else clampNat 60 85 (field pw 2 1) }
    fab := { s.fab with portTag := tags, macBase := (slice link 4 6).foldl (fun v x => v * 256 + x.toNat) 0 }
    edge := { s.edge with redfishAdmin := slice link 96 96, mgt := mgtOf link } }

end Sys2Proof.Machine
end

