-- ==== Sys2Proof/Machine/Trust.lean ====
section
/-! DEFINITION. The trust engine (R492 to R502): identity, rollback counters, operator tokens, SPDM. -/

namespace Sys2Proof.Machine

/-! ### Rollback counters (R495, R496) -/

/-- Raise the counter of a class; a write that UFS refuses writes code 0x8006. -/
def State.raiseCounter (s : State) (c v : Nat) (refused : Bool) : State :=
  let old := s.rd F.TRS_COUNTER_VALUE 0 c
  if v ≤ old then s
  else if refused then (s.st F.TRS_STATUS_RPMB_FAIL 1).note 0x8006 c v
  else (s.st F.TRS_COUNTER_VALUE v 0 c).note 0x8003 c old v

/-- Image class of a processor (R490). -/
def procClass (p : Nat) : Nat := if p < 4 then 3 else if p < 9 then p else 9

/-- The lowest SVN among the images that run in a class; 0 when none does: the image of a processor that has failed runs no
more. (DEDUCED, log entry 40.) -/
def State.runningSvn (s : State) (c : Nat) : Nat :=
  match c with
  | 0 => s.boot.charterSvn
  | 1 => mget 0 s.trust.svn 1
  | 2 => mget 0 s.trust.svn 2
  | 10 => mget 0 s.trust.svn 10
  | _ =>
    let l := s.procs.filterMap (fun p => if procClass p.1 = c ∧ s.fwAlive p.1 then p.2.image.map sigSvn else none)
    l.foldl min (l.headD 0)

/-! ### Operator keys and tokens (R497 to R499) -/

/-- The 512-byte entry of an enrolled operator key (R497). -/
def State.operatorKey (s : State) (k : Nat) : Option (List Byte) :=
  let b := charterBytes s.boot.charter 8
  ((List.range (b.length / 512)).find? (fun i => field b (512 * i) 1 == k)).map (fun i => slice b (512 * i) 512)

/-- Its roles, RSA modulus and SLH-DSA public key. -/
def State.keyRoles (s : State) (k : Nat) : Option Nat := (s.operatorKey k).map (fun e => field e 1 1)
def State.keyRsa (s : State) (k : Nat) : List Byte := slice ((s.operatorKey k).getD []) 16 384
def State.keySlh (s : State) (k : Nat) : List Byte := slice ((s.operatorKey k).getD []) 400 48

/-- The device identifier (R494): zeros until the identity keys exist. -/
def State.deviceId (s : State) : List Byte := (s.trust.keys.map (·.deviceId)).getD (List.replicate 16 0#8)

/-- The result field of an action's refusal or acceptance. -/
def State.tokenResult (s : State) (action v : Nat) : State :=
  if action = 1 then s.st F.DBK_CLEAR_RESULT v
  else if action = 2 ∨ action = 3 then s.st F.TRS_NONCE_CTRL_RESULT v
  else s

/-- A refusal: code 0x8004; reason 4 gives result 3, reason 7 result 4. -/
def State.tokenRefuse (s : State) (h : List Byte) (r : Nat) : State :=
  let a := field h 4 1
  let v := if r = 4 then 3 else if r = 7 then 4 else 2
  (s.tokenResult a v).note 0x8004 a r (field h 5 1)

/-- The nonce of an action is used up. (DESIGN CHOICE, log entry 39.) -/
def State.dropNonce (s : State) (a : Nat) : State :=
  if a = 1 then { s with dbk := { s.dbk with nonce := none } } else { s with trust := { s.trust with nonce := none } }

/-- The action of an accepted token: clears the Daybook with 0x8005 after it; clears the degrade log; raises counters, but for
the classes whose write UFS refuses. -/
def State.tokenAct (s : State) (h : List Byte) (refused : List Nat) : State :=
  let a := field h 4 1
  let k := field h 5 1
  let arg := field h 40 8
  let s := s.tokenResult a 1
  if a = 1 then (s.clearDaybook k).note 0x8005 a k arg
  else
    let s := s.note 0x8005 a k arg
    if a = 2 then
      let n := s.nor.degrade.length
      (({ s with nor := { s.nor with degrade := [], degradeCtr := 0 } }).st F.GLB_DEGRADE_LOG 0).note 0x0043 n
    else (List.range 11).foldl (fun s c => if bit arg c then s.raiseCounter c (s.runningSvn c) (refused.contains c) else s) s

/-- The reason of the first check of R499 that fails, in order; 0 for an accepted token. `len` is the token's length. -/
def State.tokenReason (s : State) (h : List Byte) (len : Nat) (g : TokenSigs) : Nat :=
  let a := field h 4 1
  let nonce := if a = 1 then s.nonceLive s.dbk.nonce else s.nonceLive s.trust.nonce
  let role := match s.keyRoles (field h 5 1) with | some r => bit r (a - 1) | none => false
  if len ≠ 16672 ∨ slice h 0 4 ≠ tokenMagic ∨ a = 0 ∨ 3 < a ∨ field h 6 2 ≠ 0 ∨ field h 48 16 ≠ 0 ∨
      (a ≠ 3 ∧ field h 40 8 ≠ 0) then 1
  else if !role then 2
  else if slice h 8 16 ≠ s.deviceId then 3
  else if nonce ≠ some (BitVec.ofNat 128 (field h 24 16)) then 4
  else if !verifies g.rsa .rsa (s.keyRsa (field h 5 1)) h then 5
  else if !verifies g.slh .slhS (s.keySlh (field h 5 1)) h then 6
  else if a = 1 ∧ s.boot.phase = .fatal then 7
  else 0

/-- A token is checked and acted on; its nonce is used up by any check after that of the nonce (R499). -/
def State.checkToken (s : State) (h : List Byte) (len : Nat) (g : TokenSigs) (refused : List Nat) : State :=
  let r := s.tokenReason h len g
  let s := if r = 0 ∨ 5 ≤ r then s.dropNonce (field h 4 1) else s
  if r = 0 then s.tokenAct h refused else s.tokenRefuse h r

/-- TOKEN: the token lies in memory; `hdr` is its header as the trust engine reads it, with its two signatures and the classes
whose counter write UFS refuses. (DESIGN CHOICE, log entry 4.) -/
def execToken (slot : BitVec 10) (hdr : List Byte) (sigs : TokenSigs) (refused : List Nat) (s : State) : Res :=
  if 64 < hdr.length then .fault .illFormed
  else .next (s.cmdGo slot 0x0E (fun _ b s =>
    let h := (s.devRead [] (field b 16 8) 64).bytes
    if h ≠ hdr then s
    else
      let r := s.tokenReason h (field b 24 4) sigs
      (s.checkToken h (field b 24 4) sigs refused).cmdEnd slot.toNat (if r = 0 then 0 else 0x03) r))

/-! ### Identity (R492 to R494) -/

/-- The keys that the seed yields: the same at every start (R493, R494). -/
def identityKeys (seed : List Byte) : IdKeys :=
  let r := kdf seed (ascii [0x48, 0x4C, 0x58, 0x2D, 0x49, 0x44, 0x2D, 0x52, 0x53, 0x41]) 48
  let h := kdf seed (ascii [0x48, 0x4C, 0x58, 0x2D, 0x49, 0x44, 0x2D, 0x53, 0x4C, 0x48]) 72
  let rsaPub := natBe 384 (Config.rsaModulus r).toNat
  let slhPub := natBe 48 (Config.slhPublic h).toNat
  ⟨r, h, rsaPub, slhPub, slice (sha (rsaPub ++ slhPub)) 0 16⟩

/-- Both identity keys exist: the device identifier shows (R493, R494). (DEDUCED, log entry 40.) -/
def State.makeKeys (s : State) : State :=
  match s.trust.seed with
  | none => s
  | some seed =>
    let k := identityKeys seed
    let s := { s with trust := { s.trust with keys := some k } }.st F.TRS_STATUS_ID_READY 1
    (List.range 4).foldl (fun s i => s.st F.TRS_DEVID_WORD (field k.deviceId (4 * i) 4) 0 i) s

/-- Generation, which runs from start step 5 on, completes: a start that goes on to step 12 has done it by then. -/
def execIdentityKeysReady (s : State) : Res :=
  .next (if (s.up || s.boot.phase == .starting) && decide (5 ≤ s.rd F.GLB_STATE_STEP) && !s.flag F.TRS_STATUS_ID_READY then
      s.makeKeys
    else s)

/-! ### Attestation (R500 to R502): the answer's message code and what the spec gives of its contents -/

/-- ERROR with ResponseNotReady, and with another code. -/
def spdmNotReady : SpdmMsg := ⟨0x7F, [0x42], [], []⟩
def spdmError : SpdmMsg := ⟨0x7F, [0x01], [], []⟩

/-- The operating system answers: ResponseNotReady until start step 13 has completed and the identity keys exist. (DEDUCED, log entry 42.) -/
def State.spdm (s : State) (ans : SpdmMsg) : State :=
  if s.running && s.flag F.TRS_STATUS_ID_READY then { s with trust := { s.trust with spdm := some ans } }
  else if (s.up || s.boot.phase == .starting) && s.rd F.GPC_HARTS_ONLINE != 0 then
    { s with trust := { s.trust with spdm := some spdmNotReady } }
  else s

/-- Public keys of the identity (R494). -/
def State.idRsa (s : State) : List Byte := (s.trust.keys.map (·.rsaPub)).getD []
def State.idSlh (s : State) : List Byte := (s.trust.keys.map (·.slhPub)).getD []

/-- An answer with the requester's nonce, signed with the RSA identity key over the nonce and the answer's fields. (DESIGN
CHOICE, log entry 102.) -/
def State.signed (s : State) (code : Nat) (nums : List Nat) (nonce : BitVec 256) (data : List (List Byte)) (more : List Sig) :
    SpdmMsg :=
  let n := natLe 32 nonce.toNat
  ⟨code, nums, n :: data, ⟨.rsa, s.idRsa, n ++ data.flatMap id⟩ :: more⟩

def execGetVersion (s : State) : Res := .next (s.spdm ⟨0x04, [0x13], [], []⟩)

/-- Certificates, challenges and signed measurements: CERT_CAP, CHAL_CAP, MEAS_CAP 2. (PRESUMED, log entry 103.) -/
def execGetCapabilities (s : State) : Res := .next (s.spdm ⟨0x61, [0x16], [], []⟩)

/-- RSASSA-3072 and SHA-384. -/
def execNegotiateAlgorithms (s : State) : Res := .next (s.spdm ⟨0x63, [3072, 384], [], []⟩)

/-- Slot 0 alone is filled: the digest of its chain. -/
def execGetDigests (s : State) : Res := .next (s.spdm ⟨0x01, [1], [sha (s.nor.chain.flatMap id)], []⟩)

/-- The chain of slot 0; another slot is empty: an ERROR answer. -/
def execGetCertificate (cslot : BitVec 4) (s : State) : Res :=
  .next (if cslot = 0 then s.spdm ⟨0x02, [0], s.nor.chain, []⟩ else s.spdm spdmError)

/-- The digest of the chain and a nonce of the module's own, signed. (DESIGN CHOICE, log entry 39.) -/
def execChallenge (nonce : BitVec 256) (cslot : BitVec 4) (s : State) : Res :=
  let own := natLe 16 (Config.freeValue s.free).toNat ++ natLe 16 (Config.freeValue (s.free + 1)).toNat
  let n := if s.running && s.flag F.TRS_STATUS_ID_READY then 2 else 0
  .next (if cslot = 0 then (s.spdm (s.signed 0x03 [0] nonce [sha (s.nor.chain.flatMap id), own] [])).takeFrees n
    else s.spdm spdmError)

/-- Put an entry where its sequence number falls. -/
def insertSeq (e : DegradeEntry) : List DegradeEntry → List DegradeEntry
  | [] => [e]
  | x :: t => if e.seq ≤ x.seq then e :: x :: t else x :: insertSeq e t

/-- Entries in sequence order. -/
def sortSeq : List DegradeEntry → List DegradeEntry
  | [] => []
  | e :: t => insertSeq e (sortSeq t)

/-- The image that runs on a processor: during an update the new one from its start on (R440 step 4, R502). -/
def State.runningImage (s : State) (p : Nat) : Option SigBlock :=
  match s.procs.find? (fun e => e.1 == p) with
  | none => none
  | some e => match e.2.upd with
    | some img => if e.2.startsAt ≤ s.clk.now then some img else e.2.image
    | none => e.2.image

/-- Measurement of an index (R501): charter, firmware, Lomef images, features, degrade set, floors. (DEDUCED, log entry 42.) -/
def State.measure (s : State) (i : Nat) : List Byte :=
  if i = 1 then sha (s.boot.charter ++ s.boot.charterSig)
  else if i = 2 ∨ i = 3 then mget noDigest s.trust.digests i
  else if i < 21 then
    match s.runningImage (i - 4) with
    | some img => sigDigest img
    | none => noDigest
  else if i < 29 then mget noDigest s.trust.digests i
  else if i = 29 then sha ((List.range 4).flatMap (fun w => natLe 8 (s.rd F.GLB_FEATURES_AGREED 0 w)))
  else if i = 30 then sha ((sortSeq s.boot.degradeSet).flatMap DegradeEntry.bytes)
  else if i = 31 then sha ((List.range 11).flatMap (fun c => natLe 4 (s.floor c)))
  else noDigest

/-- Blocks 1 to 31. -/
def State.blocks (s : State) : List (List Byte) := (List.range 31).map (fun i => s.measure (i + 1))

/-- Block 0xF0: the hash-based identity signature over SHA-384 of the nonce and blocks 1 to 31. -/
def State.block240 (s : State) (nonce : BitVec 256) : Sig :=
  ⟨.slhF, s.idSlh, sha (natLe 32 nonce.toNat ++ s.blocks.flatMap id)⟩

/-- Signed measurements as they stand: how many blocks there are (index 0), one block, or all of them (index 0xFF). -/
def execGetMeasurements (nonce : BitVec 256) (index : BitVec 8) (s : State) : Res :=
  let i := index.toNat
  .next (if i = 0xFF then s.spdm (s.signed 0x60 [32] nonce s.blocks [s.block240 nonce])
    else if i = 0 then s.spdm (s.signed 0x60 [32] nonce [] [])
    else if i ≤ 31 then s.spdm (s.signed 0x60 [i] nonce [s.measure i] [])
    else if i = 0xF0 then s.spdm (s.signed 0x60 [i] nonce [] [s.block240 nonce])
    else s.spdm spdmError)

/-! ### A new charter (R551) -/

/-- Checked as an image of class 0 with its VERSION against the running floors, then written for the next start; one that a
check of R491 refuses is told as R491 says. -/
def execCharterUpdate (img : CharterImage) (s : State) : Res :=
  let r := imgCheck 0 (s.rd F.TRS_STATUS_ROOT_MIN) (s.floor 0) (charterSigned img)
  .next (if !(s.running && s.flag F.TRS_STATUS_ID_READY) then s
    else if r ≠ 0 then s.refuseImage 0 r 0 (sigSvn img.sig)
    else if charterReadable img && decide (s.floor 0 ≤ field img.body 8 4) then { s with nor := { s.nor with charter := img } }
    else s)

end Sys2Proof.Machine
end

