-- ==== Sys2Proof/Machine/Boot.lean ====
section
/-! DEFINITION. From power good to ready (R416 to R432), warm reset (R419, R420), and the resets that are asked for. -/

namespace Sys2Proof.Machine

/-! ### What a start keeps (R420, R565) -/

/-- Registers that keep their values: trip bits, DMP_CTRL.KEEP and TILES and DMP_STATUS.DUMPS across a warm reset, what SPI
NOR and UFS hold. -/
def State.keptRegs (s : State) (warm : Bool) : SMap W64 :=
  let t : State := { s with regs := s.regs.filter (fun e => [F.DBK_LOSS_COUNT.key / 1024, F.MGT_PFAIL_COUNT.key / 1024,
    F.TRS_COUNTER_VALUE.key / 1024].contains (e.1 / 1024)) }
  let l := [F.PWR_LIMIT_TRIP_THERMAL, F.PWR_LIMIT_TRIP_CURRENT, F.PWR_LIMIT_TRIP_CLOCK] ++
    (if warm then [F.DMP_CTRL_KEEP, F.DMP_CTRL_TILES, F.DMP_STATUS_DUMPS] else [])
  (l.foldl (fun (t : State) f => t.st f (s.rd f)) t).regs

/-- Step 1: every register and store at its reset value but what R420 and R565 keep; the power-cycle count and the local time
counter start anew after a cold start. `kind` is 0, or the source of a warm reset. (DEDUCED, log entry 40.) -/
def State.startReset (s : State) (kind : Nat) : State :=
  let warm := kind ≠ 0
  let r := State.reset
  let n := s.nor
  let opsec := n.opsec + (if n.opsecPfail then 0 else 360)
  let power := if warm then n.power else min 65535 (n.power + 1)
  let s := { r with
    pending := s.pending
    regs := s.keptRegs warm
    clk := if warm then { s.clk with counting := true, opsec := opsec } else ⟨0, true, opsec, 0⟩
    pow := { s.pow with clampSince := none, capLoweredAt := none, capRaisedAt := none, belowSince := none, flowLow := 0,
                        inletHigh := 0, coolClear := 0, coolPending := false, riseUntil := 0 }
    boot := { r.boot with phase := .starting, startedAt := if warm then s.clk.now else 0 }
    nor := { n with opsec := opsec, opsecPfail := false, power := power }
    dbk := { r.dbk with seqNext := n.seq, opsecPersistAt := if warm then s.clk.now else 0 }
    mem := if warm then { r.mem with dram := s.mem.dram, dramPoison := s.mem.dramPoison } else r.mem
    asz := { s.asz with lastFrame := if warm then s.clk.now else 0, lost := false, delivered := [], shareBase := none
                        resetPend := s.asz.resetPend.map (fun _ => none) }
    edge := { s.edge with mgt := mgtDefault }
    free := s.free }
  ((s.showPins.st F.GLB_STATE_START_KIND kind).st F.GLB_STATE_STEP 1).refreshAbsent

/-! ### Service state (R429) -/

/-- A processor that a stopped start leaves without its image. -/
def State.unload (s : State) (p : Nat) : State :=
  ((s.setProc p procDef).st F.GLB_FW_VERSION 0 0 p).st F.GLB_FW_STATE (if s.fwState p = 6 then 6 else 0) 0 p

/-- The recorder steward in service state: it runs, unless its image was refused or the majors differ, when every processor stays
absent (R437). -/
def State.serviceRecorder (s : State) (cause : Nat) : State :=
  if cause = 9 ∨ s.fwState 7 = 6 then (s.unload 7).st F.DBK_STATUS_STEWARD_ABSENT 1
  else (s.st F.GLB_FW_STATE 2 0 7).st F.DBK_STATUS_STEWARD_ABSENT 0

/-- A memory steward that had been loaded is down from now on (R286). -/
def State.serviceMemory (s : State) (was : Bool) : State :=
  if was then s.setProc 4 { procDef with downSince := some s.clk.now } else s

/-- A start stops: the recorder steward and the management port, under its defaults, alone go on. (DEDUCED, log entry 40.) -/
def State.service (s : State) (cause step ms : Nat) : State :=
  let was := s.fwState 4 == 2
  let s := ((List.range 17).filter (fun p => p != 7)).foldl State.unload s
  let s := s.serviceRecorder cause
  let s := (s.st F.GLB_STATE_SERVICE_CAUSE cause).st F.GLB_STATE_STATE 3
  let s := ((s.advance (msec ms)).serviceMemory was).note 0x0002 cause step
  { s with boot := { s.boot with phase := .service, locked := true }, edge := { s.edge with mgt := mgtDefault } }

/-- The operating system does not run in this start, which is not the third in a row: the start goes no further, and the hub's
watchdog resets the package. (DESIGN CHOICE, log entry 101.) -/
def State.withoutSystem (s : State) (ms : Nat) : State := (s.advance (msec ms)).requestReset 4

/-- A step of the start: the next state, or the state with the cause and the step of a failure; cause 0 stops the start short of
service state. -/
abbrev StepRes := Except (State × Nat × Nat) State

/-- The last step completed. -/
def State.stepDone (s : State) (n : Nat) : State := s.st F.GLB_STATE_STEP n

/-! ### Steps 2 and 3: the charter (R417, R421) -/

def State.bootCharter (s : State) : StepRes :=
  let c := s.nor.charter
  if !charterReadable c then .error (s, 1, 2)
  else
    let s := s.stepDone 2
    let fl := charterBytes c.body 6
    let floor := max (s.rd F.TRS_COUNTER_VALUE 0 0) (field fl 4 4)
    let r := imgCheck 0 (field fl 0 1) floor (charterSigned c)
    if r ≠ 0 then .error (s.refuseImage 0 r 0 (sigSvn c.sig), 2, 3)
    else if field c.body 8 4 < floor then .error (s, 2, 3)
    else if !charterComplete c.body then .error (s, 3, 3)
    else
      let s := (charterIgnored c.body).foldl (fun s e => s.note 0x0004 e.typ e.off e.len) s
      let s := (s.fillCharter c.body).st F.GLB_CHARTER_VERSION (field c.body 8 4)
      .ok ({ s with boot := { s.boot with
        locked := true, charter := c.body, charterSig := sigBlockBytes c.sig, charterSvn := sigSvn c.sig } }.stepDone 3)

/-! ### Step 4: the seed (R492) -/

/-- A corrected reading gives the seed of this silicon; after three readings without one the start stops. (DESIGN CHOICE, log entry 14.) -/
def State.bootSeed (s : State) (ok : Bool) : StepRes :=
  if ok then
    let seed := natLe 48 (Config.pufSeed s.nor.helper).toNat
    .ok (({ s with trust := { s.trust with seed := some seed } }.st F.TRS_STATUS_SEED_OK 1).stepDone 4)
  else .error (s.note 0x8002 3, 4, 4)

/-! ### Step 5: the degrade set, presence, steering, the dump (R427, R44, R268 to R272, R482) -/

/-- A body of the base list (R427). -/
def degradeBody (b : List Byte) : DegradeEntry :=
  ⟨field b 0 1, field b 1 1, field b 2 2, BitVec.ofNat 16 (field b 4 2), field b 6 2, field b 8 4, field b 12 4, []⟩

/-- The unit an entry retires. -/
def DegradeEntry.unitOf (e : DegradeEntry) : Nat × Nat × Nat := (e.kind, if e.kind = 3 then e.die else 0, e.unit)

/-- Keep the first of entries for one unit. -/
def uniqueUnits (l : List DegradeEntry) : List DegradeEntry :=
  l.foldl (fun a e => if a.any (fun x => x.unitOf == e.unitOf) then a else a ++ [e]) []

/-- Entries of the charter's base list. -/
def State.baseDegrade (s : State) : List DegradeEntry :=
  let b := charterBytes s.boot.charter 4
  (List.range (b.length / 16)).map (fun i => degradeBody (slice b (16 * i) 16))

def State.isRetired (s : State) (kind die unit : Nat) : Bool := s.boot.degraded.contains (kind, die, unit)

/-- Presence registers of cores and engines (R43). -/
def State.setPresence (s : State) : State :=
  (List.range 256).foldl (fun s c =>
    if s.isRetired 2 0 c then s.setSeqState c 5
    else
      let m := ((List.range 32).map (fun e => if s.isRetired 1 0 (32 * c + e) then 0 else 2 ^ e)).sum
      (s.setBit F.SEQ_PRESENT_MASK (c % 64) (c / 64) 0).st F.ENG_PRESENT_MASK m (c / 64) (c % 64)) s

/-- Groups fitted and not retired. -/
def State.startGroups (s : State) (d : Nat) : Nat :=
  let g := field (charterBytes s.boot.charter 1) d 1
  ((List.range 8).map (fun i => if bit g i && !s.isRetired 3 d i then 2 ^ i else 0)).sum

/-- PHY groups, channels trained at 24 Gb/s. -/
def State.setGroups (s : State) : State :=
  (List.range 4).foldl (fun s d =>
    let s := s.st F.MEM_STATUS_PRESENT (s.startGroups d) d
    (List.range 128).foldl (fun s c => if s.groupPresent d (c / 16) then s.st F.MEM_CH_STATE_STATE 2 d c else s) s) s

/-- R44 holds. -/
def State.configOk (s : State) : Bool :=
  (List.range 4).all (fun d => decide (4 ≤ popcount 8 (s.rd F.MEM_STATUS_PRESENT d)) &&
    decide (32 ≤ popcount 64 (s.rd F.SEQ_PRESENT_MASK d))) &&
    decide (8 ≤ ((List.range 16).filter (fun p => !s.isRetired 4 0 p)).length)

/-- A charter fill as the entries of a table from `base`. -/
def fillTable (b : List Byte) (off base : Nat) : SMap Nat :=
  (List.range 8192).map (fun i => (base + i, field b (off + 2 * i) 2 + 1))

/-- N, q and E of a count in the registers of the module or a die. -/
def State.setCounts (s : State) : State :=
  let nd := fun d => 16 * popcount 8 (s.rd F.MEM_STATUS_PRESENT d)
  let n := ((List.range 4).map nd).sum
  (List.range 4).foldl (fun s d =>
    [(F.STR_GLOBAL_N, n), (F.STR_GLOBAL_Q, 8192 / n), (F.STR_GLOBAL_E, 8192 % n), (F.STR_LOCAL_N, nd d),
      (F.STR_LOCAL_Q, 8192 / nd d), (F.STR_LOCAL_E, 8192 % nd d)].foldl (fun s p => s.st p.1 p.2 d) s) s

/-- The tables are filled from the charter where its fill serves, else evenly, and armed (R269, R272, R424). -/
def State.fillTables (s : State) : State :=
  let b := charterBytes s.boot.charter 1
  let fills := field b 5 1
  let locals := 32 + (if bit fills 0 then 16384 else 0)
  let s := { s with ms := { s.ms with filled := true } }
  let s := if !bit fills 0 then s
    else
      let t := fillTable b 32 0
      if field b 8 2 = s.nChan ∧ tableEven true t 0 s.nChan then { s with ms := { s.ms with steer := t } }
      else s.note 0x0005 0 (field b 8 2) s.nChan
  let s := (List.range 4).foldl (fun s d =>
    if !bit fills 1 then s
    else
      let t := fillTable b (locals + 16384 * d) (d * 8192)
      let nd := field b (10 + 2 * d) 2
      if nd = s.nLocal d ∧ tableEven true t (d * 8192) (s.nLocal d) then
        { s with ms := { s.ms with localTbl := s.ms.localTbl ++ t } }
      else s.note 0x0005 (d + 1) nd (s.nLocal d)) s
  (List.range 4).foldl (fun s d => ((s.st F.STR_CTRL_ARMED 1 d).st F.STR_SIZE_BYTES s.steeredSize d).st F.STR_DUMP_BASE_ADDR
    s.dumpBase d) s

/-- The DMP registers from the header in the dump extent (R482). -/
def State.readDump (s : State) : State :=
  let s := s.st F.DMP_BASE_VALUE s.dumpBase
  if !s.dumpCheck then s
  else
    let h := (s.devRead [] s.dumpBase 384).bytes
    [(F.DMP_STATUS_VALID, 1), (F.DMP_STATUS_INCOMPLETE, b2n (bit (field h 64 4) 1)), (F.DMP_CAUSE_CODE, field h 44 2),
      (F.DMP_CAUSE_SEQ, field h 42 2), (F.DMP_TIME_VALUE, field h 24 8), (F.DMP_LENGTH_VALUE, field h 16 8)].foldl
      (fun s p => s.st p.1 p.2) s

/-- Units of the exchequer whose host core is not whole read retired (R380). -/
def State.retireUnits (s : State) : State :=
  (List.range 16).foldl (fun s u => if s.exqAvail u then s else s.xst F.EXQ_STATE_STATE u 6) s

/-- An entry of the degrade log checks: SPI NOR gives it back whole, and its HMAC is the one of this module's key (R428). -/
def State.entryOk (s : State) (damaged : List Nat) (e : DegradeEntry) : Bool :=
  !damaged.contains e.seq && e.mac == s.degradeMac e

def State.bootStores (s : State) (damaged : List Nat) : StepRes :=
  let log := s.nor.degrade
  let good := log.filter (s.entryOk damaged)
  let s := (log.filter (fun e => !good.contains e)).foldl (fun s e => s.note 0x0041 e.seq) s
  let set := uniqueUnits (s.baseDegrade ++ good)
  let s := { s with boot := { s.boot with degraded := set.map DegradeEntry.unitOf, degradeSet := set } }
  let s := ((s.setPresence.setGroups).st F.GLB_DEGRADE_EFFECTIVE set.length).st F.GLB_DEGRADE_LOG good.length
  if !s.configOk || decide (degradeTop good < s.nor.degradeCtr) then .error (s, 5, 5)
  else
    let s := s.setCounts.fillTables.readDump.retireUnits
    let s := (List.range 4).foldl (fun s d => (s.st F.MSH_STATUS_STOPS 255 d).st F.MSH_STATUS_LINKS (31 - 2 ^ d) d) s
    .ok (s.stepDone 5)

/-! ### Steps 6 and 7: the loader and the operating system -/

/-- A start in which the operating system does not run, a refused image among them (R490): the third in a row is cause 0x07. -/
def State.systemFails (s : State) : StepRes :=
  let s := { s with nor := { s.nor with osFails := s.nor.osFails + 1 } }
  .error (s, if 3 ≤ s.nor.osFails then 7 else 0, 7)

def State.bootSystem (s : State) (env : StartEnv) : StepRes :=
  let rootMin := s.rd F.TRS_STATUS_ROOT_MIN
  let r1 := imgCheck 1 rootMin (s.floor 1) env.loader
  if r1 ≠ 0 then .error (s.refuseImage 1 r1 0 (sigSvn env.loader), 6, 6)
  else
    let s := s.stepDone 6
    let r2 := imgCheck 2 rootMin (s.floor 2) env.os
    if r2 ≠ 0 then (s.refuseImage 2 r2 0 (sigSvn env.os)).systemFails
    else if !env.osRuns then s.systemFails
    else
      let s := { s with
        nor := { s.nor with osFails := 0 }
        trust := { s.trust with
          svn := mset 0 (mset 0 s.trust.svn 1 (sigSvn env.loader)) 2 (sigSvn env.os)
          digests := mset noDigest (mset noDigest s.trust.digests 2 (sigDigest env.loader)) 3 (sigDigest env.os) } }
      .ok ((s.st F.GPC_HARTS_ONLINE (2 ^ 32 - 1)).stepDone 7)

/-! ### Step 8: firmware (R432, R58, R64, R65) -/

/-- The records an earlier stop left to the recorder steward. (DEDUCED, log entry 18.) -/
def State.deferredRecords (s : State) : State :=
  let fv := fun j => BitVec.ofNat 32 (Config.freeValue (s.free + j)).toNat
  let s := if s.flag F.PWR_LIMIT_TRIP_CLOCK then
      (match s.submit 0x0F01 (fv 0) (fv 1) 0 0 with
       | (some r, s) => s.recordIn { r with defer := true }
       | (none, s) => s).takeFrees 2 |>.st F.PWR_LIMIT_TRIP_CLOCK 0
    else s
  let s := match s.pow.tripDie with
    | some d => s.note 0xA020 d
    | none => s
  let s := if s.pow.tripCurrent then s.note 0xA021 else s
  { s with pow := { s.pow with tripDie := none, tripCurrent := false } }

/-- An image starts on its processor. -/
def State.startProc (s : State) (p : Nat) (img : SigBlock) : State :=
  let s := s.setProc p { procDef with image := some img }
  let s := (s.st F.GLB_FW_VERSION (sigVersion img) 0 p).st F.GLB_FW_STATE 2 0 p
  if p = 4 then (List.range 4).foldl (fun s d => s.st F.MEM_STATUS_STEWARD_ABSENT 0 d) s
  else if p = 6 then s.requestPoint s.pow.startVddf
  else if p = 7 then (s.st F.DBK_STATUS_STEWARD_ABSENT 0).deferredRecords
  else s

/-- The hub verifies an image and starts it, or refuses it (R432). (DEDUCED, log entry 40.) -/
def State.loadImage (s : State) (p : Nat) (img : SigBlock) : State × Bool :=
  let c := procClass p
  let r := imgCheck c (s.rd F.TRS_STATUS_ROOT_MIN) (s.floor c) img
  if r = 0 then (s.startProc p img, true)
  else
    let s := (s.st F.GLB_FW_STATE 6 0 p).note 0x7005 p r
    let s := s.refuseImage c r p (sigSvn img)
    (if 9 ≤ p then { s with boot := { s.boot with degraded := s.boot.degraded ++ [(6, 0, p - 9)] } } else s, false)

/-- Images in processor order with the recorder steward first; a refusal that R429 names stops the start. (DEDUCED, log entry 40.) -/
def State.bootFirmware (s : State) (imgs : List SigBlock) : StepRes :=
  let r := ([7, 0, 1, 2, 3, 4, 5, 6, 8] ++ (List.range 8).map (· + 9)).foldl (fun (a : State × Bool) p =>
    if a.2 then
      let x := a.1.loadImage p (imgs.getD p emptySig)
      (x.1, x.2 || decide (9 ≤ p))
    else a) (s, true)
  if r.2 then .ok (r.1.stepDone 8) else .error (r.1, 8, 8)

/-! ### Step 9: features (R434 to R437) -/

/-- Negotiation: the agreed set, narrowed by an earlier one in the same start; false when the majors differ. -/
def State.agree (s : State) (dv : Nat) (words : List Nat) : State × Bool :=
  let fv := s.rd F.GLB_FW_VERSION 0 0
  if dv / 2 ^ 24 ≠ fv / 2 ^ 24 then (s.note 0x7006 (dv / 2 ^ 24) (fv / 2 ^ 24), false)
  else
    let minor := min (bits dv 23 16) (bits fv 23 16)
    let minor := if s.boot.negotiated then min minor (s.rd F.GLB_IFACE_MINOR) else minor
    let word := fun w =>
      let v := Nat.land (words.getD w 0) (Nat.land (Config.capability (BitVec.ofNat 32 fv) w).toNat
        (s.rd F.GLB_POLICY_POLICY 0 w))
      if s.boot.negotiated then Nat.land v (s.rd F.GLB_FEATURES_AGREED 0 w) else v
    let v0 := word 0
    let s := [0, 1, 2, 3].foldl (fun t w => t.st F.GLB_FEATURES_AGREED (word w) 0 w) s
    let s := (s.st F.GLB_IFACE_MINOR minor).st F.GLB_IFACE_MAJOR (fv / 2 ^ 24)
    ({ s with boot := { s.boot with negotiated := true } }.note 0x7007 (v0 % 2 ^ 32) (v0 / 2 ^ 32) minor, true)

/-- The processors the driver loaded stay absent after a mismatch. -/
def State.bootAgree (s : State) (env : StartEnv) : StepRes :=
  let r := s.agree env.driverVersion.toNat (env.driverWords.map BitVec.toNat)
  if r.2 then .ok (r.1.stepDone 9) else .error ({ r.1 with procs := [] }, 9, 9)

/-! ### Steps 10 to 13 -/

/-- The memory steward raises every channel (R291). -/
def State.raiseRates (s : State) (no : List (Nat × Nat)) : State :=
  let s := (List.range 512).foldl (fun s c =>
    if s.chanActive c && !no.any (fun p => p.1 == c) then s.st F.MEM_CH_STATE_FULL 1 (c / 128) (c % 128) else s) s
  let s := no.foldl (fun s p =>
    if p.1 < 512 ∧ s.chanActive p.1 then (s.note 0x300A p.1 p.2).fenceGroup (p.1 / 128) (p.1 % 128 / 16) 5 else s) s
  (List.range 4).foldl State.fullRate s

/-- The fabric steward trains the ports (R341); one that does not come up is down. (DEDUCED, log entry 41.) -/
def State.trainPorts (s : State) (upMask : Nat) : State :=
  let kr4 := field (charterBytes s.boot.charter 2) 0 2
  (List.range 16).foldl (fun s p =>
    let s := s.st F.ETH_PORT_KR4 (b2n (bit kr4 p)) 0 p
    if s.isRetired 4 0 p then s
    else if bit upMask p then (s.st F.ETH_PORT_STATE 2 0 p).st F.ETH_PORT_IN_SET 1 0 p
    else s.st F.ETH_PORT_STATE 3 0 p) s

/-- A Lomef chip that is whole and whose image the hub accepts comes up (R295, R490). (DEDUCED, log entry 41.) -/
def State.bringUp (s : State) (env : StartEnv) : State :=
  (List.range 8).foldl (fun s c =>
    if s.isRetired 6 0 c then s
    else
      let img := env.lomefImages.getD c emptySig
      let r := imgCheck 10 (s.rd F.TRS_STATUS_ROOT_MIN) (s.floor 10) img
      if r ≠ 0 then
        let s := s.refuseImage 10 r c (sigSvn img)
        { s with boot := { s.boot with degraded := s.boot.degraded ++ [(6, 0, c)] } }
      else if !bit env.lomefUp.toNat c then s
      else
        let old := mget 0 s.trust.svn 10
        let svn := if old = 0 then sigSvn img else min old (sigSvn img)
        let s := { s with trust := { s.trust with
          svn := mset 0 s.trust.svn 10 svn, digests := mset noDigest s.trust.digests (21 + c) (sigDigest img) } }
        ((((s.st F.PCI_PORT_STATE 2 0 c).st F.PCI_PORT_WIDTH (s.startWidth c) 0 c).st F.LMF_STATUS_READY 1 c).st
          F.LMF_LINK_WIDTH (s.startWidth c) c)) s

/-- Account 0 holds everything (R447). (DESIGN CHOICE, log entry 22.) -/
def State.systemAcct (s : State) : Acct :=
  ⟨0, 0, 0, false, BitVec.ofNat 8 (((List.range 8).filter s.shareUp).map (2 ^ ·)).sum,
    BitVec.ofNat 16 (((List.range 16).filter s.exqAvail).map (2 ^ ·)).sum,
    BitVec.ofNat 16 (((List.range 16).filter (fun p => s.portState p != 0)).map (2 ^ ·)).sum,
    BitVec.ofNat 256 (((List.range 256).filter s.corePresent).map (2 ^ ·)).sum, 0, 0, 0, 0, 0, 0, 0,
    List.replicate 16 0, List.replicate 8 0, [none, none, none, none]⟩

/-- What GLB_ACCT shows of an account's holdings. (DESIGN CHOICE, log entry 22.) -/
def State.showAcct (s : State) (n : Nat) (a : Acct) : State :=
  ((s.st F.GLB_ACCT_CORES (popcount 256 a.cores.toNat) 0 n).st F.GLB_ACCT_LOMEF (popcount 8 a.lomef.toNat) 0 n).st
    F.GLB_ACCT_EXQ (popcount 16 a.exq.toNat) 0 n

/-- Why the Assize unit does not match the pairing record of charter section 5 (R426, R522), or 0: no section, another serial
number (or no unit that answers), another certificate. (DEDUCED, log entry 85.) -/
def State.unpaired (s : State) : Nat :=
  match charterSec s.boot.charter 5 with
  | none => 1
  | some b =>
    if !s.asz.running || natLe 16 s.asz.serial.toNat != slice b 0 16 then 2
    else if sha s.asz.cert ≠ slice b 16 48 then 3
    else 0

/-- The hub checks the unit against the pairing record (R522). -/
def State.pairAssize (s : State) : State :=
  if s.unpaired = 0 then s.st F.ASZ_STATUS_PAIRED 1 else s.note 0x9003 s.unpaired

/-- The host cores of the units that account 0 holds wait for their units (R379). (DEDUCED, log entry 35.) -/
def State.hostsWait (s : State) : State :=
  (List.range 16).foldl (fun s u => if s.exqAvail u then s.waitSeq (hostCore u) .unit else s) s

/-- Ready: counters raised to the charter's floors (R495), account 0, code 0x0001. (DEDUCED, log entry 40.) -/
def State.bootReady (s : State) (env : StartEnv) (kind ms : Nat) : State :=
  let s := (List.range 11).foldl (fun s c => s.raiseCounter c (s.rd F.TRS_FLOOR_VALUE 0 c) (env.rpmbRefuse.contains c)) s
  let s := (s.advance (msec ms)).pairAssize
  let a := s.systemAcct
  let s := ((s.hostsWait.setAcct 0 a).showAcct 0 a).st F.GLB_ACCT_STATE 1 0 0
  let s := ((s.st F.GLB_STATE_STATE 1).st F.GLB_READY_MS_MS ms).stepDone 13
  { s with boot := { s.boot with phase := .ready } }.note 0x0001 kind s.nor.power ms

/-- The steps of R416 in order, up to the first that fails. (DESIGN CHOICE, log entry 2.) -/
def State.startSteps (s : State) (env : StartEnv) : StepRes := do
  let s ← s.bootCharter
  let s ← s.bootSeed env.pufOk
  let s ← s.bootStores env.badHmac
  let s ← s.bootSystem env
  let s ← s.bootFirmware env.images
  let s ← s.bootAgree env
  .ok ((((s.raiseRates env.notRaised).stepDone 10).trainPorts env.portsUp.toNat).stepDone 11 |>.bringUp env |>.makeKeys |>.stepDone 12)

/-- A start: to ready within 45 s, or to service state. (DESIGN CHOICE, log entry 2.) -/
def State.start (s : State) (kind : Nat) (env : StartEnv) : State :=
  let ms := min env.readyMs 45000
  match (s.startReset kind).startSteps env with
  | .ok s => s.bootReady env kind ms
  | .error (s, cause, step) => if cause = 0 then s.withoutSystem ms else s.service cause step ms

/-- (DESIGN CHOICE, log entry 2.) -/
def execPowerGood (env : StartEnv) (s : State) : Res :=
  .next (if s.boot.phase = .railsUp then s.start 0 env else s)

/-! ### Warm reset (R419, R420, R572) -/

/-- A dump that is written when the reset falls: step 5 of R479 comes first, unless the reset is another's and falls before the
header is written, when no dump is left (R482, R484). (DEDUCED, log entry 32.) -/
def State.finishDump (s : State) (src : Nat) (cut : Bool) : State :=
  if src ≠ 3 ∧ cut then s else s.endDump.tellCancelled

/-- A requested warm reset: it waits while the recorder steward restarts (R572); loops stop, staged records and OPSEC persist. -/
def execWarmReset (env : StartEnv) (s : State) : Res :=
  .next (match s.boot.resetReq with
    | none => s
    | some src =>
      if !s.pow.mainRails || s.fwState 7 == 3 || s.fwState 7 == 4 then s
      else (((s.finishDump src env.dumpCut).stopLoops.mergeHeld).persistForReset false).start src env)

/-- A command on the management port, while the operating system serves it (R541). -/
def execManagementReset (s : State) : Res :=
  .next (if s.running && s.flag F.TRS_STATUS_ID_READY then s.requestReset 2 else s)

/-- The watchdog of R568. -/
def execWatchdogExpiry (s : State) : Res :=
  let t := s.rd F.GPC_WDOG_TIMEOUT_MS
  .next (if s.ctlAlive && t != 0 && s.after s.edge.wdogFrom (msec t) then s.requestReset 4 else s)

/-! ### Loading an image in service (R432) -/

/-- A load of an absent or refused processor's image, from step 7 on. -/
def execImageLoad (proc : Fin 17) (img : SigBlock) (s : State) : Res :=
  .next (if (s.running || s.boot.phase == .service) && decide (7 ≤ s.rd F.GLB_STATE_STEP) &&
      (s.fwState proc == 0 || s.fwState proc == 6) then (s.loadImage proc img).1 else s)

end Sys2Proof.Machine
end

