-- ==== Sys2Proof/Machine/Firmware.lean ====
section
/-! DEFINITION. Firmware processors in service (R430 to R443): crashes, restarts, failures, updates, negotiation; errors that
reach module level (R27, R478 to R484). -/

namespace Sys2Proof.Machine

/-! ### Errors at module level (R478, R479, R483) -/

/-- A dump can be written: start step 5 has completed and the recorder steward is there to write it (R478). -/
def State.dumpPossible (s : State) : Bool := decide (5 ≤ s.rd F.GLB_STATE_STEP) && s.fwAlive 7

/-- The FATAL record of an error at module level (R485). -/
def State.fatalRecord (s : State) (code level dump : Nat) : State := s.note 0x0F10 code level dump

/-- Step 2: admission, units and loops stop, batches complete FATAL (R83), a freeze is cancelled. -/
def State.stopAll (s : State) : State := ((s.endFreeze 3).stopLoops).killAll (fun _ _ => true) 0x3F

/-- Steps 1 to 4 of R479: the record is persisted, the sections are written from the units as the error found them unless a
dump is kept, and a warm reset with source 3 is due, which writes the header first. With no dump, code 0x0051 follows at once.
(DEDUCED, log entry 32.) -/
def State.fatalError (s : State) (code level : Nat) : State :=
  let u := s
  let s := s.stopAll
  let s := { s with dbk := { s.dbk with cancelled := u.dbk.frozenAt.map (fun _ => u.dbk.holding.length) } }
  let keep := s.flag F.DMP_CTRL_KEEP && s.dumpValid
  let dump := if !s.dumpPossible then 0 else if keep then 2 else 1
  let s := s.fatalRecord code level dump
  let r := s.latest 0x0F10
  let s := if s.fwAlive 7 then s.persistAll else s
  let s := match dump, r with
    | 1, some r => s.writeSections u r
    | 2, _ => (s.st F.DMP_STATUS_KEPT 1).tellCancelled
    | _, _ => s.tellCancelled
  { s with boot := { s.boot with phase := .fatal } }.requestReset 3

/-- An error reaches module level. While a dump is written its record alone follows (R484); while the recorder steward
restarts the error is held (R478). -/
def execModuleLevelError (code : BitVec 16) (level : BitVec 8) (s : State) : Res :=
  .next (if s.boot.phase == .fatal then s.fatalRecord code.toNat level.toNat 0
    else if !s.up then s
    else if s.fwState 7 == 3 || s.fwState 7 == 4 then
      { s with boot := { s.boot with heldFatal := s.boot.heldFatal.orElse (fun _ => some (code, level)) } }
    else s.fatalError code.toNat level.toNat)

/-! ### Failures (R443) -/

/-- Unfinished batches of a die's dispatcher complete FW_RESTARTED; its records pass on. (DEDUCED, log entry 32.) -/
def State.dispatcherFails (s : State) (d : Nat) : State :=
  (s.killAll (fun q _ => (s.queueDies q).contains d) 0x30).settleKeepers

/-- A processor stays down until the next start. (DEDUCED, log entry 32.) -/
def State.failProc (s : State) (p cause : Nat) : State :=
  let s := ((s.st F.GLB_FW_STATE 5 0 p).st F.WRT_STATUS_BROKEN 1).note 0x7002 p cause
  let s := (s.setProc p { s.proc p with upd := none }).needRestart
  if p < 4 then s.dispatcherFails p
  else if p = 7 then
    let s := s.st F.DBK_STATUS_STEWARD_ABSENT 1
    if s.boot.phase == .halted then s
    else match s.boot.heldFatal with
    | some f => { s with boot := { s.boot with heldFatal := none } }.fatalError f.1.toNat f.2.toNat
    | none => s
  else if 9 ≤ p then s.loseShare (p - 9) 0
  else s

/-! ### Restarts (R77, R431, R442) -/

/-- A steward restart begins: one within 10 s of the one before breaks every outstanding warrant. -/
def State.restartBegins (s : State) (p : Nat) : State :=
  let s := match s.wrt.restarts with
    | t :: _ => if s.after t (second 10) then s else s.breakByRestart p ((s.clk.now - t) / 25000)
    | [] => s
  let s := { s with wrt := { s.wrt with restarts := [s.clk.now] } }
  let s := s.setProc p { s.proc p with downSince := some s.clk.now }
  if p = 7 then s.st F.DBK_STATUS_STEWARD_ABSENT 1 else s

/-- A crash during an update abandons it: the processor restarts from the old image before step 4 of R440 and from the new
one after it (R454). (DEDUCED, log entry 31.) -/
def State.abandonUpdate (s : State) (p : Nat) : State :=
  match (s.proc p).upd with
  | none => s
  | some img =>
    if s.clk.now < (s.proc p).startsAt then s.setProc p { s.proc p with upd := none }
    else (s.setProc p { s.proc p with upd := none, image := some img }).st F.GLB_FW_VERSION (sigVersion img) 0 p

/-- The watchdog expires, or the processor meets an error it cannot recover from: the hub restarts it, unless this is the
third crash within 60 s. (DEDUCED, log entry 31.) -/
def execProcessorCrash (proc : Fin 17) (s : State) : Res :=
  let p := proc.val
  .next (if !s.up || !(s.fwState p == 2 || s.fwState p == 4) then s
    else
      let s := s.abandonUpdate p
      let times := s.clk.now :: s.within (s.proc p).crashTimes (second 60)
      let s := (s.inc F.GLB_FW_CRASHES 1 0 p).setProc p { s.proc p with crashTimes := times }
      if 3 ≤ times.length then
        (s.setProc p { s.proc p with downSince := some s.clk.now }).failProc p 2
      else (s.st F.GLB_FW_STATE 3 0 p).restartBegins p)

/-- What waits for a processor that runs again: records without a keeper pass to a dispatcher, the memory steward's absence
ends, a held fatal error is dumped, a halt's records are persisted (R58), requests to the exchequer steward go on. -/
def State.backInService (s : State) (p : Nat) : State :=
  if p < 4 then s.settleKeepers
  else if p = 4 then (List.range 4).foldl (fun s d => s.st F.MEM_STATUS_STEWARD_ABSENT 0 d) s
  else if p = 7 then
    let s := s.st F.DBK_STATUS_STEWARD_ABSENT 0
    if s.boot.phase == .halted then s.persistAll.st F.PWR_LIMIT_TRIP_CLOCK 0
    else match s.boot.heldFatal with
    | some f => { s with boot := { s.boot with heldFatal := none } }.fatalError f.1.toNat f.2.toNat
    | none => s
  else if p = 8 then s.exqWaiting
  else s

/-- A restart of a processor goes on: in service, and, for the recorder steward, after a halt whose reference is back, while
the warm reset waits for it (R58, R572). -/
def State.restartsNow (s : State) (p : Nat) : Bool :=
  s.up || (p == 7 && s.boot.phase == .halted && s.boot.resetReq.isSome)

/-- The new image finds the hand-off record whole: its area is read well and its CRC fits. -/
def Proc.recordOk (v : Proc) (areaOk : Bool) : Bool :=
  match v.handoff with
  | some h => areaOk && h.crc == crc32c h.body
  | none => false

/-- A restart or an update ends: code 0x7001, or the new image in force with code 0x7003; a hand-off
record that fails its check is treated as absent (R441). One that took more than 40 ms has failed (R443). (DEDUCED, log entry 31.) -/
def execProcessorRestarted (proc : Fin 17) (r : Restart) (s : State) : Res :=
  let p := proc.val
  .next (if !s.restartsNow p || !(s.fwState p == 3 || s.fwState p == 4) then s
    else if 40000 < r.us then s.failProc p 1
    else
      let s := (s.st F.GLB_FW_LAST_RESTART_US (min r.us 65535) 0 p).st F.GLB_FW_STATE 2 0 p
      let n := (s.within (s.proc p).crashTimes (second 60)).length
      let s := match (s.proc p).upd with
        | some img =>
          let old := s.rd F.GLB_FW_VERSION 0 p
          let rec_ := if (s.proc p).recordOk r.areaOk then (s.proc p).handoff else none
          let s := s.setProc p { s.proc p with image := some img, upd := none, downSince := none, handoff := rec_ }
          (s.st F.GLB_FW_VERSION (sigVersion img) 0 p).note 0x7003 p old (sigVersion img)
        | none => (s.setProc p { s.proc p with downSince := none }).note 0x7001 p r.us n
      s.backInService p)

/-- A restart has not completed within 40 ms. -/
def execProcessorRestartTimeout (proc : Fin 17) (s : State) : Res :=
  let p := proc.val
  .next (if !s.restartsNow p || !(s.fwState p == 3 || s.fwState p == 4) then s
    else match (s.proc p).downSince with
      | some t => if s.after t (msec 40) then s.failProc p 1 else s
      | none => s)

/-! ### Updates (R438 to R441) -/

/-- Processors of the hand-off class (R430). -/
def handoffClass (p : Nat) : Bool := decide (p < 4) || p == 7 || p == 8

/-- The first reason of R438 that refuses an update, or 0. The old image's record version is the highest it knows. (DEDUCED, log entry 31.) -/
def State.updateReason (s : State) (p : Nat) (img : SigBlock) : Nat :=
  let ver := sigHrecMax ((s.proc p).image.getD emptySig)
  if s.restartWindow then 1
  else if handoffClass p && !decide (sigHrecMin img ≤ ver ∧ ver ≤ sigHrecMax img) then 2
  else if imgCheck (procClass p) (s.rd F.TRS_STATUS_ROOT_MIN) (s.floor (procClass p)) img ≠ 0 then 3
  else if 17 ≤ p || !s.fwAlive p then 4
  else if (List.range 17).any (fun q => (s.proc q).upd.isSome) then 5
  else if p < 4 ∧ sigVersion img / 2 ^ 24 ≠ s.rd F.GLB_FW_VERSION 0 p / 2 ^ 24 then 6
  else 0

/-- The record that the old image of a processor leaves: its length and CRC follow its body, which fits the area of 64 KiB
(R441). (DESIGN CHOICE, log entry 45.) -/
def State.handoffOf (s : State) (p : Nat) : Handoff :=
  let body := (Config.handoffBody p s.free).take 65520
  ⟨sigHrecMax ((s.proc p).image.getD emptySig), p, BitVec.ofNat 32 (s.rd F.GLB_FW_VERSION 0 p), body, crc32c body⟩

/-- An update is accepted (R440): the old image leaves its hand-off record and stops; the new one starts within 7 ms, and
where in that time is free. (DEDUCED, log entry 31.) -/
def State.beginUpdate (s : State) (p : Nat) (img : SigBlock) : State :=
  let rec_ := if handoffClass p then some (s.handoffOf p) else none
  let at_ := s.clk.now + (Config.freeValue s.free).toNat % (msec 7 + 1)
  let s := (s.setProc p { s.proc p with upd := some img, handoff := rec_, startsAt := at_ }).takeFree
  (s.st F.GLB_FW_STATE 4 0 p).restartBegins p

/-- A refused update: code 0x7004, and the refusal of an image that fails a check (R491, R503). -/
def State.updateRefused (s : State) (p r : Nat) (img : SigBlock) : State :=
  let s := s.note 0x7004 p r
  let c := procClass p
  if r = 3 then s.refuseImage c (imgCheck c (s.rd F.TRS_STATUS_ROOT_MIN) (s.floor c) img) p (sigSvn img) else s

/-- FW_UPDATE. (DEDUCED, log entry 31; DESIGN CHOICE, log entry 45.) -/
def execFwUpdate (slot : BitVec 10) (img : SigBlock) (s : State) : Res :=
  .next (s.cmdGo slot 0x0D (fun _ b s =>
    let p := field b 16 1
    let r := s.updateReason p img
    if !s.running then s
    else if r ≠ 0 then (s.updateRefused p r img).cmdEnd slot.toNat 0x03 r
    else (s.beginUpdate p img).cmdEnd slot.toNat 0 0))

/-! ### Negotiation by command (R435, R437, R453) -/

/-- (DESIGN CHOICE, log entry 43.) -/
def execNegotiate (slot : BitVec 10) (s : State) : Res :=
  .next (s.cmdGo slot 0x10 (fun _ b s =>
    if !s.running then s
    else
      let r := s.agree (field b 48 4) ((List.range 4).map (fun w => field b (16 + 8 * w) 8))
      if r.2 then r.1.cmdEnd slot.toNat 0 0 (r.1.rd F.GLB_FEATURES_AGREED 0 0) else r.1.cmdEnd slot.toNat 0x03 0x01))

end Sys2Proof.Machine
end

