-- ==== Sys2Proof/Machine/Account.lean ====
section
/-! DEFINITION. The driver session (R444 to R446), account binding and re-binding (R447 to R453). -/

namespace Sys2Proof.Machine

/-! ### The session -/

/-- The attached session resumes: its held accounts are bound again. -/
def State.resumeSession (s : State) : State :=
  let s := s.sess.heldAccts.foldl (fun s p =>
    if s.moves.any (fun m => m.account == p.1) then s else s.st F.GLB_ACCT_STATE 1 0 p.1) s
  { s with sess := { s.sess with heldAccts := [] } }

/-- The token of a new session: a free value. (DEDUCED, log entry 37; DESIGN CHOICE, log entry 38.) -/
def State.newSession (s : State) : State :=
  { s with sess := { s.sess with token := some (Config.freeValue s.free) } }.takeFree

/-- ATTACH: a token that matches resumes the session, any other starts a new one and leaves held bindings as they are
(R445). The token is written to operand bytes 32 to 47. (DEDUCED, log entries 30, 37; DESIGN CHOICE, log entry 38.) -/
def execAttach (slot : BitVec 10) (s : State) : Res :=
  .next (match s.cmdAcct slot.toNat 0x01 with
    | none => s
    | some _ =>
      if !s.up then s
      else if !s.running then s.cmdEnd slot.toNat 0x03 0x01
      else
        let given := BitVec.ofNat 128 (field (s.cmdBytes slot.toNat) 16 16)
        let resumed := given ≠ 0 ∧ s.sess.token = some given
        let s := if resumed then s.resumeSession else s.newSession
        let s := { s with sess := { s.sess with lastBeat := s.clk.now, lapsedAt := none }, boot := { s.boot with phase := .ready } }
        let s := (s.st F.GLB_STATE_STATE 1).note 0x0031 (b2n resumed)
        let s := s.devWrite (s.cmdAddr slot.toNat + 32) (natLe 16 (s.sess.token.getD 0).toNat)
        s.cmdEnd slot.toNat 0 0 (b2n resumed))

/-- A write of GLB_HEARTBEAT restarts the lapse timer of the attached session. -/
def State.beat (s : State) : State :=
  if s.attached then { s with sess := { s.sess with lastBeat := s.clk.now } } else s

def execHeartbeat (req : Requester) (_value : W32) (s : State) : Res :=
  .next (if s.ctlWrite req && req != .service then (s.dropAllHeld req).beat else s)

/-- Bits of a set of accounts as the two words of a record. -/
def acctMask (l : List Nat) : Nat := (l.map (2 ^ ·)).sum

/-- 2 s without a heartbeat: the module is unattended, every bound account but 0 is held. -/
def execHeartbeatLapse (s : State) : Res :=
  .next (if s.boot.phase != .ready || !s.attached || !s.after s.sess.lastBeat (second 2) then s
    else
      let now := s.clk.now
      let old := s.sess.heldAccts.map (·.1)
      let new := (s.accts.map (·.1)).filter (fun a => a != 0 && !old.contains a)
      let s := new.foldl (fun s a =>
        if s.moves.any (fun m => m.account == a) then s else s.st F.GLB_ACCT_STATE 2 0 a) s
      let s := { s with sess := { s.sess with lapsedAt := some now, heldAccts := s.sess.heldAccts ++ new.map (·, now) }
                        boot := { s.boot with phase := .unattended } }
      let mask := acctMask new
      (s.st F.GLB_STATE_STATE 2).note 0x0030 (mask % 2 ^ 32) (mask / 2 ^ 32))

/-! ### What an account holds -/

/-- Resources as masks: cores, shares, units, ports; and queue numbers. -/
structure Held where
  cores : Nat
  lomef : Nat
  exq : Nat
  ports : Nat
  queues : List Nat
  deriving DecidableEq, Repr

def Held.none : Held := ⟨0, 0, 0, 0, []⟩

def Held.meets (x y : Held) : Bool :=
  Nat.land x.cores y.cores != 0 || Nat.land x.lomef y.lomef != 0 || Nat.land x.exq y.exq != 0 ||
    Nat.land x.ports y.ports != 0 || x.queues.any y.queues.contains

def Acct.held (a : Acct) (queues : List Nat) : Held :=
  ⟨a.cores.toNat, a.lomef.toNat, a.exq.toNat, a.ports.toNat, queues⟩

/-- Queue numbers of an account. -/
def State.acctQueues (s : State) (n : Nat) : List Nat := (s.wrt.queues.filter (fun q => q.2.account == n)).map (·.1)

def State.moveOf (s : State) (n : Nat) : Option Move := s.moves.find? (fun m => m.account == n)

/-- What an account holds now. -/
def State.heldNow (s : State) (n : Nat) : Held :=
  match s.acct n with
  | some a => a.held (s.acctQueues n)
  | none => Held.none

/-- What it holds once a re-binding that runs is done. -/
def State.heldThen (s : State) (n : Nat) : Held :=
  match s.moveOf n with
  | some m => (match m.acct with
    | some a => a.held (m.queues.map (·.1))
    | none => Held.none)
  | none => s.heldNow n

/-- Accounts other than 0 and `n` that hold something now or soon. -/
def State.otherAccts (s : State) (n : Nat) : List Nat :=
  ((s.accts.map (·.1)) ++ s.moves.map (·.account)).filter (fun a => a != 0 && a != n)

/-- Host cores of a set of units (R379). (DEDUCED, log entry 35.) -/
def hostMask (exq : Nat) : Nat := ((maskBits 16 exq).map (fun u => 2 ^ hostCore u)).sum

/-- Account 0 holds what no other account holds (R447). (DESIGN CHOICE, log entry 22.) -/
def State.restAcct (s : State) : Acct :=
  let all := s.systemAcct
  let l := (s.accts.filter (fun p => p.1 != 0)).map (·.2)
  { all with
    cores := l.foldl (fun m a => m &&& ~~~a.cores) all.cores
    lomef := l.foldl (fun m a => m &&& ~~~a.lomef) all.lomef
    exq := l.foldl (fun m a => m &&& ~~~a.exq) all.exq
    ports := l.foldl (fun m a => m &&& ~~~a.ports) all.ports }

/-! ### The account descriptor (R447) -/

def slotsOk (n : Nat) : Bool := [16, 32, 64, 128, 256, 512, 1024].contains n

/-- A queue entry: its number and the queue. -/
def entryQueue (acct : Nat) (b : List Byte) : Nat × Queue :=
  (field b 0 1, ⟨acct, field b 2 2, BitVec.ofNat 8 (field b 4 1), BitVec.ofNat 16 (field b 6 2), BitVec.ofNat 16 (field b 8 2),
    BitVec.ofNat 256 (field b 16 32), field b 10 2, field b 12 2, field b 48 8, field b 56 8, 0, 0, 0, 0, [], 0, []⟩)

/-- The static part of a queue: what its entry gives. -/
def Queue.entry (q : Queue) : Queue :=
  { q with subHead := 0, subTail := 0, cplHead := 0, cplTail := 0, due := [], lastDeadline := 0, batches := [] }

/-- The account as its descriptor gives it, with shares `lomef`. -/
def acctOf (b : List Byte) (lomef : Nat) : Acct where
  job := field b 2 2
  rank := field b 4 2
  ranks := field b 6 2
  gradE5m2 := bit (field b 1 1) 1
  lomef := BitVec.ofNat 8 lomef
  exq := BitVec.ofNat 16 (field b 10 2)
  ports := BitVec.ofNat 16 (field b 12 2)
  cores := BitVec.ofNat 256 (Nat.lor (field b 16 32) (hostMask (field b 10 2)))
  ledgerVa := field b 48 8
  ledgerCount := field b 56 4
  layerVa := field b 64 8
  layerCount := field b 60 2
  gatelogVa := field b 72 8
  peerVa := field b 80 8
  fbEscrowVa := field b 96 8
  escrowOff := (List.range 16).map (fun i => field b (128 + 8 * i) 8)
  postedOff := (List.range 8).map (fun i => field b (256 + 8 * i) 8)
  books := [none, none, none, none]

/-- An address of a descriptor translates; zero names nothing. (DEDUCED, log entry 35.) -/
def State.vaOk (s : State) (n va : Nat) : Bool := va == 0 || s.accMapped n va 1 false

/-- Queue entries of a descriptor. -/
def State.queueEntries (s : State) (n : Nat) (b : List Byte) : List (List Byte) :=
  (List.range (field b 9 1)).map (fun i => (s.accRead [] n (field b 88 8 + 64 * i) 64).bytes)

/-- Reserved fields are zero and addresses translate (reason 0x05). (DEDUCED, log entry 35.) -/
def State.descriptorOk (s : State) (n : Nat) (r : RdRes) : Bool :=
  let b := r.bytes
  let es := s.queueEntries n b
  r.fault.isNone && !r.unc && !r.lost && field b 0 1 == 1 && decide (field b 1 1 < 4) && field b 14 2 == 0 &&
    field b 62 2 == 0 && field b 104 24 == 0 && field b 320 192 == 0 && decide (field b 56 4 ≤ 2 ^ 24) &&
    decide (field b 60 2 ≤ 4096) && s.accMapped n (field b 88 8) (64 * field b 9 1) false &&
    (field b 56 4 == 0 || s.accMapped n (field b 48 8) 1 false) && (field b 60 2 == 0 || s.accMapped n (field b 64 8) 1 false) &&
    s.vaOk n (field b 72 8) && s.vaOk n (field b 80 8) && s.vaOk n (field b 96 8) &&
    es.all (fun e => field e 1 1 == 0 && field e 5 1 == 0 && field e 14 2 == 0 && slotsOk (field e 10 2) &&
      slotsOk (field e 12 2) && s.accMapped n (field e 48 8) 1 false && s.accMapped n (field e 56 8) 1 false)

/-- A named core, unit or port is absent, retired or fenced (reason 0x01). Shares fall under R259. -/
def State.namedAbsent (s : State) (a : Acct) : Bool :=
  (maskBits 256 a.cores.toNat).any (fun c => !s.corePresent c || s.coreFenced c) ||
    (maskBits 16 a.exq.toNat).any (fun u => !s.exqAvail u) ||
    (maskBits 16 a.ports.toNat).any (fun p => s.portState p == 0 || s.portState p == 4)

/-- Two queue entries share a resource or a number. -/
def queuesMeet (x y : Nat × Queue) : Bool :=
  (⟨x.2.cores.toNat, x.2.lomef.toNat, x.2.exq.toNat, x.2.ports.toNat, [x.1]⟩ : Held).meets
    ⟨y.2.cores.toNat, y.2.lomef.toNat, y.2.exq.toNat, y.2.ports.toNat, [y.1]⟩

/-- No two of a list meet. -/
def apart : List (Nat × Queue) → Bool
  | [] => true
  | x :: t => !t.any (queuesMeet x) && apart t

/-- Bits of `m` all lie in `n`. -/
def subMask (m n : Nat) : Bool := Nat.land m n == m

/-- Shares of the fast tier that the queues of the other accounts have now, and once the re-bindings that run are done (R67). -/
def State.sharesNow (s : State) (n : Nat) : Nat :=
  ((s.wrt.queues.filter (fun q => q.2.account != n)).map (·.2.q)).sum

def State.sharesThen (s : State) (n : Nat) : Nat :=
  ((s.wrt.queues.filter (fun q => q.2.account != n && (s.moveOf q.2.account).isNone)).map (·.2.q)).sum +
    ((s.moves.filter (fun m => m.account != n)).flatMap (fun m => m.queues.map (·.2.q))).sum

/-- A queue names what the account does not hold, two share a resource, or shares of the fast tier sum above 256 (reason
0x06). -/
def State.queuesBad (s : State) (n : Nat) (b : List Byte) (a : Acct) (qs : List (Nat × Queue)) : Bool :=
  !apart qs || decide (256 < (qs.map (·.2.q)).sum + s.sharesThen n) ||
    qs.any (fun q => !(subMask q.2.cores.toNat a.cores.toNat && subMask q.2.lomef.toNat (field b 8 1) &&
      subMask q.2.exq.toNat a.exq.toNat && subMask q.2.ports.toNat a.ports.toNat))

/-- Units a re-binding takes or gives up. -/
def unitsMoved (old new : Held) : List Nat := maskBits 16 (Nat.xor old.exq new.exq)

/-- What a BIND asks for: the account, its queues, the shares that are lost to it, the reason it is refused for or 0. -/
structure Plan where
  acct : Acct
  queues : List (Nat × Queue)
  fallback : Option (Nat × Nat)
  fp64 : Bool
  reason : Nat
  deriving DecidableEq, Repr

/-- Check a descriptor by the reasons of R448; in fall-back mode the account holds no share (R259), and host cores belong to
no engine set (R379). (DEDUCED, log entries 33, 34.) -/
def State.plan (s : State) (n : Nat) (r : RdRes) : Plan :=
  let b := r.bytes
  let named := field b 8 1
  let gone := ((maskBits 8 named).filter (fun c => !s.shareUp c)).map (2 ^ ·) |>.sum
  let fb : Option (Nat × Nat) := if named = 0 then some (1, 0) else if gone = 0 then none else some (2, gone)
  let a := acctOf b (if fb.isNone then named else 0)
  let hosts := BitVec.ofNat 256 (hostMask (field b 10 2))
  let raw := (s.queueEntries n b).map (entryQueue n)
  let qs := raw.map (fun q => (q.1, { q.2 with lomef := q.2.lomef &&& a.lomef, cores := q.2.cores &&& ~~~hosts }))
  let new := a.held (qs.map (·.1))
  let fp64 := bit (field b 1 1) 0
  let reason :=
    if s.boot.phase != .ready then 4
    else if n = 0 || s.sess.heldAccts.any (fun p => p.1 == n) then 8
    else if !s.descriptorOk n r then 5
    else if s.namedAbsent a then 1
    else if (s.otherAccts n).any (fun o => (s.heldThen o).meets new) then 2
    else if (maskBits 16 (Nat.lor (s.heldNow n).exq new.exq)).any (fun u => (s.unit u).loop.isSome) then 3
    else if s.queuesBad n b a raw then 6
    else if fb.isSome && !fp64 && !bit (s.rd F.GLB_FEATURES_AGREED 0 0) 5 then 7
    else if fb.isSome && fp64 then 9
    else 0
  ⟨a, qs, fb, fp64, reason⟩

/-! ### Re-binding (R450, R451) -/

/-- Orders that run on a Lomef share stay when their batch is aborted: the share moves once they have completed (R451). (DEDUCED, log entry 36.) -/
def State.keepLomef (old s : State) : State :=
  { s with train := { s.train with lomef := (List.range 8).foldl (fun m c =>
      let run := (mget [] old.train.lomef c).filter (fun o => o.running && !(mget [] m c).contains o)
      mset [] m c (run ++ mget [] m c)) s.train.lomef } }

/-- Clearing and solve orders of a queue's running batch complete ABORTED, with reason 0x07 as a fence leaves them (R192, R450
step 2). -/
def State.abortSubs (s : State) (n : Nat) : State :=
  match s.runBatch n, s.queue n with
  | some b, some q =>
    let s := (b.clr.zipIdx.filter (fun p => p.1.status.isNone)).foldl (fun s p =>
      s.finishClr n q.account p.2 (clrF p.1.bytes).tag 0x04 (noResult 0x04 0x07 0)) s
    (b.exq.zipIdx.filter (fun p => p.1.status.isNone)).foldl (fun s p => s.exqDone n p.2 0x04) s
  | _, _ => s

/-- ABORT mode: batches on the queues that change complete ABORTED, with their orders. -/
def State.abortQueues (s : State) (drop : List Nat) : State :=
  s.keepLomef (drop.foldl (fun t n => (t.abortSubs n).killBatches n (fun _ => true) 0x04 64) s)

/-- A re-binding begins (R450 step 1): its queues take no more, cores that nothing uses read re-binding. (DEDUCED, log entry 36.) -/
def State.beginMove (s : State) (m : Move) (abort : Bool) : State :=
  let s := if abort then s.abortQueues m.drop else s
  ({ s.st F.GLB_ACCT_STATE 3 0 m.account with moves := s.moves ++ [m] }).moveTimes

/-- Nothing uses what moves any more: batches, loops and running solve orders of units, running Lomef orders of shares. -/
def State.moveClear (s : State) (m : Move) : Bool :=
  let old := s.heldNow m.account
  let new := s.heldThen m.account
  m.since.isSome && (unitsMoved old new).all (fun u => (s.unit u).order.isNone && (s.unit u).loop.isNone) &&
    (maskBits 8 (Nat.xor old.lomef new.lomef)).all (fun c =>
      !(mget [] s.train.lomef c).any (fun o => o.running && o.account == m.account))

/-- µs since the time of a re-binding runs. -/
def State.moveUs (s : State) (m : Move) : Nat := (s.clk.now - m.since.getD s.clk.now) / 25

/-- Runs of an account become invalid, but for the real-time runs of loops that stay (R446, R453). -/
def State.dropRuns (s : State) (n : Nat) (kept : List Nat) : State :=
  { s with ms := { s.ms with runs := s.ms.runs.map (fun p =>
      if p.2.account = n ∧ ¬ (p.2.rt ∧ (kept.map (· / 4)).contains p.2.rtDie) then (p.1, { p.2 with valid := false }) else p) } }

/-- What the fabric and the gate keep for an account goes with it. -/
def State.forgetAcct (s : State) (n : Nat) : State :=
  { s with
    fab := { s.fab with paths := s.fab.paths.filter (fun p => p.account != n), peers := s.fab.peers.filter (fun p => p.account != n),
                        jit := s.fab.jit.filter (fun j => j.account != n), layouts := s.fab.layouts.filter (fun l => l.1 != n),
                        doneTags := s.fab.doneTags.filter (fun t => t.1 != n) }
    train := { s.train with health := s.train.health.filter (fun h => h.account != n),
                            posts := s.train.posts.filter (fun p => p.account != n) } }

/-- Queues after a re-binding: those that change start with empty rings. -/
def State.moveQueues (s : State) (m : Move) : State :=
  let l := s.wrt.queues.filter (fun q => !m.drop.contains q.1)
  { s with wrt := { s.wrt with queues := m.queues.foldl (fun l q =>
      if l.any (fun p => p.1 == q.1) then l else mset queueDef l q.1 q.2) l } }

/-- The queue of a core, 0 when it has none. -/
def State.queueWith (s : State) (c : Nat) : Nat :=
  ((s.wrt.queues.find? (fun q => q.2.cores.getLsbD c)).map (·.1)).getD 0

/-- Units that change hands: the account they serve, the host core's tile stores zeroed (R411), no factor kept. -/
def State.moveUnits (s : State) (units : List Nat) (new : Held) (n : Nat) : State :=
  units.foldl (fun s u =>
    let to_ := if bit new.exq u then n else 0
    let s := (List.range 32).foldl (fun s e => s.zeroTile (hostCore u * 32 + e)) s
    let s := s.xst F.EXQ_STATE_ACCOUNT u to_
    let e := s.unit u
    s.setUnit u { exqDef with uncAt := e.uncAt, satRecAt := e.satRecAt }) s

/-- The re-binding is done: the account serves with its new resources, account 0 holds the rest, the command completes. (DEDUCED, log entry 36.) -/
def State.endMove (s : State) (m : Move) : State :=
  let n := m.account
  let us := s.moveUs m
  let old := s.heldNow n
  let new := s.heldThen n
  let units := unitsMoved old new
  let was := s.acct n
  let s : State := { s with moves := s.moves.filter (fun v => v.account != n) }
  let s := (s.moveQueues m).moveUnits units new n
  let s : State := { s with accts := s.accts.filter (fun p => p.1 != n) }
  let s : State := match m.acct with
    | some a =>
      let a := if m.slot.isSome then { a with books := (was.map (·.books)).getD a.books } else a
      let s := s.setAcct n a
      let held := s.boot.phase == .unattended && m.slot.isSome
      let l := s.sess.heldAccts.filter (fun p => p.1 != n) ++ [(n, s.sess.lapsedAt.getD s.clk.now)]
      let s := if held then { s with sess := { s.sess with heldAccts := l } } else s
      let s := (s.showAcct n a).st F.GLB_ACCT_STATE (if held then 2 else 1) 0 n
      let s := (s.st F.GLB_ACCT_FALLBACK (b2n m.fallback.isSome) 0 n).st F.GLB_ACCT_FP64 (b2n m.fp64) 0 n
      if m.slot.isSome then s.reloadPeers n a else s
    | none => s.setReg (regKey F.GLB_ACCT_STATE.key 0 n) 0
  let s := if m.acct.isNone || m.slot.isNone then (s.dropRuns n m.kept).forgetAcct n else s
  let s := (List.range 256).foldl (fun s c =>
    if bit new.cores c then s.st F.SEQ_STATE_QUEUE (s.queueWith c) (c / 64) (c % 64) else s) s
  let s := s.setAcct 0 s.restAcct
  let s := s.showAcct 0 s.restAcct
  let s := match m.fallback with
    | some f => s.note 0x2504 n f.1 f.2
    | none => s
  match m.slot with
  | some k => s.cmdEnd k 0 0 us
  | none => s

/-- A re-binding whose cores have all moved ends once its other resources can (R451); a loop started meanwhile on a unit
that moves is stopped (R411). -/
def State.tryEnd (s : State) (n : Nat) : State :=
  match s.moveOf n with
  | some m =>
    let s := if m.since.isSome then (unitsMoved (s.heldNow n) (s.heldThen n)).foldl State.stopUnit s else s
    if m.cores.isEmpty && s.moveClear m then s.endMove m else s
  | none => s

/-- Cores that a re-binding moves: those it gives up and those it takes, and the host cores of units that move (R379). -/
def coresMoved (old new : Held) : List Nat :=
  maskBits 256 (Nat.lor (Nat.xor old.cores new.cores) (hostMask (Nat.xor old.exq new.exq)))

/-- Queues that a re-binding gives up or binds anew: an entry that has not changed keeps its queue. -/
def State.queuesMoved (s : State) (n : Nat) (qs : List (Nat × Queue)) : List Nat :=
  (s.acctQueues n).filter (fun k => !qs.any (fun q => q.1 == k && (s.queue k).map Queue.entry == some q.2))

/-- BIND: refused with code 0x0022, waiting while another account's re-binding releases what it names (R454), or begun; run
again, it ends a re-binding that has no core left to move. (DEDUCED, log entries 33, 36.) -/
def execBind (slot : BitVec 10) (s : State) : Res :=
  .next (s.cmdGo slot 0x02 (fun n b s =>
    if !s.running then s
    else match s.moveOf n with
      | some _ => s.tryEnd n
      | none =>
        let p := s.plan n (s.devRead [] (field b 16 8) 512)
        if p.reason ≠ 0 then
          let s := (s.st F.GLB_BIND_REFUSE_REASON p.reason).st F.GLB_BIND_REFUSE_ACCOUNT n
          (s.note 0x0022 n p.reason).cmdEnd slot.toNat 0x03 p.reason
        else
          let old := s.heldNow n
          let new := p.acct.held (p.queues.map (·.1))
          if (s.otherAccts n).any (fun o => (s.heldNow o).meets new) ||
              decide (256 < (p.queues.map (·.2.q)).sum + s.sharesNow n) then s
          else
            let m : Move := ⟨n, some slot.toNat, some p.acct, p.queues, s.queuesMoved n p.queues, coresMoved old new, none, [],
              p.fallback, p.fp64⟩
            (s.beginMove m (bit (field b 24 1) 0)).tryEnd n))

/-- UNBIND: every resource moves to account 0, the runs become invalid, the account is free. (DEDUCED, log entry 36.) -/
def execUnbind (slot : BitVec 10) (s : State) : Res :=
  .next (s.cmdGo slot 0x03 (fun n b s =>
    if !s.running then s
    else match s.moveOf n with
      | some _ => s.tryEnd n
      | none =>
        if n = 0 || s.sess.heldAccts.any (fun p => p.1 == n) then s.cmdEnd slot.toNat 0x03 0x08
        else match s.acct n with
          | none => s.cmdEnd slot.toNat 0 0
          | some _ =>
            let old := s.heldNow n
            if (maskBits 16 old.exq).any (fun u => (s.unit u).loop.isSome) then s.cmdEnd slot.toNat 0x03 0x03
            else
              let m : Move := ⟨n, some slot.toNat, none, [], s.acctQueues n, coresMoved old Held.none, none, [], none, false⟩
              (s.beginMove m (bit (field b 24 1) 0)).tryEnd n))

/-- Stores, registers, CSRs and vector state of a core are zeroed (R450 step 3, R203, R226). -/
def State.wipeCore (s : State) (c : Nat) : State :=
  let s := (List.range 32).foldl (fun s e => s.zeroTile (c * 32 + e)) (s.zeroCore c)
  let s := { s with cpu := { s.cpu with
    sregs := s.cpu.sregs.filter (fun p => p.1 / 32 != c), csrs := s.cpu.csrs.filter (fun p => p.1 / 4096 != c)
    vregs := s.cpu.vregs.filter (fun p => p.1 / 32 != c), mregs := s.cpu.mregs.filter (fun p => p.1 / 8 != c) } }
  s.setCore c { coreDef with uncs := (s.core c).uncs }

/-- Steps 3 to 5 of R450 for one core, once nothing uses it and its dispatcher does not restart (R454). (DEDUCED, log entry 36.) -/
def execCoreMove (core : Fin 256) (s : State) : Res :=
  let c := core.val
  .next (s.working fun s =>
    match s.moves.find? (fun m => m.cores.contains c) with
    | none => s
    | some m =>
      let n := m.account
      let old := s.heldNow n
      let new := s.heldThen n
      let u := c / 16
      let moved := hostCore u == c && bit (Nat.xor old.exq new.exq) u
      if m.since.isNone || s.fwState (c / 64) == 3 || s.fwState (c / 64) == 4 then s
      else if moved && ((s.unit u).loop.isSome || (s.unit u).order.isSome) then s.stopUnit u
      else
        let to_ := if bit new.cores c then n else 0
        let host := hostCore u == c && s.exqAvail u && (to_ == 0 || bit new.exq u)
        let s := s.wipeCore c
        let s := s.st F.SEQ_STATE_ACCOUNT to_ (c / 64) (c % 64)
        let q := ((m.queues.find? (fun q => q.2.cores.getLsbD c)).map (·.1)).getD 0
        let s := s.st F.SEQ_STATE_QUEUE (if to_ = n then q else 0) (c / 64) (c % 64)
        let s := if s.coreFenced c then s.setSeqState c 4 else if host then s.waitSeq c .unit else s.setSeqState c 0
        let s := s.note 0x0021 (if bit old.cores c then n else 0) to_ (s.moveUs m)
        let l := s.moves.map (fun (v : Move) => if v.account = n then { v with cores := v.cores.filter (· != c) } else v)
        let s := { s with moves := l }
        s.tryEnd n)

/-! ### Reclaim (R446) -/

/-- What a reclaimed account keeps: units with running loops, their host cores and ports. (DEDUCED, log entry 37.) -/
def State.loopAcct (s : State) (n : Nat) (a : Acct) : Option Acct × List Nat :=
  let us := (maskBits 16 a.exq.toNat).filter (fun u => s.loopOf u n)
  if us.isEmpty then (none, [])
  else
    let exq := (us.map (2 ^ ·)).sum
    let ports := ((us.filter (fun u => s.xrd F.EXQ_STATE_PORT_HELD u == 1)).map (fun u => s.xrd F.EXQ_STATE_PORT u)).eraseDups
    (some { a with
      cores := BitVec.ofNat 256 (hostMask exq), exq := BitVec.ofNat 16 exq, lomef := 0
      ports := a.ports &&& BitVec.ofNat 16 ((ports.map (2 ^ ·)).sum)
      ledgerVa := 0, ledgerCount := 0, layerVa := 0, layerCount := 0, gatelogVa := 0, peerVa := 0, fbEscrowVa := 0,
      books := [none, none, none, none] }, us)

/-- A held account is reclaimed in ABORT mode. (DEDUCED, log entry 37.) -/
def State.reclaim (s : State) (n : Nat) : State :=
  match s.acct n with
  | none => s
  | some a =>
    let k := s.loopAcct n a
    let old := s.heldNow n
    let new := match k.1 with
      | some a => a.held []
      | none => Held.none
    let m : Move := ⟨n, none, k.1, [], s.acctQueues n, coresMoved old new, none, k.2, none, false⟩
    ((s.dropRuns n k.2).beginMove m true).tryEnd n

/-- 600 s after a lapse the session has ended and the accounts it holds are reclaimed. (DEDUCED, log entry 37.) -/
def execHoldExpiry (s : State) : Res :=
  .next (if !s.running then s
    else
      let due := (s.sess.heldAccts.filter (fun p => s.after p.2 (second 600) && (s.moveOf p.1).isNone)).map (·.1)
      let ended := match s.sess.lapsedAt with
        | some t => s.sess.token.isSome && s.after t (second 600)
        | none => false
      if due.isEmpty && !ended then s.moves.foldl (fun s m => s.tryEnd m.account) s
      else
        let kept := (due.map (fun n => match s.acct n with
          | some a => (s.loopAcct n a).2.length
          | none => 0)).sum
        let s := { s with sess := { s.sess with token := if ended then none else s.sess.token,
                                                heldAccts := s.sess.heldAccts.filter (fun p => !due.contains p.1) } }
        let s := due.foldl State.reclaim s
        let mask := acctMask due
        s.note 0x0032 (mask % 2 ^ 32) (mask / 2 ^ 32) kept)

end Sys2Proof.Machine
end

