-- ==== Sys2Proof/Machine/Assize.lean ====
section
/-! DEFINITION. The Assize unit and its link (15_assize_unit.md, R504 to R527). -/

namespace Sys2Proof.Machine

def State.setAsz (s : State) (a : Assize) : State := { s with asz := a }

/-- An event of the unit: nothing unless its software runs (R505, R515). -/
def State.metering (s : State) (f : Assize → Assize) : State := if s.asz.running then s.setAsz (f s.asz) else s

/-! ### The metrological log (R518) -/

/-- At 1,000 legal entries the log is closed. -/
def Assize.closed (a : Assize) : Bool := decide (1000 ≤ a.legalLog.length)

/-- A legal entry: never more than 1,024, none overwritten. -/
def Assize.legal (a : Assize) (event : Nat) (x y : W32) : Assize :=
  if 1024 ≤ a.legalLog.length then a else { a with legalLog := a.legalLog ++ [⟨event, a.msec, a.euwh, x, y⟩] }

/-- A supply entry: the oldest of 256 is overwritten. Event 1 up, 2 down. -/
def Assize.supply (a : Assize) (event : Nat) : Assize :=
  let l := a.supplyLog ++ [⟨event, a.msec, a.euwh, 0, 0⟩]
  { a with supplyLog := l.drop (l.length - 256) }

/-- Events of the legal area in the order of R518. (DESIGN CHOICE, log entry 84.) -/
def evSoftware : Nat := 1
def evParameter : Nat := 2
def evDemandReset : Nat := 3
def evCover : Nat := 4
def evReverse : Nat := 5
def evOvercurrent : Nat := 6
def evSupplyOpen : Nat := 7

/-! ### Energy (R507, R508, R510) -/

/-- Products of µV and µA in a µWh at 4,000 samples per second. -/
def sampleDen : Int := 14400000000000

/-- The integral part of a sum, to nearest, and the remainder carried on. (DEDUCED, log entry 83.) -/
def carryRound (t : Int) : Nat × Int :=
  let q := (t + sampleDen / 2) / sampleDen
  (q.toNat, t - q * sampleDen)

/-- Meter seconds advance every 4,000 samples. -/
def Assize.second_ (a : Assize) : Assize :=
  if a.samples + 1 < 4000 then { a with samples := a.samples + 1 }
  else
    let a := { a with samples := 0, msec := a.msec + 1 }
    if a.msec / 3600 = a.revHour.1 then a else { a with revHour := (a.msec / 3600, a.ruwh) }

/-- One sample of voltage (µV) and current (µA). (DEDUCED, log entry 83.) -/
def Assize.sample (a : Assize) (uv ua : Int) : Assize :=
  let p := if ua.natAbs < 100000 then 0 else uv * ua
  let a := if 64000000 < ua.natAbs then { a with overRange := true } else a
  let a := if 0 ≤ p then
      let r := carryRound (a.eRem + p)
      { a with euwh := (a.euwh + r.1) % 2 ^ 64, eRem := r.2 }
    else
      let r := carryRound (a.rRem - p)
      { a with ruwh := (a.ruwh + r.1) % 2 ^ 64, rRem := r.2 }
  a.second_

def execEnergySample (uv ua : Int) (s : State) : Res := .next (s.metering (·.sample uv ua))

/-- Registers, meter seconds and demand state go to non-volatile memory. -/
def Assize.persist (a : Assize) : Assize :=
  { a with nvEuwh := a.euwh, nvRuwh := a.ruwh, nvMsec := a.msec, nvDemand := (a.maxDemand, a.maxDemandAt, a.resets) }

/-- Every 1 Wh. -/
def execEnergyPersist (s : State) : Res :=
  .next (s.metering fun a => if a.nvEuwh + 1000000 ≤ a.euwh ∨ a.nvRuwh + 1000000 ≤ a.ruwh then a.persist else a)

/-- The LED pulses once for each 1 / pulseConst kWh of legal energy (R513). (DEDUCED, log entry 83.) -/
def execTestPulse (s : State) : Res :=
  .next (s.metering fun a => if a.pulses < a.euwh * a.pulseConst / 1000000000 then { a with pulses := a.pulses + 1 } else a)

/-! ### Supply (R505, R508, R515, R517) -/

/-- Supply returns: what was persisted is in force; the software runs when its signatures pass; openings that the latch
recorded are logged. (DEDUCED, log entry 85.) -/
def execAssizeSupplyUp (swOk : Bool) (s : State) : Res :=
  .next (if s.asz.supplied then s
    else
      let a := { s.asz with
        supplied := true, running := swOk, euwh := s.asz.nvEuwh, ruwh := s.asz.nvRuwh, msec := s.asz.nvMsec, samples := 0
        eRem := 0, rRem := 0, periodStart := s.asz.nvEuwh, maxDemand := s.asz.nvDemand.1, maxDemandAt := s.asz.nvDemand.2.1
        resets := s.asz.nvDemand.2.2, requested := false, revHour := (s.asz.nvMsec / 3600, s.asz.nvRuwh) }
      s.setAsz (if !swOk then a
        else { (List.range a.unlogged).foldl (fun a _ => a.legal evCover 0 0) (a.supply 1) with unlogged := 0 }))

/-- The input falls below 40 V, the least the unit runs on (R505): the hold-up persists the registers (R508); with the cover switch open a legal entry is written. -/
def execAssizeSupplyFail (mv : Nat) (s : State) : Res :=
  .next (if !s.asz.supplied || decide (40000 ≤ mv) then s
    else
      let a := if !s.asz.running then s.asz
        else
          let a := s.asz.supply 2
          (if a.coverOpen then a.legal evSupplyOpen 0 0 else a).persist
      s.setAsz { a with supplied := false, running := false, requested := false, resetPend := [] })

/-! ### Demand (R511, R512) -/

/-- Demand of the period in W, divided by the full D. -/
def Assize.demand (a : Assize) : Nat := (a.euwh - a.periodStart) * 3600 / (a.d * 1000000)

/-- A demand reset, refused within 60 s of the one before and while the log is closed; 1 done, 2 refused. -/
def Assize.reset (a : Assize) : Assize × Nat :=
  let early := match a.lastReset with
    | some t => decide (a.msec < t + 60)
    | none => false
  if early || a.closed then (a, 2)
  else
    let a := a.legal evDemandReset (BitVec.ofNat 32 a.maxDemand) 0
    ({ a with maxDemand := 0, maxDemandAt := 0, resets := a.resets + 1, lastReset := some a.msec, periodStart := a.euwh }, 1)

/-- A demand reset is done or refused; the hub, while it has the link, learns the result: code 0x9006, and the command completes. -/
def State.resetDone (s : State) (slot : Option (BitVec 10)) : State :=
  let before := s.asz.maxDemand
  let r := s.asz.reset
  if !s.up || s.asz.lost then s.setAsz r.1
  else
    let s := (s.setAsz r.1).note 0x9006 r.2 before r.1.resets
    match slot with
    | some k => s.cmdEnd k.toNat 0 0 r.2
    | none => s

/-- A forwarded reset reaches the unit; in the last second of a period it waits for the evaluation. (DEDUCED, log entry 85.) -/
def State.forwardReset (s : State) (slot : Option (BitVec 10)) : State :=
  if s.asz.lost || !s.asz.running then s
  else if (s.asz.msec + 1) % s.asz.d = 0 then s.setAsz { s.asz with resetPend := s.asz.resetPend ++ [slot] }
  else s.resetDone slot

def execDemandReset (slot : Option (BitVec 10)) (s : State) : Res :=
  .next (match slot with
    | none => if s.running then s.forwardReset none else s
    | some k => s.cmdGo k 0x0F (fun _ _ s => if s.running then s.forwardReset slot else s))

/-- At a multiple of D the period's demand is evaluated; the resets that waited follow, in the order they came. -/
def execDemandPeriodEnd (s : State) : Res :=
  .next (if !s.asz.running || s.asz.msec % s.asz.d != 0 then s
    else
      let a := s.asz
      let w := a.demand
      let a := if a.maxDemand < w then { a with maxDemand := w, maxDemandAt := a.msec } else a
      let s := s.setAsz { a with periodStart := a.euwh }
      s.asz.resetPend.foldl State.resetDone (s.setAsz { s.asz with resetPend := [] }))

/-! ### Cover, overcurrent, parameters, software (R516 to R518, R525) -/

/-- The cover opens, powered or not. -/
def execCoverOpening (s : State) : Res :=
  let a := { s.asz with coverOpen := true, tamper := true }
  .next (s.setAsz (if a.running then a.legal evCover 0 0 else { a with unlogged := a.unlogged + 1 }))

/-- Current above 64 A for more than 1 s. -/
def execOvercurrentEvent (ma : W32) (s : State) : Res :=
  .next (s.metering fun a => if 64000 < ma.toNat then { a.legal evOvercurrent ma 0 with overRange := true } else a)

/-- More than 1 Wh of reverse energy in this hour of meter seconds; what has been logged counts no more. -/
def execReverseEnergyEvent (s : State) : Res :=
  .next (s.metering fun a =>
    if a.revHour.2 + 1000000 < a.ruwh then
      { a.legal evReverse (BitVec.ofNat 32 (a.ruwh - a.revHour.2)) 0 with revHour := (a.revHour.1, a.ruwh) }
    else a)

/-- A change through the verification port, with the cover open and the log not closed. -/
def Assize.portOpen (a : Assize) : Bool := a.coverOpen && !a.closed

/-- Parameters: 0 calibration, 1 D, 2 pulse constant, 3 reading interval; D has four legal values, and a new D starts its
period late (R511). (DESIGN CHOICE, log entry 10.) -/
def Assize.change (a : Assize) (which : Nat) (v : W32) : Assize :=
  let n := v.toNat
  match which with
  | 0 => { a.legal evParameter a.calibration v with calibration := v }
  | 1 => if [300, 900, 1800, 3600].contains n then { a.legal evParameter (BitVec.ofNat 32 a.d) v with d := n, periodStart := a.euwh } else a
  | 2 => { a.legal evParameter (BitVec.ofNat 32 a.pulseConst) v with pulseConst := n, pulses := a.euwh * n / 1000000000 }
  | 3 => if n = 0 then a else { a.legal evParameter (BitVec.ofNat 32 a.interval) v with interval := n }
  | _ => a

/-- (DESIGN CHOICE, log entry 84.) -/
def execParameterChange (which : BitVec 4) (new : W32) (s : State) : Res :=
  .next (s.metering fun a => if a.portOpen then a.change which.toNat new else a)

/-- New software: the boot check at the next supply-up decides whether it runs. -/
def execSoftwareReplacement (version : W32) (digest : W64) (s : State) : Res :=
  .next (s.metering fun a =>
    if a.portOpen then { a.legal evSoftware a.swVersion version with swVersion := version, swDigest := digest } else a)

/-- Re-verification closes through the verification port: the latch is cleared, the cover is sealed anew, and the legal log is
empty if its contents have been read out and signed into the verification record (R518, R525), which is free. (DESIGN CHOICE, log
entry 105.) -/
def Assize.reverified (a : Assize) (readOut : Bool) : Assize :=
  { a with tamper := false, coverOpen := false, legalLog := if readOut then [] else a.legalLog }

def execTamperLatchClear (s : State) : Res :=
  .next (if s.asz.running && s.asz.coverOpen then (s.setAsz (s.asz.reverified (s.freeNat 1 == 1))).takeFree else s)

/-! ### Readings (R520, R521) -/

/-- The unit's signatures over what it gives out, with its RSA key and its SLH-DSA-SHA2-192f key (R519). -/
def Assize.signRsa (a : Assize) (b : List Byte) : Sig := ⟨.rsa, natBe 384 a.rsaPub.toNat, b⟩
def Assize.signSlh (a : Assize) (b : List Byte) : Sig := ⟨.slhF, natBe 48 a.slhPub.toNat, b⟩

/-- The registers as they stand, not yet signed. -/
def Assize.unsigned (a : Assize) : Reading where
  serial := a.serial
  seq := a.seq + 1
  msec := a.msec
  energyWh := a.euwh / 1000000
  maxDemand := a.maxDemand
  maxDemandAt := a.maxDemandAt
  resets := a.resets
  d := a.d
  flags := BitVec.ofNat 32 (b2n a.tamper + 2 * b2n a.closed + 4 * b2n a.overRange)
  legal := a.legalLog.length
  swVersion := a.swVersion
  swDigest := a.swDigest
  rWh := a.ruwh / 1000000
  rsa := a.signRsa []
  slh := a.signSlh []

/-- The 128-byte body of R520. -/
def Reading.body (r : Reading) : List Byte :=
  [0x48#8, 0x4C#8, 0x58#8, 0x41#8] ++ natLe 4 r.seq ++ natLe 16 r.serial.toNat ++ natLe 8 r.msec ++
    natLe 8 r.energyWh ++ natLe 4 r.maxDemand ++ natLe 8 r.maxDemandAt ++ natLe 4 r.resets ++ natLe 4 r.d ++
    natLe 4 r.flags.toNat ++ natLe 4 r.legal ++ natLe 4 r.swVersion.toNat ++ natLe 8 r.swDigest.toNat ++ natLe 8 r.rWh ++
    List.replicate 40 0#8

/-- The reading as the registers stand, signed. -/
def Assize.reading (a : Assize) : Reading :=
  { a.unsigned with rsa := a.signRsa a.unsigned.body, slh := a.signSlh a.unsigned.body }

/-- A signed reading as it is delivered (R520, R523): the body and the two signatures. -/
def Reading.bytes (r : Reading) : List Byte := r.body ++ sigBytes r.rsa ++ sigBytes r.slh

/-- An entry of the metrological log: event code, meter seconds, E_uwh, two 32-bit values. (DESIGN CHOICE, log entry 84.) -/
def LogEntry.bytes (e : LogEntry) : List Byte :=
  natLe 8 e.event ++ natLe 8 e.msec ++ natLe 8 e.euwh ++ natLe 4 e.a.toNat ++ natLe 4 e.b.toNat

/-- Block `k` of an area of the log as the link reads it: 16 entries, signed (R518). (DESIGN CHOICE, log entry 84.) -/
def Assize.logBlock (a : Assize) (area : List LogEntry) (k : Nat) : List Byte × Sig × Sig :=
  let b := ((area.drop (16 * k)).take 16).flatMap LogEntry.bytes
  (b, a.signRsa b, a.signSlh b)

/-- A signed reading joins those not yet read; of more than 64 the oldest goes. -/
def Assize.make (a : Assize) : Assize :=
  let l := a.readings ++ [a.reading]
  { a with seq := a.seq + 1, readings := l.drop (l.length - 64), overRange := false }

/-- A reading falls due: every interval of meter seconds, at a period's end, or on request once per second. -/
def execReadingMade (s : State) : Res :=
  .next (s.metering fun a =>
    let timed := (a.msec % a.interval == 0 || a.msec % a.d == 0) && a.madeAt != some a.msec && a.msec != 0
    let asked := a.requested && a.lastRequest != some a.msec
    if timed then { a.make with madeAt := some a.msec, requested := false, lastRequest := if asked then some a.msec else a.lastRequest }
    else if asked then { a.make with requested := false, lastRequest := some a.msec }
    else a)

/-- ASZ_CMD: 1 requests a reading; a lost link carries no request. -/
def State.aszCmd (s : State) (v : Nat) : State :=
  if v % 4 = 1 ∧ !s.asz.lost then s.metering (fun a => { a with requested := true }) else s

/-! ### The link (R521 to R524) -/

/-- The hub polls the status frame; a unit whose software runs answers. (DEDUCED, log entry 85.) -/
def execStatusFramePoll (volt : BitVec 16) (ma : BitVec 32) (s : State) : Res :=
  .next (if !s.up || !s.asz.running then s
    else
      let a := s.asz
      let s := s.setAsz { a with lastFrame := s.clk.now, lost := false, shareBase := some (a.shareBase.getD a.euwh) }
      let s := (s.st F.ASZ_STATUS_LINK 1).st F.ASZ_STATUS_HELD a.readings.length
      let s := s.st F.ASZ_ENERGY_UWH a.euwh
      (s.st F.ASZ_NOW_VOLTAGE volt.toNat).st F.ASZ_NOW_CURRENT (ma.toNat / 10))

/-- No frame answered for 100 ms. -/
def execAssizeLinkLost (s : State) : Res :=
  .next (if !s.up || s.asz.lost || !s.after s.asz.lastFrame (msec 100) then s
    else ((s.setAsz { s.asz with lost := true }).st F.ASZ_STATUS_LINK 0).note 0x9001 (s.rd F.ASZ_READING_SEQ))

/-- A verified reading is shown and delivered. (DEDUCED, log entry 85.) -/
def State.takeReading (s : State) (r : Reading) : State :=
  let fl := r.flags.toNat
  let s := s.setAsz { s.asz with delivered := s.asz.delivered ++ [r] }
  let s := if bit fl 0 || bit fl 2 then s.note 0x9004 r.seq fl else s
  let s := if bit fl 1 && !s.flag F.ASZ_STATUS_LOG_CLOSED then s.note 0x9005 r.legal else s
  let s := (s.st F.ASZ_STATUS_TAMPER (fl % 2)).st F.ASZ_STATUS_LOG_CLOSED (fl / 2 % 2)
  let s := s.st F.ASZ_READING_SEQ r.seq
  (s.st F.ASZ_SWID_VERSION r.swVersion.toNat).st F.ASZ_SWID_DIGEST (r.swDigest.toNat % 2 ^ 32)

/-- The hub fetches the oldest reading held and verifies both signatures against the certified keys (R522); the operands tell
whether they arrive as they were made. -/
def execReadingFetch (rsaOk slhOk : Bool) (s : State) : Res :=
  .next (if !s.up || s.asz.lost || !s.asz.running then s
    else match s.asz.readings with
      | [] => s
      | r :: rest =>
        let s := (s.setAsz { s.asz with readings := rest }).st F.ASZ_STATUS_HELD rest.length
        if !(rsaOk && verifies r.rsa .rsa (certRsa s.asz.certBody) r.body) then s.note 0x9002 r.seq 1
        else if !(slhOk && verifies r.slh .slhF (certSlh s.asz.certBody) r.body) then s.note 0x9002 r.seq 2
        else s.takeReading r)

/-- The increase of E_uwh in the status frames, shared in proportion to the estimates; account 0 takes the remainder. -/
def execAccountEnergyDivision (estimates : List (Nat × Nat)) (s : State) : Res :=
  .next (match s.asz.shareBase with
    | none => s
    | some base =>
      if !s.up || !s.fwAlive 6 then s
      else
        let now := s.rd F.ASZ_ENERGY_UWH
        let inc := now - base
        let es := estimates.filter (fun e => decide (e.1 < 64))
        let total := (es.map (·.2)).sum
        let share := fun n => if total = 0 then 0 else inc * n / total
        let own := es.filter (fun e => e.1 != 0)
        let s := own.foldl (fun s e => s.inc F.ASZ_ACCT_UWH (share e.2) 0 e.1) s
        let s := s.inc F.ASZ_ACCT_UWH (inc - (own.map (fun e => share e.2)).sum) 0 0
        s.setAsz { s.asz with shareBase := some (max base now) })

end Sys2Proof.Machine
end

