-- ==== Sys2Proof/Machine/Control.lean ====
section
/-! DEFINITION. Accesses to control space (R14 to R21, R558 to R570), and the registers whose write acts. -/

namespace Sys2Proof.Machine

/-! ### Storing fields (R14, R16, R21) -/

/-- The value of a field that a written word leaves. -/
def FieldInfo.after (f : FieldInfo) (locked : Bool) (old v : Nat) : Nat :=
  let new := bits v f.fld.hi f.fld.lo
  let clamped := match f.range with
    | some (lo, hi) => clampNat lo hi new
    | none => new
  match f.acc with
  | .ro => old
  | .wo => old
  | .rw => clamped
  | .w1c => old - Nat.land old new
  | .lck => if locked then old else clamped

/-- The word that a written word leaves in a register. (DEDUCED, log entry 24; DESIGN CHOICE, log entry 28.) -/
def RegInfo.store (r : RegInfo) (locked : Bool) (old : W64) (v : Nat) : W64 :=
  r.flds.foldl (fun w f => putField w f.fld (f.after locked (bits old.toNat f.fld.hi f.fld.lo) v)) old

/-- A locked field is written with a value that differs from its own. (DEDUCED, log entry 24.) -/
def RegInfo.lockHit (r : RegInfo) (old : W64) (v : Nat) : Bool :=
  r.flds.any (fun f => f.acc == .lck && bits v f.fld.hi f.fld.lo != bits old.toNat f.fld.hi f.fld.lo)

/-- Device address of a register element. -/
def RegInfo.addr (r : RegInfo) (inst idx : Nat) : Nat := pageBase r.page inst + r.off + idx * r.stride

/-- Store a word by the access codes; code 0x0011 when it would change a locked field. -/
def State.storeReg (s : State) (r : RegInfo) (inst idx v : Nat) : State :=
  let key := regKey r.key inst idx
  let old := s.reg key
  let hit := s.boot.locked && r.lockHit old v
  let s := s.setReg key (r.store s.boot.locked old v)
  if hit then s.note 0x0011 (r.addr inst idx % 2 ^ 32) (r.addr inst idx / 2 ^ 32) (v % 2 ^ 32) else s

/-! ### Registers whose write acts -/

/-- GLB_RESET: the key requests a warm reset (R419). -/
def State.resetWrite (s : State) (v : Nat) : State := if v % 2 ^ 32 = 0x5741524D then s.requestReset 1 else s

/-- GLB_CMD_SLOTS: the next lower power of two from 16 to 1,024. -/
def slotsClamp (v : Nat) : Nat := if v < 16 then 16 else if 1024 ≤ v then 1024 else 2 ^ v.log2

/-- GLB_CMD_BASE: ignored while an entry is outstanding; the low 6 bits are zero. -/
def State.cmdBaseWrite (s : State) (v : Nat) : State :=
  if s.sess.cmds.isEmpty then s.st F.GLB_CMD_BASE_ADDR (v % 2 ^ 48 / 64 * 64) else s

/-- GPC_WDOG: 0 disarms, else 100 to 60,000 ms; the count starts anew (R568). -/
def State.wdogWrite (s : State) (v : Nat) : State :=
  let t := v % 65536
  let s := s.st F.GPC_WDOG_TIMEOUT_MS (if t = 0 then 0 else clampNat 100 60000 t)
  { s with edge := { s.edge with wdogFrom := s.clk.now } }

def State.kickWrite (s : State) : State := { s with edge := { s.edge with wdogFrom := s.clk.now } }

/-- GPC_CLOCK: the PLL follows the target (R567). (DEDUCED, log entry 86.) -/
def State.clockWrite (s : State) (v : Nat) : State :=
  let t := clampNat 400 3000 (v % 4096)
  (s.st F.GPC_CLOCK_TARGET_MHZ t).st F.GPC_CLOCK_ACTUAL_MHZ t

/-- CLR_CTRL: a die stores what is written to it; die 0's value acts, and is that of all four dies (R361). (DEDUCED, log entry 27.) -/
def State.lookaheadWrite (s : State) (die v : Nat) : State :=
  let n := clampNat 1 4 (v % 8)
  if die = 0 then (List.range 4).foldl (fun s d => s.st F.CLR_CTRL_LOOKAHEAD n d) s else s.st F.CLR_CTRL_LOOKAHEAD n die

/-- CLR_STAGE_BASE: 2 MiB-aligned, ignored while the unit is busy. -/
def State.stageBaseWrite (s : State) (die v : Nat) : State :=
  if (s.dieColls die).isEmpty then s.st F.CLR_STAGE_BASE_ADDR (v % 2 ^ 48 / 2 ^ 21 * 2 ^ 21) die else s

/-- DBK_FREEZE: 1 freezes, 0 releases (R473). -/
def State.freezeWrite (s : State) (v : Nat) : State := if v % 2 = 1 then s.freezeOn else s.endFreeze 1

/-- DMP_CTRL: KEEP and TILES are stored, DISCARD acts (R482). -/
def State.dmpWrite (s : State) (v : Nat) : State :=
  let s := (s.st F.DMP_CTRL_KEEP (v % 2)).st F.DMP_CTRL_TILES (v / 2 % 2)
  if bit v 8 then s.dumpDiscard else s

/-- ENG_FENCE_REQ and MEM_FENCE_REQ of a die (R192, R289). -/
def State.engFenceReq (s : State) (die v : Nat) : State := (s.engFenceWrite die (v % 2048)).fenceHosts
def State.memFenceReq (s : State) (die v : Nat) : State := s.fenceGroup die (v % 8) 4

/-- STR_CTRL: ARMED sticks, RT_UNITS is locked. (DEDUCED, log entry 24.) -/
def State.strCtrlWrite (s : State) (r : RegInfo) (die v : Nat) : State :=
  let hit := s.boot.locked && r.lockHit (s.reg (regKey r.key die 0)) v
  let s := if hit then s.note 0x0011 (r.addr die 0 % 2 ^ 32) (r.addr die 0 / 2 ^ 32) (v % 2 ^ 32) else s
  s.armWrite die v

/-- A whole register is written. -/
def State.writeReg (s : State) (r : RegInfo) (inst idx v : Nat) : State :=
  let k := r.key
  if k = F.WRT_DOORBELL_QUEUE.key then s.doorbell (v % 256) (v / 256 % 1024)
  else if k = F.WRT_CPL_ACK_QUEUE.key then s.cplAck (v % 256) (v / 256 % 1024)
  else if k = F.PWR_VDDF_TARGET.key then s.requestPoint (v % 256)
  else if k = F.ENG_FENCE_REQ_ENGINE.key then s.engFenceReq inst v
  else if k = F.MEM_FENCE_REQ_GROUP.key then s.memFenceReq inst v
  else if k = F.STR_CTRL_ARMED.key then s.strCtrlWrite r inst v
  else if k = F.STR_TBL_DATA_LOGICAL.key then s.tblWrite inst v
  else if k = F.STR_RUN_CMD_CMD.key then s.runCmd inst (v % 4)
  else if k = F.CLR_CTRL_LOOKAHEAD.key then s.lookaheadWrite inst v
  else if k = F.CLR_STAGE_BASE_ADDR.key then s.stageBaseWrite inst v
  else if k = F.EXQ_FRAME_ETHERTYPE.key ∧ inst ≠ 0 then s
  else if k = F.EXQ_SWITCH_VA_VA.key then s.exqSwitchWrite (inst * 4 + idx) (v % 2 ^ 48)
  else if k = F.EXQ_STOP_STOP.key then s.exqStopWrite (inst * 4 + idx) v
  else if k = F.GLB_RESET_KEY.key then s.resetWrite v
  else if k = F.GLB_HEARTBEAT_BEAT.key then s.beat
  else if k = F.GLB_CMD_BASE_ADDR.key then s.cmdBaseWrite v
  else if k = F.GLB_CMD_SLOTS_SLOTS.key then s.st F.GLB_CMD_SLOTS_SLOTS (slotsClamp (v % 2048))
  else if k = F.GLB_CMD_TAIL_INDEX.key then s.cmdTail (v % 1024)
  else if k = F.DBK_FREEZE_FREEZE.key then s.freezeWrite v
  else if k = F.DBK_CLEAR_NONCE.key then (if bit v 0 then s.newDbkNonce else s)
  else if k = F.DMP_CTRL_KEEP.key then s.dmpWrite v
  else if k = F.TRS_NONCE_CTRL_NEW.key then (if bit v 0 then s.newTrsNonce else s)
  else if k = F.ASZ_CMD_CMD.key then s.aszCmd v
  else if k = F.GPC_CLOCK_TARGET_MHZ.key then s.clockWrite v
  else if k = F.GPC_WDOG_TIMEOUT_MS.key then s.wdogWrite v
  else if k = F.GPC_WDOG_KICK_KICK.key then s.kickWrite
  else s.storeReg r inst idx v

/-! ### Held and latched halves (R20, R561) -/

def State.heldHalf (s : State) (q : Requester) (key : Nat) : Option W32 :=
  (s.bus.held.find? (fun e => e.1 == q && e.2.1 == key)).map (·.2.2)

def State.latched (s : State) (q : Requester) (key : Nat) : Option W32 :=
  (s.bus.latch.find? (fun e => e.1 == q && e.2.1 == key)).map (·.2.2)

def State.setLatch (s : State) (q : Requester) (key : Nat) (v : Option W32) : State :=
  let l := s.bus.latch.filter (fun e => !(e.1 == q && e.2.1 == key))
  { s with bus := { s.bus with latch := match v with | some x => (q, key, x) :: l | none => l } }

/-- Code 0x0010: an access of the wrong size or alignment (R19). (DEDUCED, log entry 23.) -/
def State.wrongSize (s : State) (a width : Nat) : State := s.note 0x0010 (a % 2 ^ 32) (a / 2 ^ 32) width

/-- Code 0x0012: an access to an unassigned range (R558). -/
def State.noRange (s : State) (a : Nat) (write : Bool) : State :=
  s.note 0x0012 (a % 2 ^ 32) (a / 2 ^ 32) (if write then 2 else 1)

/-- A Lomef window takes writes while its chip is up or retrains (R563). (DEDUCED, log entry 26.) -/
def State.windowOpen (s : State) (r : RegInfo) (inst : Nat) : Bool := r.page != 32 || s.shareUp inst

/-! ### A write -/

/-- A requester writes: the whole register, a lower half that is held, an upper half that takes effect with it. (DEDUCED, log entries 23, 26.) -/
def State.busWrite (s : State) (q : Requester) (a width v : Nat) : State :=
  match target a width with
  | .outside => s
  | .wrong => (s.dropAllHeld q).wrongSize a width
  | .unassigned => (s.dropAllHeld q).noRange a true
  | .empty => s.dropAllHeld q
  | .whole r inst idx =>
    let s := s.dropAllHeld q
    if writes q r.page r.key && s.windowOpen r inst then s.writeReg r inst idx v else s
  | .lower r inst idx =>
    let key := regKey r.key inst idx
    let s := s.dropAllHeld q
    if writes q r.page r.key then { s with bus := { s.bus with held := (q, key, BitVec.ofNat 32 v) :: s.bus.held } } else s
  | .upper r inst idx =>
    let key := regKey r.key inst idx
    match s.heldHalf q key with
    | some lo =>
      let s := s.dropAllHeld q
      if s.windowOpen r inst then s.writeReg r inst idx (lo.toNat + v % 2 ^ 32 * 2 ^ 32) else s
    | none => (s.dropAllHeld q).wrongSize a width

/-! ### A read -/

/-- What a read of a whole register does beside its answer: table entries and the window move on (R471). -/
def State.readWhole (s : State) (q : Requester) (r : RegInfo) (inst idx : Nat) : State :=
  if r.key = F.STR_TBL_DATA_LOGICAL.key then s.tblRead q inst
  else if r.key = F.DBK_WINDOW_WORD.key then s.windowRead q idx
  else s.answer q (s.readReg r inst idx)

def State.busRead (s : State) (q : Requester) (a width : Nat) : State :=
  match target a width with
  | .outside => s
  | .wrong => ((s.dropAllHeld q).wrongSize a width).answer q 0
  | .unassigned => ((s.dropAllHeld q).noRange a false).answer q 0
  | .empty => (s.dropAllHeld q).answer q 0
  | .whole r inst idx =>
    let s := s.dropHeld q (regKey r.key inst idx)
    if reads q r.page then s.readWhole q r inst idx else s.answer q 0
  | .lower r inst idx =>
    let key := regKey r.key inst idx
    let s := s.dropHeld q key
    if !reads q r.page then s.answer q 0
    else
      let v := (s.readReg r inst idx).toNat
      (s.setLatch q key (some (BitVec.ofNat 32 (v / 2 ^ 32)))).answer q (BitVec.ofNat 64 (v % 2 ^ 32))
  | .upper r inst idx =>
    let key := regKey r.key inst idx
    let s := s.dropHeld q key
    if !reads q r.page then s.answer q 0
    else
      let v := match s.latched q key with
        | some x => x.toNat
        | none => (s.readReg r inst idx).toNat / 2 ^ 32
      (s.setLatch q key none).answer q (BitVec.ofNat 64 v)

/-- Reads are answered while control space answers (R570). -/
def State.ctlRead (s : State) (q : Requester) : Bool :=
  s.ctlAlive && (match q with
    | .service => s.svcTime
    | .i2c => false
    | _ => true)

/-! ### The rows of the table -/

/-- REGISTER_WRITE. (DEDUCED, log entry 86.) -/
def execRegisterWrite (req : Requester) (addr : Addr) (width : Nat) (value : W64) (s : State) : Res :=
  .next (if s.ctlWrite req then s.busWrite req addr.toNat width value.toNat else s)

/-- An access of the wrong width or alignment; any other address and width is no such access. -/
def execWrongSizeAccess (req : Requester) (addr : Addr) (width : Nat) (write : Bool) (s : State) : Res :=
  .next (if target addr.toNat width = .wrong then
      (if write then (if s.ctlWrite req then s.busWrite req addr.toNat width 0 else s)
       else if s.ctlRead req then s.busRead req addr.toNat width else s)
    else s)

/-- An access to an unassigned range. -/
def execUnassignedRangeAccess (req : Requester) (addr : Addr) (width : Nat) (write : Bool) (s : State) : Res :=
  .next (if target addr.toNat width = .unassigned then
      (if write then (if s.ctlWrite req then s.busWrite req addr.toNat width 0 else s)
       else if s.ctlRead req then s.busRead req addr.toNat width else s)
    else s)

/-- A 32-bit read of one half of a 64-bit register. (DEDUCED, log entry 29.) -/
def execHalfRegisterRead (req : Requester) (addr : Addr) (s : State) : Res :=
  .next (match target addr.toNat 4 with
    | .lower _ _ _ | .upper _ _ _ => if s.ctlRead req then s.busRead req addr.toNat 4 else s
    | _ => s)

/-- A general-purpose core access outside every range of R275, or to a share without GPC_VAULT (R436): an access fault in
the hart. A share that is retired or lost answers LINK_LOST (R276). (DEDUCED, log entry 29.) -/
def execGpcDeviceAccessFault (hart : Fin 32) (addr : Addr) (write : Bool) (s : State) : Res :=
  let a := addr.toNat
  let share := decide (0x100000000000 ≤ a ∧ a < 0x180000000000)
  let fault := (s.place a == .none) || (share && !bit (s.rd F.GLB_FEATURES_AGREED 0 0) 9)
  .next (if !s.ctlAlive then s
    else if fault then
      let s := { s with bus := { s.bus with fault := (hart.val, addr) :: s.bus.fault } }
      if write then s else s.answer (.hart hart) 0
    else if share && !s.shareUp ((a - 0x100000000000) / 2 ^ 40) then
      { s with bus := { s.bus with linkLost := (hart.val, addr) :: s.bus.linkLost } }
    else s)

/-- The write of one register that has a row of its own. (DEDUCED, log entry 86.) -/
def State.rowWrite (s : State) (q : Requester) (page key : Nat) (f : State → State) : State :=
  if s.ctlWrite q && writes q page key then f (s.dropAllHeld q) else s

def execGlbReset (req : Requester) (key : W32) (s : State) : Res :=
  .next (s.rowWrite req 0 F.GLB_RESET_KEY.key (fun s => s.resetWrite key.toNat))

/-- A write of GPC_WDOG_KICK, or of GPC_WDOG with a timeout. -/
def execGpcWdogKick (req : Requester) (timeout : Option W32) (s : State) : Res :=
  .next (match timeout with
    | none => s.rowWrite req 10 F.GPC_WDOG_KICK_KICK.key State.kickWrite
    | some v => s.rowWrite req 10 F.GPC_WDOG_TIMEOUT_MS.key (fun s => s.wdogWrite v.toNat))

def execGpcClock (req : Requester) (value : W32) (s : State) : Res :=
  .next (s.rowWrite req 10 F.GPC_CLOCK_TARGET_MHZ.key (fun s => s.clockWrite value.toNat))

def execVddfSetPoint (req : Requester) (value : W32) (s : State) : Res :=
  .next (s.rowWrite req 2 F.PWR_VDDF_TARGET.key (fun s => s.requestPoint (value.toNat % 256)))

def execWrtDoorbell (req : Requester) (value : W32) (s : State) : Res :=
  .next (s.rowWrite req 1 F.WRT_DOORBELL_QUEUE.key (fun s => s.doorbell (value.toNat % 256) (value.toNat / 256 % 1024)))

def execWrtCplAck (req : Requester) (value : W32) (s : State) : Res :=
  .next (s.rowWrite req 1 F.WRT_CPL_ACK_QUEUE.key (fun s => s.cplAck (value.toNat % 256) (value.toNat / 256 % 1024)))

def execEngFenceReq (req : Requester) (die : Fin 4) (value : W32) (s : State) : Res :=
  .next (s.rowWrite req 17 F.ENG_FENCE_REQ_ENGINE.key (fun s => s.engFenceReq die value.toNat))

def execMemFenceReq (req : Requester) (die : Fin 4) (value : W32) (s : State) : Res :=
  .next (s.rowWrite req 18 F.MEM_FENCE_REQ_GROUP.key (fun s => s.memFenceReq die value.toNat))

/-- STR_CTRL as the table has it. -/
def strCtrlInfo : RegInfo :=
  ⟨F.STR_CTRL_ARMED.key, 19, 0, 1, 0, false,
    [⟨F.STR_CTRL_ARMED, .rw, 0, none⟩, ⟨F.STR_CTRL_RT_UNITS, .lck, 0, some (0, 64)⟩]⟩

def execArmTables (req : Requester) (die : Fin 4) (value : W32) (s : State) : Res :=
  .next (s.rowWrite req 19 F.STR_CTRL_ARMED.key (fun s => s.strCtrlWrite strCtrlInfo die value.toNat))

/-- A read or a write of STR_TBL_DATA. (DEDUCED, log entry 29.) -/
def execStrTblData (req : Requester) (die : Fin 4) (write : Option W32) (s : State) : Res :=
  .next (match write with
    | some v => s.rowWrite req 19 F.STR_TBL_DATA_LOGICAL.key (fun s => s.tblWrite die v.toNat)
    | none => if s.ctlRead req && reads req 19 then (s.dropAllHeld req).tblRead req die else s)

def execRunWrite (req : Requester) (die : Fin 4) (s : State) : Res :=
  .next (s.rowWrite req 19 F.STR_RUN_CMD_CMD.key (fun s => s.runCmd die 1))

def execRunInvalidate (req : Requester) (die : Fin 4) (s : State) : Res :=
  .next (s.rowWrite req 19 F.STR_RUN_CMD_CMD.key (fun s => s.runCmd die 2))

def execRunReadBack (req : Requester) (die : Fin 4) (s : State) : Res :=
  .next (s.rowWrite req 19 F.STR_RUN_CMD_CMD.key (fun s => s.runCmd die 3))

def execExqStop (req : Requester) (die unit : Fin 4) (value : W32) (s : State) : Res :=
  .next (s.rowWrite req 21 F.EXQ_STOP_STOP.key (fun s => s.exqStopWrite (die * 4 + unit) value.toNat))

/-- Both halves of EXQ_SWITCH_VA, lower first (R561). -/
def execExqSwitchVa (req : Requester) (die unit : Fin 4) (value : W64) (s : State) : Res :=
  .next (s.rowWrite req 21 F.EXQ_SWITCH_VA_VA.key (fun s => s.exqSwitchWrite (die * 4 + unit) (value.toNat % 2 ^ 48)))

def execGlbCmdTail (req : Requester) (value : W32) (s : State) : Res :=
  .next (s.rowWrite req 0 F.GLB_CMD_TAIL_INDEX.key (fun s => s.cmdTail (value.toNat % 1024)))

/-- A read of a window word. (DEDUCED, log entry 29.) -/
def execDbkWindowRead (req : Requester) (word : Fin 64) (s : State) : Res :=
  .next (if s.ctlRead req && reads req 3 then (s.dropAllHeld req).windowRead req word else s)

/-- A read of the window's last word, with the cursor's advance (R471). -/
def execDbkWindowAdvance (req : Requester) (s : State) : Res :=
  .next (if s.ctlRead req && reads req 3 then (s.dropAllHeld req).windowRead req 63 else s)

def execDbkNonce (req : Requester) (value : W32) (s : State) : Res :=
  .next (s.rowWrite req 3 F.DBK_CLEAR_NONCE.key (fun s => if bit value.toNat 0 then s.newDbkNonce else s))

def execDmpDiscard (req : Requester) (value : W32) (s : State) : Res :=
  .next (s.rowWrite req 4 F.DMP_CTRL_KEEP.key (fun s => s.dmpWrite value.toNat))

def execTrsNonceNew (req : Requester) (value : W32) (s : State) : Res :=
  .next (s.rowWrite req 5 F.TRS_NONCE_CTRL_NEW.key (fun s => if bit value.toNat 0 then s.newTrsNonce else s))

def execReadingRequest (req : Requester) (value : W32) (s : State) : Res :=
  .next (s.rowWrite req 6 F.ASZ_CMD_CMD.key (fun s => s.aszCmd value.toNat))

end Sys2Proof.Machine
end

