-- ==== Sys2Proof/Machine/Edges.lean ====
section
/-! DEFINITION. The module's front edge (R539 to R545, R553): the service responder, the management link, the debug
connector. -/

namespace Sys2Proof.Machine

/-! ### The service responder (R542) -/

/-- ASCII "HLXS". -/
def svcMagic : List Byte := [0x48#8, 0x4C#8, 0x58#8, 0x53#8]

/-- Bytes of a request's header. -/
def svcHeader : Nat := 24

/-- Bytes of an operator token: its 64-byte header and its two signatures (R499). -/
def svcTokenBytes : Nat := 16672

def svcOp (d : List Byte) : Nat := field d 4 1
/-- Bits [47:0] of the address. -/
def svcAddr (d : List Byte) : Nat := field d 8 8 % 2 ^ 48
def svcValue (d : List Byte) : Nat := field d 16 4
def svcFragment (d : List Byte) : List Byte := d.drop svcHeader

/-- The header is one of the responder's: its magic, and the CRC-32C of the datagram's other bytes. -/
def svcReadable (d : List Byte) : Bool :=
  decide (svcHeader ≤ d.length) && slice d 0 4 == svcMagic &&
    field d 20 4 == (crc32c (d.take 20 ++ svcFragment d)).toNat

/-- The reply: the header with a value and a result byte, under a CRC-32C of its own. -/
def svcReplyBytes (d : List Byte) (value result : Nat) : List Byte :=
  let h := slice d 0 5 ++ natLe 1 result ++ slice d 6 10 ++ natLe 4 value
  h ++ natLe 4 (crc32c h).toNat

def State.svcAnswer (s : State) (d : List Byte) (value result : Nat) : State :=
  { s with trust := { s.trust with svcReply := some (svcReplyBytes d value result) } }

/-- The responder answers: in service state and before start step 7 completes (R542). -/
def State.svcServes (s : State) : Bool := s.svcTime

/-- The 32-bit register, or 32-bit half of a register, at an address. -/
def svcTarget (a : Nat) : Option (RegInfo × Nat × Nat) :=
  match target a 4 with
  | .whole r i k | .lower r i k | .upper r i k => some (r, i, k)
  | _ => none

/-- READ may reach it. (DEDUCED, log entry 46.) -/
def svcReads (a : Nat) : Bool :=
  match svcTarget a with
  | some (r, _, _) => reads .service r.page
  | none => false

/-- WRITE may reach it. -/
def svcWrites (a : Nat) : Bool :=
  match svcTarget a with
  | some (r, _, _) => writes .service r.page r.key
  | none => false

/-- The value that a read by the responder left. -/
def State.svcGot (s : State) : Nat :=
  match s.bus.rdata.find? (fun e => e.1 == .service) with
  | some e => e.2.toNat % 2 ^ 32
  | none => 0

/-- READ: one 32-bit register of the blocks of R542. -/
def State.svcRead (s : State) (d : List Byte) : State :=
  if svcReads (svcAddr d) && d.length == svcHeader then
    let t := s.busRead .service (svcAddr d) 4
    t.svcAnswer d t.svcGot 0
  else s.svcAnswer d (svcValue d) 1

/-- WRITE: one register of the list of R542. -/
def State.svcWrite (s : State) (d : List Byte) : State :=
  if svcWrites (svcAddr d) && d.length == svcHeader then
    (s.busWrite .service (svcAddr d) 4 (svcValue d)).svcAnswer d (svcValue d) 0
  else s.svcAnswer d (svcValue d) 1

/-- The token under assembly: a byte that no fragment has carried is zero. -/
def State.svcTokenHeader (s : State) : List Byte := (List.range 64).map (fun i => mget 0#8 s.trust.svcToken i)

/-- TOKEN: the fragment's bytes are kept; with the token's last byte it is checked (R499). (DEDUCED, log entry 46.) -/
def State.svcTokenPut (s : State) (d : List Byte) (g : TokenSigs) (refused : List Nat) : State :=
  let f := svcFragment d
  let off := svcValue d
  if 1024 < f.length ∨ f.length = 0 ∨ svcTokenBytes < off + f.length then s.svcAnswer d off 1
  else
    let m := (f.zip (List.range f.length)).foldl (fun m e => mset 0#8 m (off + e.2) e.1) s.trust.svcToken
    let s := { s with trust := { s.trust with svcToken := m } }
    let s :=
      if off + f.length = svcTokenBytes then
        let h := s.svcTokenHeader
        ({ s with trust := { s.trust with svcToken := [] } }).checkToken h svcTokenBytes g refused
      else s
    s.svcAnswer d off 0

/-- A datagram at the responder: the operation of its header, or result 1 for a request outside the table. -/
def State.svcRequest (s : State) (d : List Byte) (op : Nat) (act : State → State) : State :=
  if !s.svcServes then s
  else if !svcReadable d || svcOp d != op then s.svcAnswer d (svcValue d) 1
  else act s

/-- (DEDUCED, log entry 46.) -/
def execServiceRead (datagram : List Byte) (s : State) : Res := .next (s.svcRequest datagram 1 (·.svcRead datagram))

def execServiceWrite (datagram : List Byte) (s : State) : Res := .next (s.svcRequest datagram 2 (·.svcWrite datagram))

/-- The token's two signatures and the classes whose counter write UFS refuses come with its last fragment. (DESIGN CHOICE, log
entry 12.) -/
def execServiceTokenFragment (datagram : List Byte) (sigs : TokenSigs) (refused : List Nat) (s : State) : Res :=
  .next (s.svcRequest datagram 3 (·.svcTokenPut datagram sigs refused))

/-! ### The management link (R539, R553) -/

/-- The link goes down from up: cause 1 signal lost, 2 FEC uncorrectable. (DEDUCED, log entry 48.) -/
def execManagementLinkDown (cause : BitVec 2) (s : State) : Res :=
  .next (if s.ctlAlive && s.rd F.MGT_LINK_STATE == 2 && (cause == 1 || cause == 2) then
      let s := (s.st F.MGT_LINK_STATE 0).st F.MGT_LINK_DOWNS (min 255 (s.rd F.MGT_LINK_DOWNS + 1))
      s.note 0x0061 cause.toNat
    else s)

/-- The link comes up, with its medium and its FEC. -/
def execManagementLinkUp (optical rsFec : Bool) (s : State) : Res :=
  .next (if s.ctlAlive && s.rd F.MGT_LINK_STATE != 2 then
      let s := ((s.st F.MGT_LINK_STATE 2).st F.MGT_LINK_MEDIA (b2n optical)).st F.MGT_LINK_FEC (b2n rsFec)
      s.note 0x0062 (b2n optical) (b2n rsFec)
    else s)

/-! ### The debug connector (R545, R552) -/

/-- DEBUG_PRESENT_N falls: the level shows and code 0x0060 is written, after the FATAL record of a dump that runs. (DEDUCED, log entry 48.) -/
def execDebugAttach (s : State) : Res :=
  .next (if s.ctlAlive && !s.flag F.MGT_SLOT_DEBUG then ({ s with edge := { s.edge with debug := true } }.st F.MGT_SLOT_DEBUG 1).note 0x0060 else s)

end Sys2Proof.Machine
end

