-- ==== Sys2Proof/Machine/Gate.lean ====
section
/-! DEFINITION. The step gate (R329 to R332, R370 to R372): its command, its exchange with the job's modules, its result, the
gate log and the decision of a step that timed out. -/

namespace Sys2Proof.Machine

/-! ### The gate (R329 to R332) -/

/-- The first gate of an account. -/
def State.gateOf (s : State) (acct : Nat) : Option Gate := s.train.gates.find? (fun g => g.account == acct)

def State.setGate (s : State) (acct slot : Nat) (g : Option Gate) : State :=
  { s with train := { s.train with gates := s.train.gates.filterMap (fun h =>
      if h.account = acct ∧ h.slot = slot then g else some h) } }

/-- GATE: the fields of R453, TIMEOUT_MS clamped. An account that is not bound has no gate. -/
def execGate (slot : BitVec 10) (s : State) : Res :=
  .next (s.cmdGo slot 0x05 (fun acct b s =>
    if s.train.gates.any (fun g => g.slot == slot.toNat) then s
    else match s.acct acct with
      | none => s.cmdEnd slot.toNat 0x04 0
      | some _ =>
        let g : Gate := ⟨acct, slot.toNat, field b 16 8, field b 24 4, BitVec.ofNat 32 (field b 28 4),
          BitVec.ofNat 32 (field b 32 4), clampNat 100 600000 (field b 36 4), field b 40 8, field b 48 8, none, 0, 0, none⟩
        { s with train := { s.train with gates := s.train.gates ++ [g] } }))

/-- Every batch of the step has completed and every share has reported escrow; a lost share reports no more. (DEDUCED, log entry 66.) -/
def State.gateReady (s : State) (a : Acct) (g : Gate) : Bool :=
  let busy := s.wrt.queues.any (fun q => q.2.account == g.account && q.2.batches.any (fun b => b.step == some g.step))
  let h := s.stepHealth g.account g.step
  !busy && a.shares.all (fun c => s.shareLost c || h.reported.contains c)

/-- Escrow headers of an account: each share's two buffers, or the fall-back buffer (R260). -/
inductive EscPlace where
  | share (chip off : Nat)
  | local_ (acct va : Nat)
  deriving DecidableEq, Repr

/-- (DEDUCED, log entry 34.) -/
def State.escPlaces (s : State) (acct : Nat) (a : Acct) : List EscPlace :=
  if s.fallback acct then (if a.fbEscrowVa = 0 then [] else [.local_ acct a.fbEscrowVa])
  else a.shares.flatMap (fun c => (a.buffers c).map (fun o => .share c o))

def State.placeHdr (s : State) : EscPlace → List Byte
  | .share c o => s.hdr c o
  | .local_ a va =>
    let r := s.accRead [] a va 64
    if r.status = 0 ∧ (crc32c (slice r.bytes 0 60)).toNat = field r.bytes 60 4 then r.bytes
    else List.replicate 64 0#8

def State.placeWrite (s : State) (p : EscPlace) (b : List Byte) : State :=
  match p with
  | .share c o => s.shareWrite c o b
  | .local_ a va => s.accWrite a va b

/-- The module's sum of squares: shares in ascending chip order, binary64 (R370). -/
def State.sumSq (s : State) (acct : Nat) (a : Acct) (step : Nat) : FV :=
  (s.escPlaces acct a).foldl (fun acc p =>
    let h := s.placeHdr p
    if hdrStep h = step ∧ hdrState h = 2 then f64.rv .rne (FV.add false acc (f64.decode (field h 16 8))) else acc)
    (fvZero false)

/-- Ring order of the update book; ascending ranks before it is loaded (R352). -/
def Acct.ring (a : Acct) : List Nat := ((a.books.getD 2 none).getD (List.range a.ranks))

/-- This module's gate word. -/
def Gate.word (g : Gate) (rank : Nat) : List Byte :=
  natLe 8 g.health.toNat ++ natLe 8 g.sumsq.toNat ++ natLe 8 g.step ++ natLe 2 rank ++ List.replicate 6 0#8

/-- Records whose current-step fields position `c` of a ring of `j` reduces: ledger records, then layer records, eight bytes
each. (DESIGN CHOICE, log entry 96.) -/
def Acct.fieldSpan (a : Acct) (j c : Nat) : List Nat :=
  let n := a.ledgerCount + a.layerCount
  (List.range n).filter (fun i => decide (c * n / j ≤ i ∧ i < (c + 1) * n / j))

def State.fieldBytes (s : State) (acct : Nat) (a : Acct) (j c : Nat) : List Byte :=
  (a.fieldSpan j c).flatMap (fun i => natLe 8 (s.curFields acct a i).toNat)

/-- Legs of the exchange with the ring's other modules: the gate words, the fields to reduce, the reduced fields. (DESIGN
CHOICE, log entry 96.) -/
def Acct.gateLegs (a : Acct) : List (Nat × Nat × Bool × Nat) :=
  let j := a.ring.length
  let n := fun c => 8 * (a.fieldSpan j c).length
  let pos := a.ring.idxOf a.rank
  (a.ring.zipIdx.filter (fun p => p.1 != a.rank)).flatMap (fun p =>
    [(p.1, 0, true, 32), (p.1, 0, false, 32), (p.1, 1, true, n p.2), (p.1, 1, false, n pos),
     (p.1, 2, true, n pos), (p.1, 2, false, n p.2)])

/-- The exchange as the fabric carries it: an identity for its messages, and its planes to each peer. -/
def State.gateColl (s : State) (acct : Nat) (a : Acct) : Coll :=
  { id := s.fab.nextColl, account := acct, queue := 0, index := 0, step := 0, bytes := [], ring := a.ring, from_ := [],
    waiting := false, opened := true, stage := 0, formed := false, legs := [], planes := a.ring.map (fun r => (r, s.planesTo acct r)),
    status := [], result := noResult 0 0 0, own := [] }

/-- The messages of the exchange take their numbers, the peers' are expected, this module's gate word and fields go out
(R370). -/
def State.gateSend (s : State) (g : Gate) (a : Acct) : State :=
  let s := s.rejoin
  let c := s.gateColl g.account a
  let r := { s with fab := { s.fab with nextColl := s.fab.nextColl + 1 } }.allocLegs g.account a.gateLegs
  let c := { c with legs := r.2 }
  let s := r.1.setGate g.account g.slot (some { g with exch := some c })
  let s := [0, 1, 2].foldl (fun s st => s.expectLegs c st (fun _ _ => .buffer)) s
  let s := s.sendLegs c 0 (fun _ => g.word a.rank)
  s.sendLegs c 1 (fun l => s.fieldBytes g.account a a.ring.length (a.ring.idxOf l.peer))

/-- The gate enters the exchange with its gate word. (DEDUCED, log entry 70.) -/
def execGateExchangeEnter (account : Fin 64) (s : State) : Res :=
  .next (s.working fun s =>
    match s.gateOf account, s.acct account with
    | some g, some a =>
      if g.enteredAt.isSome || !s.gateReady a g then s
      else
        let g := { g with
          enteredAt := some s.clk.now
          health := BitVec.ofNat 64 (s.healthWord g)
          sumsq := BitVec.ofNat 64 (f64.ieee .rne (s.sumSq account a g.step)) }
        s.gateSend g a
    | _, _ => s)

/-- sqrt(S) <= x for a binary32 x. -/
def sqrtLe (S x : FV) : Bool :=
  if x.isNan then false
  else if x.isNeg && !x.isZero then false
  else !((x.mul x).lt S)

/-- Outcome and clip factor of R330 from the combined health word and S. -/
def gateOutcome (g : Gate) (h : Nat) (S : FV) : Nat × Nat :=
  let fin := !S.isNan && !S.isInf
  let nf := g.normFail.toNat
  let cl := g.clip.toNat
  let one := f32.ieee .rne fvOne
  if h = 0 ∧ fin ∧ (nf % 2 ^ 31 = 0 ∨ sqrtLe S (f32.decode nf)) then
    (1, if cl % 2 ^ 31 ≠ 0 ∧ !(f32.decode cl).isNan ∧ !sqrtLe S (f32.decode cl) then
        f32.ieee .rne (f64.rv .rne (FV.div (f32.decode cl) (f64.rv .rne S.sqrt)))
      else one)
  else (2, 0)

/-- The 32 bytes of a gate result (R331). -/
def resultBytes (step outcome c h sum : Nat) : List Byte :=
  natLe 8 step ++ natLe 4 outcome ++ natLe 4 c ++ natLe 8 h ++ natLe 8 sum

/-- Each escrow header of step n: STATE 3 with S and c on a pass, STATE 4 on a failure (R331 step 2). -/
def State.gateHeaders (s : State) (acct : Nat) (a : Acct) (step : Nat) (pass : Bool) (sum c : Nat) : State :=
  (s.escPlaces acct a).foldl (fun s p =>
    let h := s.placeHdr p
    if hdrStep h ≠ step then s
    else if pass then
      (if hdrState h = 2 then
        s.placeWrite p (sealHdr (splice (splice (splice h 8 (natLe 1 3)) 16 (natLe 8 sum)) 24 (natLe 4 c)))
       else s)
    else if hdrState h = 1 ∨ hdrState h = 2 then s.placeWrite p (sealHdr (splice h 8 (natLe 1 4)))
    else s) s

/-- Entry `i` of the gate log. -/
def State.gateLog (s : State) (acct : Nat) (a : Acct) (i : Nat) : List Byte := (s.accRead [] acct (a.gatelogVa + 32 * i) 32).bytes

/-- The entry of the gate log that holds the result of a step. -/
def State.logOf (s : State) (acct : Nat) (a : Acct) (step : Nat) : Option Nat :=
  (List.range 16).find? (fun i => field (s.gateLog acct a i) 8 1 != 0 && field (s.gateLog acct a i) 0 8 == step)

/-- The entry a step's result is written to: its own, an empty one, or the one of the lowest step (R371). (DEDUCED, log
entry 70.) -/
def State.logSlot (s : State) (acct : Nat) (a : Acct) (step : Nat) : Nat :=
  let at_ := fun i => field (s.gateLog acct a i) 0 8
  match s.logOf acct a step with
  | some i => i
  | none => ((List.range 16).find? (fun i => field (s.gateLog acct a i) 8 1 == 0)).getD
      ((List.range 16).foldl (fun m i => if at_ i < at_ m then i else m) 0)

/-- The result at RESULT_VA and in the gate log, which keeps the last 16 (R371). -/
def State.putResult (s : State) (acct : Nat) (a : Acct) (va : Option Nat) (step : Nat) (b : List Byte) : State :=
  let s := match va with
    | some v => s.accWrite acct v b
    | none => s
  s.accWrite acct (a.gatelogVa + 32 * s.logSlot acct a step) b

/-- The gate's command ends; what was known of the step's health goes, and what its exchange still expects; of one that timed
out RESULT_VA stays known (R372), and its own messages go. -/
def State.gateEnd (s : State) (g : Gate) (outcome c : Nat) : State :=
  let s := s.setGate g.account g.slot none
  let l := s.train.health.filter (fun h => !(h.account == g.account && h.step == g.step))
  let mine := fun id => g.exch.any (fun c => c.id == id)
  let due := s.train.owed.filter (fun o => !(o.1 == g.account && o.2.1 == g.step))
  let s := { s with
    train := { s.train with health := l, owed := if outcome = 3 then (g.account, g.step, g.resultVa) :: due else due }
    fab := { s.fab with rx := s.fab.rx.filter (fun m => !mine m.coll),
                        tx := if outcome = 3 then s.fab.tx.filter (fun m => !mine m.coll) else s.fab.tx } }
  s.cmdEnd g.slot 0 0 (outcome + c * 2 ^ 32)

/-- A gate word of step n from a rank (R370). (DEDUCED, log entry 70.) -/
def gateWordOf (words : List (List Byte)) (step rank : Nat) : Option (List Byte) :=
  words.find? (fun w => field w 16 8 == step && field w 24 2 == rank && field w 26 6 == 0)

/-- The fields this module has reduced go to the others (R370). -/
def State.gateShare (s : State) (g : Gate) (a : Acct) : State :=
  match g.exch with
  | some c => s.sendLegs c 2 (fun _ => s.fieldBytes g.account a a.ring.length (a.ring.idxOf a.rank))
  | none => s

/-- The exchange result is held: every module of the ring has given its word (R330, R331, R370). (DEDUCED, log entry 70.) -/
def execGateExchangeResult (account : Fin 64) (words : List (List Byte)) (fields : List (Nat × W64)) (dev : DevEvents)
    (s : State) : Res :=
  .next (s.working fun s =>
    match s.gateOf account, s.acct account with
    | some g, some a =>
      if g.enteredAt.isNone || !s.keepersRun a then s
      else
        let get := fun r => if r = a.rank then some (g.word a.rank) else gateWordOf words g.step r
        if a.ring.any (fun r => (get r).isNone) then s
        else
          let ws := a.ring.filterMap get
          let h := ws.foldl (fun h w => Nat.lor h (field w 0 8)) 0
          let S := match ws with
            | [] => fvZero false
            | w :: rest => rest.foldl (fun S v => f64.rv .rne (FV.add false S (f64.decode (field v 8 8))))
                (f64.decode (field w 8 8))
          let sum := f64.ieee .rne S
          let out := gateOutcome g h S
          let s := fields.foldl (fun s p => s.combineField account a p.1 p.2) s
          let s := s.gateShare g a
          let s := s.gateHeaders account a g.step (out.1 == 1) sum out.2
          let s := (s.devAccess dev).closeStep dev.bad account g.step
          let s := if out.1 = 2 then s.note 0x5003 account (h % 2 ^ 32) (g.step % 2 ^ 32) else s
          let s := s.putResult account a (some g.resultVa) g.step (resultBytes g.step out.1 out.2 h sum)
          s.gateEnd g out.1 out.2
    | _, _ => s)

/-- TIMEOUT_MS after it entered: outcome 3, code 0x5004; the escrow keeps STATE 2 (R332). (DEDUCED, log entry 70.) -/
def execGateTimeout (account : Fin 64) (s : State) : Res :=
  .next (s.working fun s =>
    match s.gateOf account, s.acct account with
    | some g, some a =>
      match g.enteredAt with
      | none => s
      | some t =>
        if !s.after t (msec g.timeoutMs) then s
        else
          let s := s.note 0x5004 account (g.step % 2 ^ 32) g.timeoutMs
          let s := s.putResult account a (some g.resultVa) g.step
            (resultBytes g.step 3 0 g.health.toNat g.sumsq.toNat)
          s.gateEnd g 3 0
    | _, _ => s)

/-- GATE_RESOLVE (R372): a source's log entry of the step, or forced failure. This module's own log answers when the
source is its own rank. (DEDUCED, log entry 70.) -/
def execGateResolve (slot : BitVec 10) (source : Option (List Byte)) (s : State) : Res :=
  .next (s.cmdGo slot 0x06 (fun acct b s =>
    match s.acct acct with
    | none => s.cmdEnd slot.toNat 0x03 0x01
    | some a =>
      let step := field b 16 8
      let force := bit (field b 26 1) 0
      let ent := if force then none
        else if field b 24 2 = a.rank then (s.logOf acct a step).map (s.gateLog acct a)
        else source
      let ok := match ent with
        | some e => field e 0 8 == step && (field e 8 1 == 1 || field e 8 1 == 2)
        | none => false
      if !force && !ok then s.cmdEnd slot.toNat 0x03 0x01
      else
        let e := (ent.getD [])
        let out := if force then 2 else field e 8 1
        let c := if out = 1 then field e 12 4 else 0
        let s := s.gateHeaders acct a step (out == 1) (field e 24 8) c
        let va := (s.train.owed.find? (fun o => o.1 == acct && o.2.1 == step)).map (·.2.2)
        let s := s.putResult acct a va step (resultBytes step out c (field e 16 8) (field e 24 8))
        let s := { s with train := { s.train with owed := s.train.owed.filter (fun o => !(o.1 == acct && o.2.1 == step)) } }
        (s.note 0x4003 acct (step % 2 ^ 32) out).cmdEnd slot.toNat 0 0 out))

end Sys2Proof.Machine
end

