-- ==== Sys2Proof/Machine/Dispatch.lean ====
section
/-! DEFINITION. Every command and its meaning: one arm for each constructor of `Instr`. -/

namespace Sys2Proof.Machine

def exec (i : Instr) (s : State) : Host.Outcome State Fault Refusal :=
  match i with
  | .registerWrite req addr width value => Sys2Proof.Machine.execRegisterWrite req addr width value s
  | .wrongSizeAccess req addr width write => Sys2Proof.Machine.execWrongSizeAccess req addr width write s
  | .unassignedRangeAccess req addr width write => Sys2Proof.Machine.execUnassignedRangeAccess req addr width write s
  | .gpcDeviceAccessFault hart addr write => Sys2Proof.Machine.execGpcDeviceAccessFault hart addr write s
  | .powerUp mv => Sys2Proof.Machine.execPowerUp mv s
  | .powerGood env => Sys2Proof.Machine.execPowerGood env s
  | .imageLoad proc img => Sys2Proof.Machine.execImageLoad proc img s
  | .identityKeysReady => Sys2Proof.Machine.execIdentityKeysReady s
  | .warmReset env => Sys2Proof.Machine.execWarmReset env s
  | .glbReset req key => Sys2Proof.Machine.execGlbReset req key s
  | .managementReset => Sys2Proof.Machine.execManagementReset s
  | .watchdogExpiry => Sys2Proof.Machine.execWatchdogExpiry s
  | .gpcWdogKick req timeout => Sys2Proof.Machine.execGpcWdogKick req timeout s
  | .gpcClock req value => Sys2Proof.Machine.execGpcClock req value s
  | .referenceClockLost => Sys2Proof.Machine.execReferenceClockLost s
  | .referenceReturned => Sys2Proof.Machine.execReferenceReturned s
  | .thermalDrop unit tj => Sys2Proof.Machine.execThermalDrop unit tj s
  | .thermalDropEnd t => Sys2Proof.Machine.execThermalDropEnd t s
  | .above105Enter unit tj => Sys2Proof.Machine.execAbove105Enter unit tj s
  | .above105Exit unit t => Sys2Proof.Machine.execAbove105Exit unit t s
  | .thermalShutdown unit tj => Sys2Proof.Machine.execThermalShutdown unit tj s
  | .currentDrop ma volt => Sys2Proof.Machine.execCurrentDrop ma volt s
  | .currentDropEnd ma => Sys2Proof.Machine.execCurrentDropEnd ma s
  | .currentShutdown => Sys2Proof.Machine.execCurrentShutdown s
  | .powerCapLower ma volt => Sys2Proof.Machine.execPowerCapLower ma volt s
  | .powerCapRaise ma volt => Sys2Proof.Machine.execPowerCapRaise ma volt s
  | .vddfSetPoint req value => Sys2Proof.Machine.execVddfSetPoint req value s
  | .lowerPointApply => Sys2Proof.Machine.execLowerPointApply s
  | .wrtDoorbell req value => Sys2Proof.Machine.execWrtDoorbell req value s
  | .batchAdmission queue unreadable => Sys2Proof.Machine.execBatchAdmission queue unreadable s
  | .wrtCplAck req value => Sys2Proof.Machine.execWrtCplAck req value s
  | .batchStart queue => Sys2Proof.Machine.execBatchStart queue s
  | .batchComplete queue => Sys2Proof.Machine.execBatchComplete queue s
  | .alu core rd ra rb func => Sys2Proof.Machine.execAlu core rd ra rb func s
  | .addi core rd ra imm => Sys2Proof.Machine.execAddi core rd ra imm s
  | .andi core rd ra imm => Sys2Proof.Machine.execAndi core rd ra imm s
  | .ori core rd ra imm => Sys2Proof.Machine.execOri core rd ra imm s
  | .xori core rd ra imm => Sys2Proof.Machine.execXori core rd ra imm s
  | .slti core rd ra imm => Sys2Proof.Machine.execSlti core rd ra imm s
  | .shi core rd ra imm => Sys2Proof.Machine.execShi core rd ra imm s
  | .lis core rd ra imm => Sys2Proof.Machine.execLis core rd ra imm s
  | .scalarLoad core kind rd ra imm bad => Sys2Proof.Machine.execScalarLoad core kind rd ra imm bad s
  | .scalarStore core kind rd ra imm => Sys2Proof.Machine.execScalarStore core kind rd ra imm s
  | .branch core kind ra rb off => Sys2Proof.Machine.execBranch core kind ra rb off s
  | .jal core off => Sys2Proof.Machine.execJal core off s
  | .jalr core rd ra imm => Sys2Proof.Machine.execJalr core rd ra imm s
  | .fop core rd ra rb func => Sys2Proof.Machine.execFop core rd ra rb func s
  | .fma core rd ra rb rc rnd variant => Sys2Proof.Machine.execFma core rd ra rb rc rnd variant s
  | .tord core ra rb => Sys2Proof.Machine.execTord core ra rb s
  | .tld core ra bad => Sys2Proof.Machine.execTld core ra bad s
  | .waite core rd ra => Sys2Proof.Machine.execWaite core rd ra s
  | .waitl core rd => Sys2Proof.Machine.execWaitl core rd s
  | .csrr core rd csr => Sys2Proof.Machine.execCsrr core rd csr s
  | .csrw core ra csr => Sys2Proof.Machine.execCsrw core ra csr s
  | .lpost core ra => Sys2Proof.Machine.execLpost core ra s
  | .wpost core ra => Sys2Proof.Machine.execWpost core ra s
  | .done core => Sys2Proof.Machine.execDone core s
  | .sys core imm => Sys2Proof.Machine.execSys core imm s
  | .illegalInstruction core word => Sys2Proof.Machine.execIllegalInstruction core word s
  | .arrayOrder engine bad => Sys2Proof.Machine.execArrayOrder engine bad s
  | .arrayOrderComplete engine residue => Sys2Proof.Machine.execArrayOrderComplete engine residue s
  | .tailOrder engine bad => Sys2Proof.Machine.execTailOrder engine bad s
  | .tailOrderComplete engine => Sys2Proof.Machine.execTailOrderComplete engine s
  | .loaderTransfer core dev bad => Sys2Proof.Machine.execLoaderTransfer core dev bad s
  | .loaderTransferComplete core => Sys2Proof.Machine.execLoaderTransferComplete core s
  | .completionRecordWrite core => Sys2Proof.Machine.execCompletionRecordWrite core s
  | .engineHang engine => Sys2Proof.Machine.execEngineHang engine s
  | .sequencerHang core => Sys2Proof.Machine.execSequencerHang core s
  | .sequencerParityError core => Sys2Proof.Machine.execSequencerParityError core s
  | .meshStopFault die cluster => Sys2Proof.Machine.execMeshStopFault die cluster s
  | .engFenceReq req die value => Sys2Proof.Machine.execEngFenceReq req die value s
  | .vsetvl core d a imm => Sys2Proof.Machine.execVsetvl core d a imm s
  | .vsetvlr core d a b => Sys2Proof.Machine.execVsetvlr core d a b s
  | .vmvxs core d a b => Sys2Proof.Machine.execVmvxs core d a b s
  | .vmvsx core d a b => Sys2Proof.Machine.execVmvsx core d a b s
  | .vmand core d a b => Sys2Proof.Machine.execVmand core d a b s
  | .vmor core d a b => Sys2Proof.Machine.execVmor core d a b s
  | .vmxor core d a b => Sys2Proof.Machine.execVmxor core d a b s
  | .vmandn core d a b => Sys2Proof.Machine.execVmandn core d a b s
  | .vmpop core d a => Sys2Proof.Machine.execVmpop core d a s
  | .vmfirst core d a => Sys2Proof.Machine.execVmfirst core d a s
  | .vmset core d imm => Sys2Proof.Machine.execVmset core d imm s
  | .vidx core d => Sys2Proof.Machine.execVidx core d s
  | .vmvr core d a imm => Sys2Proof.Machine.execVmvr core d a imm s
  | .vectorIntegerOp core o src func => Sys2Proof.Machine.execVectorIntegerOp core o src func s
  | .vectorFpOp core o scalar rnd func => Sys2Proof.Machine.execVectorFpOp core o scalar rnd func s
  | .vectorFma core o scalar rnd func => Sys2Proof.Machine.execVectorFma core o scalar rnd func s
  | .vredsum core o src func => Sys2Proof.Machine.execVredsum core o src func s
  | .vfredsum core o src => Sys2Proof.Machine.execVfredsum core o src s
  | .vfredmax core o src func => Sys2Proof.Machine.execVfredmax core o src func s
  | .vsad core o src signed => Sys2Proof.Machine.execVsad core o src signed s
  | .vslideup core o src => Sys2Proof.Machine.execVslideup core o src s
  | .vslidedn core o src => Sys2Proof.Machine.execVslidedn core o src s
  | .vgather core o src => Sys2Proof.Machine.execVgather core o src s
  | .vcompress core o src => Sys2Proof.Machine.execVcompress core o src s
  | .vmseq core o src func => Sys2Proof.Machine.execVmseq core o src func s
  | .vmfeq core o src func => Sys2Proof.Machine.execVmfeq core o src func s
  | .vectorLoad core o mop nf bad => Sys2Proof.Machine.execVectorLoad core o mop nf bad s
  | .firstFaultLoad core o nf bad => Sys2Proof.Machine.execFirstFaultLoad core o nf bad s
  | .vectorStore core o mop nf => Sys2Proof.Machine.execVectorStore core o mop nf s
  | .vcvt core vd va sfmt dfmt rnd m mr => Sys2Proof.Machine.execVcvt core vd va sfmt dfmt rnd m mr s
  | .vectorPowerDown core => Sys2Proof.Machine.execVectorPowerDown core s
  | .ledgerMerge die bad => Sys2Proof.Machine.execLedgerMerge die bad s
  | .layerOutcomeMerge die bad => Sys2Proof.Machine.execLayerOutcomeMerge die bad s
  | .layerReset slot => Sys2Proof.Machine.execLayerReset slot s
  | .temperatureRead device t => Sys2Proof.Machine.execTemperatureRead device t s
  | .memoryStewardAbsent => Sys2Proof.Machine.execMemoryStewardAbsent s
  | .retrainingSlice chan => Sys2Proof.Machine.execRetrainingSlice chan s
  | .patrolScrub chan sev => Sys2Proof.Machine.execPatrolScrub chan sev s
  | .vaultScrub chip sev => Sys2Proof.Machine.execVaultScrub chip sev s
  | .memFenceReq req die value => Sys2Proof.Machine.execMemFenceReq req die value s
  | .armTables req die value => Sys2Proof.Machine.execArmTables req die value s
  | .strTblData req die write => Sys2Proof.Machine.execStrTblData req die write s
  | .runWrite req die => Sys2Proof.Machine.execRunWrite req die s
  | .runInvalidate req die => Sys2Proof.Machine.execRunInvalidate req die s
  | .runReadBack req die => Sys2Proof.Machine.execRunReadBack req die s
  | .pcieLinkDown chip => Sys2Proof.Machine.execPcieLinkDown chip s
  | .pcieLinkRetrainEnd chip width ms => Sys2Proof.Machine.execPcieLinkRetrainEnd chip width ms s
  | .escrow chip bad => Sys2Proof.Machine.execEscrow chip bad s
  | .escrowComplete chip => Sys2Proof.Machine.execEscrowComplete chip s
  | .update chip bad => Sys2Proof.Machine.execUpdate chip bad s
  | .updateComplete chip => Sys2Proof.Machine.execUpdateComplete chip s
  | .watchRefresh chip bad => Sys2Proof.Machine.execWatchRefresh chip bad s
  | .gate slot => Sys2Proof.Machine.execGate slot s
  | .gateExchangeEnter account => Sys2Proof.Machine.execGateExchangeEnter account s
  | .gateExchangeResult account words fields bad => Sys2Proof.Machine.execGateExchangeResult account words fields bad s
  | .gateTimeout account => Sys2Proof.Machine.execGateTimeout account s
  | .gateResolve slot source => Sys2Proof.Machine.execGateResolve slot source s
  | .fabricPortDown port cause => Sys2Proof.Machine.execFabricPortDown port cause s
  | .fabricPortRetrainEnd port returned ms => Sys2Proof.Machine.execFabricPortRetrainEnd port returned ms s
  | .hostFrameReceive port frame => Sys2Proof.Machine.execHostFrameReceive port frame s
  | .hostFrameSend port frame => Sys2Proof.Machine.execHostFrameSend port frame s
  | .dataPacketReceive plane packet marked => Sys2Proof.Machine.execDataPacketReceive plane packet marked s
  | .ackReceive plane packet ranges => Sys2Proof.Machine.execAckReceive plane packet ranges s
  | .nackReceive plane packet missing => Sys2Proof.Machine.execNackReceive plane packet missing s
  | .creditReceive plane packet => Sys2Proof.Machine.execCreditReceive plane packet s
  | .resendReceive plane packet => Sys2Proof.Machine.execResendReceive plane packet s
  | .ackTimer account peer plane => Sys2Proof.Machine.execAckTimer account peer plane s
  | .nackTimer account peer plane => Sys2Proof.Machine.execNackTimer account peer plane s
  | .retransmitTimer account peer plane => Sys2Proof.Machine.execRetransmitTimer account peer plane s
  | .heldMessageTimeout account peer msg => Sys2Proof.Machine.execHeldMessageTimeout account peer msg s
  | .peerSilenceTimeout account peer => Sys2Proof.Machine.execPeerSilenceTimeout account peer s
  | .pathDead account peer plane => Sys2Proof.Machine.execPathDead account peer plane s
  | .allGather queue bad => Sys2Proof.Machine.execAllGather queue bad s
  | .jitGatherStart account tag => Sys2Proof.Machine.execJitGatherStart account tag s
  | .reduceScatter queue bad => Sys2Proof.Machine.execReduceScatter queue bad s
  | .allReduce queue bad => Sys2Proof.Machine.execAllReduce queue bad s
  | .permute queue bad => Sys2Proof.Machine.execPermute queue bad s
  | .permuteRoundEnd account tag => Sys2Proof.Machine.execPermuteRoundEnd account tag s
  | .ringPass queue bad => Sys2Proof.Machine.execRingPass queue bad s
  | .drop queue => Sys2Proof.Machine.execDrop queue s
  | .collectiveComplete account tag => Sys2Proof.Machine.execCollectiveComplete account tag s
  | .bookLoad slot => Sys2Proof.Machine.execBookLoad slot s
  | .loopStart slot => Sys2Proof.Machine.execLoopStart slot s
  | .cycleRelease unit => Sys2Proof.Machine.execCycleRelease unit s
  | .inputRingPoll unit => Sys2Proof.Machine.execInputRingPoll unit s
  | .measurementFragment unit frag => Sys2Proof.Machine.execMeasurementFragment unit frag s
  | .inputCutoff unit => Sys2Proof.Machine.execInputCutoff unit s
  | .assemblyComplete unit => Sys2Proof.Machine.execAssemblyComplete unit s
  | .factorisationComplete unit => Sys2Proof.Machine.execFactorisationComplete unit s
  | .iterationComplete unit bad => Sys2Proof.Machine.execIterationComplete unit bad s
  | .rebuildComplete unit => Sys2Proof.Machine.execRebuildComplete unit s
  | .cycleDeadline unit => Sys2Proof.Machine.execCycleDeadline unit s
  | .exqHang unit => Sys2Proof.Machine.execExqHang unit s
  | .loopStop slot => Sys2Proof.Machine.execLoopStop slot s
  | .exqStop req die unit value => Sys2Proof.Machine.execExqStop req die unit value s
  | .tableSwitch slot => Sys2Proof.Machine.execTableSwitch slot s
  | .exqSwitchVa req die unit value => Sys2Proof.Machine.execExqSwitchVa req die unit value s
  | .solve unit => Sys2Proof.Machine.execSolve unit s
  | .adjoint unit => Sys2Proof.Machine.execAdjoint unit s
  | .solveOrderComplete unit => Sys2Proof.Machine.execSolveOrderComplete unit s
  | .processorCrash proc => Sys2Proof.Machine.execProcessorCrash proc s
  | .processorRestarted proc r => Sys2Proof.Machine.execProcessorRestarted proc r s
  | .processorRestartTimeout proc => Sys2Proof.Machine.execProcessorRestartTimeout proc s
  | .fwUpdate slot img => Sys2Proof.Machine.execFwUpdate slot img s
  | .negotiate slot => Sys2Proof.Machine.execNegotiate slot s
  | .attach slot => Sys2Proof.Machine.execAttach slot s
  | .heartbeat req value => Sys2Proof.Machine.execHeartbeat req value s
  | .heartbeatLapse => Sys2Proof.Machine.execHeartbeatLapse s
  | .holdExpiry => Sys2Proof.Machine.execHoldExpiry s
  | .bind slot => Sys2Proof.Machine.execBind slot s
  | .unbind slot => Sys2Proof.Machine.execUnbind slot s
  | .coreMove core => Sys2Proof.Machine.execCoreMove core s
  | .moduleLevelError code level => Sys2Proof.Machine.execModuleLevelError code level s
  | .recordAdmission code p0 p1 p2 p3 => Sys2Proof.Machine.execRecordAdmission code p0 p1 p2 p3 s
  | .recordPersist => Sys2Proof.Machine.execRecordPersist s
  | .opsecPersist => Sys2Proof.Machine.execOpsecPersist s
  | .freeze slot req => Sys2Proof.Machine.execFreeze slot req s
  | .freezeRelease slot req => Sys2Proof.Machine.execFreezeRelease slot req s
  | .freezeExpiry => Sys2Proof.Machine.execFreezeExpiry s
  | .dbkRead slot => Sys2Proof.Machine.execDbkRead slot s
  | .dbkWindowAdvance req => Sys2Proof.Machine.execDbkWindowAdvance req s
  | .dbkNonce req value => Sys2Proof.Machine.execDbkNonce req value s
  | .nonceExpiry trs => Sys2Proof.Machine.execNonceExpiry trs s
  | .dmpDiscard req value => Sys2Proof.Machine.execDmpDiscard req value s
  | .token slot hdr sigs refused => Sys2Proof.Machine.execToken slot hdr sigs refused s
  | .trsNonceNew req value => Sys2Proof.Machine.execTrsNonceNew req value s
  | .getVersion => Sys2Proof.Machine.execGetVersion s
  | .getCapabilities => Sys2Proof.Machine.execGetCapabilities s
  | .negotiateAlgorithms => Sys2Proof.Machine.execNegotiateAlgorithms s
  | .getDigests => Sys2Proof.Machine.execGetDigests s
  | .getCertificate cslot => Sys2Proof.Machine.execGetCertificate cslot s
  | .challenge nonce cslot => Sys2Proof.Machine.execChallenge nonce cslot s
  | .getMeasurements nonce index => Sys2Proof.Machine.execGetMeasurements nonce index s
  | .charterUpdate img => Sys2Proof.Machine.execCharterUpdate img s
  | .serviceRead datagram => Sys2Proof.Machine.execServiceRead datagram s
  | .serviceWrite datagram => Sys2Proof.Machine.execServiceWrite datagram s
  | .serviceTokenFragment datagram sigs refused => Sys2Proof.Machine.execServiceTokenFragment datagram sigs refused s
  | .managementLinkDown cause => Sys2Proof.Machine.execManagementLinkDown cause s
  | .managementLinkUp optical rsFec => Sys2Proof.Machine.execManagementLinkUp optical rsFec s
  | .debugAttach => Sys2Proof.Machine.execDebugAttach s
  | .coolantReading inlet outlet flow => Sys2Proof.Machine.execCoolantReading inlet outlet flow s
  | .powerFailWarning mv cause => Sys2Proof.Machine.execPowerFailWarning mv cause s
  | .holdupReturn mv => Sys2Proof.Machine.execHoldupReturn mv s
  | .assizeSupplyUp swOk => Sys2Proof.Machine.execAssizeSupplyUp swOk s
  | .assizeSupplyFail mv => Sys2Proof.Machine.execAssizeSupplyFail mv s
  | .energyPersist => Sys2Proof.Machine.execEnergyPersist s
  | .testPulse => Sys2Proof.Machine.execTestPulse s
  | .demandPeriodEnd => Sys2Proof.Machine.execDemandPeriodEnd s
  | .demandReset slot => Sys2Proof.Machine.execDemandReset slot s
  | .readingMade => Sys2Proof.Machine.execReadingMade s
  | .readingRequest req value => Sys2Proof.Machine.execReadingRequest req value s
  | .statusFramePoll volt ma => Sys2Proof.Machine.execStatusFramePoll volt ma s
  | .readingFetch rsaOk slhOk => Sys2Proof.Machine.execReadingFetch rsaOk slhOk s
  | .assizeLinkLost => Sys2Proof.Machine.execAssizeLinkLost s
  | .accountEnergyDivision estimates => Sys2Proof.Machine.execAccountEnergyDivision estimates s
  | .coverOpening => Sys2Proof.Machine.execCoverOpening s
  | .overcurrentEvent ma => Sys2Proof.Machine.execOvercurrentEvent ma s
  | .reverseEnergyEvent => Sys2Proof.Machine.execReverseEnergyEvent s
  | .parameterChange which new => Sys2Proof.Machine.execParameterChange which new s
  | .softwareReplacement version digest => Sys2Proof.Machine.execSoftwareReplacement version digest s
  | .tamperLatchClear => Sys2Proof.Machine.execTamperLatchClear s
  | .halfRegisterRead req addr => Sys2Proof.Machine.execHalfRegisterRead req addr s
  | .dbkWindowRead req word => Sys2Proof.Machine.execDbkWindowRead req word s
  | .glbCmdTail req value => Sys2Proof.Machine.execGlbCmdTail req value s
  | .energySample uv ua => Sys2Proof.Machine.execEnergySample uv ua s
  | .currentClampStart => Sys2Proof.Machine.execCurrentClampStart s
  | .currentClampEnd ma => Sys2Proof.Machine.execCurrentClampEnd ma s
  | .overvoltageCleared mv => Sys2Proof.Machine.execOvervoltageCleared mv s
  | .debuggerResume core => Sys2Proof.Machine.execDebuggerResume core s

end Sys2Proof.Machine
end

