-- ==== Sys2Proof/Machine/Tick.lean ====
section
/-! DEFINITION. The tick: what a step does while no command waits. (DESIGN CHOICE, log entry 1.) -/

namespace Sys2Proof.Machine

/-- The started batch of a queue that waits on other modules has waited one count more, and the releases behind it move
(R69, R78). (DESIGN CHOICE, log entry 1.) -/
def State.waitTick (s : State) : State :=
  { s with wrt := { s.wrt with queues := s.wrt.queues.map (fun e =>
      (e.1, e.2.wait (fun b => s.remoteWait e.1 e.2.account b))) } }

/-- One count of the local time counter (R59): time moves on by one period of the reference while the counter counts, and
the batches that wait on other modules have waited one count more (R78). (DESIGN CHOICE, log entry 1.) -/
def tick (s : State) : State := if s.clk.counting && s.running then (s.advance 1).waitTick else s.advance 1

end Sys2Proof.Machine
end

