-- ==== Sys2Proof/WellFormed.lean ====
section
/-! DEFINITION. The operands the spec gives a command: sizes of the byte lists of images, packets and frames, and the values
that a cause or a number may take. -/

namespace Sys2Proof

/-- A public key is a 384-byte modulus or a 48-byte SLH-DSA key (R486). -/
def Sig.wf (i : Sig) : Bool := i.key.length == (match i.alg with | .rsa => 384 | .slhS | .slhF => 48)

/-- A signature block's header is 128 bytes (R489) and its signer's certificate body 512 (R488). -/
def SigBlock.wf (i : SigBlock) : Bool := i.hdr.length == 128 && i.cert.length == 512

/-- A charter's signature block is one. -/
def CharterImage.wf (c : CharterImage) : Bool := c.sig.wf

/-- What a start meets: 17 processor images, 8 Lomef images (R430), four capability words offered (R434), module channels
below 512, and image classes 0 to 10 (R490). -/
def StartEnv.wf (e : StartEnv) : Bool :=
  e.loader.wf && e.os.wf && e.images.length == 17 && e.images.all SigBlock.wf && e.lomefImages.length == 8 &&
    e.lomefImages.all SigBlock.wf && e.driverWords.length == 4 && e.notRaised.all (fun p => decide (p.1 < 512)) &&
    e.rpmbRefuse.all (fun c => decide (c < 11))

/-- Words that a core-store access may touch: the device-wide numbers of the 256 core stores of 2 MiB. -/
def wfWords (b : BadWords) : Bool := (b.unc ++ b.cor).all (fun w => decide (w < 2 ^ 26))

/-- An access is tried four times more at most, and an emergency retraining follows the fourth (R287). -/
def DevEvents.wf (d : DevEvents) : Bool :=
  d.again.all (fun r => decide (r.retries + r.replays ≤ 4) && (r.emerg.isNone || r.retries + r.replays == 4))

/-- A power-of-two number of PCIe lanes up to 16, or none. -/
def wfLanes (w : Nat) : Bool := [0, 1, 2, 4, 8, 16].contains w

/-- A frame on an Ethernet port is at most 9,216 bytes (R343, R374). -/
def wfFrame (l : List Byte) : Bool := decide (l.length ≤ 9216)

/-- A fabric packet: 32 bytes of header and at most 8,192 of payload (R344). -/
def wfPacket (l : List Byte) : Bool := decide (l.length ≤ 8224)

/-- Widths at which an access can arrive. -/
def wfWidth (w : Nat) : Bool := [1, 2, 4, 8, 16].contains w

/-- The operands are within what the spec gives the command. (DESIGN CHOICE, log entry 4.) -/
def Instr.wf : Instr → Bool
  | .registerWrite _ _ w _ => w == 4 || w == 8
  | .wrongSizeAccess _ _ w _ | .unassignedRangeAccess _ _ w _ => wfWidth w
  | .powerGood e | .warmReset e => e.wf
  | .imageLoad _ i | .fwUpdate _ i => i.wf
  | .charterUpdate c => c.wf
  | .scalarLoad _ _ _ _ _ b | .tld _ _ b | .vectorLoad _ _ _ _ b | .firstFaultLoad _ _ _ b => wfWords b
  | .pcieLinkRetrainEnd _ w _ => wfLanes w
  | .loaderTransfer _ d b => d.wf && wfWords b
  | .ledgerMerge _ d | .layerOutcomeMerge _ d | .escrow _ d | .update _ d | .watchRefresh _ d | .allGather _ d | .reduceScatter _ d
  | .allReduce _ d | .permute _ d | .ringPass _ d => d.wf
  | .gateExchangeResult _ ws _ d => ws.all (fun w => w.length == 32) && d.wf
  | .fabricPortDown _ c | .powerFailWarning _ c => c != 0
  | .managementLinkDown c => c == 1 || c == 2
  | .hostFrameReceive _ f => wfFrame f.bytes
  | .hostFrameSend _ f | .measurementFragment _ f => wfFrame f
  | .dataPacketReceive _ p _ => wfPacket p.bytes
  | .ackReceive _ p _ | .nackReceive _ p _ | .creditReceive _ p | .resendReceive _ p =>
    wfPacket p
  | .token _ h g l => h.length == 64 && g.rsa.wf && g.slh.wf && l.all (fun c => decide (c < 11))
  | .serviceTokenFragment _ g l => g.rsa.wf && g.slh.wf && l.all (fun c => decide (c < 11))
  | .accountEnergyDivision es => es.all (fun e => decide (e.1 < 64))
  | .parameterChange w _ => decide (w.toNat < 4)
  | _ => true

end Sys2Proof
end

