-- ==== Sys2Proof/Safety.lean ====
section
/-! DEFINITION. What counts as a safe run: every command waiting is well formed, the stores are in canonical form, the recorder's
queues are within their places, and no module-level error has stopped the units. -/

namespace Sys2Proof.Machine

/-- The recorder's places: 4,096 staged records and 256 held ones, which only a freeze holds (R466, R473, R474). -/
def Dbk.wf (d : Dbk) : Bool :=
  decide (d.staging.length ≤ 4096) && decide (d.holding.length ≤ 256) &&
    (d.frozenAt.isSome || (d.holding.isEmpty && d.lostNow == 0))

/-- The commands that wait are well formed. -/
def State.queueWf (s : State) : Bool := s.pending.all Instr.wf

/-- A state is safe: its queue, its stores and its recorder are as they may be, and no module-level error stands. -/
def State.safe (s : State) : Bool :=
  s.queueWf && Memory.wf s.mem && s.dbk.wf && s.boot.phase != .fatal

/-- A step ends in a next state. -/
def goesOn (o : Res) : Prop := ∃ t, o = .next t

/-- A run of `n` steps is safe: every state it passes is. -/
def safeRun : Nat → State → Prop
  | 0, s => s.safe = true
  | n + 1, s => s.safe = true ∧ ∃ t, step s = .next t ∧ safeRun n t

/-! ### What a sequencer instruction needs and keeps -/

/-- The sequencer of a core executes the instruction at its PC: the module serves, a batch runs on the core, nothing has
stopped it, and the fetch can be made (R181, R186, R191). -/
def SeqReady (s : State) (c : Nat) : Prop :=
  s.seqRuns c = true ∧ pcOk (s.pc c) = true ∧ s.csPois c (s.pc c).toNat 4 = false

/-- Register elements other than some keep their words. -/
def RegsBut (s t : State) (keys : List Nat) : Prop := ∀ k, k ∉ keys → t.reg k = s.reg k

/-- The register element of SEQ_STATE that belongs to a core. -/
def seqKey (c : Nat) : Nat := regKey F.SEQ_STATE_STATE.key (c / 64) (c % 64)

/-- Other cores keep their state, and of the registers only the core's SEQ_STATE may change. -/
def OtherCores (s t : State) (c : Nat) : Prop := (∀ d, d ≠ c → t.core d = s.core d) ∧ RegsBut s t [seqKey c]

/-- A scalar instruction retired: one scalar register written (s0 discards, R181), the PC moved on, SEQ_STATE running, and
nothing else changed. -/
def SeqWrites (s t : State) (c : Nat) (rd : BitVec 5) (v pc : W64) : Prop :=
  t = { s with regs := t.regs, cpu := { s.cpu with cores := t.cpu.cores, sregs := t.cpu.sregs } } ∧ OtherCores s t c ∧
    t.core c = { s.core c with pc := pc, retiredAt := s.clk.now } ∧ t.seqState c = 1 ∧
    ∀ d r, t.sreg d r = if d = c ∧ r = rd ∧ rd ≠ 0 then v else s.sreg d r

/-- A sequencer instruction waits for something other than a unit (R379): SEQ_STATE says waiting, the PC and all else stay
(R183). -/
def SeqWaits (s t : State) (c : Nat) : Prop :=
  t = { s with regs := t.regs, cpu := { s.cpu with cores := t.cpu.cores } } ∧ OtherCores s t c ∧
    (∃ w, w ≠ SeqWait.unit ∧ t.core c = { s.core c with wait := w }) ∧ t.seqState c = 2

/-- A core-level fault stopped the core: it drains with a status, its PC stays, memory and scalar registers stay (R191). -/
def SeqFaults (s t : State) (c status : Nat) : Prop :=
  t = { s with regs := t.regs, dbk := t.dbk, cpu := { s.cpu with cores := t.cpu.cores } } ∧
    (∀ d, d ≠ c → t.core d = s.core d) ∧ t.core c = { s.core c with fault := some status } ∧ t.seqState c = 3

/-- It is the turn of order `o` of source `src` (an engine 0 to 31, or 32 the loader) of a core: it stands between `pre` and
`post` in its queue, is the first unfinished one of its kind, does not run, and carries an issue number of its own. -/
def OnTurn (s : State) (c src : Nat) (kind : Order → Bool) (pre post : List Order) (o : Order) : Prop :=
  s.queueOf c src = pre ++ o :: post ∧ kind o = true ∧ o.running = false ∧ o.finished = false ∧
    (∀ p ∈ pre, kind p = true → p.finished = true) ∧ (∀ p ∈ pre ++ post, p.issue ≠ o.issue)

/-- The order that runs in a queue, with an issue number of its own. -/
def IsRunning (s : State) (c src : Nat) (kind : Order → Bool) (pre post : List Order) (o : Order) : Prop :=
  s.queueOf c src = pre ++ o :: post ∧ kind o = true ∧ o.running = true ∧
    (∀ p ∈ pre, kind p = true → p.running = false) ∧ (∀ p ∈ pre ++ post, p.issue ≠ o.issue)

/-- Queues of the core's other sources, and of other cores, keep their orders. -/
def OtherQueues (s t : State) (c src : Nat) : Prop :=
  ∀ d x, d < 256 → x ≤ 32 → (d, x) ≠ (c, src) → t.queueOf d x = s.queueOf d x

/-- An order completed with a result: its status is delivered to the batch, it left its queue or waits there, finished, for
its record to be written. -/
def Completed (s t : State) (c src : Nat) (pre post : List Order) (o : Order) (r : Result) : Prop :=
  (t.core c).stats = (s.core c).stats ++ [(src, r.status)] ∧
    t.queueOf c src = pre ++ (if r.status = 0 ∧ o.notify src = false then []
      else [{ o with running := false, finished := true, res := some r }]) ++ post

/-! ### What other commands keep -/

/-- Register elements of the recorder that writing a record may change: its loss counters, the suppressed and hold-lost
counters and LAST_END (R466 to R474). -/
def dbkKeys : List Nat :=
  (List.range 4).map (regKey F.DBK_LOSS_COUNT.key 0) ++ [regKey F.DBK_SUPPRESSED_COUNT.key 0 0,
    regKey F.DBK_HOLD_LOST_COUNT.key 0 0, regKey F.DBK_STATUS_LAST_END.key 0 0]

/-- Only registers changed, and of these only the elements named. -/
def OnlyRegs (s t : State) (keys : List Nat) : Prop := t = { s with regs := t.regs } ∧ RegsBut s t keys

/-- Only the registers named and the recorder changed, which received one occurrence of a code (R456, R465). -/
def OneRecord (s t : State) (keys : List Nat) (code p0 p1 p2 : Nat) : Prop :=
  t = { s with regs := t.regs, dbk := t.dbk } ∧ RegsBut s t (keys ++ dbkKeys) ∧ t.dbk = (s.note code p0 p1 p2).dbk

/-- Registers whose write does more than store a word (R14 and the tables' descriptions). -/
def actKeys : List Nat :=
  [F.WRT_DOORBELL_QUEUE.key, F.WRT_CPL_ACK_QUEUE.key, F.PWR_VDDF_TARGET.key, F.ENG_FENCE_REQ_ENGINE.key,
    F.MEM_FENCE_REQ_GROUP.key, F.STR_CTRL_ARMED.key, F.STR_TBL_DATA_LOGICAL.key, F.STR_RUN_CMD_CMD.key,
    F.CLR_CTRL_LOOKAHEAD.key, F.CLR_STAGE_BASE_ADDR.key, F.EXQ_FRAME_ETHERTYPE.key, F.EXQ_SWITCH_VA_VA.key,
    F.EXQ_STOP_STOP.key, F.GLB_RESET_KEY.key, F.GLB_HEARTBEAT_BEAT.key, F.GLB_CMD_BASE_ADDR.key,
    F.GLB_CMD_SLOTS_SLOTS.key, F.GLB_CMD_TAIL_INDEX.key, F.DBK_FREEZE_FREEZE.key, F.DBK_CLEAR_NONCE.key,
    F.DMP_CTRL_KEEP.key, F.TRS_NONCE_CTRL_NEW.key, F.ASZ_CMD_CMD.key, F.GPC_CLOCK_TARGET_MHZ.key,
    F.GPC_WDOG_TIMEOUT_MS.key, F.GPC_WDOG_KICK_KICK.key]

/-- A requester's write of a register of a page is carried out now (R542, R559, R570). -/
def CanWrite (s : State) (q : Requester) (page key : Nat) : Prop := s.ctlWrite q = true ∧ writes q page key = true

/-- The state with the requester's held half-register write discarded (R561). -/
def NoHeld (s t : State) (q : Requester) : Prop :=
  t.bus = { s.bus with held := t.bus.held } ∧ (∀ k, t.heldHalf q k = none) ∧
    ∀ p k, p ≠ q → t.heldHalf p k = s.heldHalf p k

/-- A register element holds what it held with some fields set, every other bit kept. -/
def Sets (s t : State) (key : Nat) (l : List (Field × Nat)) : Prop := t.reg key = putFields (s.reg key) l

/-- The Daybook after staged records enter it in order (R466 to R468). -/
def persisted (book staging : List DbkRec) : List DbkRec := staging.foldl (fun b r => (enter 65536 b r).getD b) book

/-- The fields of a junction temperature: dies 0 to 3, the hub (R62). -/
def tjField (unit : Nat) : Field :=
  match unit with
  | 0 => F.PWR_TJ_DIE0
  | 1 => F.PWR_TJ_DIE1
  | 2 => F.PWR_TJ_DIE2
  | 3 => F.PWR_TJ_DIE3
  | _ => F.PWR_TJ_HUB_HUB

/-- The main rails have gone: the package is as at reset, but for what R565 keeps in registers, SPI NOR and UFS, the Assize
unit, the standby rail and the commands that wait; the module is off and the counter stands. -/
def RailsGone (s t : State) : Prop :=
  t = { State.reset with pending := s.pending, regs := t.regs, boot := { State.reset.boot with phase := .off },
                         clk := { s.clk with counting := false }, pow := t.pow, nor := t.nor, asz := s.asz,
                         edge := s.edge, free := s.free } ∧
    t.pow.mainRails = false ∧ t.pow.clampSince = none ∧ t.pow.coolPending = false ∧
    (∀ k, k / 1024 ∉ [F.PWR_LIMIT_TRIP_CLOCK.key / 1024, F.DBK_LOSS_COUNT.key / 1024, F.MGT_PFAIL_COUNT.key / 1024,
      F.TRS_COUNTER_VALUE.key / 1024, F.MGT_COOLANT_INLET.key / 1024] → t.reg k = regReset k) ∧
    (∀ k, k / 1024 ∈ [F.TRS_COUNTER_VALUE.key / 1024, F.MGT_COOLANT_INLET.key / 1024] → t.reg k = s.reg k)

/-! ### What a start needs (R416 to R437, R490, R495) -/

/-- The effective floor of a class at a start: the module's counter and the charter's floor. -/
def startFloor (s : State) (c : Nat) : Nat :=
  max (s.rd F.TRS_COUNTER_VALUE 0 c) (field (charterBytes s.nor.charter.body 6) (4 + 4 * c) 4)

/-- Degrade-log entries that a start accepts: given back whole, with the MAC of this module's key (R427, R428). -/
def startLog (s : State) (env : StartEnv) : List DegradeEntry :=
  let key := degradeKey (natLe 48 (Config.pufSeed s.nor.helper).toNat)
  s.nor.degrade.filter (fun e => !env.badHmac.contains e.seq && e.mac == hmac384 key e.bytes)

/-- Units that the charter's base list and the accepted entries retire. -/
def startRetired (s : State) (env : StartEnv) : List (Nat × Nat × Nat) :=
  let b := charterBytes s.nor.charter.body 4
  ((List.range (b.length / 16)).map (fun i => degradeBody (slice b (16 * i) 16)) ++ startLog s env).map DegradeEntry.unitOf

/-- Steps 1 to 4: the charter is read, verifies and is complete, and the seed is read. -/
def CharterPasses (s : State) (env : StartEnv) : Prop :=
  let b := s.nor.charter.body
  charterReadable s.nor.charter = true ∧
    imgCheck 0 (field (charterBytes b 6) 0 1) (startFloor s 0) (charterSigned s.nor.charter) = 0 ∧
    startFloor s 0 ≤ field b 8 4 ∧ charterComplete b = true ∧ env.pufOk = true

/-- Step 5: enough groups and cores on each die and enough ports are whole (R44), and the degrade log is not older than its
counter. -/
def UnitsPass (s : State) (env : StartEnv) : Prop :=
  let dead := startRetired s env
  let pop := charterBytes s.nor.charter.body 1
  (∀ d, d < 4 → 4 ≤ ((List.range 8).filter (fun i => bit (field pop d 1) i && !dead.contains (3, d, i))).length) ∧
    (∀ d, d < 4 → 32 ≤ ((List.range 64).filter (fun k => !dead.contains (2, 0, 64 * d + k))).length) ∧
    8 ≤ ((List.range 16).filter (fun p => !dead.contains (4, 0, p))).length ∧ s.nor.degradeCtr ≤ degradeTop (startLog s env)

/-- Steps 6 to 9: the images verify, the operating system runs, and the driver's major version is the firmware's. -/
def ImagesPass (s : State) (env : StartEnv) : Prop :=
  let root := min 3 (field (charterBytes s.nor.charter.body 6) 0 1)
  imgCheck 1 root (startFloor s 1) env.loader = 0 ∧ imgCheck 2 root (startFloor s 2) env.os = 0 ∧ env.osRuns = true ∧
    (∀ p, p < 9 → imgCheck (procClass p) root (startFloor s (procClass p)) (env.images.getD p emptySig) = 0) ∧
    env.driverVersion.toNat / 2 ^ 24 = sigVersion (env.images.getD 0 emptySig) / 2 ^ 24

/-- The start passes up to its operating system, which is refused or does not run (R429, R490). -/
def SystemFails (s : State) (env : StartEnv) : Prop :=
  let root := min 3 (field (charterBytes s.nor.charter.body 6) 0 1)
  CharterPasses s env ∧ UnitsPass s env ∧ imgCheck 1 root (startFloor s 1) env.loader = 0 ∧
    (imgCheck 2 root (startFloor s 2) env.os ≠ 0 ∨ env.osRuns = false)

/-- Every step of the start passes. -/
def StartPasses (s : State) (env : StartEnv) : Prop := CharterPasses s env ∧ UnitsPass s env ∧ ImagesPass s env

/-- A start of a kind has run to ready in a time: state 1, step 13, account 0 active, the seed and the identity keys there,
and the processors 0 to 8 running. -/
def RunsReady (s t : State) (kind ms : Nat) : Prop :=
  t.boot.phase = .ready ∧ t.boot.resetReq = none ∧ t.rd F.GLB_STATE_STATE = 1 ∧ t.rd F.GLB_STATE_STEP = 13 ∧
    t.rd F.GLB_STATE_START_KIND = kind ∧ t.rd F.GLB_READY_MS_MS = ms ∧ t.rd F.GLB_ACCT_STATE = 1 ∧
    t.rd F.TRS_STATUS_SEED_OK = 1 ∧ t.rd F.TRS_STATUS_ID_READY = 1 ∧ (∀ p, p < 9 → t.rd F.GLB_FW_STATE 0 p = 2) ∧
    t.boot.charter = s.nor.charter.body ∧ t.pending = s.pending

/-! ### Driver commands (R452) -/

/-- A driver command is outstanding in a slot of the ring: its OP, the account it names, the bytes of its entry. -/
def CmdReady (s : State) (slot : BitVec 10) (op acct : Nat) (bytes : List Byte) : Prop :=
  (s.running = true ∨ s.boot.phase = .fatal) ∧ s.cmdAcct slot.toNat op = some acct ∧ s.cmdBytes slot.toNat = bytes

/-- A driver command ended: from `u`, its entry takes status, reason and result, and it is outstanding no more. -/
def CmdEnds (u t : State) (slot : BitVec 10) (status reason result : Nat) : Prop :=
  t = u.cmdEnd slot.toNat status reason result

/-! ### Lomef orders and gates -/

/-- The front order of a share has completed: from `u` it left the queue, the share idles, its status (LATE for DONE past the
batch's deadline) joined its batch, an ESCROW reported its step (R83, R325, R326, R328, R337). -/
def LomefEnds (u t : State) (chip : Nat) (o : LOrder) (rest : List LOrder) (status : Nat) : Prop :=
  let key := regKey F.LMF_STATUS_BUSY.key chip 0
  let st := u.lateStatus o.queue status
  let place := (((u.queue o.queue).map (fun q => maskBits 8 q.lomef.toNat)).getD []).idxOf chip
  t = { u with regs := t.regs, train := t.train, wrt := t.wrt } ∧ RegsBut u t [key] ∧
    Sets u t key [(F.LMF_STATUS_BUSY, 0), (F.LMF_STATUS_KIND, 0)] ∧
    (∀ k, mget [] t.train.lomef k = if k = chip then rest else mget [] u.train.lomef k) ∧
    t.train.posts = u.train.posts ∧ t.train.gates = u.train.gates ∧
    t.wrt = (u.updRun o.queue (fun b => { b with lmf := setSub b.lmf place st })).wrt ∧
    ∀ acct step, let h := u.stepHealth acct step
      t.stepHealth acct step = if o.kind = 1 ∧ acct = o.account ∧ step = o.step
        then { h with reported := ins chip h.reported, escrowFailed := h.escrowFailed || (st != 0 && st != 2) } else h

/-- A gate has ended: from `u` its command is DONE with a result, the gate is gone, and so is what was known of its step's
health and what its exchange still held on the fabric; of one that timed out RESULT_VA stays known (R331, R332, R372). -/
def GateEnds (u t : State) (g : Gate) (result : Nat) : Prop :=
  ∃ v : State, t = v.cmdEnd g.slot 0 0 result ∧
    v = { u with train := { u.train with gates := v.train.gates, health := v.train.health, owed := v.train.owed },
                 fab := { u.fab with rx := v.fab.rx, tx := v.fab.tx } } ∧
    (result = 3 → (g.account, g.step, g.resultVa) ∈ v.train.owed) ∧
    (∀ h, h ∈ v.train.gates ↔ h ∈ u.train.gates ∧ ¬ (h.account = g.account ∧ h.slot = g.slot)) ∧
    (∀ h, h ∈ v.train.health ↔ h ∈ u.train.health ∧ ¬ (h.account = g.account ∧ h.step = g.step))

/-! ### Tally packets and clearing orders -/

/-- A packet of a type passes the checks of R344: it names a bound account and a peer of its table, of the generation the
table gives. -/
def TallyOk (s : State) (typ : Nat) (b : List Byte) (acct : Nat) (a : Acct) (p : Peer) : Prop :=
  32 ≤ b.length ∧ b.length ≤ 8224 ∧ field b 0 1 = 16 + typ ∧ b.length = 32 + field b 10 2 ∧
    (crc32c (slice b 0 28 ++ b.drop 32)).toNat = field b 28 4 ∧
    s.accts.find? (fun x => x.2.ranks != 0 && x.2.job == field b 2 2 && x.2.rank == field b 6 2) = some (acct, a) ∧
    s.peer acct (field b 4 2) = some p ∧ p.gen % 65536 = field b 8 2

/-- Of a peer's paths only the one of a plane changed. -/
def OnePath (s t : State) (acct peer plane : Nat) : Prop :=
  ∀ a p n, (a, p, n) ≠ (acct, peer, plane) → t.path a p n = s.path a p n

/-- The packet's peer was heard: the port set it announces is kept (R344, R345). -/
def Heard (s t : State) (acct : Nat) (p : Peer) (b : List Byte) : Prop :=
  t.peer acct p.peer = some { p with ports := BitVec.ofNat 16 (field b 26 2), lastHeard := s.clk.now } ∧
    ∀ a r, (a, r) ≠ (acct, p.peer) → t.peer a r = s.peer a r

/-- A clearing order of a batch has completed: from `u`, its status (LATE for DONE past the batch's deadline) joined the batch,
its tag is done, its record lies last, and the four dies counted it (R83, R355, R364, R375). -/
def ClrFinishes (u t : State) (n acct index tag status : Nat) (r : Result) : Prop :=
  let st := u.lateStatus n status
  t = { u with regs := t.regs, wrt := t.wrt, fab := t.fab } ∧
    t.wrt = (u.updRun n (fun b => { b with
      clr := setSub b.clr index st, sat := b.sat + r.sat, nanInf := b.nanInf || bit r.word.toNat 0 })).wrt ∧
    t.fab = { u.fab with doneTags := t.fab.doneTags,
                         records := u.fab.records ++ [(acct, clrRecord (u.clrDie n) (tag % 65536) st r)] } ∧
    (∀ x, x ∈ t.fab.doneTags ↔ x = (acct, BitVec.ofNat 32 tag) ∨ x ∈ u.fab.doneTags) ∧
    ∀ d, d < 4 → t.rd F.CLR_ORDERS_COUNT d = min (u.rd F.CLR_ORDERS_COUNT d + 1) F.CLR_ORDERS_COUNT.max

/-! ### Exchequer units -/

/-- The cycle in progress of a unit's loop has ended with a status and its frame: the loop's next release is due, or the
loop that was to stop is gone (R398, R405, R411). -/
def CycleEnds (s t : State) (u : Nat) (lp : Loop) (status : Nat) (next : ExqPhase) : Prop :=
  t = { s with regs := t.regs, dbk := t.dbk, exq := t.exq, fab := t.fab, mem := t.mem, free := t.free } ∧
    (∀ m, m ≠ u → t.unit m = s.unit m) ∧ (lp.outVa = 0 → t.mem = s.mem) ∧
    (status ≠ 0 → t.xrd F.EXQ_LAST_STATUS u = status) ∧ (status = 0 → t.xrd F.EXQ_LAST_STATUS u ≤ 1) ∧
    (lp.stopping = true → (t.unit u).loop = none ∧ t.xrd F.EXQ_STATE_STATE u = 0 ∧ t.xrd F.EXQ_STATE_PORT_HELD u = 0) ∧
    (lp.stopping = false → (t.unit u).phase = next ∧ (t.unit u).cyc = none ∧ (t.unit u).table = (s.unit u).table ∧
      (t.unit u).loop = some { lp with release := lp.release + lp.period })

/-- The cycle that waits for its input takes, up to its cutoff, the newest complete burst that is newer than c_last, which
then is the burst's cycle number; a step over numbers is marked in its flags (R396, R400). -/
def TakesInput (s t : State) (u : Nat) (lp : Loop) : Prop :=
  let e := s.unit u
  let c := s.xrd F.EXQ_PLANT_C_LAST u
  let full := e.bursts.filter (fun b => b.doneAt.isSome)
  (e.phase ≠ .waitInput ∨ e.cutoffAt lp < s.clk.now ∨ (∀ b ∈ full, newer b.cycle c = false) → t = s) ∧
    (∀ tb b, e.phase = .waitInput → s.clk.now ≤ e.cutoffAt lp → e.nextTable = some tb → newestBurst c full = some b →
      t = { s with regs := t.regs, exq := t.exq, free := t.free } ∧ RegsBut s t [regKey F.EXQ_PLANT_C_LAST.key (u / 4) (u % 4)] ∧
        t.xrd F.EXQ_PLANT_C_LAST u = b.cycle % 2 ^ 32 ∧ (∀ m, m ≠ u → t.unit m = s.unit m) ∧
        t.unit u = { e with phase := .assembling, y := (s.burstVector tb b).1, sat := (s.burstVector tb b).2,
                            progressAt := s.clk.now, cyc := some tb, cycNew := e.pend.isSome,
                            flags := if b.cycle = (c + 1) % 2 ^ 32 then e.flags else flagOn e.flags 3,
                            bursts := e.bursts.filter (fun x => newer x.cycle b.cycle) })

/-- A fragment joins the burst of its cycle number, unless it is there already or the burst is complete; the burst is
complete with its last fragment unless an element of it is a NaN, which is told once (R399, R400). -/
def HoldsFragment (s t : State) (u : Nat) (b : List Byte) : Prop :=
  let e := s.unit u
  let old := (e.bursts.find? (fun x => x.cycle == field b 4 4)).getD ⟨field b 4 4, field b 9 1, [], false, none⟩
  let again := old.doneAt.isSome ∨ ∃ g ∈ old.got, g.idx = field b 8 1
  (again → t = s) ∧
    (¬ again → ∃ f x, f.idx = field b 8 1 ∧ f.efmt = field b 1 1 ∧ f.eoff = field b 10 2 ∧ f.words.length = field b 12 2 ∧
      (∀ i, i < field b 12 2 → f.words[i]? = some (field b (16 + 4 * i) 4)) ∧
      x.cycle = old.cycle ∧ x.frags = old.frags ∧ x.got = old.got ++ [f] ∧ x.nan = (old.nan || (fragNan f).isSome) ∧
      (x.doneAt = if old.frags ≤ x.got.length ∧ x.nan = false then some s.clk.now else none) ∧
      (∀ m, m ≠ u → t.unit m = s.unit m) ∧ t.unit u = { e with bursts := (t.unit u).bursts } ∧ x ∈ (t.unit u).bursts ∧
      (∀ y ∈ (t.unit u).bursts, y = x ∨ y ∈ e.bursts) ∧
      (e.bursts.length < 4 → ∀ y ∈ e.bursts, y.cycle ≠ x.cycle → y ∈ (t.unit u).bursts) ∧
      (fragNan f = none ∨ old.nan = true → t = { s with exq := t.exq }) ∧
      (∀ k, fragNan f = some k → old.nan = false →
        t = { s with regs := t.regs, dbk := t.dbk, exq := t.exq } ∧ RegsBut s t dbkKeys ∧
          t.dbk = (s.note 0x6008 u (field b 4 4) k).dbk))

/-- A stop of a unit's loop: at once between cycles and in a rebuild, else at the end of the cycle (R411, R414). -/
def LoopStops (s t : State) (u : Nat) : Prop :=
  let e := s.unit u
  (∀ m, m ≠ u → t.unit m = s.unit m) ∧ t.mem = s.mem ∧
    (e.phase = .idle ∨ e.phase = .rebuilding → (t.unit u).loop = none ∧ (t.unit u).orders = e.orders ∧
      t.xrd F.EXQ_STATE_STATE u = 0 ∧ t.xrd F.EXQ_STATE_PORT_HELD u = 0) ∧
    (e.phase ≠ .idle → e.phase ≠ .rebuilding → t.regs = s.regs ∧
      t.unit u = { e with loop := e.loop.map (fun lp => { lp with stopping := true }) })

/-- A new parameter table stands pending at a unit (R403). -/
def SwitchPends (s t : State) (u : Nat) (tb : ExqTable) : Prop :=
  t = { s with regs := t.regs, exq := t.exq } ∧ (∀ m, m ≠ u → t.unit m = s.unit m) ∧
    t.unit u = { s.unit u with pend := some tb } ∧ t.xrd F.EXQ_STATE_SWITCH_PENDING u = 1

/-- The front solve order of a unit has ended before it ran: its batch holds its status, the next one is at the front. -/
def OrderEnds (s t : State) (u n i status : Nat) : Prop :=
  t = { s with dbk := t.dbk, regs := t.regs, exq := t.exq, wrt := t.wrt } ∧ (∀ m, m ≠ u → t.unit m = s.unit m) ∧
    t.unit u = { s.unit u with orders := (s.unit u).orders.tail } ∧ t.wrt = (s.exqDone n i status).wrt

end Sys2Proof.Machine
end

