-- ==== Sys2Proof/Certificates/Slice0/Obligations.lean ====
section
/-! DEFINITION. The statements about the model: completion, results, frames, stops, invariants and encodings, family by
family. Helper predicates (what a command needs, what it keeps) are in Sys2Proof/Safety.lean. -/

open Sys2Proof Sys2Proof.Machine

/-- For every command c and every state s with c at the front of its queue, a step is exec of c on s with the queue's
rest, so the commands take effect one at a time in the order they came; putting c in front of any queue gives such a
state. (05_engines_and_sequencers.md R181, 17_control_space_map.md R560) -/
def Obligations.StepRunsTheFrontCommand : Prop :=
  ∀ (s : State) (c : Instr) (rest : List Instr),
    (s.pending = c :: rest → step s = exec c { s with pending := rest }) ∧
      step { s with pending := c :: rest } = exec c { s with pending := rest }

/-- The model's choice (log entry 1): with an empty queue a step answers a next state in which the local time counter has
moved on by one modulo 2^64, the operating seconds by one when 25,000,000 counts are full, and nothing else changed;
only while the module serves do the batches of its queues change, in what they have waited on other modules and in the
deadlines behind them. While the counter does not count, the state stays as it was. (02_timing_and_warrants.md R59,
13_daybook_and_dump.md R461, 02_timing_and_warrants.md R58) -/
def Obligations.EmptyQueueTicksTheClock : Prop :=
  ∀ s : State, s.pending = [] →
    ∃ t, step s = .next t ∧ t = { s with clk := t.clk, wrt := t.wrt } ∧
      (s.clk.counting = false → t = s) ∧
      (s.clk.counting = true →
        t.clk.now = (s.clk.now + 1) % 2 ^ 64 ∧
        t.clk.opsec = s.clk.opsec + (s.clk.frac + 1) / 25000000 ∧
        t.clk.frac = (s.clk.frac + 1) % 25000000 ∧ t.clk.counting = true) ∧
      (s.running = false → t.wrt = s.wrt) ∧
      t.wrt = { s.wrt with queues := s.wrt.queues.zipWith (fun p q => (p.1, { p.2 with
        batches := q.2.batches, lastDeadline := q.2.lastDeadline })) t.wrt.queues }

/-- For every ready sequencer each immediate instruction answers a next state that writes rd with the value the opcode
table gives (sign-extended imm for ADDI and SLTI, zero-extended for the logic and LIS), moves the PC on by 4 and
changes nothing else; a write of s0 is discarded; SHI with selector 3 is an illegal instruction. A branch whose test
holds goes to PC + 4 x off16, one whose test fails to PC + 4, and no register is written; JAL writes s31 with PC + 4
and goes to PC + 4 x off26; JALR writes rd with PC + 4 and goes to ra + imm with its low two bits cleared.
(05_engines_and_sequencers.md R181, 05_engines_and_sequencers.md R182, 05_engines_and_sequencers.md R183) -/
def Obligations.ScalarImmediatesAndJumps : Prop :=
  ∀ (s : State) (c : Fin 256) (rd ra rb : BitVec 5) (imm : BitVec 16) (off : BitVec 26) (k : BrKind), SeqReady s c →
    let a := s.sreg c ra
    let b := s.sreg c rb
    let holds := match k with
      | .beq => a.toNat = b.toNat
      | .bne => a.toNat ≠ b.toNat
      | .blt => a.toInt < b.toInt
      | .bge => b.toInt ≤ a.toInt
      | .bltu => a.toNat < b.toNat
      | .bgeu => b.toNat ≤ a.toNat
    (∃ t, exec (.addi c rd ra imm) s = .next t ∧
      SeqWrites s t c rd (s.sreg c ra + imm.signExtend 64) (s.pc c + 4)) ∧
    (∃ t, exec (.andi c rd ra imm) s = .next t ∧
      SeqWrites s t c rd (s.sreg c ra &&& imm.setWidth 64) (s.pc c + 4)) ∧
    (∃ t, exec (.ori c rd ra imm) s = .next t ∧
      SeqWrites s t c rd (s.sreg c ra ||| imm.setWidth 64) (s.pc c + 4)) ∧
    (∃ t, exec (.xori c rd ra imm) s = .next t ∧
      SeqWrites s t c rd (s.sreg c ra ^^^ imm.setWidth 64) (s.pc c + 4)) ∧
    (∃ t, exec (.slti c rd ra imm) s = .next t ∧
      SeqWrites s t c rd (if (s.sreg c ra).toInt < imm.toInt then 1 else 0) (s.pc c + 4)) ∧
    (∃ t, exec (.lis c rd ra imm) s = .next t ∧
      SeqWrites s t c rd ((s.sreg c rd <<< 16) ||| imm.setWidth 64) (s.pc c + 4)) ∧
    (∃ t, exec (.shi c rd ra imm) s = .next t ∧
      let n := imm.toNat % 64
      (imm.toNat / 64 % 4 = 0 → SeqWrites s t c rd (s.sreg c ra <<< n) (s.pc c + 4)) ∧
      (imm.toNat / 64 % 4 = 1 → SeqWrites s t c rd (s.sreg c ra >>> n) (s.pc c + 4)) ∧
      (imm.toNat / 64 % 4 = 2 → SeqWrites s t c rd ((s.sreg c ra).sshiftRight n) (s.pc c + 4)) ∧
      (imm.toNat / 64 % 4 = 3 → SeqFaults s t c 4)) ∧
    (∃ t, exec (.branch c k ra rb imm) s = .next t ∧
      (holds → SeqWrites s t c 0 0 (s.pc c + 4 * imm.signExtend 64)) ∧ (¬ holds → SeqWrites s t c 0 0 (s.pc c + 4))) ∧
    (∃ t, exec (.jal c off) s = .next t ∧ SeqWrites s t c 31 (s.pc c + 4) (s.pc c + 4 * off.signExtend 64)) ∧
    (∃ t, exec (.jalr c rd ra imm) s = .next t ∧
      SeqWrites s t c rd (s.pc c + 4) (BitVec.ofNat 64 ((a + imm.signExtend 64).toNat / 4 * 4)))

/-- For every ready sequencer ALU answers a next state; for each listed func code rd takes the operation's value, exact
integer results wrapping modulo 2^64, shifts by rb[5:0], division truncating toward zero with all ones and the
dividend on a zero divisor and -2^63 / -1 giving -2^63 with remainder 0; the PC moves on by 4 and nothing else
changes; any other func is an illegal instruction, a fault of the core. (05_engines_and_sequencers.md R184) -/
def Obligations.SequencerAluTable : Prop :=
  ∀ (s : State) (c : Fin 256) (rd ra rb : BitVec 5), SeqReady s c →
    let a := s.sreg c ra
    let b := s.sreg c rb
    let n := b.toNat % 64
    let gives := fun (func : BitVec 11) (v : W64) =>
      ∃ t, exec (.alu c rd ra rb func) s = .next t ∧ SeqWrites s t c rd v (s.pc c + 4)
    gives 0x000 (BitVec.ofInt 64 (a.toInt + b.toInt)) ∧ gives 0x001 (BitVec.ofInt 64 (a.toInt - b.toInt)) ∧
    gives 0x002 (a &&& b) ∧ gives 0x003 (a ||| b) ∧ gives 0x004 (a ^^^ b) ∧
    gives 0x005 (a <<< n) ∧ gives 0x006 (a >>> n) ∧ gives 0x007 (a.sshiftRight n) ∧
    gives 0x008 (if a.toInt < b.toInt then 1 else 0) ∧ gives 0x009 (if a.toNat < b.toNat then 1 else 0) ∧
    gives 0x00A (BitVec.ofInt 64 (min a.toInt b.toInt)) ∧ gives 0x00B (BitVec.ofInt 64 (max a.toInt b.toInt)) ∧
    gives 0x00C (BitVec.ofNat 64 (min a.toNat b.toNat)) ∧ gives 0x00D (BitVec.ofNat 64 (max a.toNat b.toNat)) ∧
    gives 0x010 (BitVec.ofInt 64 (a.toInt * b.toInt)) ∧ gives 0x011 (BitVec.ofInt 64 (a.toInt * b.toInt / 2 ^ 64)) ∧
    gives 0x012 (BitVec.ofNat 64 (a.toNat * b.toNat / 2 ^ 64)) ∧
    (b ≠ 0 → gives 0x014 (BitVec.ofInt 64 (a.toInt.tdiv b.toInt)) ∧ gives 0x015 (BitVec.ofNat 64 (a.toNat / b.toNat)) ∧
      gives 0x016 (BitVec.ofInt 64 (a.toInt.tmod b.toInt)) ∧ gives 0x017 (BitVec.ofNat 64 (a.toNat % b.toNat))) ∧
    (b = 0 → gives 0x014 (BitVec.allOnes 64) ∧ gives 0x015 (BitVec.allOnes 64) ∧ gives 0x016 a ∧ gives 0x017 a) ∧
    (a.toInt = -(2 ^ 63) → b.toInt = -1 → gives 0x014 a ∧ gives 0x016 0) ∧
    (a = 0 → gives 0x020 64) ∧
    (∀ k, k < 64 → a.toNat / 2 ^ k = 1 → gives 0x020 (BitVec.ofNat 64 (63 - k))) ∧
    gives 0x021 (BitVec.ofNat 64 ((List.range 64).filter (fun i => a.getLsbD i)).length) ∧
    (∀ func : BitVec 11, ¬ (func.toNat ≤ 0x00D ∨ (0x010 ≤ func.toNat ∧ func.toNat ≤ 0x012) ∨
        (0x014 ≤ func.toNat ∧ func.toNat ≤ 0x017) ∨ func = 0x020 ∨ func = 0x021) →
      ∃ t, exec (.alu c rd ra rb func) s = .next t ∧ SeqFaults s t c 4)

/-- For every ready sequencer FOP with func[10:3] 0x00 to 0x06 (add, subtract, multiply, divide, square root, minimum,
maximum), 0x08 to 0x0A (compare) or 0x10 to 0x13 (convert), and FMA with variants 0 to 2, answer a next state whose rd
is the exact result rounded in the strict direction of the rounding code (compares give 0 or 1; the conversion to
int64 takes NaN to 0), the PC moves on by 4 and nothing else changes; every other func and variant is an illegal
instruction, a fault of the core with status ABORTED. (05_engines_and_sequencers.md R183, 05_engines_and_sequencers.md
R185) -/
def Obligations.SequencerFloatCompletes : Prop :=
  ∀ (s : State) (c : Fin 256) (rd ra rb rc : BitVec 5) (rnd : BitVec 3), SeqReady s c →
    let x := f64.decode (s.sreg c ra).toNat
    let y := f64.decode (s.sreg c rb).toNat
    let z := f64.decode (s.sreg c rc).toNat
    let rm := rmStrict rnd.toNat
    let round := fun v => BitVec.ofNat 64 (f64.ieee rm v)
    let fop := fun (op : Nat) (v : W64) =>
      ∃ t, exec (.fop c rd ra rb (BitVec.ofNat 11 (op * 8 + rnd.toNat))) s = .next t ∧ SeqWrites s t c rd v (s.pc c + 4)
    let fma := fun (k : BitVec 3) (v : W64) =>
      ∃ t, exec (.fma c rd ra rb rc rnd k) s = .next t ∧ SeqWrites s t c rd v (s.pc c + 4)
    fop 0x00 (round (FV.add (rm == .rdn) x y)) ∧ fop 0x01 (round (FV.sub (rm == .rdn) x y)) ∧
    fop 0x02 (round (x.mul y)) ∧ fop 0x03 (round (x.div y)) ∧ fop 0x04 (round x.sqrt) ∧
    fop 0x05 (round (x.min y)) ∧ fop 0x06 (round (x.max y)) ∧
    fop 0x08 (if x.eqv y then 1 else 0) ∧ fop 0x09 (if x.lt y then 1 else 0) ∧
    fop 0x0A (if x.lt y ∨ x.eqv y then 1 else 0) ∧ fop 0x10 (round (fvOfInt (s.sreg c ra).toInt)) ∧
    fop 0x11 (BitVec.ofInt 64 (intConv 64 rm x).1) ∧ (x.isNan = true → fop 0x11 0) ∧ fop 0x12 (BitVec.ofNat 64 (f32.ieee rm x)) ∧
    fop 0x13 (round (f32.decode ((s.sreg c ra).toNat % 2 ^ 32))) ∧
    fma 0 (round (FV.fma (rm == .rdn) x y z)) ∧ fma 1 (round (FV.fma (rm == .rdn) x y z.neg)) ∧
    fma 2 (round (FV.fma (rm == .rdn) x.neg y z)) ∧
    (∀ k : BitVec 3, 3 ≤ k.toNat → ∃ t, exec (.fma c rd ra rb rc rnd k) s = .next t ∧ SeqFaults s t c 4) ∧
    (∀ op : BitVec 8, op.toNat ∉ [0x00, 0x01, 0x02, 0x03, 0x04, 0x05, 0x06, 0x08, 0x09, 0x0A, 0x10, 0x11, 0x12, 0x13] →
      ∃ t, exec (.fop c rd ra rb (op ++ rnd)) s = .next t ∧ SeqFaults s t c 4)

/-- For every ready sequencer and address ra + imm that is aligned and within the 2 MiB store: a load from words that are
neither poisoned nor uncorrectable writes rd with the little-endian bytes, zero- or sign-extended as its row says; a
store to words without poison writes exactly its bytes, every other byte of the core stores and every other store
stays. An address outside or unaligned is a fault of the core with status ABORTED and changes no memory; a load of a
poisoned word stops the core with MEM_UNCORRECTED, and one of a word that comes back uncorrectable, the first since
start, stops it ABORTED; neither changes memory or a scalar register. (05_engines_and_sequencers.md R186,
05_engines_and_sequencers.md R183, 05_engines_and_sequencers.md R180, 05_engines_and_sequencers.md R191) -/
def Obligations.ScalarLoadsAndStores : Prop :=
  ∀ (s : State) (c : Fin 256) (rd ra : BitVec 5) (imm : BitVec 16) (lk : LdKind) (sk : StKind), SeqReady s c →
    let a := s.sreg c ra + imm.signExtend 64
    let ln := match lk with | .ld => 8 | .lwu => 4 | .lw => 4 | .lbu => 1
    let sn := match sk with | .sd => 8 | .sw => 4 | .sb => 1
    let byte := fun (s : State) k => mget 0#8 s.mem.cs k
    let raw := ((List.range ln).map (fun i => (byte s (csKey c (a.toNat + i))).toNat * 256 ^ i)).sum
    (∃ t, exec (.scalarLoad c lk rd ra imm {}) s = .next t ∧
      (a.toNat + ln ≤ 2 ^ 21 → a.toNat % ln = 0 → s.csPois c a.toNat ln = false →
        SeqWrites s t c rd (if lk = .lw then (BitVec.ofNat 32 raw).signExtend 64 else BitVec.ofNat 64 raw) (s.pc c + 4)) ∧
      (a.toNat + ln ≤ 2 ^ 21 → a.toNat % ln = 0 → s.csPois c a.toNat ln = true →
        SeqFaults s t c 0x20) ∧
      (2 ^ 21 < a.toNat + ln ∨ a.toNat % ln ≠ 0 → SeqFaults s t c 4)) ∧
    (a.toNat + ln ≤ 2 ^ 21 → a.toNat % ln = 0 → (s.core c).uncs = 0 →
      ∃ t, exec (.scalarLoad c lk rd ra imm { unc := [a.toNat / 8] }) s = .next t ∧ t.mem = s.mem ∧
        (t.core c).fault = some 4 ∧ t.seqState c = 3 ∧ ∀ d r, t.sreg d r = s.sreg d r) ∧
    (∃ t, exec (.scalarStore c sk rd ra imm) s = .next t ∧
      (a.toNat + sn ≤ 2 ^ 21 → a.toNat % sn = 0 → s.csPois c a.toNat sn = false →
        SeqWrites { s with mem := t.mem } t c 0 0 (s.pc c + 4) ∧
        t.mem = { s.mem with cs := t.mem.cs, csPoison := t.mem.csPoison } ∧
        (∀ i, i < sn → byte t (csKey c (a.toNat + i)) = BitVec.ofNat 8 ((s.sreg c rd).toNat / 256 ^ i)) ∧
        (∀ k, k < csKey c a.toNat ∨ csKey c a.toNat + sn ≤ k → byte t k = byte s k)) ∧
      (2 ^ 21 < a.toNat + sn ∨ a.toNat % sn ≠ 0 → SeqFaults s t c 4))

/-- For every ready sequencer: CSRR of a number that a table lists writes rd with what that CSR holds (core, account,
queue, engine mask, time, VPWR's HOLD and whether the unit is awake; the write-only ones read zero); a CSRW of an RO
CSR only moves on, one of an RW CSR leaves it what is written masked to its field's width, COMPL_BASE with its low 13
bits zero, every other CSR staying; LPOST queues the slot's tensor identifier and capture for its keeper and zeroes
the capture; WPOST queues the layer's outcome, 3 as 2; and the PC moves on by 4. CSRR and CSRW of a number no table
lists are illegal instructions, faults of the core. (05_engines_and_sequencers.md R187, 07_narrow_training_numerics.md
R239, 07_narrow_training_numerics.md R241, 07_narrow_training_numerics.md R253) -/
def Obligations.SequencerCsrs : Prop :=
  ∀ (s : State) (c : Fin 256) (rd ra : BitVec 5), SeqReady s c →
    let v := s.sreg c ra
    let tid := (s.csr c (0x101 + 16 * (v.toNat % 4))).toNat % 2 ^ 24
    let layer := v.toNat % 4096
    let listed := fun n : Nat => n ≤ 0x004 ∨ (0x010 ≤ n ∧ n ≤ 0x013) ∨ (0x020 ≤ n ∧ n ≤ 0x028) ∨ n = 0x030 ∨ n = 0x031 ∨
      (0x100 ≤ n ∧ n < 0x140 ∧ n % 16 < 8)
    let holds := fun n : Nat => if n = 0 then BitVec.ofNat 64 c else if n = 1 then BitVec.ofNat 64 (s.coreAcct c)
      else if n = 2 then BitVec.ofNat 64 (s.coreQueue c) else if n = 3 then BitVec.ofNat 64 (s.engMask c)
      else if n = 4 then BitVec.ofNat 64 s.clk.now else if n = 0x030 ∨ n = 0x031 then 0
      else s.csr c n + if n = 0x023 ∧ s.vAsleep c = false then 2 else 0
    let width := fun n : Nat => if n = 0x012 then 8 else if n = 0x022 then 22 else if n = 0x023 then 1
      else if n < 0x100 then 32 else if n % 16 = 0 then 64 else if n % 16 = 1 then 24
      else if n % 16 = 2 ∨ n % 16 = 3 then 40 else if n % 16 = 7 then 34 else 32
    let rw := fun n : Nat => n = 0x012 ∨ n = 0x013 ∨ (0x022 ≤ n ∧ n ≤ 0x027) ∨ (0x100 ≤ n ∧ n < 0x140 ∧ n % 16 < 8)
    (∀ n : BitVec 12, listed n.toNat → ∃ t, exec (.csrr c rd n) s = .next t ∧ SeqWrites s t c rd (holds n.toNat) (s.pc c + 4)) ∧
    (∀ n : BitVec 12, rw n.toNat → ∃ t, exec (.csrw c ra n) s = .next t ∧ t.pc c = s.pc c + 4 ∧ t.mem = s.mem ∧
      (∀ d k, t.csr d k = if d * 4096 + k = c * 4096 + n.toNat then BitVec.ofNat 64 (v.toNat % 2 ^ width n.toNat)
        else s.csr d k) ∧ ∀ d r, t.sreg d r = s.sreg d r) ∧
    (∃ t, exec (.csrr c rd 0x000) s = .next t ∧ SeqWrites s t c rd (BitVec.ofNat 64 c) (s.pc c + 4)) ∧
    (∃ t, exec (.csrr c rd 0x004) s = .next t ∧ SeqWrites s t c rd (BitVec.ofNat 64 s.clk.now) (s.pc c + 4)) ∧
    (∃ t, exec (.csrr c rd 0x013) s = .next t ∧ SeqWrites s t c rd (s.csr c 0x013) (s.pc c + 4)) ∧
    (∃ t, exec (.csrr c rd 0x023) s = .next t ∧
      SeqWrites s t c rd (s.csr c 0x023 + if s.vAsleep c then 0 else 2) (s.pc c + 4)) ∧
    (∀ n : BitVec 12, ¬ listed n.toNat → (∃ t, exec (.csrr c rd n) s = .next t ∧ SeqFaults s t c 4) ∧
      ∃ t, exec (.csrw c ra n) s = .next t ∧ SeqFaults s t c 4) ∧
    (∀ n ∈ ([0x000, 0x001, 0x002, 0x003, 0x004, 0x011, 0x020, 0x021, 0x028] : List (BitVec 12)),
      ∃ t, exec (.csrw c ra n) s = .next t ∧ SeqWrites s t c 0 0 (s.pc c + 4)) ∧
    (∃ t, exec (.csrw c ra 0x010) s = .next t ∧ t.pc c = s.pc c + 4 ∧ t.seqState c = 1 ∧ t.mem = s.mem ∧
      (∀ d n, t.csr d n = if d * 4096 + n = c * 4096 + 0x010 then BitVec.ofNat 64 (v.toNat % 2 ^ 21 / 2 ^ 13 * 2 ^ 13)
        else s.csr d n) ∧ ∀ d r, t.sreg d r = s.sreg d r) ∧
    (∃ t, exec (.csrw c ra 0x012) s = .next t ∧ t.pc c = s.pc c + 4 ∧
      ∀ d n, t.csr d n = if d * 4096 + n = c * 4096 + 0x012 then BitVec.ofNat 64 (v.toNat % 256) else s.csr d n) ∧
    (∃ t, exec (.lpost c ra) s = .next t ∧ t.pc c = s.pc c + 4 ∧ t.mem = s.mem ∧
      t.train.posts = s.train.posts ++
        [⟨tid % 4, s.coreAcct c, false, tid, s.csr c (0x107 + 16 * (v.toNat % 4)), some c⟩] ∧
      ∀ d n, t.csr d n = if d * 4096 + n = c * 4096 + (0x107 + 16 * (v.toNat % 4)) then 0 else s.csr d n) ∧
    (∃ t, exec (.wpost c ra) s = .next t ∧ t.pc c = s.pc c + 4 ∧ t.mem = s.mem ∧ t.cpu.csrs = s.cpu.csrs ∧
      t.train.posts = s.train.posts ++
        [⟨layer % 4, s.coreAcct c, true, layer, BitVec.ofNat 64 (min (v.toNat / 4096 % 4) 2), some c⟩])

/-- For every ready sequencer: TORD for an engine that is present and not fenced, whose queue holds fewer than 8, appends
the order at its end with the core's next issue number and moves the PC on; with 8 queued the sequencer waits. TLD of
an aligned descriptor in the store without poison appends a transfer the same way, waits with 8 queued, and an
unaligned descriptor or one outside the store is a fault of the core. WAITE and WAITL wait while a named order is
unfinished and otherwise write rd with the first of the named statuses in the order of R82.
(05_engines_and_sequencers.md R158, 05_engines_and_sequencers.md R162, 05_engines_and_sequencers.md R176,
05_engines_and_sequencers.md R183) -/
def Obligations.SequencerOrdersAndWaits : Prop :=
  ∀ (s : State) (c : Fin 256) (rd ra rb : BitVec 5), SeqReady s c →
    let w0 := s.sreg c ra
    let w1 := s.sreg c rb
    let w := w0.toNat + w1.toNat * 2 ^ 64
    let e := if w % 16 = 2 then w / 2 ^ 105 % 32 else w / 2 ^ 115 % 32
    let q := (s.engine (c * 32 + e)).queue
    let named := fun src => src < 32 ∧ w0.getLsbD src = true
    let firstOf := fun (p : Nat → Bool) => firstStatus (((s.core c).stats.filter (fun x => p x.1)).map (·.2))
    (∃ t, exec (.tord c ra rb) s = .next t ∧
      (8 ≤ q.length → SeqWaits s t c) ∧
      (q.length < 8 → s.engPresent c e = true → s.engFenced c e = false →
        t.mem = s.mem ∧ t.pc c = s.pc c + 4 ∧ (t.core c).issue = (s.core c).issue + 1 ∧
        (∃ o, (t.engine (c * 32 + e)).queue = q ++ [o] ∧ o.w0 = w0 ∧ o.w1 = w1 ∧ o.issue = (s.core c).issue ∧
          o.running = false ∧ o.finished = false) ∧
        ∀ i, i ≠ c * 32 + e → t.engine i = s.engine i)) ∧
    (∃ t, exec (.tld c ra {}) s = .next t ∧
      (w0.toNat % 32 ≠ 0 ∨ 2 ^ 21 < w0.toNat + 32 → SeqFaults s t c 4) ∧
      (w0.toNat % 32 = 0 → w0.toNat + 32 ≤ 2 ^ 21 → 8 ≤ (s.loader c).length → SeqWaits s t c) ∧
      (w0.toNat % 32 = 0 → w0.toNat + 32 ≤ 2 ^ 21 → (s.loader c).length < 8 → s.csPois c w0.toNat 32 = false →
        t.mem = s.mem ∧ t.pc c = s.pc c + 4 ∧ (t.core c).issue = (s.core c).issue + 1 ∧
        ∃ o, t.loader c = s.loader c ++ [o] ∧ o.issue = (s.core c).issue ∧
          (∀ i, i < 8 → (BitVec.ofNat 8 (o.w0.toNat / 256 ^ i)) = mget 0#8 s.mem.cs (csKey c (w0.toNat + i))))) ∧
    (∃ t, exec (.waite c rd ra) s = .next t ∧
      ((∃ x ∈ s.orders c, named x.1 ∧ x.2.finished = false) → SeqWaits s t c) ∧
      ((∀ x ∈ s.orders c, named x.1 → x.2.finished = true) →
        SeqWrites s t c rd (BitVec.ofNat 64 (firstOf (fun i => decide (i < 32) && w0.getLsbD i))) (s.pc c + 4))) ∧
    (∃ t, exec (.waitl c rd) s = .next t ∧
      ((∃ x ∈ s.orders c, x.1 = 32 ∧ x.2.finished = false) → SeqWaits s t c) ∧
      ((∀ x ∈ s.orders c, x.1 = 32 → x.2.finished = true) →
        SeqWrites s t c rd (BitVec.ofNat 64 (firstOf (fun i => i == 32))) (s.pc c + 4)))

/-- For every ready sequencer: DONE waits while an order of the core is unfinished or a post of its program is not merged,
and otherwise empties the queues of the core's engines and loader, removes the core from its running batch and idles
it, the fast tier and every scalar register staying, and the core stores too when no record is due and no word came
back uncorrectable; SYS 0 only moves the PC on, SYS 1 holds the core at the next instruction under a debugger and is a
program fault without one, any other SYS is an illegal instruction; a word that spells no instruction is a fault of
the core, which drains ABORTED with its PC where it was, and so does a fetched word that comes back uncorrectable for
the first time since start. A held core that the debugger resumes is held no more, with nothing else changed.
(05_engines_and_sequencers.md R183, 05_engines_and_sequencers.md R189, 05_engines_and_sequencers.md R191) -/
def Obligations.SequencerEndsAndBreaks : Prop :=
  ∀ (s : State) (c : Fin 256), SeqReady s c →
    (∃ t, exec (.done c) s = .next t ∧
      let posted := ∃ p ∈ s.train.posts, p.core = some c.val
      (s.drained c = false ∨ posted → SeqWaits s t c) ∧
      (s.drained c = true → ¬ posted →
        (∀ e, e < 32 → (t.engine (c * 32 + e)).queue = [] ∧ (t.engine (c * 32 + e)).poisoned = false) ∧
        t.loader c = [] ∧ (t.core c).stats = [] ∧ (t.core c).fault = none ∧ t.seqState c = 0 ∧ t.pc c = s.pc c ∧
        (∀ d r, t.sreg d r = s.sreg d r) ∧ t.mem.dram = s.mem.dram ∧
        (s.orders c = [] → (s.core c).zeroes = false → t.mem.cs = s.mem.cs) ∧
        ∀ b, s.runBatch (s.coreQueue c) = some b → ∃ b', t.runBatch (s.coreQueue c) = some b' ∧ b'.tag = b.tag ∧
          b'.running = b.running.filter (· != c.val))) ∧
    (∃ t, exec (.sys c 0) s = .next t ∧ SeqWrites s t c 0 0 (s.pc c + 4)) ∧
    (∃ t, exec (.sys c 1) s = .next t ∧
      (s.debugger = true → t.core c = { s.core c with pc := s.pc c + 4, held := true, retiredAt := s.clk.now } ∧
        t.mem = s.mem ∧
        ∀ d r, t.sreg d r = s.sreg d r) ∧
      (s.debugger = false → SeqFaults s t c 4)) ∧
    (∀ n : BitVec 16, n ≠ 0 → n ≠ 1 → ∃ t, exec (.sys c n) s = .next t ∧ SeqFaults s t c 4) ∧
    (∀ w, seqDecode c w = none → ∃ t, exec (.illegalInstruction c (some w)) s = .next t ∧ SeqFaults s t c 4) ∧
    ((s.core c).uncs = 0 → ∃ t, exec (.illegalInstruction c none) s = .next t ∧ t.mem = s.mem ∧ t.pc c = s.pc c ∧
      (t.core c).fault = some 4 ∧ t.seqState c = 3) ∧
    (∀ u : State, (u.core c).held = true → ∃ t, exec (.debuggerResume c) u = .next t ∧
      t = { u with cpu := { u.cpu with cores := t.cpu.cores } } ∧ t.core c = { u.core c with held := false } ∧
      ∀ d, d ≠ c → t.core d = u.core d)

/-- For every ready sequencer: VSETVL with type t below 16 sets VTYPE to t and VL to the smaller of s_a and VLMAX (VLMAX
for s0) and writes s_d with VL, and VSETVLR does the same with s_b mod 16; an immediate of 16 or more is illegal.
VMV.X.S writes s_d with the sign-extended element, 0 beyond VLMAX; VMV.S.X writes one element and leaves all others;
VMVR of 1, 2, 4 or 8 registers copies them, read before any is written; VIDX writes i to every element i below VL.
Each moves the PC on by 4 and leaves memory alone. (06_vector_extensions.md R199, 06_vector_extensions.md R200,
06_vector_extensions.md R208) -/
def Obligations.VectorConfigurationAndMoves : Prop :=
  ∀ (s : State) (c : Fin 256) (d a b : BitVec 5) (imm : BitVec 6), SeqReady s c →
    let n := (s.sreg c a).toNat
    let max_ := fun (ty : Nat) => 2 ^ (ty / 4 % 4) * 512 / (8 * 2 ^ (ty % 4))
    let vl := fun ty => if a = 0 then max_ ty else min n (max_ ty)
    let g := s.vgroup c
    let w := s.sew c
    let i := (s.sreg c b).toNat
    let sets := fun (t : State) ty => t.csr c 0x021 = BitVec.ofNat 64 ty ∧ t.csr c 0x020 = BitVec.ofNat 64 (vl ty) ∧
      t.sreg c d = (if d = 0 then 0 else BitVec.ofNat 64 (vl ty)) ∧ t.pc c = s.pc c + 4 ∧ t.mem = s.mem ∧
      t.cpu.vregs = s.cpu.vregs
    (imm.toNat < 16 → ∃ t, exec (.vsetvl c d a imm) s = .next t ∧ sets t imm.toNat) ∧
    (16 ≤ imm.toNat → ∃ t, exec (.vsetvl c d a imm) s = .next t ∧ SeqFaults s t c 4) ∧
    (∃ t, exec (.vsetvlr c d a b) s = .next t ∧ sets t (i % 16)) ∧
    (a.toNat % g = 0 → a.toNat + g ≤ 32 → ∃ t, exec (.vmvxs c d a b) s = .next t ∧ t.pc c = s.pc c + 4 ∧ t.mem = s.mem ∧
      t.cpu.vregs = s.cpu.vregs ∧
      t.sreg c d = (if d = 0 ∨ s.vlmax c ≤ i then 0 else BitVec.ofInt 64 (toSigned w (s.velem c a.toNat w i)))) ∧
    (d.toNat % g = 0 → d.toNat + g ≤ 32 → i < s.vlmax c → ∃ t, exec (.vmvsx c d a b) s = .next t ∧
      t.pc c = s.pc c + 4 ∧ t.mem = s.mem ∧ t.velem c d.toNat w i = (s.sreg c a).toNat % 2 ^ w ∧
      ∀ v j, v < 32 → j < 512 / w → v * (512 / w) + j ≠ d.toNat * (512 / w) + i → t.velem c v w j = s.velem c v w j) ∧
    (∀ m : BitVec 6, m = 1 ∨ m = 2 ∨ m = 4 ∨ m = 8 → grpOk d.toNat m.toNat = true → grpOk a.toNat m.toNat = true →
      ∃ t, exec (.vmvr c d a m) s = .next t ∧ t.pc c = s.pc c + 4 ∧ t.mem = s.mem ∧
      ∀ v, t.vreg c v = if d.toNat ≤ v ∧ v < d.toNat + m.toNat then s.vreg c (a.toNat + (v - d.toNat)) else s.vreg c v) ∧
    (d.toNat % g = 0 → d.toNat + g ≤ 32 → s.vl c ≤ s.vlmax c → ∃ t, exec (.vidx c d) s = .next t ∧ t.pc c = s.pc c + 4 ∧
      t.mem = s.mem ∧ ∀ j, j < s.vlmax c → t.velem c d.toNat w j = if j < s.vl c then j % 2 ^ w else s.velem c d.toNat w j)

/-- For every ready sequencer and mask registers m0 to m7: VMAND, VMOR, VMXOR and VMANDN give every bit below VL the logic
of its operands' bits and leave the bits from VL on; VMSET sets or clears the bits below VL; VMPOP counts the set bits
below VL; VMFIRST gives the lowest set bit below VL, or all ones; with a register field above 7 each is an illegal
instruction, a fault of the core. (06_vector_extensions.md R201, 06_vector_extensions.md R208, 06_vector_extensions.md
R213) -/
def Obligations.VectorMaskInstructions : Prop :=
  ∀ (s : State) (c : Fin 256) (d a b : BitVec 5) (imm : BitVec 6), SeqReady s c → s.vl c ≤ 512 →
    let x := fun i => s.mbit c a.toNat i
    let y := fun i => s.mbit c b.toNat i
    let gives := fun (t : State) (f : Nat → Bool) => t.pc c = s.pc c + 4 ∧ t.mem = s.mem ∧ t.cpu.vregs = s.cpu.vregs ∧
      (∀ r, t.sreg c r = s.sreg c r) ∧
      (∀ i, i < 512 → t.mbit c d.toNat i = if i < s.vl c then f i else s.mbit c d.toNat i) ∧
      ∀ m, m ≠ d.toNat → m < 8 → t.mreg c m = s.mreg c m
    (d.toNat < 8 → a.toNat < 8 → b.toNat < 8 →
      (∃ t, exec (.vmand c d a b) s = .next t ∧ gives t (fun i => x i && y i)) ∧
      (∃ t, exec (.vmor c d a b) s = .next t ∧ gives t (fun i => x i || y i)) ∧
      (∃ t, exec (.vmxor c d a b) s = .next t ∧ gives t (fun i => x i != y i)) ∧
      (∃ t, exec (.vmandn c d a b) s = .next t ∧ gives t (fun i => x i && !y i))) ∧
    (d.toNat < 8 → ∃ t, exec (.vmset c d imm) s = .next t ∧ gives t (fun _ => imm.getLsbD 0)) ∧
    (8 ≤ d.toNat ∨ 8 ≤ a.toNat ∨ 8 ≤ b.toNat → ∀ i ∈ [Instr.vmand c d a b, .vmor c d a b, .vmxor c d a b, .vmandn c d a b],
      ∃ t, exec i s = .next t ∧ SeqFaults s t c 4) ∧
    (8 ≤ d.toNat → ∃ t, exec (.vmset c d imm) s = .next t ∧ SeqFaults s t c 4) ∧
    (8 ≤ a.toNat → ∀ i ∈ [Instr.vmpop c d a, .vmfirst c d a], ∃ t, exec i s = .next t ∧ SeqFaults s t c 4) ∧
    (a.toNat < 8 → ∃ t, exec (.vmpop c d a) s = .next t ∧ t.pc c = s.pc c + 4 ∧ t.mem = s.mem ∧ t.cpu.mregs = s.cpu.mregs ∧
      t.sreg c d = if d = 0 then 0 else BitVec.ofNat 64 ((List.range (s.vl c)).filter x).length) ∧
    (a.toNat < 8 → ∃ t, exec (.vmfirst c d a) s = .next t ∧ t.pc c = s.pc c + 4 ∧ t.mem = s.mem ∧ t.cpu.mregs = s.cpu.mregs ∧
      ((∀ i, i < s.vl c → x i = false) → d ≠ 0 → t.sreg c d = BitVec.allOnes 64) ∧
      ∀ k, k < s.vl c → x k = true → (∀ i, i < k → x i = false) → d ≠ 0 → t.sreg c d = BitVec.ofNat 64 k)

/-- For every ready sequencer with well-named groups: an integer operation, a binary64 or binary32 operation, a fused
multiply-add and a conversion each answer a next state in which every active element below VL of the destination holds
the operation of the operand elements as they were before, at the element width, and every other element of the group
keeps its value; the PC moves on by 4, memory and mask registers stay. (06_vector_extensions.md R201,
06_vector_extensions.md R209, 06_vector_extensions.md R210, 06_vector_extensions.md R211, 06_vector_extensions.md
R222, 06_vector_extensions.md R223) -/
def Obligations.VectorArithmetic : Prop :=
  ∀ (s : State) (c : Fin 256) (o : VOp), SeqReady s c → s.vl c ≤ s.vlmax c →
    let w := s.sew c
    let a := fun i => s.velem c o.va.toNat w i
    let on := fun i => decide (i < s.vl c) && s.active c o.m o.mr.toNat i
    let gives := fun (t : State) (w : Nat) (f : Nat → Nat) => t.pc c = s.pc c + 4 ∧ t.mem = s.mem ∧
      t.cpu.mregs = s.cpu.mregs ∧ ∀ i, i < s.vlmax c →
        t.velem c o.vd.toNat w i = if on i then f i % 2 ^ w else s.velem c o.vd.toNat w i
    (∀ (src : BitVec 2) (func : BitVec 5), s.viOk c o src.toNat = true → func ≠ 0x0F → (func = 0x18 → o.va = 0) →
      (∀ x y, (vintOp func.toNat w x y).isSome = true) → ∃ t, exec (.vectorIntegerOp c o src func) s = .next t ∧
        gives t w (fun i => (vintOp func.toNat w (a i)
          (s.vsrc c o.b src.toNat (decide (5 ≤ func.toNat ∧ func.toNat ≤ 7)) w i)).getD 0)) ∧
    (∀ src : BitVec 2, s.viOk c o src.toNat = true → o.m = true →
      ∃ t, exec (.vectorIntegerOp c o src 0x0F) s = .next t ∧ t.pc c = s.pc c + 4 ∧ t.mem = s.mem ∧
        t.cpu.mregs = s.cpu.mregs ∧ ∀ i, i < s.vlmax c → t.velem c o.vd.toNat w i =
          if i < s.vl c then (if s.mbit c o.mr.toNat i then s.vsrc c o.b src.toNat false w i else a i) % 2 ^ w
          else s.velem c o.vd.toNat w i) ∧
    (∀ (scalar : Bool) (rnd : BitVec 3) (func : BitVec 3), s.vfOk c o scalar = true → func.toNat < 7 →
      (func = 4 → o.b = 0 ∧ scalar = false) → ∃ t, exec (.vectorFpOp c o scalar rnd func) s = .next t ∧
        gives t w (fun i => (vfmt w).ieee (rmStrict rnd.toNat)
          (vfpOp func.toNat (rmStrict rnd.toNat) ((vfmt w).decode (a i)) (s.vfsrc c o.b scalar w i)))) ∧
    (∀ (scalar : Bool) (rnd : BitVec 3) (func : BitVec 3), s.vfOk c o scalar = true → func.toNat < 4 →
      ∃ t, exec (.vectorFma c o scalar rnd func) s = .next t ∧
        gives t w (fun i => (vfmt w).ieee (rmStrict rnd.toNat) (vfmaOp func.toNat (rmStrict rnd.toNat)
          ((vfmt w).decode (a i)) (s.vfsrc c o.b scalar w i) ((vfmt w).decode (s.velem c o.vd.toNat w i))))) ∧
    (∀ (sfmt dfmt : BitVec 4) (rnd : BitVec 3) (sw dw : Nat) (sf df : Option FFmt), cvtFmt sfmt.toNat = some (sw, sf) →
      cvtFmt dfmt.toNat = some (dw, df) →
      let sn := max 1 (s.vgroup c * sw / w)
      let dn := max 1 (s.vgroup c * dw / w)
      sn ≤ 8 → dn ≤ 8 → grpOk o.va.toNat sn = true → grpOk o.vd.toNat dn = true →
      (sw ≠ dw → grpMeet o.vd.toNat dn o.va.toNat sn = false) →
      ∃ t, exec (.vcvt c o.vd o.va sfmt dfmt rnd o.m o.mr) s = .next t ∧ t.pc c = s.pc c + 4 ∧ t.mem = s.mem ∧
        t.cpu.mregs = s.cpu.mregs ∧ ∀ i, i < dn * 512 / dw → t.velem c o.vd.toNat dw i =
          if on i then (cvtElem (rmStrict rnd.toNat) sw sf dw df (s.velem c o.va.toNat sw i)).1 % 2 ^ dw
          else s.velem c o.vd.toNat dw i)

/-- For every ready sequencer with VL above 0 and a well-named group: VREDSUM 0 leaves in element 0 of vd the sum of vb's
element 0 and the active elements modulo 2^SEW, the other reductions the fold of their operation from the lowest
active element up, in the order R214 gives, every other element of vd's register keeping its value; VSAD adds to each
4xSEW element j the absolute differences of the active elements 4j to 4j+3, unsigned or signed.
(06_vector_extensions.md R213, 06_vector_extensions.md R214, 06_vector_extensions.md R215) -/
def Obligations.VectorReductionsAndSums : Prop :=
  ∀ (s : State) (c : Fin 256) (o : VOp), SeqReady s c → 0 < s.vl c → s.vl c ≤ s.vlmax c →
    let w := s.sew c
    let g := s.vgroup c
    let on := (List.range (s.vl c)).filter (fun i => s.active c o.m o.mr.toNat i)
    let a := fun i => s.velem c o.va.toNat w i
    let first := s.velem c o.b.toNat w 0
    let gives := fun (t : State) (v : Nat) => t.pc c = s.pc c + 4 ∧ t.mem = s.mem ∧ t.cpu.mregs = s.cpu.mregs ∧
      t.velem c o.vd.toNat w 0 = v % 2 ^ w ∧
      ∀ i, 0 < i → i < 512 / w → t.velem c o.vd.toNat w i = s.velem c o.vd.toNat w i
    (grpOk o.va.toNat g = true →
      (∃ t, exec (.vredsum c o 0 0) s = .next t ∧ gives t (first + (on.map a).sum)) ∧
      (∃ t, exec (.vredsum c o 0 4) s = .next t ∧ gives t (on.foldl (fun m i => min m (a i)) first)) ∧
      (∃ t, exec (.vredsum c o 0 3) s = .next t ∧ gives t (on.foldl (fun m i => max m (a i)) first)) ∧
      (∃ t, exec (.vredsum c o 0 2) s = .next t ∧
        gives t (ofSigned w (on.foldl (fun m i => min m (toSigned w (a i))) (toSigned w first)))) ∧
      (∃ t, exec (.vredsum c o 0 1) s = .next t ∧
        gives t (ofSigned w (on.foldl (fun m i => max m (toSigned w (a i))) (toSigned w first)))) ∧
      (w = 32 ∨ w = 64 →
        let f := vfmt w
        (∃ t, exec (.vfredsum c o 0) s = .next t ∧ gives t (on.foldl (fun m i =>
          f.ieee .rne (FV.add false (f.decode m) (f.decode (a i)))) first)) ∧
        (∃ t, exec (.vfredmax c o 0 9) s = .next t ∧ gives t (on.foldl (fun m i =>
          f.ieee .rne ((f.decode m).max (f.decode (a i)))) first)) ∧
        ∃ t, exec (.vfredmax c o 0 0xA) s = .next t ∧ gives t (on.foldl (fun m i =>
          f.ieee .rne ((f.decode m).min (f.decode (a i)))) first))) ∧
    (∀ sg : Bool, s.viOk c o 0 = true → w = 8 ∨ w = 16 → grpMeet o.vd.toNat g o.va.toNat g = false →
      grpMeet o.vd.toNat g o.b.toNat g = false →
      let b := fun i => s.velem c o.b.toNat w i
      let diff := fun i => if sg then (toSigned w (a i) - toSigned w (b i)).natAbs else (a i - b i) + (b i - a i)
      ∃ t, exec (.vsad c o 0 sg) s = .next t ∧ t.pc c = s.pc c + 4 ∧ t.mem = s.mem ∧
        ∀ j, 4 * j < s.vl c → t.velem c o.vd.toNat (4 * w) j =
          (s.velem c o.vd.toNat (4 * w) j + ((on.filter (fun i => i / 4 == j)).map diff).sum) % 2 ^ (4 * w))

/-- For every ready sequencer with well-named groups that do not meet where R213 forbids it: a slide up gives each active
element at or above the distance the element that many places below, a slide down the element that many above or 0
past VLMAX, VGATHER the element its index names or 0 past VLMAX, VCOMPRESS packs the active elements from element 0
on, and a compare writes bit i of the mask register for each active element; all other elements and mask bits keep
their values and the PC moves on by 4. (06_vector_extensions.md R201, 06_vector_extensions.md R213) -/
def Obligations.VectorPermutesAndCompares : Prop :=
  ∀ (s : State) (c : Fin 256) (o : VOp), SeqReady s c → s.vl c ≤ s.vlmax c →
    let w := s.sew c
    let g := s.vgroup c
    let on := fun i => decide (i < s.vl c) && s.active c o.m o.mr.toNat i
    let a := fun i => s.velem c o.va.toNat w i
    let d := fun (t : State) i => t.velem c o.vd.toNat w i
    let ok := fun (t : State) => t.pc c = s.pc c + 4 ∧ t.mem = s.mem
    (∀ src : BitVec 2, src = 1 ∨ src = 2 → s.viOk c o src.toNat = true →
      let n := if src = 1 then (s.sreg c o.b).toNat % 2 ^ 32 else o.b.toNat
      (grpMeet o.vd.toNat g o.va.toNat g = false → ∃ t, exec (.vslideup c o src) s = .next t ∧ ok t ∧
        ∀ i, i < s.vlmax c → d t i = if on i ∧ n ≤ i then a (i - n) else d s i) ∧
      ∃ t, exec (.vslidedn c o src) s = .next t ∧ ok t ∧
        ∀ i, i < s.vlmax c → d t i = if on i then (if s.vlmax c ≤ i + n then 0 else a (i + n)) else d s i) ∧
    (s.viOk c o 0 = true → grpMeet o.vd.toNat g o.va.toNat g = false → grpMeet o.vd.toNat g o.b.toNat g = false →
      ∃ t, exec (.vgather c o 0) s = .next t ∧ ok t ∧
        ∀ i, i < s.vlmax c →
          let k := s.velem c o.b.toNat w i
          d t i = if on i then (if s.vlmax c ≤ k then 0 else a k) else d s i) ∧
    (∀ src : BitVec 2, src.toNat < 3 → grpOk o.vd.toNat g = true → grpOk o.va.toNat g = true →
      grpMeet o.vd.toNat g o.va.toNat g = false → (src = 0 → grpMeet o.vd.toNat g o.b.toNat g = false) →
      ∃ t, exec (.vcompress c o src) s = .next t ∧ ok t ∧
        let l := (List.range (s.vl c)).filter (fun i => s.active c o.m o.mr.toNat i)
        ∀ j, j < s.vlmax c → d t j = match l[j]? with | some i => a i | none => d s j) ∧
    (∀ src : BitVec 2, o.vd.toNat < 8 → grpOk o.va.toNat g = true → src.toNat < 3 →
      (src = 0 → grpOk o.b.toNat g = true) →
      let b := fun i => s.vsrc c o.b src.toNat false w i
      let bits_ := fun (t : State) (f : Nat → Bool) => ok t ∧ t.cpu.vregs = s.cpu.vregs ∧
        ∀ i, i < 512 → t.mbit c o.vd.toNat i = if on i then f i else s.mbit c o.vd.toNat i
      let sa := fun i => toSigned w (a i)
      let sb := fun i => toSigned w (b i)
      let x := fun i => (vfmt w).decode (a i)
      let y := fun i => (vfmt w).decode (b i)
      (∃ t, exec (.vmseq c o src 0x18) s = .next t ∧ bits_ t (fun i => a i == b i)) ∧
      (∃ t, exec (.vmseq c o src 0x19) s = .next t ∧ bits_ t (fun i => a i != b i)) ∧
      (∃ t, exec (.vmseq c o src 0x1A) s = .next t ∧ bits_ t (fun i => decide (sa i < sb i))) ∧
      (∃ t, exec (.vmseq c o src 0x1B) s = .next t ∧ bits_ t (fun i => decide (a i < b i))) ∧
      (∃ t, exec (.vmseq c o src 0x1C) s = .next t ∧ bits_ t (fun i => decide (sa i ≤ sb i))) ∧
      (w = 32 ∨ w = 64 →
        (∃ t, exec (.vmfeq c o src 0x1D) s = .next t ∧ bits_ t (fun i => (x i).eqv (y i))) ∧
        (∃ t, exec (.vmfeq c o src 0x1E) s = .next t ∧ bits_ t (fun i => (x i).lt (y i))) ∧
        ∃ t, exec (.vmfeq c o src 0x1F) s = .next t ∧ bits_ t (fun i => (x i).lt (y i) || (x i).eqv (y i))))

/-- For every ready sequencer with no overlapping transfer running, any MOP and NF that R216 allows and active accesses
that are aligned, in the store and without poison: a load writes each field of each active element with its bytes and
keeps every other element; a store writes the bytes of accesses that do not overlap each other and leaves every byte
outside the accesses; a first-fault load stops before the first faulting element k above 0, setting VL to k, and loads
all when none faults; each moves the PC on by 4. An awake unit with HOLD 0 and no vector instruction for 4 local
microseconds, none of which waits, powers down, nothing else changing. (06_vector_extensions.md R216,
06_vector_extensions.md R218, 06_vector_extensions.md R221, 06_vector_extensions.md R225) -/
def Obligations.VectorMemoryAndPower : Prop :=
  ∀ (s : State) (c : Fin 256) (o : VOp) (mop nf : BitVec 2), SeqReady s c → s.vl c ≤ s.vlmax c → s.loader c = [] →
    let w := s.sew c
    let n := w / 8
    let g := s.vgroup c
    let on := fun i => decide (i < s.vl c) && s.active c o.m o.mr.toNat i
    let at_ := fun i f => s.vaddr c o mop.toNat (nf.toNat + 1) i f
    let good := fun (a : W64) => a.toNat + n ≤ 2 ^ 21 ∧ a.toNat % n = 0 ∧ s.csPois c a.toNat n = false
    let sound := ∀ i f, on i = true → f ≤ nf.toNat → good (at_ i f)
    let byte := fun (t : State) k => mget 0#8 t.mem.cs k
    let raw := fun (a : W64) => ((List.range n).map (fun j => (byte s (csKey c (a.toNat + j))).toNat * 256 ^ j)).sum
    let legal := s.vmOk c o mop.toNat (nf.toNat + 1) = true ∧ mop ≠ 3
    let unit := fun i => s.sreg c o.va + BitVec.ofNat 64 (i * n)
    (legal → sound → (mop = 2 → grpMeet o.vd.toNat g o.b.toNat g = false) →
      ∃ t, exec (.vectorLoad c o mop nf {}) s = .next t ∧ t.pc c = s.pc c + 4 ∧ t.mem = s.mem ∧
        ∀ i f, i < s.vlmax c → f ≤ nf.toNat →
          t.velem c (o.vd.toNat + f * g) w i = if on i then raw (at_ i f) else s.velem c (o.vd.toNat + f * g) w i) ∧
    (legal → sound → ∃ t, exec (.vectorStore c o mop nf) s = .next t ∧ t.pc c = s.pc c + 4 ∧
      t.cpu.vregs = s.cpu.vregs ∧
      ((∀ i f i' f', on i = true → on i' = true → f ≤ nf.toNat → f' ≤ nf.toNat → at_ i f = at_ i' f' → i = i' ∧ f = f') →
        ∀ i f j, on i = true → f ≤ nf.toNat → j < n → byte t (csKey c ((at_ i f).toNat + j)) =
          BitVec.ofNat 8 (s.velem c (o.vd.toNat + f * g) w i / 256 ^ j)) ∧
      ∀ k, (∀ i f, on i = true → f ≤ nf.toNat → k < csKey c (at_ i f).toNat ∨ csKey c (at_ i f).toNat + n ≤ k) →
        byte t k = byte s k) ∧
    (∀ k, grpOk o.vd.toNat g = true → (∀ i, i < k → on i = true → good (unit i) ∧
        ((s.csr c 0x022).toNat = 0 ∨ (unit i).toNat < (s.csr c 0x022).toNat)) →
      (k = s.vl c ∨ 0 < k ∧ on k = true ∧ (2 ^ 21 < (unit k).toNat + n ∨ (unit k).toNat % n ≠ 0 ∨
        0 < (s.csr c 0x022).toNat ∧ (s.csr c 0x022).toNat ≤ (unit k).toNat)) →
      ∃ t, exec (.firstFaultLoad c o 0 {}) s = .next t ∧ t.pc c = s.pc c + 4 ∧ t.mem = s.mem ∧
        (on k = true → t.csr c 0x020 = BitVec.ofNat 64 k) ∧ (k = s.vl c → t.csr c 0x020 = s.csr c 0x020) ∧
        ∀ i, i < s.vlmax c → t.velem c o.vd.toNat w i =
          if on i && decide (i < k) then raw (unit i) else s.velem c o.vd.toNat w i) ∧
    (∀ u : State, (u.core c).vAwake = true → (u.csr c 0x023).toNat % 2 = 0 → (u.core c).vLast + 100 ≤ u.clk.now →
      (u.seqState c = 2 → (u.core c).wait ≠ .vector) → ∃ t, exec (.vectorPowerDown c) u = .next t ∧ t = { u with cpu := { u.cpu with cores := t.cpu.cores } } ∧
        t.core c = { u.core c with vAwake := false } ∧ ∀ d, d ≠ c → t.core d = u.core d)

/-- The model's reset is the instant of power good of a module just powered: the queue is empty, each register field of
the table reads its Reset column in every block instance and every element, the local time counter is 0 and counts,
operating seconds are 0, the fast tier, the tile stores, the core stores, scalar and vector registers read zero with
no word poisoned, no batch, account, loop or Daybook record exists, nothing is staged, memory is in canonical form and
the state is safe. That stores and registers of a core read zero is the model's choice (log entries 7 and 8); the
values of log entries 9 and 10 (the input at 54 V, the meter's own words) are not stated here. (00_scope.md R18,
17_control_space_map.md R565, 02_timing_and_warrants.md R59) -/
def Obligations.ResetIsTheResetColumn : Prop :=
  State.reset.pending = [] ∧
    (∀ r ∈ regTable, ∀ f ∈ r.flds, ∀ inst < 8, ∀ idx < 128, State.reset.rd f.fld inst idx = f.reset) ∧
    State.reset.clk.now = 0 ∧ State.reset.clk.counting = true ∧ State.reset.clk.opsec = 0 ∧
    (∀ k, mget 0#8 State.reset.mem.dram k = 0 ∧ mget 0#8 State.reset.mem.ts k = 0 ∧ mget 0#8 State.reset.mem.cs k = 0) ∧
    State.reset.mem.dramPoison = [] ∧ State.reset.mem.tsPoison = [] ∧ State.reset.mem.csPoison = [] ∧
    Memory.wf State.reset.mem = true ∧ State.reset.wrt.queues = [] ∧ State.reset.accts = [] ∧ State.reset.exq = [] ∧ State.reset.nor.book = [] ∧
    (∀ k : Nat, mget 0 State.reset.cpu.sregs k = 0) ∧ (∀ k : Nat, mget 0 State.reset.cpu.vregs k = 0) ∧
    State.reset.dbk.staging = [] ∧ State.reset.boot.phase = .railsUp ∧ State.reset.safe = true

/-- For every requester that may write and every aligned access that covers a whole register whose write does no more than
store, a write answers a next state in which RO and WO fields keep their value, RW fields take the written bits
clamped to the range of the table, W1C fields lose the bits written 1, LCK fields take them only while unlocked; a
write that would change a locked field makes record 0x0011 with the address and the low word written. Every other
register but the recorder's counters keeps its value, the requester's held half is discarded, and everything else
stays. (00_scope.md R14, 00_scope.md R16, 00_scope.md R21, 17_control_space_map.md R559, 17_control_space_map.md R561) -/
def Obligations.RegisterWritesFollowTheAccessCode : Prop :=
  ∀ (s : State) (q : Requester) (a : Addr) (w : Nat) (v : W64) (r : RegInfo) (inst idx : Nat),
    target a.toNat w = .whole r inst idx → r.key ∉ actKeys → CanWrite s q r.page r.key →
    (r.page = 32 → s.shareUp inst = true) →
    ∃ t, exec (.registerWrite q a w v) s = .next t ∧
      (∀ f ∈ r.flds,
        let old := s.rd f.fld inst idx
        let new := bits v.toNat f.fld.hi f.fld.lo
        let kept := match f.range with
          | some (lo, hi) => if new < lo then lo else if hi < new then hi else new
          | none => new
        t.rd f.fld inst idx = match f.acc with
          | .ro | .wo => old
          | .rw => kept
          | .w1c => old - Nat.land old new
          | .lck => if s.boot.locked then old else kept) ∧
      t = { s with regs := t.regs, dbk := t.dbk, bus := t.bus } ∧ NoHeld s t q ∧
      RegsBut s t (regKey r.key inst idx :: dbkKeys) ∧
      t.dbk = if s.boot.locked = true ∧ ∃ f ∈ r.flds, f.acc = .lck ∧
          bits v.toNat f.fld.hi f.fld.lo ≠ s.rd f.fld inst idx
        then (s.note 0x0011 (a.toNat % 2 ^ 32) (a.toNat / 2 ^ 32) (v.toNat % 2 ^ 32)).dbk else s.dbk

/-- For a 64-bit register and a requester that may write: writing bits 31:0 changes no register and holds the half for
that requester alone; writing bits 63:32 next leaves exactly the state of one 64-bit write; bits 63:32 with no half
held change no register but the recorder's and make record 0x0010 with the address and width 4. For a requester whose
reads are answered: a read of bits 31:0 answers them and latches bits 63:32 as they are; the next read of bits 63:32
answers the latched half and uses it up, or the register's bits when none is latched; one 64-bit read answers the
register; nothing but the bus latches and the answer changes. (00_scope.md R20) -/
def Obligations.HalfRegisterAccesses : Prop :=
  ∀ (s : State) (q : Requester) (lo hi : Addr) (x y : W32) (r : RegInfo) (inst idx : Nat),
    target lo.toNat 4 = .lower r inst idx → target hi.toNat 4 = .upper r inst idx →
    (CanWrite s q r.page r.key →
      (∃ u, exec (.registerWrite q lo 4 (x.setWidth 64)) s = .next u ∧ u = { s with bus := u.bus } ∧
        u.heldHalf q (regKey r.key inst idx) = some x ∧ (∀ k, k ≠ regKey r.key inst idx → u.heldHalf q k = none) ∧
        (∀ p k, p ≠ q → u.heldHalf p k = s.heldHalf p k) ∧
        ∃ t, exec (.registerWrite q hi 4 (y.setWidth 64)) u = .next t ∧
          (target lo.toNat 8 = .whole r inst idx → exec (.registerWrite q lo 8 (y ++ x)) s = .next t)) ∧
      (s.heldHalf q (regKey r.key inst idx) = none →
        ∃ t, exec (.registerWrite q hi 4 (y.setWidth 64)) s = .next t ∧
          OneRecord { s with bus := t.bus } t [] 0x0010 (hi.toNat % 2 ^ 32) (hi.toNat / 2 ^ 32) 4 ∧ NoHeld s t q)) ∧
    (s.ctlRead q = true → reads q r.page = true →
      let v := s.readReg r inst idx
      let key := regKey r.key inst idx
      let answers := fun (t : State) (x : W32) => t = { s with bus := t.bus } ∧
        t.bus.rdata.find? (fun e => e.1 == q) = some (q, x.setWidth 64)
      (∃ u, exec (.halfRegisterRead q lo) s = .next u ∧ answers u (v.setWidth 32) ∧
        u.latched q key = some (v.extractLsb' 32 32) ∧
        ∃ t, exec (.halfRegisterRead q hi) u = .next t ∧ answers t (v.extractLsb' 32 32) ∧ t.latched q key = none) ∧
      (s.latched q key = none → ∃ t, exec (.halfRegisterRead q hi) s = .next t ∧ answers t (v.extractLsb' 32 32)) ∧
      (∀ x, s.latched q key = some x → ∃ t, exec (.halfRegisterRead q hi) s = .next t ∧ answers t x) ∧
      (target lo.toNat 8 = .whole r inst idx → ∃ u, u = s.busRead q lo.toNat 8 ∧ u = { s with bus := u.bus } ∧
        u.bus.rdata.find? (fun e => e.1 == q) = some (q, v)))

/-- For a requester whose access is taken: an access of the wrong size or alignment makes record 0x0010 with the address
in two words and the width, an access to an unassigned range record 0x0012 with the address and 1 for a read or 2 for
a write; a read answers zero; no register but the recorder's changes. While control space answers, a hart's access
outside every range of the address map, or to a share while GPC_VAULT is not agreed, raises an access fault in that
hart and a read answers zero; an access to a share that is down answers LINK_LOST. (00_scope.md R19,
17_control_space_map.md R558, 08_memory_tiers.md R276) -/
def Obligations.BadAccessesAreRecorded : Prop :=
  ∀ (s : State) (q : Requester) (a : Addr) (w : Nat) (write : Bool),
    (if write then s.ctlWrite q else s.ctlRead q) = true →
    let zero := fun (t : State) => write = false → t.bus.rdata.find? (fun e => e.1 == q) = some (q, 0)
    (target a.toNat w = .wrong → ∃ t, exec (.wrongSizeAccess q a w write) s = .next t ∧ zero t ∧
      OneRecord { s with bus := t.bus } t [] 0x0010 (a.toNat % 2 ^ 32) (a.toNat / 2 ^ 32) w) ∧
    (target a.toNat w = .unassigned → ∃ t, exec (.unassignedRangeAccess q a w write) s = .next t ∧ zero t ∧
      OneRecord { s with bus := t.bus } t [] 0x0012 (a.toNat % 2 ^ 32) (a.toNat / 2 ^ 32) (if write then 2 else 1)) ∧
    (∀ h : Fin 32, s.ctlAlive = true → ∃ t, exec (.gpcDeviceAccessFault h a write) s = .next t ∧ t = { s with bus := t.bus } ∧
      (s.place a.toNat = .none ∨ (0x100000000000 ≤ a.toNat ∧ a.toNat < 0x180000000000 ∧ bit (s.rd F.GLB_FEATURES_AGREED) 9 = false) →
        t.bus.fault = (h.val, a) :: s.bus.fault ∧ t.bus.linkLost = s.bus.linkLost ∧
        (write = false → t.bus.rdata.find? (fun e => e.1 == .hart h) = some (.hart h, 0))) ∧
      (0x100000000000 ≤ a.toNat → a.toNat < 0x180000000000 → bit (s.rd F.GLB_FEATURES_AGREED) 9 = true →
        s.shareUp ((a.toNat - 0x100000000000) / 2 ^ 40) = false →
        t.bus.linkLost = (h.val, a) :: s.bus.linkLost ∧ t.bus.fault = s.bus.fault))

/-- With the main rails on, in whatever phase: a junction at 105 C or more, or an input current above 60 A, with no such
drop in force, sets its drop bit and its seen bit, puts target and actual set point at 60 with none pending, marks
every outstanding SET-basis warrant above 60 broken (BROKEN and record 0x1003 when there is any), and makes record
0xA010 or 0xA011; with the drop already in force only the reading is taken. A rise of VDDF under way ends with the
drop; no other register, batch field or part of the state changes. (02_timing_and_warrants.md R62,
02_timing_and_warrants.md R65, 02_timing_and_warrants.md R77) -/
def Obligations.HardwareDropsGoToTheFloor : Prop :=
  ∀ s : State, s.boot.phase ≠ .off →
    let point := s.rd F.PWR_VDDF_ACTUAL
    let breaks := fun b : Batch => b.setBasis = true ∧ 60 < b.setPoint
    let n := (s.allBatches.filter (fun b => decide (breaks b))).length
    let dropped := fun (t : State) (keys : List Nat) (drop seen : Field) (cause code p0 p1 : Nat) =>
      t = { s with regs := t.regs, dbk := t.dbk, wrt := t.wrt, pow := { s.pow with riseUntil := 0 } } ∧
      RegsBut s t (keys ++ [F.PWR_VDDF_TARGET.key, F.PWR_LIMIT_TRIP_CLOCK.key, F.WRT_STATUS_BROKEN.key] ++ dbkKeys) ∧
      Sets s t F.PWR_LIMIT_TRIP_CLOCK.key [(drop, 1), (seen, 1)] ∧
      Sets s t F.PWR_VDDF_TARGET.key [(F.PWR_VDDF_TARGET, 60), (F.PWR_VDDF_ACTUAL, 60), (F.PWR_VDDF_PENDING, 0)] ∧
      t.wrt = { s.wrt with queues := s.wrt.queues.map (fun q => (q.1, { q.2 with
        batches := q.2.batches.map (fun b => if breaks b then { b with broken2 := true } else b) })) } ∧
      t.rd F.WRT_STATUS_BROKEN = (if n = 0 then s.rd F.WRT_STATUS_BROKEN else 1) ∧
      t.dbk = ((if n = 0 then s else s.note 0x1003 n point cause).note code p0 p1 point).dbk
    (∀ (unit : Fin 5) (tj : BitVec 8), 105 ≤ tj.toNat → ∃ t, exec (.thermalDrop unit tj) s = .next t ∧
      t.rd (tjField unit) = tj.toNat ∧
      (s.rd F.PWR_LIMIT_THERMAL_DROP = 0 → dropped t [(tjField unit).key] F.PWR_LIMIT_THERMAL_DROP
        F.PWR_LIMIT_THERMAL_SEEN 1 0xA010 unit tj.toNat) ∧
      (s.rd F.PWR_LIMIT_THERMAL_DROP = 1 → OnlyRegs s t [(tjField unit).key])) ∧
    (∀ ma volt : BitVec 16, 60000 < ma.toNat → ∃ t, exec (.currentDrop ma volt) s = .next t ∧
      t.rd F.PWR_INPUT_CURRENT_MA = ma.toNat ∧ t.rd F.PWR_INPUT_VOLTAGE = volt.toNat ∧
      (s.rd F.PWR_LIMIT_CURRENT_DROP = 0 → dropped t [F.PWR_INPUT_VOLTAGE.key] F.PWR_LIMIT_CURRENT_DROP
        F.PWR_LIMIT_CURRENT_SEEN 2 0xA011 ma.toNat volt.toNat) ∧
      (s.rd F.PWR_LIMIT_CURRENT_DROP = 1 → OnlyRegs s t [F.PWR_INPUT_VOLTAGE.key]))

/-- With the main rails on, in whatever phase: the thermal drop ends when every junction is below 100 C and not before;
the current drop ends at 60 A or below; a junction above 105 C marks every outstanding batch and sets ABOVE_105 with
record 0xA012 state 1, which clears with state 0 when every junction is at 105 C or below; the clamp at 62 A sets
CLAMP_ACTIVE and the instant it began, and ends below 62 A. Readings are taken (at the clamp's start the running mean
is a free value of 62 A at most), every other bit of the limit register and everything else stays.
(02_timing_and_warrants.md R62, 02_timing_and_warrants.md R63, 02_timing_and_warrants.md R65) -/
def Obligations.LimitsEndBelowTheirThresholds : Prop :=
  ∀ s : State, s.boot.phase ≠ .off →
    let limit := F.PWR_LIMIT_TRIP_CLOCK.key
    let tjs := [F.PWR_TJ_DIE0.key, F.PWR_TJ_HUB_HUB.key]
    let read := fun (t : State) (x : Temps) => ∀ u : Fin 5, t.rd (tjField u) = (Temps.list x).getD u 0
    (∀ x : Temps, ∃ t, exec (.thermalDropEnd x) s = .next t ∧ OnlyRegs s t (limit :: tjs) ∧ read t x ∧
      ((∀ v ∈ Temps.list x, v < 100) → Sets s t limit [(F.PWR_LIMIT_THERMAL_DROP, 0)]) ∧
      ((∃ v ∈ Temps.list x, 100 ≤ v) → Sets s t limit [])) ∧
    (∀ ma : BitVec 16, ma.toNat ≤ 60000 → ∃ t, exec (.currentDropEnd ma) s = .next t ∧
      OnlyRegs s t [limit, F.PWR_INPUT_VOLTAGE.key] ∧ Sets s t limit [(F.PWR_LIMIT_CURRENT_DROP, 0)] ∧
      Sets s t F.PWR_INPUT_VOLTAGE.key [(F.PWR_INPUT_CURRENT_MA, ma.toNat)]) ∧
    (∀ (unit : Fin 5) (tj : BitVec 8), 105 < tj.toNat → s.rd F.PWR_LIMIT_ABOVE_105 = 0 →
      ∃ t, exec (.above105Enter unit tj) s = .next t ∧ t.rd (tjField unit) = tj.toNat ∧
      OneRecord { s with wrt := t.wrt } t (limit :: tjs) 0xA012 unit tj.toNat 1 ∧
      Sets s t limit [(F.PWR_LIMIT_ABOVE_105, 1)] ∧
      t.wrt = { s.wrt with queues := s.wrt.queues.map (fun q => (q.1, { q.2 with
        batches := q.2.batches.map (fun b => { b with above105 := true }) })) }) ∧
    (∀ (unit : Fin 5) (x : Temps), s.rd F.PWR_LIMIT_ABOVE_105 = 1 →
      ∃ t, exec (.above105Exit unit x) s = .next t ∧ read t x ∧
      ((∀ v ∈ Temps.list x, v ≤ 105) → Sets s t limit [(F.PWR_LIMIT_ABOVE_105, 0)] ∧
        OneRecord s t (limit :: tjs) 0xA012 unit ((Temps.list x).getD unit 0) 0) ∧
      ((∃ v ∈ Temps.list x, 105 < v) → OnlyRegs s t tjs)) ∧
    (s.rd F.PWR_LIMIT_CLAMP_ACTIVE = 0 → ∃ t, exec .currentClampStart s = .next t ∧
      OnlyRegs { s with pow := { s.pow with clampSince := some s.clk.now }, free := s.free + 1 } t
        [limit, F.PWR_INPUT_VOLTAGE.key] ∧ Sets s t limit [(F.PWR_LIMIT_CLAMP_ACTIVE, 1)] ∧
      t.rd F.PWR_INPUT_CURRENT_MA ≤ 62000 ∧ t.rd F.PWR_INPUT_VOLTAGE = s.rd F.PWR_INPUT_VOLTAGE) ∧
    (∀ ma : BitVec 16, ma.toNat < 62000 → ∃ t, exec (.currentClampEnd ma) s = .next t ∧
      OnlyRegs { s with pow := { s.pow with clampSince := none } } t [limit, F.PWR_INPUT_VOLTAGE.key] ∧
      Sets s t limit [(F.PWR_LIMIT_CLAMP_ACTIVE, 0)] ∧
      Sets s t F.PWR_INPUT_VOLTAGE.key [(F.PWR_INPUT_CURRENT_MA, ma.toNat)])

/-- A write of PWR_VDDF takes the legal point nearest its low byte (60 under a hardware drop) as target; with the power
steward alive it (0.60 V while the coolant holds it) is the actual point at once when not lower, VDDF rising from the
old one at 10 mV a microsecond, and pending when lower. A pending point is applied when no outstanding SET-basis
warrant was computed above it, and stays pending otherwise. The power cap lowers the set point by one when the input
exceeds it and the last lowering is 10 ms old, and raises it by one after a second 100 W below it, a second after the
last raise, below the start point; its readings are taken. Nothing else changes. (02_timing_and_warrants.md R61,
02_timing_and_warrants.md R75, 02_timing_and_warrants.md R573, 00_scope.md R16) -/
def Obligations.SetPointsRiseAtOnceAndFallAfterWarrants : Prop :=
  ∀ s : State,
    let key := F.PWR_VDDF_TARGET.key
    let input := F.PWR_INPUT_VOLTAGE.key
    let asks := fun (t : State) (pow : Power) (target p : Nat) =>
      Sets s t key ((F.PWR_VDDF_TARGET, target) ::
        (if s.vddf ≤ p then [(F.PWR_VDDF_ACTUAL, p), (F.PWR_VDDF_PENDING, 0)] else [(F.PWR_VDDF_PENDING, p)])) ∧
      (p ≤ s.vddf → t.pow = pow) ∧
      (s.vddf < p → t.pow = { pow with riseFrom := s.warrantPoint, riseUntil :=
        (if s.clk.now < s.pow.riseUntil then s.pow.riseUntil else s.clk.now) + 25 * (p - s.vddf) })
    let measured := fun (t : State) (ma volt : BitVec 16) =>
      Sets s t input [(F.PWR_INPUT_CURRENT_MA, ma.toNat), (F.PWR_INPUT_VOLTAGE, volt.toNat)]
    (∀ (q : Requester) (v : W32), CanWrite s q 2 key →
      let p := if s.hwDrop then 60 else if v.toNat % 256 < 60 then 60 else if 85 < v.toNat % 256 then 85 else v.toNat % 256
      ∃ t, exec (.vddfSetPoint q v) s = .next t ∧ OnlyRegs { s with bus := t.bus, pow := t.pow } t [key] ∧ NoHeld s t q ∧
        (s.fwAlive 6 = true → asks t s.pow p (if s.pow.coolPending then 60 else p)) ∧
        (s.fwAlive 6 = false → Sets s t key [(F.PWR_VDDF_TARGET, p)] ∧ t.pow = s.pow)) ∧
    (s.up = true → s.fwAlive 6 = true → s.rd F.PWR_VDDF_PENDING ≠ 0 → ∃ t, exec .lowerPointApply s = .next t ∧
      ((∀ b ∈ s.allBatches, b.setBasis = true → b.setPoint ≤ s.rd F.PWR_VDDF_PENDING) → OnlyRegs s t [key] ∧
        Sets s t key [(F.PWR_VDDF_ACTUAL, s.rd F.PWR_VDDF_PENDING), (F.PWR_VDDF_PENDING, 0)]) ∧
      ((∃ b ∈ s.allBatches, b.setBasis = true ∧ s.rd F.PWR_VDDF_PENDING < b.setPoint) → t = s)) ∧
    (∀ ma volt : BitVec 16, s.up = true → s.fwRuns 6 = true → s.hwDrop = false → s.pow.coolPending = false →
      let cap := s.rd F.PWR_CAP_WATTS
      let waits := ∃ x, s.pow.capLoweredAt = some x ∧ s.clk.now < x + 250000
      (waits ∨ ma.toNat * volt.toNat ≤ cap * 100000 → exec (.powerCapLower ma volt) s = .next s) ∧
      (¬ waits → cap * 100000 < ma.toNat * volt.toNat →
        let pow := { s.pow with capLoweredAt := some s.clk.now, belowSince := none }
        let p := clampNat 60 85 (s.setPoint - 1)
        ∃ t, exec (.powerCapLower ma volt) s = .next t ∧ measured t ma volt ∧
          OnlyRegs { s with pow := t.pow } t [key, input] ∧ (60 < s.setPoint → asks t pow p p) ∧
          (s.setPoint ≤ 60 → Sets s t key [] ∧ t.pow = pow)) ∧
      (∀ x, s.pow.belowSince = some x → x + 25000000 ≤ s.clk.now →
        (∀ r, s.pow.capRaisedAt = some r → r + 25000000 ≤ s.clk.now) → s.setPoint < s.pow.startVddf →
        ma.toNat * volt.toNat < (cap - 100) * 100000 →
        let p := clampNat 60 85 (s.setPoint + 1)
        ∃ t, exec (.powerCapRaise ma volt) s = .next t ∧ measured t ma volt ∧ OnlyRegs { s with pow := t.pow } t [key, input] ∧
          asks t { s.pow with capRaisedAt := some s.clk.now } p p) ∧
      ((s.pow.belowSince = none ∨ (cap - 100) * 100000 ≤ ma.toNat * volt.toNat) →
        ∃ t, exec (.powerCapRaise ma volt) s = .next t ∧ measured t ma volt ∧
          OnlyRegs { s with pow := { s.pow with belowSince :=
            if ma.toNat * volt.toNat < (cap - 100) * 100000 then some s.clk.now else none } } t [input]))

/-- Every reading is stored in MGT_COOLANT. While the module is up a flow below FLOW_MIN or an inlet above INLET_MAX
counts on and a good one counts from zero; the fiftieth makes record 0xA030 or 0xA031; WARN is set from then until
both counts have fallen; while it holds and the power steward is alive 0.60 V is requested and kept, and 600 clear
readings in a row end that. No other register and no other part of the state changes; from 0.60 V up the rise of VDDF
is not touched. (16_connectors_power_mechanical.md R548) -/
def Obligations.CoolantReadingsAreJudgedOverFifty : Prop :=
  ∀ (s : State) (inlet outlet : BitVec 8) (flow : BitVec 16),
    let low := flow.toNat < s.rd F.MGT_COOL_LIMIT_FLOW_MIN
    let hot := s.rd F.MGT_COOL_LIMIT_INLET_MAX < inlet.toNat
    let nl := if low then s.pow.flowLow + 1 else 0
    let nh := if hot then s.pow.inletHigh + 1 else 0
    let held := 50 ≤ nl ∨ 50 ≤ nh
    let clear := if held then 0 else s.pow.coolClear + 1
    ∃ t, exec (.coolantReading inlet outlet flow) s = .next t ∧
      Sets s t F.MGT_COOLANT_INLET.key [(F.MGT_COOLANT_INLET, inlet.toNat), (F.MGT_COOLANT_OUTLET, outlet.toNat),
        (F.MGT_COOLANT_FLOW, flow.toNat)] ∧
      (s.up = false → OnlyRegs s t [F.MGT_COOLANT_INLET.key]) ∧
      (s.up = true → t = { s with regs := t.regs, dbk := t.dbk, pow := t.pow } ∧
        RegsBut s t ([F.MGT_COOLANT_INLET.key, F.MGT_COOL_LIMIT_WARN.key, F.PWR_VDDF_TARGET.key] ++ dbkKeys) ∧
        t.rd F.MGT_COOL_LIMIT_WARN = (if held then 1 else 0) ∧
        t.pow = { s.pow with flowLow := nl, inletHigh := nh, coolClear := clear, coolPending := t.pow.coolPending
                             riseFrom := t.pow.riseFrom, riseUntil := t.pow.riseUntil } ∧
        (60 ≤ s.vddf → t.pow.riseFrom = s.pow.riseFrom ∧ t.pow.riseUntil = s.pow.riseUntil) ∧
        t.pow.coolPending = (if held then s.pow.coolPending || s.fwAlive 6 else s.pow.coolPending && decide (clear < 600)) ∧
        t.dbk = (let u := if nl = 50 then s.note 0xA030 flow.toNat inlet.toNat outlet.toNat else s
          if nh = 50 then u.note 0xA031 inlet.toNat flow.toNat else u).dbk ∧
        (held → s.fwAlive 6 = true → t.rd F.PWR_VDDF_TARGET = 60 ∧
          (60 < s.vddf → t.rd F.PWR_VDDF_ACTUAL = s.vddf ∧ t.rd F.PWR_VDDF_PENDING = 60) ∧
          (s.vddf ≤ 60 → t.rd F.PWR_VDDF_ACTUAL = 60 ∧ t.rd F.PWR_VDDF_PENDING = 0)) ∧
        (¬ held → Sets s t F.PWR_VDDF_TARGET.key []))

/-- While control space answers, losing the reference makes record 0x0F01 with the counter, sets REF_HALT and TRIP_CLOCK,
halts the module and stops the counter within a holdover of at most 10 ms (its length a free value). In the halt, the
return of the reference lets the counter count on and leaves a warm reset of source 5 due with record 0x0003; with the
recorder steward running the staged records enter the Daybook in order, TRIP_CLOCK clears and numbering goes on from
the next number; with it not running they stay staged. (02_timing_and_warrants.md R58, 02_timing_and_warrants.md R59,
13_daybook_and_dump.md R466) -/
def Obligations.ReferenceLossHaltsAndReturns : Prop :=
  ∀ s : State,
    (s.ctlAlive = true → ∃ t, exec .referenceClockLost s = .next t ∧
      t = { s with regs := t.regs, dbk := t.dbk, clk := t.clk, boot := { s.boot with phase := .halted }, free := s.free + 1 } ∧
      RegsBut s t (F.PWR_LIMIT_TRIP_CLOCK.key :: dbkKeys) ∧
      Sets s t F.PWR_LIMIT_TRIP_CLOCK.key [(F.PWR_LIMIT_REF_HALT, 1), (F.PWR_LIMIT_TRIP_CLOCK, 1)] ∧
      t.dbk = (s.note 0x0F01 (s.clk.now % 2 ^ 32) (s.clk.now / 2 ^ 32)).dbk ∧ t.clk.counting = false ∧
      ∃ n, n ≤ 250000 ∧ t.clk.now = if s.clk.counting then (s.clk.now + n) % 2 ^ 64 else s.clk.now) ∧
    (s.boot.phase = .halted → ∃ t, exec .referenceReturned s = .next t ∧
      t = { s with regs := t.regs, dbk := t.dbk, nor := t.nor, clk := { s.clk with counting := true },
                   boot := { s.boot with resetReq := some 5 } } ∧
      RegsBut s t (F.PWR_LIMIT_TRIP_CLOCK.key :: dbkKeys) ∧
      (s.fwRuns 7 = true → t.rd F.PWR_LIMIT_TRIP_CLOCK = 0 ∧
        t.nor = { s.nor with book := persisted s.nor.book s.dbk.staging, seq := s.dbk.seqNext } ∧
        t.dbk = ({ s with dbk := { s.dbk with staging := [] } }.note 3 5).dbk) ∧
      (s.fwRuns 7 = false → t.nor = s.nor ∧ t.dbk = (s.note 3 5).dbk ∧ Sets s t F.PWR_LIMIT_TRIP_CLOCK.key []))

/-- With the main rails on, a junction at 115 C or more, and an input held 5 ms at the 62 A clamp, set their trip bit, cut
the main rails and latch the controller off; a power-fail warning whose cause holds counts in PFAIL_COUNT and cuts the
rails without the latch. Everything the package holds is then as at reset, but the other trip bits, SPI NOR, UFS, the
Assize unit, the standby readings and the waiting commands; with the recorder steward alive staged records have
entered the Daybook, after a warning with operating seconds and its own record 0xA040. (02_timing_and_warrants.md R64,
02_timing_and_warrants.md R65, 16_connectors_power_mechanical.md R534, 16_connectors_power_mechanical.md R535,
17_control_space_map.md R565) -/
def Obligations.ShutdownsCutTheMainRails : Prop :=
  ∀ s : State,
    let tripped := fun (t : State) (f : Field) => ∀ g ∈ [F.PWR_LIMIT_TRIP_THERMAL, F.PWR_LIMIT_TRIP_CURRENT,
      F.PWR_LIMIT_TRIP_CLOCK], t.rd g = if g = f then 1 else s.rd g
    let down := fun t : State => RailsGone s t ∧ t.pow.lockedOff = true ∧ (s.fwAlive 7 = false → t.nor = s.nor) ∧
      (s.fwAlive 7 = true → t.nor = { s.nor with book := persisted s.nor.book s.dbk.staging, seq := s.dbk.seqNext })
    (∀ (unit : Fin 5) (tj : BitVec 8), s.pow.mainRails = true → 115 ≤ tj.toNat →
      ∃ t, exec (.thermalShutdown unit tj) s = .next t ∧ down t ∧ tripped t F.PWR_LIMIT_TRIP_THERMAL ∧
        t.pow.tripDie = some unit.val) ∧
    (∀ x, s.pow.clampSince = some x → x + 125000 ≤ s.clk.now →
      ∃ t, exec .currentShutdown s = .next t ∧ down t ∧ tripped t F.PWR_LIMIT_TRIP_CURRENT ∧ t.pow.tripCurrent = true) ∧
    (∀ (mv : Nat) (cause : BitVec 2), s.pow.mainRails = true →
      (cause = 1 ∧ mv < pfWarn) ∨ cause = 2 ∨ (cause = 3 ∧ overVolt ≤ mv) →
      ∃ t, exec (.powerFailWarning mv cause) s = .next t ∧ RailsGone s t ∧ t.pow.inputMv = mv ∧
        (t.pow.pwrEn = true ↔ cause ≠ 2) ∧ (t.pow.overvoltage = true ↔ cause = 3) ∧
        t.rd F.MGT_PFAIL_COUNT = min (s.rd F.MGT_PFAIL_COUNT + 1) F.MGT_PFAIL_COUNT.max ∧
        (s.boot.phase = .halted ∨ s.fwAlive 7 = false → t.nor = s.nor) ∧
        (s.boot.phase ≠ .halted → s.fwAlive 7 = true →
          let u := s.mergeHeld.note 0xA040 (mv / 10) cause.toNat
          t.nor = { s.nor with book := persisted s.nor.book u.dbk.staging, seq := u.dbk.seqNext, opsec := s.clk.opsec,
                               opsecPfail := true }))

/-- From off: raising PWR_EN with the input at or above the turn-on threshold and below overvoltage (below 59.0 V after
one), an input that returns during hold-up, and an overvoltage that has cleared to between the threshold and 59.0 V,
each bring the rails up: main rails on, the input's reading taken, the latch and the overvoltage mark cleared, the
module ready for power good. Below the threshold nothing happens. The thresholds lie at 46.0 to 47.0 V and 59.5 to
60.5 V. (16_connectors_power_mechanical.md R531, 16_connectors_power_mechanical.md R533,
16_connectors_power_mechanical.md R536) -/
def Obligations.TheInputBringsTheRailsUp : Prop :=
  ∀ (s : State) (mv : Nat), s.boot.phase = .off → mv < 655360 →
    let rises := fun t : State =>
      t = { s with regs := t.regs, boot := { State.reset.boot with phase := .railsUp },
                   pow := { s.pow with inputMv := mv, pwrEn := true, mainRails := true, lockedOff := false,
                                       overvoltage := false } } ∧
      RegsBut s t [F.MGT_SLOT_PWR_EN.key, F.PWR_INPUT_VOLTAGE.key] ∧ t.rd F.MGT_SLOT_PWR_EN = 1 ∧
      t.rd F.PWR_INPUT_VOLTAGE = mv / 10
    (46000 ≤ turnOn ∧ turnOn ≤ 47000 ∧ 59500 ≤ overVolt ∧ overVolt ≤ 60500) ∧
    (turnOn ≤ mv → mv < overVolt → (s.pow.overvoltage = true → mv < 59000) →
      ∃ t, exec (.powerUp mv) s = .next t ∧ rises t) ∧
    (mv < turnOn → exec (.powerUp mv) s = .next s ∧ exec (.holdupReturn mv) s = .next s ∧
      exec (.overvoltageCleared mv) s = .next s) ∧
    (turnOn ≤ mv → mv < overVolt → s.pow.pwrEn = true → s.pow.lockedOff = false → s.pow.overvoltage = false →
      ∃ t, exec (.holdupReturn mv) s = .next t ∧ rises t) ∧
    (turnOn ≤ mv → mv < 59000 → s.pow.pwrEn = true → s.pow.overvoltage = true →
      ∃ t, exec (.overvoltageCleared mv) s = .next t ∧ rises t)

/-- With the rails up and every check of the start passed (charter, seed, units, images, driver version), POWER_GOOD
answers a state that is ready: state 1, step 13, the milliseconds taken, start kind 0, account 0 active, seed and
identity keys there, processors 0 to 8 running; the power-cycle count is one higher and the counter at the time taken.
When a step fails with a cause, the module is in service state 3 with it, fields locked, no processor but the recorder
steward running, which runs unless the cause is 9 or its image was refused. An operating system that does not run
leaves the start unfinished with a reset of source 4 asked, the third in a row being cause 7 (log entry 101 is the
model's choice). An unreadable charter is cause 1. A warm reset that source 1 to 5 asked, with the rails on and the
recorder steward neither restarting nor updating, runs the start with its source as kind; the counter goes on, the
power count stays, and with no dump waiting and no loop running the fast tier keeps bytes and poison and every other
store is as at reset. With none asked, or the rails off, or the recorder steward restarting or updating, it changes
nothing. (12_start_firmware_accounts.md R416, 12_start_firmware_accounts.md R417, 12_start_firmware_accounts.md R419,
12_start_firmware_accounts.md R420, 12_start_firmware_accounts.md R429, 01_module_overview.md R44,
13_daybook_and_dump.md R572, 17_control_space_map.md R565, 02_timing_and_warrants.md R59) -/
def Obligations.StartsAndWarmResets : Prop :=
  ∀ (s : State) (env : StartEnv),
    let ms := min env.readyMs 45000
    let fresh := State.reset
    (s.boot.phase ≠ .railsUp → exec (.powerGood env) s = .next s) ∧
    (s.boot.phase = .railsUp →
      (StartPasses s env → ∃ t, exec (.powerGood env) s = .next t ∧ RunsReady s t 0 ms ∧
        t.nor.power = min 65535 (s.nor.power + 1) ∧ t.clk.now = 25000 * ms) ∧
      (∀ u cause step, (s.startReset 0).startSteps env = .error (u, cause, step) → cause ≠ 0 → cause < 256 →
        ∃ t, exec (.powerGood env) s = .next t ∧ t.boot = { u.boot with phase := .service, locked := true } ∧
          t.rd F.GLB_STATE_STATE = 3 ∧ t.rd F.GLB_STATE_SERVICE_CAUSE = cause ∧
          (∀ p : Fin 17, p.val ≠ 7 → t.rd F.GLB_FW_STATE 0 p = 0 ∨ t.rd F.GLB_FW_STATE 0 p = 6) ∧
          t.rd F.GLB_FW_STATE 0 7 = (if u.fwState 7 = 6 then 6 else if cause = 9 then 0 else 2) ∧
          t.mem = u.mem ∧ t.nor = u.nor) ∧
      (SystemFails s env → ∃ t, exec (.powerGood env) s = .next t ∧ t.nor.osFails = s.nor.osFails + 1 ∧
        (s.nor.osFails < 2 → t.boot.phase = .starting ∧ t.boot.resetReq = some 4 ∧ t.rd F.GLB_STATE_STEP = 6) ∧
        (2 ≤ s.nor.osFails → t.boot.phase = .service ∧ t.rd F.GLB_STATE_SERVICE_CAUSE = 7)) ∧
      (charterReadable s.nor.charter = false → ∃ t, exec (.powerGood env) s = .next t ∧ t.boot.phase = .service ∧
        t.rd F.GLB_STATE_SERVICE_CAUSE = 1 ∧ t.rd F.GLB_STATE_START_KIND = 0 ∧ t.rd F.GLB_STATE_STEP = 1 ∧
        t.mem = fresh.mem ∧ t.cpu = fresh.cpu ∧ t.wrt = fresh.wrt ∧ t.accts = [] ∧
        t.sess = fresh.sess ∧ t.exq = [] ∧ t.pending = s.pending ∧ t.asz.legalLog = s.asz.legalLog ∧
        t.nor = { s.nor with opsec := t.nor.opsec, opsecPfail := false, power := min 65535 (s.nor.power + 1) } ∧
        t.clk.now = 25000 * ms)) ∧
    (s.boot.resetReq = none ∨ s.pow.mainRails = false ∨ s.fwState 7 = 3 ∨ s.fwState 7 = 4 →
      exec (.warmReset env) s = .next s) ∧
    (∀ src, s.boot.resetReq = some src → 1 ≤ src → src ≤ 5 → s.pow.mainRails = true → s.fwState 7 ≠ 3 → s.fwState 7 ≠ 4 →
      let keeps := fun (t : State) => t.pending = s.pending ∧ t.nor.power = s.nor.power ∧
        t.rd F.GLB_STATE_START_KIND = src ∧ t.clk.now = (s.clk.now + 25000 * ms) % 2 ^ 64 ∧
        (s.boot.dump = none → (∀ u, (s.unit u).loop = none) →
          t.mem = { fresh.mem with dram := s.mem.dram, dramPoison := s.mem.dramPoison })
      (StartPasses s env → ∃ t, exec (.warmReset env) s = .next t ∧ RunsReady s t src ms ∧ keeps t) ∧
      (charterReadable s.nor.charter = false →
        ∃ t, exec (.warmReset env) s = .next t ∧ t.boot.phase = .service ∧ t.boot.resetReq = none ∧ keeps t ∧
          t.rd F.GLB_STATE_SERVICE_CAUSE = 1 ∧ t.cpu = fresh.cpu ∧ t.wrt = fresh.wrt ∧ t.accts = [] ∧ t.sess = fresh.sess ∧
          (s.fwAlive 7 = false → t.nor.book = s.nor.book) ∧
          (s.fwAlive 7 = true → s.dbk.frozenAt = none → s.dbk.cancelled = none → s.boot.dump = none → s.exq = [] →
            t.nor.book = persisted s.nor.book s.dbk.staging)))

/-- A write of the key 0x5741524D to GLB_RESET, a reset command while the operating system serves the management port, and
an armed watchdog whose time has passed, each leave their source 1, 2 or 4 requested with record 0x0003 when none was,
and change nothing when one was, but that a request replaces the one of source 3 while the dump that asked it waits
for its header; any other key changes nothing. A watchdog kick starts its time anew, a timeout write clamps to 100 to
60,000 ms or disarms with 0, and a clock write sets the target and the clock within 400 to 3,000 MHz.
(12_start_firmware_accounts.md R419, 16_connectors_power_mechanical.md R541, 16_connectors_power_mechanical.md R552,
17_control_space_map.md R567, 17_control_space_map.md R568) -/
def Obligations.ResetsAreRequestedOnce : Prop :=
  ∀ (s : State) (q : Requester) (v : W32),
    let asks := fun (s0 t : State) (src : Nat) =>
      (s0.boot.resetReq = none → OneRecord { s0 with boot := { s0.boot with resetReq := some src } } t [] 0x0003 src 0 0) ∧
      (s0.boot.resetReq = some 3 → s0.boot.dump.isSome = true →
        OneRecord { s0 with boot := { s0.boot with resetReq := some src } } t [] 0x0003 src 0 0) ∧
      (s0.boot.resetReq ≠ none → s0.boot.resetReq = some 3 ∧ s0.boot.dump.isSome = true ∨ t = s0)
    (CanWrite s q 0 F.GLB_RESET_KEY.key → ∃ t, exec (.glbReset q v) s = .next t ∧ NoHeld s t q ∧
      (v = 0x5741524D → asks { s with bus := t.bus } t 1) ∧ (v ≠ 0x5741524D → t = { s with bus := t.bus })) ∧
    (s.running = true → s.rd F.TRS_STATUS_ID_READY = 1 → ∃ t, exec .managementReset s = .next t ∧ asks s t 2) ∧
    (s.ctlAlive = true → 0 < s.rd F.GPC_WDOG_TIMEOUT_MS → s.edge.wdogFrom + 25000 * s.rd F.GPC_WDOG_TIMEOUT_MS ≤ s.clk.now →
      ∃ t, exec .watchdogExpiry s = .next t ∧ asks s t 4) ∧
    (CanWrite s q 10 F.GPC_WDOG_KICK_KICK.key → ∃ t, exec (.gpcWdogKick q none) s = .next t ∧ NoHeld s t q ∧
      t = { s with bus := t.bus, edge := { s.edge with wdogFrom := s.clk.now } }) ∧
    (CanWrite s q 10 F.GPC_WDOG_TIMEOUT_MS.key → ∃ t, exec (.gpcWdogKick q (some v)) s = .next t ∧ NoHeld s t q ∧
      let ms := v.toNat % 65536
      OnlyRegs { s with bus := t.bus, edge := { s.edge with wdogFrom := s.clk.now } } t [F.GPC_WDOG_TIMEOUT_MS.key] ∧
      Sets s t F.GPC_WDOG_TIMEOUT_MS.key [(F.GPC_WDOG_TIMEOUT_MS,
        if ms = 0 then 0 else if ms < 100 then 100 else if 60000 < ms then 60000 else ms)]) ∧
    (CanWrite s q 10 F.GPC_CLOCK_TARGET_MHZ.key → ∃ t, exec (.gpcClock q v) s = .next t ∧ NoHeld s t q ∧
      let f := v.toNat % 4096
      let m := if f < 400 then 400 else if 3000 < f then 3000 else f
      OnlyRegs { s with bus := t.bus } t [F.GPC_CLOCK_TARGET_MHZ.key] ∧
      Sets s t F.GPC_CLOCK_TARGET_MHZ.key [(F.GPC_CLOCK_TARGET_MHZ, m), (F.GPC_CLOCK_ACTUAL_MHZ, m)])

/-- In ready, unattended or service state from step 7 on, a load of an absent or refused processor's image that passes the
class's checks makes it run with the image's version; one that fails a check leaves it refused (state 6), with
TRS_LAST_REFUSE holding class, reason and index, and for Lomef stewards the chip's share retired. A processor that
runs is left alone. IDENTITY_KEYS_READY, from step 5 on with the seed read, derives both identity keys from the seed,
sets ID_READY and shows the first 16 bytes of the public keys' digest in four words; once they exist it changes
nothing. (12_start_firmware_accounts.md R432, 14_trust.md R491, 14_trust.md R494, 14_trust.md R503) -/
def Obligations.ImagesAreVerifiedBeforeTheyRun : Prop :=
  ∀ (s : State) (p : Fin 17) (img : SigBlock),
    let cls := if p.val < 4 then 3 else if p.val < 9 then p.val else 9
    let r := imgCheck cls (s.rd F.TRS_STATUS_ROOT_MIN) (s.floor cls) img
    (s.running = true ∨ s.boot.phase = .service → 7 ≤ s.rd F.GLB_STATE_STEP →
      s.rd F.GLB_FW_STATE 0 p = 0 ∨ s.rd F.GLB_FW_STATE 0 p = 6 →
      ∃ t, exec (.imageLoad p img) s = .next t ∧ t.mem = s.mem ∧ t.cpu = s.cpu ∧ t.wrt = s.wrt ∧ t.nor = s.nor ∧
        (r = 0 → t.rd F.GLB_FW_STATE 0 p = 2 ∧ t.rd F.GLB_FW_VERSION 0 p = field img.hdr 16 4 % 2 ^ 32 ∧
          (t.proc p).image = some img ∧ (∀ k : Fin 17, k ≠ p → t.proc k = s.proc k) ∧ t.boot = s.boot) ∧
        (r ≠ 0 → t.rd F.GLB_FW_STATE 0 p = 6 ∧ t.rd F.TRS_LAST_REFUSE_CLASS = cls ∧
          t.rd F.TRS_LAST_REFUSE_REASON = r ∧ t.rd F.TRS_LAST_REFUSE_INDEX = p.val ∧ t.procs = s.procs ∧
          t.boot.degraded = if p.val < 9 then s.boot.degraded else s.boot.degraded ++ [(6, 0, p.val - 9)])) ∧
    (s.rd F.GLB_FW_STATE 0 p = 2 → exec (.imageLoad p img) s = .next s) ∧
    (∀ seed, s.up = true ∨ s.boot.phase = .starting → 5 ≤ s.rd F.GLB_STATE_STEP → s.rd F.TRS_STATUS_ID_READY = 0 →
      s.trust.seed = some seed → ∃ t, exec .identityKeysReady s = .next t ∧
      let u := { s with trust := { s.trust with keys := t.trust.keys } }
      OnlyRegs u t (F.TRS_STATUS_ID_READY.key :: (List.range 4).map (regKey F.TRS_DEVID_WORD.key 0)) ∧
      Sets u t F.TRS_STATUS_ID_READY.key [(F.TRS_STATUS_ID_READY, 1)] ∧
      ∃ k, t.trust.keys = some k ∧ k = identityKeys seed ∧ k.deviceId = (sha (k.rsaPub ++ k.slhPub)).take 16 ∧
        ∀ i : Fin 4, t.rd F.TRS_DEVID_WORD 0 i = field k.deviceId (4 * i.val) 4) ∧
    (s.rd F.TRS_STATUS_ID_READY = 1 → exec .identityKeysReady s = .next s)

/-- For a requester that may write: the doorbell of a bound queue sets its submission tail to the value modulo the ring's
slots and changes nothing else; of a number no account holds it changes nothing. An acknowledge sets the completion
head; then as many due entries as there are free places, one place always kept empty, leave the due list in order, are
written one after another from the ring's old tail on, and the completion tail moves past them; with nothing to write
only the head changes. Of a number no account holds it changes nothing. (02_timing_and_warrants.md R70,
17_control_space_map.md R559) -/
def Obligations.RingIndicesFollowTheirRegisters : Prop :=
  ∀ (s : State) (r : Requester) (v : W32),
    let n := v.toNat % 256
    let x := v.toNat / 256 % 1024
    (CanWrite s r 1 F.WRT_DOORBELL_QUEUE.key → ∃ t, exec (.wrtDoorbell r v) s = .next t ∧ NoHeld s t r ∧
      (s.queue n = none → t = { s with bus := t.bus }) ∧
      (∀ q, s.queue n = some q → t = { s with bus := t.bus, wrt := t.wrt } ∧
        t.queue n = some { q with subTail := x % q.subSlots } ∧ (∀ m, m ≠ n → t.queue m = s.queue m) ∧
        t.wrt.restarts = s.wrt.restarts)) ∧
    (CanWrite s r 1 F.WRT_CPL_ACK_QUEUE.key → ∃ t, exec (.wrtCplAck r v) s = .next t ∧ NoHeld s t r ∧
      (s.queue n = none → t = { s with bus := t.bus }) ∧
      (∀ q, s.queue n = some q →
        let head := x % q.cplSlots
        let free := q.cplSlots - 1 - (q.cplTail + q.cplSlots - head) % q.cplSlots
        let k := min q.due.length free
        t = { s with bus := t.bus, wrt := t.wrt, mem := t.mem } ∧
        let tail := fun i => if i = 0 then q.cplTail else (q.cplTail + i) % q.cplSlots
        t.queue n = some { q with cplHead := head, due := q.due.drop k, cplTail := tail k } ∧
        (∀ m, m ≠ n → t.queue m = s.queue m) ∧
        t.mem = ((List.range k).foldl (fun (u : State) i =>
          u.accWrite q.account (q.cplVa + 32 * tail i) (q.due.getD i [])) s).mem))

/-- While the module is up, the next announced slot of a queue with a free completion place, nothing due and nothing
moving is answered at once: the head moves on by one, and one entry is written at the completion tail. The first
reason of R80's order that applies refuses it: the batches stay, the refusal counters and the last refusal are set. A
slot the hardware reports unreadable is refused with reason 0x09. Otherwise the batch is appended, its set point being
the lower of the one in force before a rise and a pending one on the SET basis and 60 on the FLOOR basis, with a
deadline at its bound after now, never before the queue's last deadline, and the entry tells deadline and bound.
Nothing else but memory at that entry changes. (02_timing_and_warrants.md R70, 02_timing_and_warrants.md R71,
02_timing_and_warrants.md R72, 02_timing_and_warrants.md R74, 02_timing_and_warrants.md R80) -/
def Obligations.WarrantsAreAdmittedOrRefusedInOrder : Prop :=
  ∀ (s : State) (n : BitVec 8) (q : Queue), s.up = true → s.queue n.toNat = some q →
    q.subHead ≠ q.subTail → (∀ m ∈ s.moves, n.toNat ∉ m.drop) → q.due = [] → q.room = true →
    let r := s.accRead [] q.account (q.subVa + 1024 * q.subHead) 1024
    let d := r.bytes
    let tag := field d 4 4
    let set := s.setBasisOf d
    let point := if set then s.setPointBasis else 60
    let b := bound (s.rates q point) (descPhases d)
    let write := fun e => (s.accWrite q.account (q.cplVa + 32 * q.cplTail) e).mem
    (s.running = true → s.boot.phase ≠ .unattended → q.batches.length < 64 → r.fault = none →
      ∃ t, exec (.batchAdmission n true) s = .next t ∧ t.rd F.WRT_LAST_REFUSE_REASON = 0x09 ∧
        t.queue n.toNat = some { q with subHead := (q.subHead + 1) % q.subSlots,
                                        cplTail := (q.cplTail + 1) % q.cplSlots }) ∧
    let refused := fun (reason tag : Nat) =>
      ∃ t, exec (.batchAdmission n false) s = .next t ∧
        t = { s with regs := t.regs, wrt := t.wrt, mem := t.mem } ∧
        t.queue n.toNat = some { q with subHead := (q.subHead + 1) % q.subSlots,
                                        cplTail := (q.cplTail + 1) % q.cplSlots } ∧
        (∀ m, m ≠ n.toNat → t.queue m = s.queue m) ∧
        t.mem = write (entryBytes 2 0x03 reason n.toNat tag 0 0 0 s.clk.now) ∧
        RegsBut s t [F.WRT_REFUSE_COUNT_COUNT.key, F.WRT_LAST_REFUSE_REASON.key] ∧
        Sets s t F.WRT_LAST_REFUSE_REASON.key [(F.WRT_LAST_REFUSE_REASON, reason), (F.WRT_LAST_REFUSE_QUEUE, n.toNat),
          (F.WRT_LAST_REFUSE_ACCOUNT, q.account)] ∧
        t.rd F.WRT_REFUSE_COUNT_COUNT = min (s.rd F.WRT_REFUSE_COUNT_COUNT + 1) (2 ^ 32 - 1)
    if s.boot.phase = .service then refused 0x06 0
    else if s.boot.phase = .unattended then refused 0x05 0
    else if 64 ≤ q.batches.length then refused 0x03 0
    else if r.fault ≠ none then refused 0x08 0
    else if r.unc = true ∨ r.lost = true then refused 0x09 0
    else if descOk q d = false then refused 0x01 tag
    else if ∃ p ∈ descPhases d, p.held (s.rates q point) q (s.queueEngines q) = false then refused 0x02 tag
    else if s.descMapped q.account d = false then refused 0x08 tag
    else if s.rd F.WRT_CTRL_MAXBOUND_MS * 1000 < b then refused 0x04 tag
    else ∃ t bt, exec (.batchAdmission n false) s = .next t ∧ t = { s with wrt := t.wrt, mem := t.mem } ∧
      t.queue n.toNat = some { q with subHead := (q.subHead + 1) % q.subSlots, cplTail := (q.cplTail + 1) % q.cplSlots,
                                      lastDeadline := bt.deadline, batches := q.batches ++ [bt] } ∧
      (∀ m, m ≠ n.toNat → t.queue m = s.queue m) ∧ bt.bound = b ∧ bt.setPoint = point ∧ bt.admittedAt = s.clk.now ∧
      bt.deadline = max s.clk.now q.lastDeadline + 25 * b ∧ bt.tag = BitVec.ofNat 32 tag ∧ bt.started = false ∧
      t.mem = write (entryBytes 1 0 0 n.toNat tag bt.deadline b 0 s.clk.now)

/-- While the module serves, the first batch of a queue whose dies' dispatchers run starts: if it has not started its
clearing, Lomef and solve orders are read, and a later batch does not move. When the collectives it awaits have
completed on this module and its program reads whole, every core of the queue that is present and not fenced runs from
the entry point with s1 its index in the queue's set, s2 the argument address and every other scalar register zero; a
batch without sequencers runs none; until then no core starts. Of a number no account holds, of a queue with no batch,
or whose first has begun, it changes nothing. (02_timing_and_warrants.md R69, 02_timing_and_warrants.md R71,
05_engines_and_sequencers.md R181, 10_many_modules.md R364) -/
def Obligations.BatchesStartTheirCores : Prop :=
  (∀ (s : State) (n : BitVec 8), (s.queue n.toNat = none ∨ (∃ q, s.queue n.toNat = some q ∧ (q.batches = [] ∨
      ∃ b rest, q.batches = b :: rest ∧ b.begun = true))) → exec (.batchStart n) s = .next s) ∧
  ∀ (s : State) (n : BitVec 8) (q : Queue) (b : Batch) (rest : List Batch), s.running = true →
    s.queue n.toNat = some q → q.batches = b :: rest → b.begun = false →
    (∀ d ∈ s.queueDies q, s.fwState d = 2) →
    let done := ∀ tag ∈ b.tags, (q.account, tag) ∈ s.fab.doneTags
    let prog := s.accRead [] q.account b.progVa b.progBytes
    let whole := (b.progVa = 0 ∨ b.progBytes = 0) ∨ (prog.fault = none ∧ prog.lost = false)
    ∃ t b', exec (.batchStart n) s = .next t ∧ t.queue n.toNat = some { q with batches := b' :: rest } ∧
      (∀ m, m ≠ n.toNat → t.queue m = s.queue m) ∧ b'.started = true ∧ b'.tag = b.tag ∧ b'.deadline = b.deadline ∧
      b'.clr = (if b.started then b.clr else s.readOrders q.account b.clrVa b.clrCount) ∧
      b'.lmf.map (·.bytes) = (if b.started then b.lmf else s.readOrders q.account b.lmfVa b.lmfCount).map (·.bytes) ∧
      b'.exq.map (·.bytes) = (if b.started then b.exq else s.readOrders q.account b.exqVa b.exqCount).map (·.bytes) ∧
      (b'.begun = true ↔ done) ∧ t.mem.dram = s.mem.dram ∧ t.mem.ts = s.mem.ts ∧ t.nor = s.nor ∧ t.dbk = s.dbk ∧
      (¬ done → t.cpu = s.cpu ∧ t.mem = s.mem ∧ b'.running = b.running) ∧
      (done → whole → b.noSeq = false → b'.running = s.queueCores q ∧ ∀ c ∈ s.queueCores q,
        t.pc c = BitVec.ofNat 64 b.entry ∧ (t.core c).fault = none ∧ t.seqState c = 1 ∧ (t.core c).issue = 0 ∧
        t.sreg c 1 = BitVec.ofNat 64 ((maskBits 256 q.cores.toNat).idxOf c) ∧ t.sreg c 2 = b.argVa ∧
        ∀ x : BitVec 5, x ≠ 1 → x ≠ 2 → t.sreg c x = 0) ∧
      (done → b.noSeq = true ∨ ¬ whole → b'.running = [] ∧ t.cpu = s.cpu)

/-- While the module serves, the running batch of a queue whose cores have all reported and whose orders have all
completed leaves the queue: its completion entry carries its tag, deadline, bound and the first status in the order of
R82, or LATE when the counter has passed the deadline with the allowed waiting and no status ranks before LATE; LATE
counts, and code 0x1001 is recorded with queue and account, bound, overrun in whole microseconds and the lowest cause
that applies. With a free place and nothing due the entry is in memory at the completion tail. A batch with an order
still running stays. (02_timing_and_warrants.md R81, 02_timing_and_warrants.md R82, 02_timing_and_warrants.md R83) -/
def Obligations.BatchesCompleteWithTheFirstStatus : Prop :=
  ∀ (s : State) (n : BitVec 8) (q : Queue) (i : Nat) (b : Batch), s.running = true → s.queue n.toNat = some q →
    q.batches.findIdx? (·.started) = some i → q.batches[i]? = some b → b.running = [] → s.moves = [] →
    let limit := b.deadline + b.waited
    let st := firstStatus b.statuses
    let late := limit < s.clk.now ∧ statusRank 0x02 ≤ statusRank st
    let final := if late then 0x02 else st
    ((b.begun = false ∨ ∃ o ∈ b.subs, o.status = none) → exec (.batchComplete n) s = .next s) ∧
    (b.begun = true → (∀ o ∈ b.subs, o.status ≠ none) → q.due = [] → q.room = true →
      ∃ t, exec (.batchComplete n) s = .next t ∧
        t = { s with regs := t.regs, dbk := t.dbk, wrt := t.wrt, mem := t.mem, train := t.train } ∧
        t.queue n.toNat = some { q with batches := q.batches.eraseIdx i, cplTail := (q.cplTail + 1) % q.cplSlots } ∧
        (∀ m, m ≠ n.toNat → t.queue m = s.queue m) ∧
        t.mem = (s.accWrite q.account (q.cplVa + 32 * q.cplTail)
          (entryBytes 2 final 0 n.toNat b.tag.toNat b.deadline b.bound (b.waited / 25) s.clk.now)).mem ∧
        RegsBut s t (F.WRT_LATE_COUNT_COUNT.key :: dbkKeys) ∧
        t.rd F.WRT_LATE_COUNT_COUNT = (if late then min (s.rd F.WRT_LATE_COUNT_COUNT + 1) (2 ^ 32 - 1)
          else s.rd F.WRT_LATE_COUNT_COUNT) ∧
        (late → t.dbk = (s.record 0x1001 (BitVec.ofNat 32 (n.toNat + 256 * q.account)) (BitVec.ofNat 32 b.bound)
          (BitVec.ofNat 32 ((s.clk.now - limit) / 25))
          (if b.broken1 then 1 else if b.broken2 then 2 else if b.above105 then 3 else 0)).dbk) ∧
        (¬ late → t.dbk = s.dbk) ∧ (b.step = none → t.train = s.train))

/-- While the module serves: an array order, tail order or loader transfer that is first unfinished of its kind starts
when it is well formed, its engine is whole, no earlier unfinished order of the core clashes and nothing it reads is
poisoned: it runs, holding what it computed from the stores as they stand. While an earlier order clashes, or a
transfer's share retrains, nothing changes. A malformed one completes ABORTED with its reason, one on a poisoned
engine ABORTED with reason 0; an array or tail order that reads a poisoned word completes MEM_UNCORRECTED with its
counters zero. No store changes and other queues keep their orders. The stores' own errors are those of no word here.
(05_engines_and_sequencers.md R158, 05_engines_and_sequencers.md R159, 05_engines_and_sequencers.md R164,
05_engines_and_sequencers.md R180, 04_dot_product.md R153, 05_engines_and_sequencers.md R177) -/
def Obligations.OrdersStartOnTheirTurn : Prop :=
  ∀ (s : State) (eng : Fin 8192) (pre post : List Order) (o : Order), s.running = true →
    let c := eng.val / 32
    let e := eng.val % 32
    let runs := fun (t : State) (src : Nat) (out : OrdOut) => t.mem = s.mem ∧ OtherQueues s t c src ∧
      t.queueOf c src = pre ++ { o with running := true, res := some out.res, writes := out.writes, amax := out.amax,
                                        capSat := out.capSat, capNonfin := out.capNonfin } :: post
    let fails := fun (t : State) (src : Nat) (r : Result) => t.mem = s.mem ∧ OtherQueues s t c src ∧
      Completed s t c src pre post o r
    (OnTurn s c e (fun x => !x.isTail) pre post o →
      let f := arrF o.word
      let k := (s.arrClass f).getD .fp32
      ∃ t, exec (.arrayOrder eng {}) s = .next t ∧
        (o.reason ≠ 0 → fails t e (noResult 0x04 o.reason 0)) ∧
        (o.reason = 0 → (s.engine eng).poisoned = true → fails t e (noResult 0x04 0 0)) ∧
        (o.reason = 0 → (s.engine eng).poisoned = false → s.noHazard c e o = false → t = s) ∧
        (o.reason = 0 → (s.engine eng).poisoned = false → s.noHazard c e o = true →
          ((∃ p ∈ f.reads k, s.tsPois eng p.1 p.2 = true) → fails t e (noResult 0x20 0 (orderSteps k f.mode f.k))) ∧
          ((∀ p ∈ f.reads k, s.tsPois eng p.1 p.2 = false) → runs t e (s.arrCompute c f k o.ctx)))) ∧
    (OnTurn s c e Order.isTail pre post o →
      let f := tailF o.word
      ∃ t, exec (.tailOrder eng {}) s = .next t ∧
        (o.reason ≠ 0 → fails t e (noResult 0x04 o.reason 0)) ∧
        (o.reason = 0 → (s.engine eng).poisoned = true → fails t e (noResult 0x04 0 0)) ∧
        (o.reason = 0 → (s.engine eng).poisoned = false → s.noHazard c e o = false → t = s) ∧
        (o.reason = 0 → (s.engine eng).poisoned = false → s.noHazard c e o = true →
          ((∃ p ∈ f.reads, s.tsPois eng p.1 p.2 = true) → fails t e (noResult 0x20 0 f.steps)) ∧
          ((∀ p ∈ f.reads, s.tsPois eng p.1 p.2 = false) → runs t e (s.tailCompute c f o.ctx)))) ∧
    (∀ core : Fin 256, core.val = c → OnTurn s c 32 (fun _ => true) pre post o →
      ∃ t, exec (.loaderTransfer core {} {}) s = .next t ∧
        (o.reason ≠ 0 → fails t 32 (noResult 0x04 o.reason 0)) ∧
        (o.reason = 0 → s.noHazard c 32 o = false ∨ s.ldWaits c o.ldF = true → t = s) ∧
        (o.reason = 0 → s.noHazard c 32 o = true → s.ldWaits c o.ldF = false →
          runs t 32 (if o.ldF.out then s.ldOut c o.ldF o.ctx [] else s.ldIn c o.ldF o.ctx []).1))

/-- While the module serves, the completion of the running array order, tail order or transfer writes exactly the bytes it
computed but those for the tile store of an engine fenced meanwhile, delivers its status to the core's batch (LATE in
place of DONE or DONE_FLAGGED after the batch's deadline, and a group fenced or a share lost meanwhile where that
ranks first), merges its capture into LCAPT of its slot (amax by maximum, flags by OR), and leaves the queue, or waits
there for its record when it notifies or did not end DONE. Every other queue keeps its orders. On an engine poisoned
meanwhile an order completes ABORTED and no byte is written. A residue mismatch fences the engine instead: the order
completes ABORTED with reason 0, no byte is written. Without a running order, or while a transfer's share retrains,
nothing changes. (05_engines_and_sequencers.md R166, 05_engines_and_sequencers.md R180, 04_dot_product.md R154,
07_narrow_training_numerics.md R240, 05_engines_and_sequencers.md R191) -/
def Obligations.OrdersDeliverWhenTheyComplete : Prop :=
  ∀ (s : State) (eng : Fin 8192) (pre post : List Order) (o : Order) (r : Result), s.running = true → o.res = some r →
    let c := eng.val / 32
    let e := eng.val % 32
    let n := slotCsr o.ctx.slot 7
    let old := (s.csr c n).toNat
    let late := ∃ b, s.runBatch (s.coreQueue c) = some b ∧ b.deadline + b.waited < s.clk.now
    let st := s.deliverStatus (s.coreAcct c) o.writes
    let delivers := fun (t : State) (src : Nat) => OtherQueues s t c src ∧
      (statusRank st < statusRank r.status → Completed s t c src pre post o (noResult st 0 r.steps)) ∧
      (¬ statusRank st < statusRank r.status → late → r.status < 2 →
        Completed s t c src pre post o { r with status := 0x02 }) ∧
      (¬ statusRank st < statusRank r.status → ¬ late ∨ 2 ≤ r.status → Completed s t c src pre post o r) ∧
      t.mem = ((o.writes.filter (fun w => !s.skips w)).foldl (fun u w => u.applyWr (s.coreAcct c) w) s).mem ∧
      (t.csr c n).toNat = max (old % 2 ^ 32) o.amax.toNat + 2 ^ 32 * b2n (bit old 32 || o.capSat) +
        2 ^ 33 * b2n (bit old 33 || o.capNonfin) ∧
      (∀ d m, d * 4096 + m ≠ c * 4096 + n → t.csr d m = s.csr d m) ∧ t.regs = s.regs ∧ t.dbk = s.dbk
    let aborts := fun (t : State) (src : Nat) => OtherQueues s t c src ∧ t.mem = s.mem ∧
      Completed s t c src pre post o (noResult 0x04 0 0)
    let whole := (s.engine eng).poisoned = false
    (IsRunning s c e (fun x => !x.isTail) pre post o →
      (∃ t, exec (.arrayOrderComplete eng false) s = .next t ∧ (whole → delivers t e) ∧ (¬ whole → aborts t e)) ∧
      (s.engPresent c e = true → s.engFenced c e = false → o.finished = false → (∀ p ∈ pre ++ post, p.finished = true) →
        ∃ t, exec (.arrayOrderComplete eng true) s = .next t ∧ t.engFenced c e = true ∧ aborts t e)) ∧
    (IsRunning s c e Order.isTail pre post o →
      ∃ t, exec (.tailOrderComplete eng) s = .next t ∧ (whole → delivers t e) ∧ (¬ whole → aborts t e)) ∧
    (∀ core : Fin 256, core.val = c → IsRunning s c 32 (fun _ => true) pre post o →
      let waits := o.ldF.out && s.ldWaits c o.ldF
      ∃ t, exec (.loaderTransferComplete core) s = .next t ∧ (waits = false → delivers t 32) ∧ (waits = true → t = s)) ∧
    ((∀ x ∈ s.queueOf c e, x.running = false) → exec (.arrayOrderComplete eng false) s = .next s ∧
      exec (.tailOrderComplete eng) s = .next s) ∧
    (∀ core : Fin 256, (∀ x ∈ s.loader core, x.running = false) → exec (.loaderTransferComplete core) s = .next s)

/-- While the module serves and the core's completion ring has a free slot, the next record is that of the finished order
at the head of the lowest-numbered source: its 32 bytes go to COMPL_BASE plus 32 times COMPL_HEAD of the core store,
status in byte 0, source kind and unit in byte 1, tag, status word and the counters after them; the order leaves its
queue and COMPL_HEAD moves on modulo 256. Every other byte of the stores and every other queue stays. With the ring
full, or no finished head, nothing changes. (05_engines_and_sequencers.md R166, 05_engines_and_sequencers.md R167,
05_engines_and_sequencers.md R187) -/
def Obligations.CompletionRecordsEnterTheRing : Prop :=
  ∀ (s : State) (c : Fin 256), s.running = true →
    let head := (s.csr c 0x011).toNat % 256
    let tail := (s.csr c 0x012).toNat % 256
    let base := csKey c ((s.csr c 0x010).toNat % 2 ^ 21 + 32 * head)
    let due := fun (src : Nat) => ∃ x q, s.queueOf c src = x :: q ∧ x.finished = true
    ((head + 1) % 256 = tail → exec (.completionRecordWrite c) s = .next s) ∧
    ((∀ src, src ≤ 32 → ¬ due src) → exec (.completionRecordWrite c) s = .next s) ∧
    (∀ (src : Nat) (o : Order) (q : List Order) (r : Result), (head + 1) % 256 ≠ tail → src ≤ 32 →
      (∀ x, x < src → ¬ due x) → s.queueOf c src = o :: q → o.finished = true → o.res = some r →
      isPoisoned s.mem.csPoison base 32 = false → base % 8 = 0 →
      ∃ t, exec (.completionRecordWrite c) s = .next t ∧ t.queueOf c src = q ∧ OtherQueues s t c src ∧
        (∀ d m, t.csr d m = if d * 4096 + m = c * 4096 + 0x011 then BitVec.ofNat 64 ((head + 1) % 256) else s.csr d m) ∧
        t.mem = { s.mem with cs := t.mem.cs, csPoison := t.mem.csPoison } ∧ t.regs = s.regs ∧
        (∀ k, k < base ∨ base + 32 ≤ k → mget 0#8 t.mem.cs k = mget 0#8 s.mem.cs k) ∧
        rdBytes t.mem.cs base 32 = natLe 1 r.status ++
          natLe 1 (if src = 32 then o.ldF.firstEngine + 64 else if o.isTail then src + 32 else src) ++
          natLe 2 (o.tag src) ++ natLe 4 r.word.toNat ++ natLe 4 r.sat ++ natLe 4 r.flush ++ natLe 4 r.nan ++
          natLe 4 r.inf ++ natLe 4 r.steps ++ natLe 4 r.first.toNat)

/-- While the module serves: an engine whose order has had no step for ENG_CTRL.HANG_US, and an engine named by a fence
request, when present and not fenced, is fenced, its unfinished orders all complete, the retirement joins the degrade
log and a restart is asked for. A sequencer that runs, or waits for neither orders nor a unit, and has retired nothing
for SEQ_CTRL.HANG_US with no debugger holding it, or a core whose registers meet a parity error, is fenced with every
engine of it, reads state 4, and a batch on it ends ABORTED. A mesh stop fault marks the cluster, clears its stop,
counts, and fences every core of it that is present. No store changes, as long as no host core of an exchequer unit is
among them. (05_engines_and_sequencers.md R191, 05_engines_and_sequencers.md R192, 05_engines_and_sequencers.md R197,
12_start_firmware_accounts.md R427) -/
def Obligations.EngineFaultsFenceTheirUnits : Prop :=
  ∀ s : State, s.running = true → s.nor.degrade.length < 1024 →
    let fencedEngine := fun (t : State) (c e : Nat) =>
      t.rd F.ENG_FENCE_MASK (c / 64) (c % 64) = s.rd F.ENG_FENCE_MASK (c / 64) (c % 64) + 2 ^ e ∧ t.mem = s.mem ∧
      (∀ x ∈ t.queueOf c e, x.finished = true) ∧ OtherQueues s t c e ∧ t.rd F.GLB_STATE_RESTART_NEEDED = 1 ∧
      ∃ d, t.nor.degrade = s.nor.degrade ++ [d] ∧ d.kind = 1 ∧ d.unit = c * 32 + e ∧ d.code = 0x2203
    let fencedCore := fun (t : State) (c : Nat) => t.coreFenced c = true ∧ t.seqState c = 4 ∧
      (∀ e, e < 32 → s.engPresent c e = true → t.engFenced c e = true ∧
        (s.engFenced c e = false → ∀ x ∈ t.queueOf c e, x.finished = true)) ∧
      (∀ x ∈ t.loader c, x.finished = true) ∧ t.rd F.GLB_STATE_RESTART_NEEDED = 1
    let noHost := ∀ u, u < 16 → s.corePresent (hostCore u) = true → s.coreFenced (hostCore u) = false
    (∀ eng : Fin 8192, s.engPresent (eng / 32) (eng % 32) = true → s.engFenced (eng / 32) (eng % 32) = false →
      (∃ x ∈ (s.engine eng).queue, x.running = true) →
      (s.engine eng).stepAt + 25 * s.rd F.ENG_CTRL_HANG_US (eng / 32 / 64) ≤ s.clk.now →
      ∃ t, exec (.engineHang eng) s = .next t ∧ fencedEngine t (eng / 32) (eng % 32)) ∧
    (∀ eng : Fin 8192, (∀ x ∈ (s.engine eng).queue, x.running = false) ∨
      s.clk.now < (s.engine eng).stepAt + 25 * s.rd F.ENG_CTRL_HANG_US (eng / 32 / 64) → exec (.engineHang eng) s = .next s) ∧
    (∀ c : Fin 256, s.coreFenced c = false → s.corePresent c = true →
      s.seqState c = 1 ∨ (s.seqState c = 2 ∧ (s.core c).wait ≠ .orders ∧ (s.core c).wait ≠ .unit) →
      (s.core c).held = false → (s.core c).retiredAt + 25 * s.rd F.SEQ_CTRL_HANG_US (c / 64) ≤ s.clk.now →
      ∃ t, exec (.sequencerHang c) s = .next t ∧ fencedCore t c ∧ t.mem = s.mem ∧
        (t.core c).fault = some (firstStatus ((s.core c).fault.toList ++ [0x04]))) ∧
    (∀ c : Fin 256, s.coreFenced c = false → s.corePresent c = true → noHost → (∀ u, u < 16 → hostCore u ≠ c) →
      ∃ t, exec (.sequencerParityError c) s = .next t ∧ fencedCore t c ∧ t.mem = s.mem) ∧
    (∀ (die : Fin 4) (cl : Fin 8), bit (s.rd F.SEQ_CLUSTER_FENCE_MASK die) cl = false → noHost →
      (∀ u, u < 16 → hostCore u / 8 ≠ die.val * 8 + cl.val) → ∃ t, exec (.meshStopFault die cl) s = .next t ∧
        bit (t.rd F.SEQ_CLUSTER_FENCE_MASK die) cl = true ∧ bit (t.rd F.MSH_STATUS_STOPS die) cl = false ∧
        (∀ k : Fin 8, s.corePresent (die.val * 64 + cl.val * 8 + k.val) = true →
          s.coreFenced (die.val * 64 + cl.val * 8 + k.val) = false → fencedCore t (die.val * 64 + cl.val * 8 + k.val)) ∧
        t.mem = s.mem) ∧
    (∀ (q : Requester) (die : Fin 4) (v : W32), CanWrite s q 17 F.ENG_FENCE_REQ_ENGINE.key → noHost →
      let c := die.val * 64 + v.toNat % 2048 / 32
      let e := v.toNat % 32
      ∃ t, exec (.engFenceReq q die v) s = .next t ∧
        (s.engPresent c e = true → s.engFenced c e = false → fencedEngine t c e ∧ NoHeld s t q) ∧
        (s.engPresent c e = false ∨ s.engFenced c e = true → t = { s with bus := t.bus } ∧ NoHeld s t q))

/-- While the module is up a reading of a present device is stored in MEM_TEMP. While the memory steward runs and is not
absent, the device's row rises at once with its temperature, falls by one after 100 ms at 2 C below the row's
threshold, and its multiplier is the row's or the floor, if higher, capped above 105 C; other devices keep theirs.
When the steward's heartbeat has been absent 100 ms every device goes to 4x with record 0x3009. While the module
serves and the steward runs, 1 ms after the last slice, a retraining slice of the lowest channel that is due counts
one, and the sixth at most leaves the channel trained at its device's temperature. (08_memory_tiers.md R285,
08_memory_tiers.md R286, 08_memory_tiers.md R292) -/
def Obligations.RefreshFollowsTemperature : Prop :=
  ∀ s : State,
    (∀ (dev : Fin 128) (x : BitVec 8), s.up = true → s.groupPresent (dev / 32) (dev % 32 / 4) = true →
      let d := dev.val / 32
      let g := dev.val % 32 / 4
      let v := dev.val % 4
      let hot := if x.toNat ≤ 85 then 0 else if x.toNat ≤ 95 then 1 else if x.toNat ≤ 105 then 2 else 3
      let cur := if s.cappedOf d g v then 3 else s.multOf d g v
      let since := mget 0 s.ms.coolSince (dev.val * 4 + cur)
      let row := if cur < hot then hot
        else if cur ≠ 0 ∧ x.toNat + 2 ≤ rowLimit cur ∧ since ≠ 0 ∧ since - 1 + 2500000 ≤ s.clk.now then cur - 1 else cur
      let m := max (min row 2) (s.rd F.MEM_CTRL_REF_FLOOR d)
      ∃ t, exec (.temperatureRead dev x) s = .next t ∧ t = { s with regs := t.regs, dbk := t.dbk, ms := t.ms } ∧
        t.ms = { s.ms with coolSince := t.ms.coolSince } ∧ t.rd (tempField v) d g = x.toNat ∧
        RegsBut s t (regKey F.MEM_TEMP_DEV0.key d g :: regKey F.MEM_REFRESH_MULT.key d g ::
          ((List.range 4).map (fun k => regKey F.MEM_CH_STATE_STATE.key d (g * 16 + v * 4 + k)) ++ dbkKeys)) ∧
        (s.fwRuns 4 = false ∨ s.rd F.MEM_STATUS_STEWARD_ABSENT d = 1 → t.dbk = s.dbk ∧
          Sets s t (regKey F.MEM_REFRESH_MULT.key d g) []) ∧
        (s.fwRuns 4 = true → s.rd F.MEM_STATUS_STEWARD_ABSENT d = 0 → t.multOf d g v = m ∧
          (t.cappedOf d g v = true ↔ row = 3) ∧
          (∀ w, w < 4 → w ≠ v → t.multOf d g w = s.multOf d g w ∧ t.cappedOf d g w = s.cappedOf d g w) ∧
          t.dbk = (let u := if m ≠ s.multOf d g v then s.note 0x3007 dev (2 ^ m) x.toNat else s
            if row = 3 ∧ cur ≠ 3 then u.note 0x3008 dev x.toNat else u).dbk)) ∧
    (∀ x, s.up = true → s.fwRuns 4 = false → s.rd F.MEM_STATUS_STEWARD_ABSENT = 0 → (s.proc 4).downSince = some x →
      x + 2500000 ≤ s.clk.now → ∃ t, exec .memoryStewardAbsent s = .next t ∧
        t = { s with regs := t.regs, dbk := t.dbk } ∧ t.dbk = (s.note 0x3009).dbk ∧
        ∀ d, d < 4 → t.rd F.MEM_STATUS_STEWARD_ABSENT d = 1 ∧ ∀ g, g < 8 → t.rd F.MEM_REFRESH_MULT d g = 0xAA) ∧
    (s.fwRuns 4 = true → exec .memoryStewardAbsent s = .next s) ∧
    (∀ ch : Fin 512, s.running = true → s.fwRuns 4 = true → (∀ x, s.ms.lastSlice = some x → x + 25000 ≤ s.clk.now) →
      s.retrainDue ch = true → (∀ c, c < ch.val → s.retrainDue c = false) →
      let n := mget 0 s.ms.slices ch + 1
      let key := regKey F.MEM_CH_STATE_STATE.key (ch / 128) (ch % 128)
      ∃ t, exec (.retrainingSlice ch) s = .next t ∧ OnlyRegs { s with ms := t.ms, free := s.free + 1 } t [key] ∧
        t.ms = { s.ms with lastSlice := some s.clk.now, slices := t.ms.slices } ∧
        ((mget 0 t.ms.slices ch = n ∧ n ≠ 6 ∧ Sets s t key []) ∨ (mget 0 t.ms.slices ch = 0 ∧
          Sets s t key [(F.MEM_CH_STATE_TRAIN_TEMP, s.chanTemp ch)])))

/-- While the module is up: a patrol read of an active, unfenced channel with scrubbing on changes only the scrub position
when clean, counts a corrected error with its channel, and poisons the grain of an uncorrectable one, counts it and,
short of the sixteenth of its group within 24 h, records it as 0x3010; the slot moves on after the die's highest
channel, counting passes. A vault scrub of a share whose link and steward run and whose scrubbing is on counts, and
poisons, the same way in its chip, and moves on one grain modulo 2^32. No byte of memory changes. (08_memory_tiers.md
R290, 08_memory_tiers.md R294, 08_memory_tiers.md R288) -/
def Obligations.ScrubsReadOneGrainAndMoveOn : Prop :=
  ∀ s : State, s.up = true →
    (∀ ch : Fin 512, s.chanActive ch = true → s.chanFenced ch = false → s.rd F.MEM_CTRL_SCRUB_EN (ch / 128) = 1 →
      let d := ch.val / 128
      let slot := s.rd F.MEM_SCRUB_POS_SLOT d
      let last := regKey F.MEM_LAST_ERR_CHANNEL.key d 0
      let moves := fun (t : State) =>
        let rest := ∃ c, c < 128 ∧ ch.val % 128 < c ∧ s.groupPresent d (c / 16) = true ∧ s.groupFenced d (c / 16) = false
        (rest → Sets s t (regKey F.MEM_SCRUB_POS_SLOT.key d 0) []) ∧
        (¬ rest → t.rd F.MEM_SCRUB_POS_SLOT d = (slot + 1) % 2 ^ 24 ∧
          t.rd F.MEM_SCRUB_POS_PASSES d = if slot + 1 = 2 ^ 24 then min (s.rd F.MEM_SCRUB_POS_PASSES d + 1) 255
            else s.rd F.MEM_SCRUB_POS_PASSES d)
      (∃ t, exec (.patrolScrub ch .none) s = .next t ∧ OnlyRegs s t [regKey F.MEM_SCRUB_POS_SLOT.key d 0] ∧ moves t) ∧
      (∃ t, exec (.patrolScrub ch .corrected) s = .next t ∧ moves t ∧
        OnlyRegs s t [regKey F.MEM_SCRUB_POS_SLOT.key d 0, regKey F.MEM_ERR_CE_COUNT.key d 0, last] ∧
        t.rd F.MEM_ERR_CE_COUNT d = min (s.rd F.MEM_ERR_CE_COUNT d + 1) (2 ^ 32 - 1) ∧
        Sets s t last [(F.MEM_LAST_ERR_CHANNEL, ch % 128), (F.MEM_LAST_ERR_KIND, 1)]) ∧
      (∃ t, exec (.patrolScrub ch .uncorrectable) s = .next t ∧
        t.mem = { s.mem with dramPoison := addPoison s.mem.dramPoison (wordsOf (ch.val * 2 ^ 32 + slot * 256) 256) } ∧
        t.rd F.MEM_ERR_UE_COUNT d = min (s.rd F.MEM_ERR_UE_COUNT d + 1) (2 ^ 32 - 1) ∧
        Sets s t last [(F.MEM_LAST_ERR_CHANNEL, ch % 128), (F.MEM_LAST_ERR_KIND, 7)] ∧
        t = { s with regs := t.regs, dbk := t.dbk, mem := t.mem, ms := t.ms, nor := t.nor } ∧
        ((s.within (mget [] s.ms.uncTimes (ch / 16)) (second 86400)).length < 15 →
          moves t ∧ t.dbk = (s.note 0x3010 ch slot).dbk))) ∧
    (∀ chip : Fin 8, s.rd F.PCI_PORT_STATE 0 chip = 2 → s.fwRuns (9 + chip) = true → s.rd F.LMF_CTRL_SCRUB_EN chip = 1 →
      let at_ := mget 0 s.ms.vaultScrub chip
      let moved := fun (t : State) => t.ms = { s.ms with vaultScrub := t.ms.vaultScrub } ∧
        mget 0 t.ms.vaultScrub chip = (at_ + 1) % 2 ^ 32 ∧
        ∀ k, k ≠ chip.val → mget 0 t.ms.vaultScrub k = mget 0 s.ms.vaultScrub k
      (∃ t, exec (.vaultScrub chip .none) s = .next t ∧ t = { s with ms := t.ms } ∧ moved t) ∧
      (∃ t, exec (.vaultScrub chip .corrected) s = .next t ∧ moved t ∧
        OnlyRegs { s with ms := t.ms } t [regKey F.LMF_VAULT_CE_COUNT.key chip 0] ∧
        t.rd F.LMF_VAULT_CE_COUNT chip = min (s.rd F.LMF_VAULT_CE_COUNT chip + 1) (2 ^ 32 - 1)) ∧
      (∃ t, exec (.vaultScrub chip .uncorrectable) s = .next t ∧ moved t ∧
        OneRecord { s with ms := t.ms, mem := t.mem } t [regKey F.LMF_VAULT_UE_COUNT.key chip 0] 0x3010 (1024 + chip)
          (at_ * 256 % 2 ^ 32) 0 ∧
        t.rd F.LMF_VAULT_UE_COUNT chip = min (s.rd F.LMF_VAULT_UE_COUNT chip + 1) (2 ^ 32 - 1) ∧
        (let ws := wordsOf (vaultBase + chip * 2 ^ 40 + at_ * 256) 256
         t.mem = { s.mem with dramPoison := addPoison s.mem.dramPoison ws })))

/-- A write of MEM_FENCE_REQ naming a present group that is not fenced sets its fence bit, puts its 16 channels in state
4, records 0x3006 with cause 4 and 0x0040, adds one entry to the degrade log and asks for a restart; memory keeps
every byte and word of poison, and afterwards a write to a place of the group changes no memory. For an absent or
fenced group nothing changes. (01_module_overview.md R45, 08_memory_tiers.md R289, 12_start_firmware_accounts.md R427) -/
def Obligations.GroupFencesDiscardAndAreLogged : Prop :=
  ∀ (s : State) (q : Requester) (die : Fin 4) (v : W32), CanWrite s q 18 F.MEM_FENCE_REQ_GROUP.key →
    let g := v.toNat % 8
    (s.groupPresent die g = false ∨ s.groupFenced die g = true →
      ∃ t, exec (.memFenceReq q die v) s = .next t ∧ t = { s with bus := t.bus } ∧ NoHeld s t q) ∧
    (s.groupPresent die g = true → s.groupFenced die g = false → s.nor.degrade.length < 1024 →
      ∃ t d, exec (.memFenceReq q die v) s = .next t ∧ NoHeld s t q ∧ t.mem = s.mem ∧ t.cpu = s.cpu ∧ t.wrt = s.wrt ∧
        t.rd F.MEM_STATUS_FENCED die = s.rd F.MEM_STATUS_FENCED die + 2 ^ g ∧ t.rd F.GLB_STATE_RESTART_NEEDED = 1 ∧
        t.dbk = ((s.note 0x3006 die g 4).note 0x0040 3 g 0x3006).dbk ∧
        (∀ c, c < 128 → t.rd F.MEM_CH_STATE_STATE die c = if c / 16 = g then 4 else s.rd F.MEM_CH_STATE_STATE die c) ∧
        t.nor.degrade = s.nor.degrade ++ [d] ∧ d.kind = 3 ∧ d.die = die.val ∧ d.unit = g ∧ d.code = 0x3006 ∧
        d.seq = t.nor.degradeCtr ∧ s.nor.degradeCtr < t.nor.degradeCtr ∧
        ∀ (key : Nat) (b : List Byte), key < vaultBase → key / 2 ^ 32 / 128 = die.val → key / 2 ^ 32 % 128 / 16 = g →
          t.wrKey key b = t)

/-- For a requester that may write: writing STR_TBL_DATA while not armed sets the selected entry to the value, at most the
highest channel number, every other entry staying, and once armed changes none; reading it answers the entry; either
moves INDEX on under AUTOINC. Writing ARMED 1 arms a die whose tables meet the even fill, setting size and dump base,
and makes record 0x3030 for tables that do not; a write that would change RT_UNITS while locked makes record 0x0011
and leaves it. (08_memory_tiers.md R269, 08_memory_tiers.md R272, 00_scope.md R21) -/
def Obligations.SteeringTablesAreArmedWhenEven : Prop :=
  ∀ (s : State) (q : Requester) (die : Fin 4) (v : W32), CanWrite s q 19 F.STR_CTRL_ARMED.key →
    let i := s.rd F.STR_TBL_INDEX_INDEX die
    let idx := regKey F.STR_TBL_INDEX_INDEX.key die 0
    let moved := fun (t : State) => Sets s t idx (if s.rd F.STR_TBL_INDEX_AUTOINC die = 1
      then [(F.STR_TBL_INDEX_INDEX, (i + 1) % 8192)] else [])
    let steer := fun (u : State) j => tblEntry u.ms.filled u.ms.steer 0 s.nChan j
    let locals := fun (u : State) j => tblEntry u.ms.filled u.ms.localTbl (die * 8192) (s.nLocal die) j
    (∃ t, exec (.strTblData q die (some v)) s = .next t ∧ NoHeld s t q ∧ moved t ∧
      OnlyRegs { s with bus := t.bus, ms := t.ms } t [idx] ∧
      (s.rd F.STR_CTRL_ARMED die = 1 → t.ms = s.ms) ∧
      (s.rd F.STR_CTRL_ARMED die = 0 → s.rd F.STR_TBL_INDEX_SEL die = 0 → t.ms = { s.ms with steer := t.ms.steer } ∧
        ∀ j, steer t j = if j = i then min (v.toNat % 512) (s.nChan - 1) else steer s j) ∧
      (s.rd F.STR_CTRL_ARMED die = 0 → s.rd F.STR_TBL_INDEX_SEL die = 1 → t.ms = { s.ms with localTbl := t.ms.localTbl } ∧
        ∀ j, locals t j = if j = i then min (v.toNat % 512) (s.nLocal die - 1) else locals s j)) ∧
    (s.ctlRead q = true → reads q 19 = true → ∃ t, exec (.strTblData q die none) s = .next t ∧ moved t ∧
      OnlyRegs { s with bus := t.bus } t [idx] ∧ t.bus.rdata.find? (fun e => e.1 == q) =
        some (q, BitVec.ofNat 64 (if s.rd F.STR_TBL_INDEX_SEL die = 1 then locals s i else steer s i))) ∧
    (let hit := s.boot.locked = true ∧ v.toNat / 256 % 128 ≠ s.rd F.STR_CTRL_RT_UNITS die
     let a := pageBase 19 die
     let u := if hit then s.note 0x0011 (a % 2 ^ 32) (a / 2 ^ 32) v.toNat else s
     ∃ t, exec (.armTables q die v) s = .next t ∧ NoHeld s t q ∧ t = { s with bus := t.bus, regs := t.regs, dbk := t.dbk } ∧
      (v.toNat % 2 = 0 ∨ s.rd F.STR_CTRL_ARMED die = 1 → RegsBut s t dbkKeys ∧ t.dbk = u.dbk) ∧
      (v.toNat % 2 = 1 → s.rd F.STR_CTRL_ARMED die = 0 →
        ((s.steerOk && s.localOk die) = true → t.dbk = u.dbk ∧
          Sets s t (regKey F.STR_CTRL_ARMED.key die 0) [(F.STR_CTRL_ARMED, 1)] ∧
          t.rd F.STR_SIZE_BYTES die = s.steeredSize % (F.STR_SIZE_BYTES.max + 1) ∧
          t.rd F.STR_DUMP_BASE_ADDR die = s.dumpBase % (F.STR_DUMP_BASE_ADDR.max + 1)) ∧
        ((s.steerOk && s.localOk die) = false → RegsBut s t dbkKeys ∧ t.dbk = (u.note 0x3030 0 0 0).dbk)))

/-- For a requester that may write, the run commands act on the entry that STR_RUN_INDEX names: a write of a run that is
invalid, or that no reason of R279 refuses, puts it there with reason 0, and then no other valid run holds any of its
pages nor, for its account, any of its virtual pages; a refused one leaves the table, sets the reason and makes record
0x3030; an invalidate clears only VALID; a read back loads the data registers. Every other entry stays.
(08_memory_tiers.md R278, 08_memory_tiers.md R279, 08_memory_tiers.md R280) -/
def Obligations.RunsAreWrittenOnlyWhenSound : Prop :=
  ∀ (s : State) (q : Requester) (die : Fin 4), CanWrite s q 19 F.STR_RUN_CMD_CMD.key →
    let i := s.rd F.STR_RUN_INDEX_INDEX die
    let r := s.runRegs die
    let why := if r.valid = true then s.runReason i r else 0
    let data := [F.STR_RUN_DATA0_VPAGE, F.STR_RUN_DATA1_PPAGE, F.STR_RUN_DATA2_COUNT, F.STR_RUN_DATA3_ACCOUNT].map
      (fun f => regKey f.key die 0)
    let shows := fun (t : State) (x : Run) =>
      t.rd F.STR_RUN_DATA0_VPAGE die = x.vpage % (F.STR_RUN_DATA0_VPAGE.max + 1) ∧
      t.rd F.STR_RUN_DATA1_PPAGE die = x.ppage % (F.STR_RUN_DATA1_PPAGE.max + 1) ∧
      t.rd F.STR_RUN_DATA2_COUNT die = x.count % (F.STR_RUN_DATA2_COUNT.max + 1) ∧
      t.rd F.STR_RUN_DATA3_VALID die = b2n x.valid ∧ t.rd F.STR_RUN_DATA3_WRITE die = b2n x.write
    let keeps := fun (t : State) (x : Run) => t.ms = { s.ms with runs := t.ms.runs } ∧ t.run i = x ∧
      ∀ j, j ≠ i → t.run j = s.run j
    (∃ t, exec (.runWrite q die) s = .next t ∧ NoHeld s t q ∧ t.rd F.STR_RUN_STATUS_REASON die = why ∧
      (why = 0 → keeps t r ∧ OnlyRegs { s with bus := t.bus, ms := t.ms } t [regKey F.STR_RUN_STATUS_REASON.key die 0] ∧
        (r.valid = true → ∀ p ∈ s.ms.runs, p.1 ≠ i → p.2.valid = true →
          (∀ pg, ¬ ((r.ppage ≤ pg ∧ pg < r.ppage + r.count) ∧ p.2.ppage ≤ pg ∧ pg < p.2.ppage + p.2.count)) ∧
          (p.2.account = r.account →
            ∀ pg, ¬ ((r.vpage ≤ pg ∧ pg < r.vpage + r.count) ∧ p.2.vpage ≤ pg ∧ pg < p.2.vpage + p.2.count)))) ∧
      (why ≠ 0 → shows t (s.run i) ∧ OneRecord { s with bus := t.bus } t
        (regKey F.STR_RUN_STATUS_REASON.key die 0 :: data) 0x3030 r.account why r.vpage)) ∧
    (∃ t, exec (.runInvalidate q die) s = .next t ∧ NoHeld s t q ∧ keeps t { s.run i with valid := false } ∧
      OnlyRegs { s with bus := t.bus, ms := t.ms } t data ∧ shows t { s.run i with valid := false }) ∧
    (∃ t, exec (.runReadBack q die) s = .next t ∧ NoHeld s t q ∧ OnlyRegs { s with bus := t.bus } t data ∧
      shows t (s.run i))

/-- While the module is up a running Lomef link that goes down reads retraining with width 0. Retraining that ends within
100 ms at the width it came up with brings it back with record 0x5102; any other end loses the chip and its share:
state down, width 0, LOST, every other register of its window reading zero, record 0x5101. The retraining is counted.
No memory changes. (08_memory_tiers.md R297, 17_control_space_map.md R563) -/
def Obligations.LomefLinksRetrainOrAreLost : Prop :=
  ∀ (s : State) (chip : Fin 8), s.up = true →
    let pci := regKey F.PCI_PORT_STATE.key 0 chip
    let link := regKey F.LMF_LINK_WIDTH.key chip 0
    let up := if (5, 0, chip.val) ∈ s.boot.degraded then 8 else 16
    (s.rd F.PCI_PORT_STATE 0 chip = 2 → ∃ t, exec (.pcieLinkDown chip) s = .next t ∧ OnlyRegs s t [pci, link] ∧
      Sets s t pci [(F.PCI_PORT_STATE, 3), (F.PCI_PORT_WIDTH, 0)] ∧ Sets s t link [(F.LMF_LINK_WIDTH, 0)]) ∧
    (s.rd F.PCI_PORT_STATE 0 chip ≠ 2 → exec (.pcieLinkDown chip) s = .next s) ∧
    (∀ w ms : Nat, s.rd F.PCI_PORT_STATE 0 chip ≠ 3 → exec (.pcieLinkRetrainEnd chip w ms) s = .next s) ∧
    (∀ w ms : Nat, s.rd F.PCI_PORT_STATE 0 chip = 3 → ∃ t, exec (.pcieLinkRetrainEnd chip w ms) s = .next t ∧
      t.rd F.PCI_PORT_RETRAINS 0 chip = min (s.rd F.PCI_PORT_RETRAINS 0 chip + 1) F.PCI_PORT_RETRAINS.max ∧
      t = { s with regs := t.regs, dbk := t.dbk } ∧
      (w = up ∧ ms ≤ 100 → RegsBut s t ([pci, link, regKey F.PCI_PORT_RETRAINS.key 0 chip] ++ dbkKeys) ∧
        t.rd F.PCI_PORT_STATE 0 chip = 2 ∧ t.rd F.PCI_PORT_WIDTH 0 chip = up ∧ t.rd F.LMF_LINK_WIDTH chip = up ∧
        t.dbk = (s.note 0x5102 chip ms).dbk) ∧
      (w ≠ up ∨ 100 < ms → t.rd F.PCI_PORT_STATE 0 chip = 4 ∧ t.rd F.PCI_PORT_WIDTH 0 chip = 0 ∧
        t.rd F.LMF_STATUS_LOST chip = 1 ∧ t.rd F.LMF_STATUS_READY chip = 0 ∧ t.rd F.LMF_LINK_WIDTH chip = 0 ∧
        (∀ (r : RegInfo) (x : Nat), r.page = 32 → r.key ≠ F.LMF_STATUS_LOST.key → t.readReg r chip x = 0) ∧
        t.shareUp chip = false ∧ t.dbk = (s.note 0x5101 chip (if ms ≤ 100 then w else 0)).dbk))

/-- While the module serves, the first post of a kind whose keeper is a running dispatcher leaves the queue. A post in
range whose record is readable and valid changes the record's current-step bytes only: CUR_AMAX by maximum and SAT and
NONFIN by OR for a scale-ledger record, STEP_WATCHED and STEP_EXCEED by OR for a layer record; any other post changes
no byte and makes one record of code 0x2506. LAYER_RESET in range of a readable valid record, at a rung from the
record's floor to 3, clears WINDOW, sets RUNG, makes record 0x2502 and ends DONE; else it is refused with the first
failing reason. (07_narrow_training_numerics.md R241, 07_narrow_training_numerics.md R242,
07_narrow_training_numerics.md R253, 07_narrow_training_numerics.md R257) -/
def Obligations.PostsMergeAndLayersReset : Prop :=
  (∀ (s : State) (die : Fin 4) (pre post : List Post) (p : Post) (a : Acct) (dev : DevEvents), s.running = true →
    s.fwRuns die = true → s.train.posts = pre ++ p :: post → s.keeper p.id = some die.val → s.acct p.account = some a →
    (∀ q ∈ pre, q.layer = p.layer → s.keeper q.id ≠ some die.val) →
    let c : Instr := if p.layer = true then .layerOutcomeMerge die dev else .ledgerMerge die dev
    let n := if p.layer = true then 16 else 128
    let va := (if p.layer = true then a.layerVa else a.ledgerVa) + n * p.id
    let count := if p.layer = true then a.layerCount else a.ledgerCount
    let u := { s with train := { s.train with posts := pre ++ post } }
    let r := u.recRead dev.bad p.account va n
    let v := (u.devAccess dev).takeUnc p.account r.fresh
    let valid := if p.layer = true then layerValid r.bytes else ledgerValid r.bytes
    let kind := if p.layer = true then 2 else 1
    (count ≤ p.id → ∃ t, exec c s = .next t ∧ OneRecord u t [] 0x2506 p.account p.id kind) ∧
    (p.id < count → r.ok = false → ∃ t, exec c s = .next t ∧ OneRecord v t [] 0x2506 p.account p.id (kind + 4)) ∧
    (p.id < count → r.ok = true → valid = false →
      ∃ t, exec c s = .next t ∧ OneRecord v t [] 0x2506 p.account p.id kind) ∧
    (p.id < count → r.ok = true → valid = true → ∃ t b, exec c s = .next t ∧ t = v.accWrite p.account va b ∧ b.length = n ∧
      (p.layer = true → (∀ k, k ≠ 4 → b[k]? = r.bytes[k]?) ∧ field b 4 1 = Nat.lor (field r.bytes 4 1)
        (if p.data = 0 then 1 else if p.data = 1 then 3 else 0)) ∧
      (p.layer = false → (∀ k, k < 64 ∨ 68 < k → b[k]? = r.bytes[k]?) ∧
        field b 64 4 = max (field r.bytes 64 4) (p.data.toNat % 2 ^ 32) ∧
        field b 68 1 = Nat.lor (field r.bytes 68 1) (p.data.toNat / 2 ^ 32 % 4)))) ∧
  (∀ (s : State) (slot : BitVec 10) (acct : Nat) (b : List Byte), CmdReady s slot 0x09 acct b →
    let layer := field b 16 2
    let rung := field b 18 1
    (s.keeper layer = none → exec (.layerReset slot) s = .next s) ∧
    (s.keeper layer ≠ none → s.acct acct = none → ∃ t, exec (.layerReset slot) s = .next t ∧ CmdEnds s t slot 3 2 0) ∧
    (∀ a, s.keeper layer ≠ none → s.acct acct = some a →
      let va := a.layerVa + 16 * layer
      let r := s.recRead [] acct va 16
      let found := layer < a.layerCount ∧ r.ok = true ∧ layerValid r.bytes = true
      let fits := field r.bytes 3 1 % 4 ≤ rung ∧ rung ≤ 3
      ∃ t, exec (.layerReset slot) s = .next t ∧
        (¬ found → CmdEnds s t slot 3 2 0) ∧
        (found → ¬ fits → CmdEnds s t slot 3 1 0) ∧
        (found → fits → ∃ w, w.length = 16 ∧ field w 0 2 = 0 ∧ field w 2 1 % 4 = rung ∧
          (∀ k, 3 ≤ k → w[k]? = r.bytes[k]?) ∧
          CmdEnds ((s.accWrite acct va w).note 0x2502 acct layer rung) t slot 0 0 0)))

/-- While the module serves: the front order of a share, not started, waits while its link retrains, ends LINK_LOST on a
lost share, and ABORTED with record 0x5007 when a field breaks R322 or R311. A sound ESCROW of an unhealthy step ends
ORDER_REFUSED, waits while no buffer is free, else writes header, gradient and segment CRCs into the first free buffer
and holds its sum of squares; its completion seals the header. A sound UPDATE is refused, waits, fails on an
unreadable escrow with record 0x5002, or applies; its completion posts its copies, writes each tensor's step at
READY_VA and the posted step, and marks the escrow applied; a Groat copy's scale outside R106 stops it ABORTED. A
watch refresh ends in the step that runs it. A completed order leaves the queue, its share idles, its status joins its
batch, an ESCROW is reported. (09_training_step.md R322, 09_training_step.md R311, 09_training_step.md R325,
09_training_step.md R326, 09_training_step.md R327, 09_training_step.md R333, 09_training_step.md R334) -/
def Obligations.LomefOrdersRunInShareOrder : Prop :=
  ∀ (s : State) (chip : Fin 8) (o : LOrder) (rest : List LOrder) (dev : DevEvents), s.running = true →
    mget [] s.train.lomef chip = o :: rest →
    let c : Instr := if o.kind = 2 then .update chip dev else if o.kind = 3 then .watchRefresh chip dev else .escrow chip dev
    let e : Instr := if o.kind = 2 then .updateComplete chip else .escrowComplete chip
    let up := s.rd F.PCI_PORT_STATE 0 chip = 2
    let v := s.lmfBusy chip o
    let l := v.tensors dev.bad chip o
    let u := (v.devAccess dev).takeUnc o.account l.2.2
    let ts := l.1.zipIdx.map (fun p => tensorOf p.2 p.1)
    let ext := escExtent ts
    let wrong := (l.1.zipIdx.filterMap (fun p => (tensorBad (u.agreed 6) p.1).map (· + 192 * p.2))).head?
    let good := up ∧ o.bad = none ∧ l.2.1 = 0 ∧ wrong = none
    let front := fun (t : State) (o' : LOrder) => (∀ k, mget [] t.train.lomef k =
      if k = chip.val then o' :: rest else mget [] s.train.lomef k) ∧ t.train.health = s.train.health
    let stops := fun (w : State) (o' : LOrder) st => ∃ t, exec c s = .next t ∧ t = { w with train := t.train } ∧
      front t { o' with running := true, status := some st }
    (o.running = false → o.kind ≠ 3 →
      (s.rd F.PCI_PORT_STATE 0 chip = 3 → exec c s = .next s) ∧
      (s.shareUp chip = false → stops v o 0x21) ∧
      (∀ off, up → o.bad = some off → stops (v.note 0x5007 o.account chip off) o 0x04) ∧
      (up → o.bad = none → l.2.1 ≠ 0 → stops u o l.2.1) ∧
      (∀ off, up → o.bad = none → l.2.1 = 0 → wrong = some off → stops (u.note 0x5007 o.account chip off) o 0x04)) ∧
    (o.running = false → good → o.kind = 1 →
      (u.healthBase o.account o.step ≠ 0 → stops u o 0x05) ∧
      (∀ a, u.healthBase o.account o.step = 0 → u.acct o.account = some a →
        (∀ off ∈ a.buffers chip, hdrState (u.hdr chip off) = 2 ∨ hdrState (u.hdr chip off) = 3) → exec c s = .next u) ∧
      (∀ a off pre post, u.healthBase o.account o.step = 0 → u.acct o.account = some a →
        a.buffers chip = pre ++ off :: post → hdrState (u.hdr chip off) ≠ 2 → hdrState (u.hdr chip off) ≠ 3 →
        (∀ x ∈ pre, hdrState (u.hdr chip x) = 2 ∨ hdrState (u.hdr chip x) = 3) →
        (∀ f, escBad off ts = some f → stops (u.note 0x5007 o.account chip f) o 0x04) ∧
        let w := u.shareWrite chip off (newHdr o.step 1 (segCount ext.2) 0 0)
        let r := w.accRead dev.bad o.account o.staging ext.2
        (escBad off ts = none → r.fault = none → r.status = 0 → ∃ t, exec c s = .next t ∧
          t.mem = (((w.takeUnc o.account r.fresh).shareWrite chip (off + ext.1) r.bytes).shareWrite chip (off + 64)
            ((List.range (segCount ext.2)).flatMap
              (fun k => natLe 4 (crc32c ((r.bytes.drop (65536 * k)).take 65536)).toNat))).mem ∧
          front t { o with running := true, status := none, buffer := off,
                           sumsq := BitVec.ofNat 64 (f64.ieee .rne (sumSquares ts r.bytes ext.1)) }))) ∧
    (o.running = false → good → o.kind = 2 →
      (∀ st, u.updCase chip o = .stop st → stops u o st) ∧
      (u.updCase chip o = .wait → exec c s = .next u) ∧
      (∀ off, u.updCase chip o = .go off →
        let p := { o with buffer := off }
        let f := field (u.hdr chip off) 24 4
        let g := u.gatherGrad dev.bad chip p ext (segCount ext.2) []
        let fit := escBad off ts = none ∧ u.badScale p ts = none
        (∀ f, escBad off ts = some f → stops (u.note 0x5007 o.account chip f) p 0x04) ∧
        (∀ tn, escBad off ts = none → u.badScale p ts = some tn → stops (u.scaleRecord p tn) p 0x04) ∧
        (fit → g.2 = none → stops (g.1.note 0x5002 o.account chip (o.step % 2 ^ 32)) p 0x20) ∧
        (∀ data, fit → g.2 = some data → ∃ t q, exec c s = .next t ∧ t.front chip = some q ∧ q.running = true ∧ q.sumsq = 1 ∧
          q.buffer = off ∧ t = g.1.applyUpdate dev.bad chip p ts data ext.1 (if f32.decode f = fvOne then none
            else some (f32.decode f))))) ∧
    (o.running = false → o.kind = 3 → s.shareServed chip = true →
      (s.rd F.PCI_PORT_STATE 0 chip = 3 → exec c s = .next s) ∧
      (s.shareUp chip = false → ∃ t, exec c s = .next t ∧ LomefEnds v t chip o rest 0x21) ∧
      (∀ off, up → o.bad = some off → ∃ t, exec c s = .next t ∧ LomefEnds (v.note 0x5007 o.account chip off) t chip o rest 4) ∧
      (good → let w := ts.foldl (fun (a : State × List Nat) tn =>
          let x := a.1.writeWatch dev.bad chip o tn o.nextStep (List.range tn.rows)
          (x.1, a.2 ++ (if x.2.2 then [0x20] else []) ++ x.2.1)) (u, [])
        ∃ t, exec c s = .next t ∧ LomefEnds (w.1.st F.LMF_PROGRESS_ELEMENTS ((ts.map Tensor.elems).sum) chip) t chip o rest
          (firstStatus w.2))) ∧
    (o.running = true → o.kind ≠ 3 →
      (s.shareServed chip = false → exec e s = .next s) ∧
      (∀ st, s.shareServed chip = true → o.status = some st → o.sumsq = 0 ∨ o.kind ≠ 2 →
        ∃ t, exec e s = .next t ∧ LomefEnds s t chip o rest st) ∧
      (s.shareServed chip = true → s.shareUp chip = false → (o.kind = 2 ∧ o.sumsq ≠ 0) ∨ (o.kind ≠ 2 ∧ o.status = none) →
        ∃ t, exec e s = .next t ∧ LomefEnds s t chip o rest 0x21) ∧
      (s.shareServed chip = true → s.shareUp chip = true → o.kind ≠ 2 → o.status = none →
        ∃ t, exec e s = .next t ∧ LomefEnds (s.shareWrite chip o.buffer
          (newHdr o.step 2 (field (s.hdr chip o.buffer) 12 4) o.sumsq 0)) t chip o rest 0) ∧
      (∀ a, s.shareServed chip = true → s.shareUp chip = true → o.kind = 2 → o.sumsq ≠ 0 → s.acct o.account = some a →
        let w := { s with train := { s.train with posts := s.train.posts ++ o.copies.map (fun p : Nat × W64 =>
          (⟨p.1 % 4, o.account, false, p.1, p.2, none⟩ : Post)) } }
        let r := ((w.tensors [] chip o).1.zipIdx.map (fun p => tensorOf p.2 p.1)).foldl (fun (a : State × List Nat) tn =>
          let x := a.1.copyWrite chip o (192 * tn.idx + 104) tn.readyVa (natLe 8 o.step) []
          (x.1, a.2 ++ [x.2])) (w, [o.status.getD 0])
        ∃ t, exec e s = .next t ∧ LomefEnds ((r.1.shareWrite chip (r.1.posted chip (a.postedOff.getD chip 0)).2
          (sealHdr (natLe 8 o.step ++ List.replicate 52 0#8))).setHdrState chip o.buffer 5) t chip o rest (firstStatus r.2)))

/-- A GATE command of a bound account stands with its operands, TIMEOUT_MS clamped to 100 to 600,000. It enters the
exchange once every batch of its step is done and every share has reported, taking the time, its health word and sum
of squares, sends its word to the ring's other modules and changes no memory; it waits till then. Once every rank of
the update ring has given its word and the keepers run, it ends DONE with outcome 1 and its clip factor, or 2: a pass
only for an all-zero health and a finite sum; the fields are combined, the headers marked, the records closed, the
result written; an outcome 2 makes record 0x5003. After TIMEOUT_MS it ends with outcome 3 and record 0x5004, changing
no escrow. A GATE_RESOLVE with no log entry of its step is refused; with one, or forced to outcome 2, it marks the
headers, writes the log and the RESULT_VA of a gate that timed out, and makes record 0x4003. (09_training_step.md
R329, 09_training_step.md R330, 09_training_step.md R331, 09_training_step.md R332, 10_many_modules.md R370,
10_many_modules.md R371, 10_many_modules.md R372) -/
def Obligations.GatesAreExchangedOnceAndResolved : Prop :=
  ∀ (s : State),
    (∀ (slot : BitVec 10) acct b, CmdReady s slot 0x05 acct b →
      ((∃ g ∈ s.train.gates, g.slot = slot.toNat) → exec (.gate slot) s = .next s) ∧
      ((∀ g ∈ s.train.gates, g.slot ≠ slot.toNat) → s.acct acct = none →
        ∃ t, exec (.gate slot) s = .next t ∧ CmdEnds s t slot 4 0 0) ∧
      ((∀ g ∈ s.train.gates, g.slot ≠ slot.toNat) → s.acct acct ≠ none → ∃ t g, exec (.gate slot) s = .next t ∧
        t = { s with train := { s.train with gates := s.train.gates ++ [g] } } ∧ g.account = acct ∧ g.slot = slot.toNat ∧
        g.step = field b 16 8 ∧ g.satLimit = field b 24 4 ∧ g.normFail.toNat = field b 28 4 ∧
        g.clip.toNat = field b 32 4 ∧ g.timeoutMs = max 100 (min 600000 (field b 36 4)) ∧ g.lossVa = field b 40 8 ∧
        g.resultVa = field b 48 8 ∧ g.enteredAt = none ∧ g.exch = none)) ∧
    (∀ (acct : Fin 64) (g : Gate) (a : Acct), s.running = true → s.gateOf acct = some g → s.acct acct = some a →
      let enter := exec (.gateExchangeEnter acct) s
      (g.enteredAt ≠ none → enter = .next s) ∧
      ((∃ p ∈ s.wrt.queues, p.2.account = acct ∧ ∃ b ∈ p.2.batches, b.step = some g.step) → enter = .next s) ∧
      (g.enteredAt = none → (∀ p ∈ s.wrt.queues, p.2.account = acct.val → ∀ b ∈ p.2.batches, b.step ≠ some g.step) →
        (∀ c ∈ a.shares, s.shareLost c = true ∨ c ∈ (s.stepHealth acct g.step).reported) →
        (∀ h ∈ s.train.gates, h.account = acct.val → h.slot = g.slot → h = g) →
        ∃ t g', enter = .next t ∧ t.train = { s.train with gates := t.train.gates } ∧ t.mem = s.mem ∧ t.wrt = s.wrt ∧
          t.cpu = s.cpu ∧ t.train.gates = s.train.gates.map (fun h => if h = g then g' else h) ∧
          g' = { g with enteredAt := some s.clk.now, health := g'.health, sumsq := g'.sumsq, exch := g'.exch } ∧
          (∀ r ∈ a.ring, r ≠ a.rank → s.peer acct r ≠ none →
            ∃ m ∈ t.fab.tx, m.account = acct.val ∧ m.peer = r ∧ m.bytes = g'.word a.rank) ∧
          g'.health = BitVec.ofNat 64 (s.healthWord g) ∧
          g'.sumsq = BitVec.ofNat 64 (f64.ieee .rne (s.sumSq acct a g.step))) ∧
      (∀ ws fields dev, (g.enteredAt = none ∨ s.keepersRun a = false ∨
          ∃ r ∈ a.ring, r ≠ a.rank ∧ gateWordOf ws g.step r = none) →
        exec (.gateExchangeResult acct ws fields dev) s = .next s) ∧
      (∀ ws fields dev, g.enteredAt ≠ none → s.keepersRun a = true →
        (∀ r ∈ a.ring, r ≠ a.rank → gateWordOf ws g.step r ≠ none) →
        let vs := a.ring.filterMap (fun r => if r = a.rank then some (g.word a.rank) else gateWordOf ws g.step r)
        let add := fun S v => f64.rv .rne (FV.add false S (f64.decode (field v 8 8)))
        let S := vs.tail.foldl add ((vs.head?.map (fun v => f64.decode (field v 8 8))).getD (fvZero false))
        let h := vs.foldl (fun h v => Nat.lor h (field v 0 8)) 0
        let out := gateOutcome g h S
        let sum := f64.ieee .rne S
        let shared := (fields.foldl (fun (u : State) p => u.combineField acct a p.1 p.2) s).gateShare g a
        let u := ((shared.gateHeaders acct a g.step (out.1 == 1) sum out.2).devAccess dev).closeStep dev.bad acct g.step
        let w := if out.1 = 2 then u.note 0x5003 acct (h % 2 ^ 32) (g.step % 2 ^ 32) else u
        (out.1 = 1 ∨ out.1 = 2) ∧ (out.1 = 1 → h = 0 ∧ S.isNan = false ∧ S.isInf = false) ∧
        ∃ t, exec (.gateExchangeResult acct ws fields dev) s = .next t ∧ GateEnds (w.putResult acct a (some g.resultVa) g.step
          (resultBytes g.step out.1 out.2 h sum)) t g (out.1 + out.2 * 2 ^ 32)) ∧
      (∀ x, g.enteredAt = some x →
        (s.clk.now < x + 25000 * g.timeoutMs → exec (.gateTimeout acct) s = .next s) ∧
        (x + 25000 * g.timeoutMs ≤ s.clk.now → ∃ t, exec (.gateTimeout acct) s = .next t ∧
          GateEnds ((s.note 0x5004 acct (g.step % 2 ^ 32) g.timeoutMs).putResult acct a (some g.resultVa) g.step
            (resultBytes g.step 3 0 g.health.toNat g.sumsq.toNat)) t g 3))) ∧
    (∀ (slot : BitVec 10) acct b src, CmdReady s slot 0x06 acct b → s.acct acct = none →
      ∃ t, exec (.gateResolve slot src) s = .next t ∧ CmdEnds s t slot 3 1 0) ∧
    (∀ (slot : BitVec 10) acct b a (src : Option (List Byte)), CmdReady s slot 0x06 acct b → s.acct acct = some a →
      let step := field b 16 8
      let forced := field b 26 1 % 2 = 1
      let e := (if field b 24 2 = a.rank then (s.logOf acct a step).map (s.gateLog acct a) else src).getD []
      let found := field e 0 8 = step ∧ (field e 8 1 = 1 ∨ field e 8 1 = 2)
      let va := (s.train.owed.find? (fun o => o.1 == acct && o.2.1 == step)).map (·.2.2)
      let resolves := fun (t : State) out c h sum =>
        let u := (s.gateHeaders acct a step (out == 1) sum c).putResult acct a va step (resultBytes step out c h sum)
        let v := { u with train := { u.train with owed := u.train.owed.filter (fun o => !(o.1 == acct && o.2.1 == step)) } }
        CmdEnds (v.note 0x4003 acct (step % 2 ^ 32) out) t slot 0 0 out
      ∃ t, exec (.gateResolve slot src) s = .next t ∧
        (¬ forced → ¬ found → CmdEnds s t slot 3 1 0) ∧
        (forced → resolves t 2 0 0 0) ∧
        (¬ forced → found → resolves t (field e 8 1) (if field e 8 1 = 1 then field e 12 4 else 0) (field e 16 8)
          (field e 24 8)))

/-- While the module is up, a port that goes down leaves the collective set for state 3 with one record 0x1101; the fourth
time within an hour, or with the fabric steward failed, it is fenced with one degrade entry. A retraining that returns
within 1,000 ms counts one, puts the port in state 2 with one record 0x1102 and leaves it out of the set; any other
fences it. A received frame whose FCS fails only counts in the CRC drops; one for the operating system on an up port
joins its queue unless the queue still takes the last one, when only the drop counter moves. A frame sent leaves on an
up port alone. A frame above 9,216 bytes is no frame of this hardware. (10_many_modules.md R339, 10_many_modules.md
R341, 10_many_modules.md R342, 01_module_overview.md R45) -/
def Obligations.PortsTrainAndHostFramesPass : Prop :=
  ∀ (s : State) (port : Fin 16), s.up = true →
    let key := regKey F.ETH_PORT_STATE.key 0 port
    let earlier := s.within (mget [] s.fab.downs port) (25000000 * 3600)
    let fenced := fun (t : State) => t.rd F.ETH_PORT_STATE 0 port = 4 ∧ t.rd F.ETH_PORT_IN_SET 0 port = 0 ∧
      t.mem = s.mem ∧ t.rd F.GLB_STATE_RESTART_NEEDED = 1 ∧
      (s.nor.degrade.length < 1024 → ∃ d, t.nor.degrade = s.nor.degrade ++ [d] ∧ d.kind = 4 ∧ d.unit = port.val ∧ d.code = 0x1103)
    (∀ c, s.portUp port = false → exec (.fabricPortDown port c) s = .next s) ∧
    (∀ c, s.portUp port = true → earlier.length < 3 → s.fwState 5 ≠ 5 → ∃ t, exec (.fabricPortDown port c) s = .next t ∧
      OneRecord { s with fab := t.fab } t [key] 0x1101 port c.toNat 0 ∧ t.rd F.ETH_PORT_STATE 0 port = 3 ∧
      t.rd F.ETH_PORT_IN_SET 0 port = 0 ∧ t.fab = { s.fab with downs := t.fab.downs, downCause := t.fab.downCause } ∧
      mget [] t.fab.downs port = s.clk.now :: earlier ∧ mget 0 t.fab.downCause port = c.toNat) ∧
    (∀ c, s.portUp port = true → 3 ≤ earlier.length ∨ s.fwState 5 = 5 →
      ∃ t, exec (.fabricPortDown port c) s = .next t ∧ fenced t) ∧
    (∀ ret ms, s.portState port ≠ 3 ∨ s.fwRuns 5 = false → exec (.fabricPortRetrainEnd port ret ms) s = .next s) ∧
    (∀ ms, s.portState port = 3 → s.fwRuns 5 = true → ms ≤ 1000 → ∃ t, exec (.fabricPortRetrainEnd port true ms) s = .next t ∧
      OneRecord s t [regKey F.ETH_PORT_RETRAINS.key 0 port, key] 0x1102 port ms 0 ∧ t.rd F.ETH_PORT_STATE 0 port = 2 ∧
      t.rd F.ETH_PORT_IN_SET 0 port = s.rd F.ETH_PORT_IN_SET 0 port ∧
      t.rd F.ETH_PORT_RETRAINS 0 port = min (s.rd F.ETH_PORT_RETRAINS 0 port + 1) F.ETH_PORT_RETRAINS.max) ∧
    (∀ ret ms, s.portState port = 3 → s.fwRuns 5 = true → ret = false ∨ 1000 < ms →
      ∃ t, exec (.fabricPortRetrainEnd port ret ms) s = .next t ∧ fenced t) ∧
    (∀ (f : List Byte) (ok : Bool), (9216 < f.length → exec (.hostFrameReceive port ⟨f, ok⟩) s = .fault .illFormed ∧
        exec (.hostFrameSend port f) s = .fault .illFormed) ∧
      (f.length ≤ 9216 →
        (s.portUp port = false ∨ (ok = true ∧ s.ownFrame port f = true) →
          exec (.hostFrameReceive port ⟨f, ok⟩) s = .next s) ∧
        (s.portUp port = true → ok = false →
          ∃ t, exec (.hostFrameReceive port ⟨f, ok⟩) s = .next t ∧ OnlyRegs s t [regKey F.ETH_CRC_DROP_COUNT.key 0 0] ∧
            t.rd F.ETH_CRC_DROP_COUNT = min (s.rd F.ETH_CRC_DROP_COUNT + 1) F.ETH_CRC_DROP_COUNT.max) ∧
        (s.portUp port = true → ok = true → s.ownFrame port f = false → s.clk.now < mget 0 s.fab.hostBusy port →
          ∃ t, exec (.hostFrameReceive port ⟨f, ok⟩) s = .next t ∧ OnlyRegs s t [regKey F.ETH_HOST_DROP_COUNT.key 0 0] ∧
            t.rd F.ETH_HOST_DROP_COUNT = min (s.rd F.ETH_HOST_DROP_COUNT + 1) F.ETH_HOST_DROP_COUNT.max) ∧
        (s.portUp port = true → ok = true → s.ownFrame port f = false → mget 0 s.fab.hostBusy port ≤ s.clk.now →
          ∃ t, exec (.hostFrameReceive port ⟨f, ok⟩) s = .next t ∧
            t = { s with fab := { s.fab with hostRx := t.fab.hostRx, hostBusy := t.fab.hostBusy } } ∧
            ∀ p, mget [] t.fab.hostRx p = if p = port.val then mget [] s.fab.hostRx p ++ [f] else mget [] s.fab.hostRx p) ∧
        (s.portUp port = false → exec (.hostFrameSend port f) s = .next s) ∧
        (s.portUp port = true → ∃ t e, exec (.hostFrameSend port f) s = .next t ∧ e.port = port.val ∧ e.bytes = f ∧
          t = { s with fab := { s.fab with wire := s.fab.wire ++ [e] } })))

/-- While the module serves and the port is up: a DATA packet whose FCS fails, and a packet with a bad length, type, CRC,
job or rank, counts in the CRC drops, one of an unknown source or another generation in the stale ones, and nothing
else changes. A good one refreshes its peer; then DATA for memory that is not free is not taken, one seen before moves
only the path's ACK clock, and a new one is received exactly once, its payload to its message's place (held back from
the stage buffers while a permute has them), the sixteenth answered by an ACK; an ACK clears the packets it lists,
raises the limit by acknowledged 64 KiB, and it and a CREDIT add credits up to 1,024 unused, of which the limit may be
used; a NACK sends each missing packet again and counts it; a RESEND sets its message back to its start. What may now
be sent is sent, what may be reduced is. (10_many_modules.md R344, 10_many_modules.md R345, 10_many_modules.md R346,
10_many_modules.md R347, 10_many_modules.md R348, 10_many_modules.md R350) -/
def Obligations.TallyPacketsAreCheckedThenTaken : Prop :=
  ∀ (s : State) (plane : Fin 16) (b : List Byte) (mk : Bool) (rs : List (W32 × W32)) (ms : List W32), s.running = true →
    s.portUp plane = true →
    let cmd := fun (typ : Nat) => if typ = 1 then Instr.dataPacketReceive plane ⟨b, true⟩ mk else if typ = 2 then .ackReceive plane b rs
      else if typ = 3 then .nackReceive plane b ms else if typ = 4 then .creditReceive plane b else .resendReceive plane b
    let counts := fun (c : Instr) (f : Field) => ∃ t, exec c s = .next t ∧ OnlyRegs s t [regKey f.key 0 0] ∧
      t.rd f = min (s.rd f + 1) f.max
    let sound := fun (typ : Nat) => 32 ≤ b.length ∧ field b 0 1 = 16 + typ ∧ b.length = 32 + field b 10 2 ∧
      (crc32c (slice b 0 28 ++ b.drop 32)).toNat = field b 28 4
    (b.length ≤ 8224 → counts (.dataPacketReceive plane ⟨b, false⟩ mk) F.ETH_CRC_DROP_COUNT) ∧
    (∀ typ, 1 ≤ typ → typ ≤ 5 →
      (8224 < b.length → exec (cmd typ) s = .fault .illFormed) ∧
      (b.length ≤ 8224 → ¬ sound typ → counts (cmd typ) F.ETH_CRC_DROP_COUNT) ∧
      (b.length ≤ 8224 → sound typ →
        s.accts.find? (fun x => x.2.ranks != 0 && x.2.job == field b 2 2 && x.2.rank == field b 6 2) = none →
        counts (cmd typ) F.ETH_CRC_DROP_COUNT) ∧
      (∀ x, b.length ≤ 8224 → sound typ →
        s.accts.find? (fun x => x.2.ranks != 0 && x.2.job == field b 2 2 && x.2.rank == field b 6 2) = some x →
        (s.peer x.1 (field b 4 2) = none ∨ ∃ p, s.peer x.1 (field b 4 2) = some p ∧ p.gen % 65536 ≠ field b 8 2) →
        counts (cmd typ) F.ETH_STALE_COUNT)) ∧
    (∀ (acct : Nat) (a : Acct) (p : Peer),
      let q := s.path acct p.peer plane
      let heard := fun (t : State) => Heard s t acct p b ∧ OnePath s t acct p.peer plane
      let psn := psnNear q.rxNext (field b 16 4)
      let seen := psn < q.rxNext ∨ psn ∈ q.rxAbove
      let hit := fun (k : TxPkt) => rs.any (fun r => decide (r.1.toNat ≤ k.psn % 2 ^ 32 ∧ k.psn % 2 ^ 32 ≤ r.2.toNat))
      let sum := ((q.unacked.filter hit).map (fun k => k.bytes.length)).sum
      let held := s.heldBack acct p.peer (field b 12 4)
      let msg := s.fab.rx.find? (fun m => m.account == acct && m.peer == p.peer && m.msg % 2 ^ 32 == field b 12 4 && !m.complete)
      let off := field b 20 4
      let total := min 1024 (q.credits + q.spare + field b 24 2)
      (TallyOk s 1 b acct a p → held = true → ∃ t, exec (cmd 1) s = .next t ∧ heard t ∧
        t = { s with fab := { s.fab with peers := t.fab.peers } }) ∧
      (TallyOk s 1 b acct a p → held = false → seen → ∃ t, exec (cmd 1) s = .next t ∧ heard t ∧
        t = { s with fab := { s.fab with peers := t.fab.peers, paths := t.fab.paths } } ∧
        t.path acct p.peer plane = { q with rxOldest := some (q.rxOldest.getD s.clk.now) }) ∧
      (TallyOk s 1 b acct a p → held = false → ¬ seen → ∃ t : State, exec (cmd 1) s = .next t.advanceColls ∧ heard t ∧
        t = { s with fab := t.fab, mem := t.mem } ∧ t.fab.colls = s.fab.colls ∧
        (∀ x, (x < (t.path acct p.peer plane).rxNext ∨ x ∈ (t.path acct p.peer plane).rxAbove) ↔
          x < q.rxNext ∨ x ∈ q.rxAbove ∨ x = psn) ∧
        (t.path acct p.peer plane).rxUnacked = (if q.rxUnacked < 15 then q.rxUnacked + 1 else 0) ∧
        (q.rxUnacked < 15 → t.fab.wire = s.fab.wire) ∧
        (15 ≤ q.rxUnacked → s.acct acct ≠ none → t.fab.wire.length = s.fab.wire.length + 1) ∧
        (msg = none → t.mem = s.mem) ∧
        (∀ m, msg = some m →
          let out := m.len < off + (b.length - 32) ∨ ∃ g ∈ m.got, g.1 = off
          let kept := s.permuteOn = true ∧ ∃ o, m.dst = .stage o
          (out ∨ kept → t.mem = s.mem) ∧
          (¬ out → ¬ kept → t.mem = (s.putPayload acct m.dst off (b.drop 32)).mem))) ∧
      (TallyOk s 2 b acct a p → ∃ t : State, exec (cmd 2) s = .next t.pump ∧ heard t ∧
        t = { s with fab := { s.fab with peers := t.fab.peers, paths := t.fab.paths, tx := t.fab.tx } } ∧
        t.fab.tx = (s.ackPackets acct p.peer (q.unacked.filter hit)).fab.tx ∧
        (let r := t.path acct p.peer plane
         let up := min 1024 (q.limit + (q.ackedBytes + sum) / 65536)
         r = { q with unacked := q.unacked.filter (fun k => !hit k), lastAck := s.clk.now,
                      credits := min r.limit total, spare := total - r.limit, limit := r.limit,
                      ackedBytes := (q.ackedBytes + sum) % 65536, halvedAt := r.halvedAt } ∧
         (field b 1 1 / 2 % 2 = 0 ∨ s.rd F.ETH_ENCAP_MODE = 1 ∨ (∃ x, q.halvedAt = some x ∧ s.clk.now < x + 250) →
           r.limit = up ∧ r.halvedAt = q.halvedAt) ∧
         (field b 1 1 / 2 % 2 = 1 → s.rd F.ETH_ENCAP_MODE = 0 → (∀ x, q.halvedAt = some x → x + 250 ≤ s.clk.now) →
           r.limit = max 16 (up / 2) ∧ r.halvedAt = some s.clk.now))) ∧
      (TallyOk s 3 b acct a p →
        let ks := q.unacked.filter (fun k => ms.any (fun v => v.toNat == k.psn % 2 ^ 32))
        ∃ t, exec (cmd 3) s = .next t ∧ heard t ∧ t = { s with regs := t.regs, fab := t.fab } ∧
          RegsBut s t [regKey F.ETH_RETX_COUNT.key 0 0] ∧
          (s.rd F.ETH_RETX_COUNT + ks.length ≤ F.ETH_RETX_COUNT.max →
            t.rd F.ETH_RETX_COUNT = s.rd F.ETH_RETX_COUNT + ks.length) ∧
          (s.acct acct ≠ none → t.fab.wire.length = s.fab.wire.length + ks.length) ∧
          t.path acct p.peer plane = { q with unacked := q.unacked.map (fun k =>
            if k ∈ ks then { k with sentAt := s.clk.now } else k) }) ∧
      (TallyOk s 4 b acct a p → ∃ t : State, exec (cmd 4) s = .next t.pump ∧ heard t ∧
        t = { s with fab := { s.fab with peers := t.fab.peers, paths := t.fab.paths } } ∧
        t.path acct p.peer plane = { q with credits := min q.limit total, spare := total - q.limit }) ∧
      (TallyOk s 5 b acct a p →
        let asked := s.fab.tx.find? (fun m => m.account == acct && m.peer == p.peer && m.msg % 2 ^ 32 == field b 12 4)
        (asked = none → ∃ t, exec (cmd 5) s = .next t ∧ heard t ∧ t = { s with fab := { s.fab with peers := t.fab.peers } }) ∧
        (∀ m, asked = some m → ∃ t : State, exec (cmd 5) s = .next t.pump ∧ Heard s t acct p b ∧
          t = { s with fab := { s.fab with peers := t.fab.peers, paths := t.fab.paths, tx := t.fab.tx } } ∧
          t.fab.tx = s.fab.tx.map (fun n =>
            if n = m then { n with pend := piecesOf s.payload n.planes n.bytes.length, acked := 0 } else n))))

/-- While the module serves, for an account and a peer in its table: 8 us after the oldest unacknowledged packet an ACK
leaves and the count restarts; a missing packet whose gap has lasted 16 us is named in one NACK, and its time runs
anew; a packet unacknowledged for 200 us is sent again and counted; a started message silent for 200 ms loses its
pieces, makes record 0x1105 and counts one; a collective that is owed a message by a peer, or still sends to it, ends
LINK_LOST when the peer is silent for 1 s, or at the third RESEND of what is owed, with record 0x1106, and 0x4004 for
a permute; a path with data and no ACK for 50 ms leaves every plane list of that peer. Before those times nothing
changes. (10_many_modules.md R347, 10_many_modules.md R348, 10_many_modules.md R349) -/
def Obligations.FabricTimersActWhenTheyExpire : Prop :=
  ∀ (s : State) (acct : Fin 64) (r : BitVec 13) (plane : Fin 16), s.running = true →
    let q := s.path acct r.toNat plane
    let now := s.clk.now
    let sends := fun (t : State) => s.acct acct ≠ none → s.peer acct r.toNat ≠ none → s.portUp plane = true →
      t.fab.wire.length = s.fab.wire.length + 1
    let old := q.unacked.filter (fun k => decide (k.sentAt + 5000 ≤ now))
    ((∀ x, q.rxOldest = some x → now < x + 200) → exec (.ackTimer acct r plane) s = .next s) ∧
    (∀ x, q.rxOldest = some x → x + 200 ≤ now → ∃ t, exec (.ackTimer acct r plane) s = .next t ∧ sends t ∧
      t = { s with fab := { s.fab with paths := t.fab.paths, wire := t.fab.wire } } ∧ OnePath s t acct r.toNat plane ∧
      (let n := min q.toGrant (1024 - q.granted)
       t.path acct r.toNat plane = { q with rxUnacked := 0, rxOldest := none, echo := false, toGrant := q.toGrant - n,
                                            granted := q.granted + n })) ∧
    ((∀ g ∈ q.gaps, now < g.2 + 400) → exec (.nackTimer acct r plane) s = .next s) ∧
    ((∃ g ∈ q.gaps, g.2 + 400 ≤ now) → ∃ t, exec (.nackTimer acct r plane) s = .next t ∧ sends t ∧
      t = { s with fab := { s.fab with paths := t.fab.paths, wire := t.fab.wire } } ∧ OnePath s t acct r.toNat plane ∧
      t.path acct r.toNat plane = { q with gaps := q.gaps.map (fun g => if g.2 + 400 ≤ now then (g.1, now) else g) }) ∧
    (∃ t, exec (.retransmitTimer acct r plane) s = .next t ∧ t = { s with regs := t.regs, fab := t.fab } ∧
      RegsBut s t [regKey F.ETH_RETX_COUNT.key 0 0] ∧ OnePath s t acct r.toNat plane ∧
      (s.rd F.ETH_RETX_COUNT + old.length ≤ F.ETH_RETX_COUNT.max →
        t.rd F.ETH_RETX_COUNT = s.rd F.ETH_RETX_COUNT + old.length) ∧
      t.path acct r.toNat plane = { q with unacked := q.unacked.map (fun k =>
        if k.sentAt + 5000 ≤ now then { k with sentAt := now } else k) }) ∧
    (∀ (msg : W32) (m : RxMsg), s.fab.rx.find? (fun m => m.account == acct.val && m.peer == r.toNat &&
        m.msg % 2 ^ 32 == msg.toNat) = some m →
      (m.got = [] ∨ m.complete = true ∨ now < m.lastAt + 5000000 → exec (.heldMessageTimeout acct r msg) s = .next s) ∧
      (m.got ≠ [] → m.complete = false → m.lastAt + 5000000 ≤ now →
        ∃ t, exec (.heldMessageTimeout acct r msg) s = .next t ∧
          OneRecord { s with fab := t.fab } t [regKey F.ETH_HELD_DISCARD_COUNT.key 0 0] 0x1105 acct r.toNat msg.toNat ∧
          t.fab.rx = s.fab.rx.map (fun n =>
            if n = m then { n with got := [], lastAt := now, resends := n.resends + 1 } else n) ∧
          t.rd F.ETH_HELD_DISCARD_COUNT = min (s.rd F.ETH_HELD_DISCARD_COUNT + 1) F.ETH_HELD_DISCARD_COUNT.max)) ∧
    (∀ p, s.peer acct r.toNat = some p →
      ((∀ m ∈ s.fab.rx, m.account = acct.val → m.peer = r.toNat → m.complete = false → m.resends < 3) →
        now < p.lastHeard + 25000000 → exec (.peerSilenceTimeout acct r) s = .next s) ∧
      (∀ c, let silent := p.lastHeard + 25000000 ≤ now
        let gone := fun (d : Coll) => d.account = acct.val ∧ (∃ l ∈ d.legs, l.peer = r.toNat) ∧
          ((∃ m ∈ s.fab.rx, m.account = acct.val ∧ m.peer = r.toNat ∧ m.complete = false ∧ m.coll = d.id ∧
            (silent ∨ 3 ≤ m.resends)) ∨
          (silent ∧ ∃ m ∈ s.fab.tx, m.account = acct.val ∧ m.peer = r.toNat ∧ m.coll = d.id))
        (∃ pre post, s.fab.colls = pre ++ c :: post ∧ gone c ∧ ∀ d ∈ pre ++ post, ¬ gone d ∧ d.id ≠ c.id) →
        let u := s.note 0x1106 acct r.toNat c.f.tag
        let v := if c.f.op = 4 then u.note 0x4004 acct c.f.tag c.stage else u
        let st := firstStatus (c.status ++ [0x21])
        ∃ t, exec (.peerSilenceTimeout acct r) s = .next t ∧ t.fab.colls = s.fab.colls.filter (fun d => d.id != c.id) ∧
          (∀ m ∈ t.fab.rx, m.coll ≠ c.id) ∧ (∀ m ∈ t.fab.tx, m.coll ≠ c.id) ∧
          ∃ w : State, w = { v with fab := w.fab, mem := w.mem } ∧ (c.f.op ≠ 4 → w.mem = s.mem) ∧ ClrFinishes w t c.queue acct c.index c.f.tag st
            (if st = 0 ∨ st = 1 then c.result else noResult st 0 0))) ∧
    (q.unacked = [] ∨ now < q.lastAck + 1250000 → exec (.pathDead acct r plane) s = .next s) ∧
    (q.unacked ≠ [] → q.lastAck + 1250000 ≤ now → ∃ t, exec (.pathDead acct r plane) s = .next t ∧
      ((∀ c ∈ s.fab.colls, c.f.op ≠ 4) → t.mem = s.mem) ∧
      (∀ m ∈ t.fab.tx, m.account = acct.val → m.peer = r.toNat → plane.val ∉ m.planes) ∧
      (∀ c ∈ t.fab.colls, c.account = acct.val → plane.val ∉ c.planesFor r.toNat))

/-- While the module serves: collectives that waited and may start do so; then the next clearing order of the running
batch, once every dispatcher of its queue runs, is marked issued; with a reason of R375 it ends ABORTED with record
0x4001, else it starts; a gather alone in its ring copies its chunk to its place. A DROP waits for the earlier
batches, then ends DONE and marks the layers it names dropped. A gather held back starts when it may; a permute's
round ends into the next, the last into its completion. A collective that is done leaves the units, its status joins
its batch, its tag is done. A book that fails a check is refused with the first reason and record 0x4002, else it
stands. (10_many_modules.md R353, 10_many_modules.md R355, 10_many_modules.md R359, 10_many_modules.md R361,
10_many_modules.md R364, 10_many_modules.md R365, 10_many_modules.md R375) -/
def Obligations.ClearingOrdersAreIssuedInOrder : Prop :=
  (∀ (s : State) (n : BitVec 8) (q : Queue) (b : Batch) (i : Nat) (o : SubOrder) (dev : DevEvents), s.running = true →
    let f := clrF o.bytes
    let c : Instr := match f.op with
      | 2 => .reduceScatter n dev
      | 3 => .allReduce n dev
      | 4 => .permute n dev
      | 5 => .ringPass n dev
      | 6 => .drop n
      | _ => .allGather n dev
    let s0 := if f.op = 6 then s else (s.devAccess dev).wakeColls dev.bad
    s0.queue n.toNat = some q → s0.runBatch n.toNat = some b → s0.nextClr n.toNat = some (i, o) →
    let runs := ∀ d ∈ s0.queueDies q, s0.fwRuns d = true
    let u := s0.updRun n.toNat (fun b => { b with clr := b.clr.zipIdx.map (fun p =>
      if p.2 = i then { p.1 with issued := true } else p.1) })
    let step := b.step.getD 0
    let why := u.clrReason q.account step o.bytes
    let refused := fun (t : State) => ClrFinishes (u.note 0x4001 q.account (u.clrDie n.toNat) why) t n.toNat q.account i f.tag
      0x04 (noResult 0x04 why 0)
    (f.op ≠ 6 →
      (¬ runs → exec c s = .next s0) ∧
      (runs → why ≠ 0 → ∃ t, exec c s = .next t ∧ refused t) ∧
      (runs → why = 0 → exec c s = .next (u.startColl n.toNat q.account i step o.bytes dev.bad))) ∧
    (f.op = 1 → f.sparse = false → f.jit = false → f.waitReady = false → s0.fab.colls = [] → runs → why = 0 →
      u.book q.account f.book = some [u.rankOf q.account] → s0.accWaits q.account f.src (f.inOff (f.span 1 0).2 - f.inOff (f.span 1 0).1) = false →
      let r := u.rejoin.accRead dev.bad q.account f.src (f.legBytes 1 0 0 0)
      r.unc = false → r.lost = false → r.fresh = [] →
      ∃ t, exec c s = .next t ∧ t.mem = (u.rejoin.accWrite q.account (f.dst + f.inOff (f.span 1 0).1) r.bytes).mem) ∧
    (f.op = 6 → s.readersLeft n.toNat q.account b = true ∨ ¬ runs → exec c s = .next s) ∧
    (f.op = 6 → s.readersLeft n.toNat q.account b = false → runs →
      (why ≠ 0 → ∃ t, exec c s = .next t ∧ refused t) ∧
      (why = 0 → ∃ t : State, exec c s = .next (t.wakeColls []) ∧
        ClrFinishes { u with fab := { u.fab with jit := u.fab.jit.map (fun e : Jit => if e.account = q.account ∧ e.step = step ∧
          e.seq = f.seq then ({ e with dropped := true } : Jit) else e) } }
          t n.toNat q.account i f.tag 0 (noResult 0 0 0)))) ∧
  (∀ (s : State) (acct : Fin 64) (tag : W32), s.running = true →
    let one := fun (p : Coll → Bool) => s.fab.colls.find? (fun c => c.account == acct.val && c.f.tag == tag.toNat && p c)
    (one (fun c => c.f.jit && c.waiting) = none → exec (.jitGatherStart acct tag) s = .next s) ∧
    (∀ c, one (fun c => c.f.jit && c.waiting) = some c →
      (s.jitOk c = false → exec (.jitGatherStart acct tag) s = .next s) ∧
      (s.jitOk c = true → exec (.jitGatherStart acct tag) s = .next (s.wakeColl [] c).advanceColls)) ∧
    (one (fun c => c.f.op == 4) = none → exec (.permuteRoundEnd acct tag) s = .next s) ∧
    (∀ c, one (fun c => c.f.op == 4) = some c →
      let ended := c.waiting = false ∧ c.formed = false ∧ s.stageIn c c.stage = true ∧ ∀ m ∈ s.fab.tx, m.coll ≠ c.id
      (¬ ended → exec (.permuteRoundEnd acct tag) s = .next s) ∧
      (ended → c.stage = 7 → exec (.permuteRoundEnd acct tag) s =
        .next (((s.setColl { c with formed := true }).flushStage).wakeColls [])) ∧
      (ended → c.stage ≠ 7 → exec (.permuteRoundEnd acct tag) s = .next (s.permuteRound c (c.stage + 1) []))) ∧
    (one s.collDone = none → exec (.collectiveComplete acct tag) s = .next s) ∧
    (∀ c, one s.collDone = some c → s.coll c.id = some c →
      let lists := c.f.sparse && (c.f.op == 1 || c.f.op == 3)
      let u := if lists then s.sparseGather c else s
      let d := (u.coll c.id).getD c
      let st := firstStatus (d.status ++ [d.result.status])
      ∃ t : State, exec (.collectiveComplete acct tag) s = .next (t.wakeColls []) ∧ t.mem = u.mem ∧
        t.fab.colls = u.fab.colls.filter (fun x => x.id != d.id) ∧
        ∃ w : State, w = { u with fab := w.fab } ∧ ClrFinishes w t d.queue d.account d.index d.f.tag st
          (if st = 0 ∨ st = 1 then d.result else noResult st 0 0))) ∧
  (∀ (s : State) (slot : BitVec 10) (acct : Nat) (b : List Byte), CmdReady s slot 0x04 acct b →
    let book := field b 16 1
    let refused := fun r => ∃ t, exec (.bookLoad slot) s = .next t ∧ CmdEnds (s.note 0x4002 acct book r) t slot 3 r 0
    (s.acct acct = none → refused 2) ∧
    (∀ a, s.acct acct = some a → book ≤ 3 →
      let k := s.bookCheck acct a book (field b 24 8)
      (k.1 ≠ 0 → refused k.1) ∧
      (k.1 = 0 → k.2 ≠ [] ∧ (∀ x ∈ k.2, x < a.ranks) ∧ k.2.Nodup ∧ ∃ t, exec (.bookLoad slot) s = .next t ∧
        CmdEnds (s.setAcct acct { a with books := a.books.set book (some k.2) }) t slot 0 0 0)) ∧
    (∀ a, s.acct acct = some a → 3 < book → ∃ t, exec (.bookLoad slot) s = .next t ∧ CmdEnds s t slot 3 0xFF 0))

/-- A driver command of the exchequer units waits while their steward restarts and is refused with reason 8 once it has
failed. LOOP_START whose checks fail ends ABORTED with the reason and record 0x600C (a poisoned or lost source: no
reason); with a period below B_0 it is refused with 7; else the unit runs the loop and holds the port its flags name,
the first release is the first of the period's grid at least 100 us away, and the command answers B_0 and B_1.
LOOP_STOP and TABLE_SWITCH of a unit that does not run the account's loop are refused with 8; a stop acts at once
between cycles, else at the cycle's end; a table of the same dimensions stands pending, another or a bad one is
refused. EXQ_STOP and EXQ_SWITCH_VA do the same for a requester that may write; a switch asked while the steward
restarts waits for it. (11_exchequer_solvers.md R393, 11_exchequer_solvers.md R395, 11_exchequer_solvers.md R403,
11_exchequer_solvers.md R411, 11_exchequer_solvers.md R413, 12_start_firmware_accounts.md R443) -/
def Obligations.LoopsStartSwitchAndStop : Prop :=
  ∀ s : State,
    (∀ (slot : BitVec 10) acct b, CmdReady s slot 0x0A acct b →
      let u := field b 24 1
      let c := exec (.loopStart slot) s
      let ends := fun (v : State) st r x => ∃ t, c = .next t ∧ CmdEnds v t slot st r x
      (s.fwState 8 = 5 → ends (s.note 0x600C u acct 8) 4 8 0) ∧
      (s.fwState 8 ≠ 5 → s.fwRuns 8 = false → c = .next s) ∧
      (∀ r, s.fwRuns 8 = true → s.admitLoop acct u (field b 16 8) = .error r →
        (r < 0x100 → ends (s.note 0x600C u acct r) 4 r 0) ∧ (0x100 ≤ r → ends s 4 0 0)) ∧
      (∀ lp tb start first, s.fwRuns 8 = true → s.admitLoop acct u (field b 16 8) = .ok (lp, tb, start, first) →
        (u < 16 ∧ 50 ≤ lp.period ∧ 1 ≤ lp.cap ∧ lp.cap ≤ 4096 ∧ lp.nout ≤ tb.n ∧ (s.unit u).loop = none) ∧
        (lp.period < tb.b0 lp.cap → ends s 3 7 0) ∧
        (tb.b0 lp.cap ≤ lp.period → ∃ v x, ends v 0 0 (tb.b0 lp.cap + tb.b1 lp.cap * 2 ^ 32) ∧
          v = { s with regs := v.regs, dbk := v.dbk, exq := v.exq } ∧
          (∀ m, m ≠ u → v.unit m = s.unit m) ∧ (v.unit u).table = some tb ∧ (v.unit u).factor ≠ none ∧
          (v.unit u).loop = some { lp with release := x } ∧ s.clk.now + 2500 ≤ x ∧ start ≤ x ∧ lp.period ∣ x - start ∧
          (x = start ∨ x < s.clk.now + 2500 + lp.period) ∧
          (lp.flags % 4 ≠ 0 → v.xrd F.EXQ_STATE_PORT_HELD u = 1 ∧ v.xrd F.EXQ_STATE_PORT u = lp.port ∧
            v.rd F.ETH_PORT_EXQ 0 lp.port = 1) ∧ (lp.flags % 4 = 0 → v.xrd F.EXQ_STATE_PORT_HELD u = 0) ∧
          v.xrd F.EXQ_STATE_STATE u = 2 ∧ v.xrd F.EXQ_CYCLES_COUNT u = 0))) ∧
    (∀ (slot : BitVec 10) acct b, CmdReady s slot 0x0B acct b →
      let u := field b 24 1
      let c := exec (.loopStop slot) s
      let refused := ∃ t, c = .next t ∧ CmdEnds (s.note 0x600C u acct 8) t slot 3 8 0
      (s.fwState 8 = 5 → refused) ∧ (s.fwState 8 ≠ 5 → s.fwRuns 8 = false → c = .next s) ∧
      (s.fwRuns 8 = true → s.loopOf u acct = false → refused) ∧
      (s.fwRuns 8 = true → s.loopOf u acct = true → u < 16 →
        ∃ t v, c = .next t ∧ CmdEnds v t slot 0 0 0 ∧ LoopStops s v u)) ∧
    (∀ (slot : BitVec 10) acct b, CmdReady s slot 0x0C acct b →
      let u := field b 24 1
      let c := exec (.tableSwitch slot) s
      let refused := fun r => ∃ t, c = .next t ∧ CmdEnds (s.note 0x600C u acct r) t slot 3 r 0
      (s.fwState 8 = 5 → refused 8) ∧ (s.fwState 8 ≠ 5 → s.fwRuns 8 = false → c = .next s) ∧
      (s.fwRuns 8 = true → s.loopOf u acct = false → refused 8) ∧
      (∀ lp old, s.fwRuns 8 = true → s.loopOf u acct = true → (s.unit u).loop = some lp → (s.unit u).table = some old →
        let rd := readTable (s.exqRead acct (some (u / 4))) (field b 16 8) lp.progVa (bit lp.flags 3) lp.yLen
        (∀ r, rd = .error r → (0 < r → r < 0x100 → refused r) ∧
          (0x100 ≤ r → ∃ t, c = .next t ∧ CmdEnds s t slot 4 0 0)) ∧
        (∀ tb, rd = .ok tb → (tb.n ≠ old.n ∨ tb.m ≠ old.m → refused 1) ∧
          (tb.n = old.n → tb.m = old.m → ∃ t v, c = .next t ∧ CmdEnds v t slot 0 0 0 ∧ SwitchPends s v u tb)))) ∧
    (∀ (r : Requester) (die unit : Fin 4) (v : W32), CanWrite s r 21 F.EXQ_STOP_STOP.key →
      let u := die.val * 4 + unit.val
      ∃ t, exec (.exqStop r die unit v) s = .next t ∧ NoHeld s t r ∧
        (v.toNat % 2 = 0 ∨ (s.unit u).loop = none → t = { s with bus := t.bus }) ∧
        (v.toNat % 2 = 1 → (s.unit u).loop ≠ none → LoopStops s t u)) ∧
    (∀ (r : Requester) (die unit : Fin 4) (x : W64), CanWrite s r 21 F.EXQ_SWITCH_VA_VA.key →
      let u := die.val * 4 + unit.val
      let va := x.toNat % 2 ^ 48
      ∃ t, exec (.exqSwitchVa r die unit x) s = .next t ∧ NoHeld s t r ∧
        (s.fwState 8 = 5 → OneRecord { s with bus := t.bus } t [] 0x600C u (s.xrd F.EXQ_STATE_ACCOUNT u) 8) ∧
        (s.fwState 8 ≠ 5 → s.fwRuns 8 = false → t.unit u = { s.unit u with switchReq := some va } ∧
          (∀ m, m ≠ u → t.unit m = s.unit m) ∧ t = { s with bus := t.bus, exq := t.exq }) ∧
        (s.fwRuns 8 = true → (s.unit u).loop = none →
          OneRecord { s with bus := t.bus } t [] 0x600C u (s.xrd F.EXQ_STATE_ACCOUNT u) 8) ∧
        (∀ lp old, s.fwRuns 8 = true → (s.unit u).loop = some lp → (s.unit u).table = some old →
          let rd := readTable (s.exqRead lp.account (some die.val)) va lp.progVa (bit lp.flags 3) lp.yLen
          (∀ r, rd = .error r → (r < 0x100 → OneRecord { s with bus := t.bus } t [] 0x600C u lp.account r) ∧
            (0x100 ≤ r → t = { s with bus := t.bus })) ∧
          (∀ tb, rd = .ok tb →
            (tb.n ≠ old.n ∨ tb.m ≠ old.m → OneRecord { s with bus := t.bus } t [] 0x600C u lp.account 1) ∧
            (tb.n = old.n → tb.m = old.m → SwitchPends { s with bus := t.bus } t u tb))))

/-- While the module serves and a unit runs a loop: a cycle is released no earlier than its count, counted, and skipped
during a rebuild; a burst complete by the cutoff moves it on, else the cutoff ends it with status 0x12; assembly leads
to a factorisation when one is due, else to the iterations; an iteration that converges ends it, one that reaches the
cap ends it with 0x13; the deadline ends it with 0x11 while it factors and 0x10 otherwise, each counted. An
uncorrectable word of the store ends it with 0x20 into a rebuild, which leads back to idle, a second one within 10 s
fences the unit, and corrected words are counted; no progress for HANG_US fences the unit. A step that finishes late,
or in another phase, changes nothing. A fragment not newer than c_last is dropped, counted and told, one of an input
ring once. (11_exchequer_solvers.md R396, 11_exchequer_solvers.md R397, 11_exchequer_solvers.md R398,
11_exchequer_solvers.md R399, 11_exchequer_solvers.md R400, 11_exchequer_solvers.md R401, 11_exchequer_solvers.md
R402, 11_exchequer_solvers.md R412) -/
def Obligations.CyclesRunToTheirDeadline : Prop :=
  ∀ (s : State) (u : Fin 16) (lp : Loop), s.running = true → (s.unit u).loop = some lp →
    let e := s.unit u
    let now := s.clk.now
    let last := s.xrd F.EXQ_PLANT_C_LAST u
    let counts := fun (t : State) (f : Field) => t.xrd f u = min (s.xrd f u + 1) f.max
    let moves := fun (t : State) (x : Exq) => t.unit u = x ∧ (∀ m, m ≠ u.val → t.unit m = s.unit m) ∧ t.mem = s.mem
    let started := { e with flags := 0, sat := 0, k := 0, progressAt := now }
    (now < lp.release ∨ (e.phase ≠ .idle ∧ e.phase ≠ .rebuilding) → exec (.cycleRelease u) s = .next s) ∧
    (lp.release ≤ now → e.phase = .rebuilding → ∃ t, exec (.cycleRelease u) s = .next t ∧
      CycleEnds s t u lp 5 .rebuilding ∧ counts t F.EXQ_CYCLES_COUNT) ∧
    (lp.release ≤ now → e.phase = .idle → lp.yLen = 0 → ∃ t, exec (.cycleRelease u) s = .next t ∧
      counts t F.EXQ_CYCLES_COUNT ∧
      moves t { started with phase := .assembling, y := [], cyc := e.nextTable, cycNew := e.pend.isSome }) ∧
    (lp.release ≤ now → e.phase = .idle → lp.yLen ≠ 0 →
      ∃ w t, counts w F.EXQ_CYCLES_COUNT ∧ moves w { started with phase := .waitInput } ∧
        w = { s with regs := w.regs, exq := w.exq } ∧ exec (.cycleRelease u) s = .next t ∧
        (lp.inVa = 0 → TakesInput w t u lp) ∧ (lp.inVa ≠ 0 → TakesInput (w.pollRing u) t u lp)) ∧
    (e.phase ≠ .waitInput ∨ lp.inVa = 0 → exec (.inputRingPoll u) s = .next s) ∧
    (e.phase = .waitInput → lp.inVa ≠ 0 →
      let c := (last + 1) % 2 ^ 32
      let size := slotBytes (20 + 4 * lp.yLen)
      let i := c % lp.inSlots
      let rd := s.exqRead lp.account (some (u / 4)) (lp.inVa + size * i) size
      let poll := exec (.inputRingPoll u) s
      poll = .next (s.pollRing u) ∧ (∀ r, rd = .error r → poll = .next s) ∧
      (∀ b, rd = .ok b → (field b 4 4 % lp.inSlots ≠ i ∨ fragOk lp b = false → poll = .next s) ∧
        (field b 4 4 % lp.inSlots = i → fragOk lp b = true →
          let v := s.setUnit u { e with ringSeen := mset 0 e.ringSeen i (field b 4 4 + 1) }
          (newer (field b 4 4) last = true → ∃ w t, poll = .next t ∧ HoldsFragment v w u b ∧ TakesInput w t u lp) ∧
          (newer (field b 4 4) last = false →
            (mget 0 e.ringSeen i = field b 4 4 + 1 → poll = .next v) ∧
            (mget 0 e.ringSeen i ≠ field b 4 4 + 1 → ∃ t, poll = .next t ∧ counts t F.EXQ_INPUT_LATE_DROP ∧
              OneRecord v t [regKey F.EXQ_INPUT_LATE_DROP.key (u / 4) (u % 4)] 0x6007 u (field b 4 4) last))))) ∧
    (∀ b : List Byte, b.length ≤ 9216 →
      let c := exec (.measurementFragment u b) s
      (lp.flags % 2 = 0 ∨ s.portUp lp.port = false ∨ fragOk lp b = false → c = .next s) ∧
      (lp.flags % 2 = 1 → s.portUp lp.port = true → fragOk lp b = true →
        (newer (field b 4 4) last = false → ∃ t, c = .next t ∧
          OneRecord s t [regKey F.EXQ_INPUT_LATE_DROP.key (u / 4) (u % 4)] 0x6007 u (field b 4 4) last ∧
          counts t F.EXQ_INPUT_LATE_DROP) ∧
        (newer (field b 4 4) last = true → ∃ w t, c = .next t ∧ HoldsFragment s w u b ∧ TakesInput w t u lp))) ∧
    (e.phase ≠ .waitInput ∨ now < e.cutoffAt lp → exec (.inputCutoff u) s = .next s) ∧
    (e.phase = .waitInput → e.cutoffAt lp ≤ now → ∃ t, exec (.inputCutoff u) s = .next t ∧ CycleEnds s t u lp 0x12 .idle ∧
      counts t F.EXQ_INPUT_INCOMPLETE) ∧
    (e.phase ≠ .assembling ∨ lp.release + lp.period < now → exec (.assemblyComplete u) s = .next s) ∧
    (e.phase ≠ .factoring ∨ lp.release + lp.period < now → exec (.factorisationComplete u) s = .next s) ∧
    (e.phase ≠ .iterating ∨ lp.release + lp.period < now → exec (.iterationComplete u {}) s = .next s) ∧
    (∀ tb, e.cyc = some tb →
      let a := assemble tb e.y
      (e.phase = .assembling → now ≤ lp.release + lp.period →
        (tb.hasSetm = true ∨ e.cycNew = true → ∃ t, exec (.assemblyComplete u) s = .next t ∧ moves t
          { e with sat := e.sat + a.2, progressAt := now, phase := .factoring, next := some a.1 }) ∧
        (tb.hasSetm = false → e.cycNew = false → ∃ t x, exec (.assemblyComplete u) s = .next t ∧ moves t x ∧
          x.phase = .iterating ∧ x.k = 0 ∧ x.prob = { a.1 with h := e.prob.h, a := e.prob.a } ∧
          (x.iter = tb.zeroIter ∨ (∃ w, e.warm = some w ∧ w.fp = tb.fp ∧ lp.flags / 4 % 2 = 1 ∧ x.iter = w)))) ∧
      (∀ p, e.next = some p →
        (e.phase = .factoring → now ≤ lp.release + lp.period → ∃ t x, exec (.factorisationComplete u) s = .next t ∧
          moves t x ∧ x.phase = .iterating ∧ x.k = 0 ∧ x.prob = p ∧ x.table = some tb ∧ x.next = none ∧
          x.factor = some (ldl (tb.kkt p)).1 ∧ x.sat = e.sat + (ldl (tb.kkt p)).2 ∧ (e.cycNew = true → e.pend = some tb → x.pend = none))) ∧
      (∀ f, e.factor = some f →
        let r := iterStep tb e.prob f (e.k + 1) lp.cap lp.check e.iter e.rp e.rd
        (e.phase = .iterating → now ≤ lp.release + lp.period →
          (r.res = .more → ∃ t, exec (.iterationComplete u {}) s = .next t ∧ moves t { e with
            k := e.k + 1, iter := r.iter, rp := r.rp, rd := r.rd, sat := e.sat + r.sat, progressAt := now }) ∧
          (r.res = .done → ∃ t, exec (.iterationComplete u {}) s = .next t ∧ CycleEnds s t u lp 0 .idle ∧
            (lp.stopping = false → (t.unit u).warm = some r.iter ∧ (t.unit u).last = some (r.iter.x, last))) ∧
          (r.res = .cap → ∃ t, exec (.iterationComplete u {}) s = .next t ∧ CycleEnds s t u lp 0x13 .idle ∧
            counts t F.EXQ_CAP_COUNT ∧ (lp.stopping = false → (t.unit u).warm = some r.iter))))) ∧
    (∀ cor : List Nat, ∃ w, exec (.iterationComplete u { cor := cor }) s = exec (.iterationComplete u {}) w ∧
      w = { s with regs := w.regs, dbk := w.dbk } ∧ w.xrd F.EXQ_STATE_STATE u = s.xrd F.EXQ_STATE_STATE u ∧
      w.rd F.ENG_ERR_CE_COUNT (u / 4) = min (s.rd F.ENG_ERR_CE_COUNT (u / 4) + cor.length) F.ENG_ERR_CE_COUNT.max) ∧
    (∀ x l, e.table = none ∨ s.exqFenced u = true → exec (.iterationComplete u { unc := x :: l }) s = .next s) ∧
    (∀ x tb, e.table = some tb → s.exqFenced u = false → e.order = none →
      let c := exec (.iterationComplete u { unc := [x] }) s
      let again := ∃ t, e.uncAt = some t ∧ now < t + 250000000
      (again → ∃ t, c = .next t ∧ t.xrd F.EXQ_STATE_STATE u = 5 ∧ (t.unit u).loop = none ∧ (t.unit u).orders = []) ∧
      (¬ again → e.phase ≠ .idle → e.phase ≠ .rebuilding → ∃ t, c = .next t ∧ CycleEnds s t u lp 0x20 .rebuilding ∧
        (lp.stopping = false → t.xrd F.EXQ_STATE_STATE u = 4 ∧ (t.unit u).uncAt = some now)) ∧
      (¬ again → e.phase = .idle ∨ e.phase = .rebuilding → ∃ t, c = .next t ∧ t.mem = s.mem ∧
        t.unit u = { e with phase := .rebuilding, uncAt := some now, cache := none } ∧
        (∀ m, m ≠ u.val → t.unit m = s.unit m) ∧ t.xrd F.EXQ_STATE_STATE u = 4)) ∧
    (e.phase ≠ .rebuilding → exec (.rebuildComplete u) s = .next s) ∧
    (∀ tb, e.phase = .rebuilding → e.table = some tb → ∃ t, exec (.rebuildComplete u) s = .next t ∧ t.mem = s.mem ∧
      (t.unit u).phase = .idle ∧ (t.unit u).warm = none ∧ (t.unit u).loop = some lp ∧ (t.unit u).factor ≠ none ∧
      t.xrd F.EXQ_STATE_STATE u = 2) ∧
    (now < lp.release + lp.period ∨ e.phase = .idle ∨ e.phase = .waitInput ∨ e.phase = .rebuilding →
      exec (.cycleDeadline u) s = .next s) ∧
    (lp.release + lp.period ≤ now → e.phase = .factoring → ∃ t, exec (.cycleDeadline u) s = .next t ∧
      CycleEnds s t u lp 0x11 .idle ∧ counts t F.EXQ_MISS_FACTOR) ∧
    (lp.release + lp.period ≤ now → e.phase = .assembling ∨ e.phase = .iterating →
      ∃ t, exec (.cycleDeadline u) s = .next t ∧ CycleEnds s t u lp 0x10 .idle ∧ counts t F.EXQ_MISS_DEADLINE) ∧
    (let over_ := e.progressAt + 25 * s.rd F.EXQ_CTRL_HANG_US (u / 4)
     (e.busy = false ∨ now < over_ → exec (.exqHang u) s = .next s) ∧
     (e.busy = true → over_ ≤ now → s.exqFenced u = false → ∃ t, exec (.exqHang u) s = .next t ∧
       t.xrd F.EXQ_STATE_STATE u = 5 ∧ (t.unit u).loop = none ∧ (t.unit u).orders = [] ∧ (t.unit u).order = none ∧
       t.rd F.GLB_STATE_RESTART_NEEDED = 1))

/-- While the module serves, a unit with no order running and no rebuild takes its front order, a SOLVE or an ADJOINT each
by its own command; the other command changes nothing. One that cannot be read or fails a check ends ABORTED with
record 0x600C and its reason, a NaN measurement ABORTED with record 0x6008, a poisoned or lost source with the status
of that read. Else the unit runs it and holds what it will deliver, memory as before. When it completes its blocks are
written and its status joins its batch, CAP as 1; where a block has no place to go it ends ABORTED with reason 5 and
no byte is written. An uncorrectable word of the working store ends a running order with 0x20 into a rebuild.
(11_exchequer_solvers.md R406, 11_exchequer_solvers.md R407, 11_exchequer_solvers.md R408, 11_exchequer_solvers.md
R409, 11_exchequer_solvers.md R410, 11_exchequer_solvers.md R413) -/
def Obligations.SolveOrdersRunAndDeliver : Prop :=
  ∀ (s : State) (u : Fin 16) (n i : Nat) (b : List Byte) (rest : List (Nat × Nat × List Byte)) (q : Queue),
    s.running = true → s.queue n = some q →
    let e := s.unit u
    let acct := q.account
    let adj := field b 0 1 = 2
    let c : Instr := if adj then .adjoint u else .solve u
    let other : Instr := if adj then .solve u else .adjoint u
    let ends := fun (w : State) st => ∃ t, exec c s = .next t ∧ OrderEnds s t u n i st ∧ t.dbk = w.dbk ∧ RegsBut s t dbkKeys
    let stops := fun r => (r < 0x100 → ends (s.note 0x600C u acct r) 4) ∧ (0x100 ≤ r → ends s (r - 0x100))
    let rd := s.orderRead u acct n b
    let runs := ∃ t o, exec c s = .next t ∧ t.mem = s.mem ∧ (t.unit u).order = some o ∧ (t.unit u).orders = rest ∧
      (∀ m, m ≠ u.val → t.unit m = s.unit m) ∧ o.queue = n ∧ o.index = i ∧ o.account = acct ∧
      (o.status ≤ 1 ∨ (o.status = 0x13 ∧ ¬ adj)) ∧ t.xrd F.EXQ_STATE_STATE u = 3 ∧ t.wrt = s.wrt
    (e.orders = [] ∨ e.order ≠ none ∨ e.phase = .rebuilding → exec (.solve u) s = .next s ∧ exec (.adjoint u) s = .next s) ∧
    (e.orders = (n, i, b) :: rest → e.order = none → e.phase ≠ .rebuilding →
      exec other s = .next s ∧
      (∀ r, rd = .error r → stops r) ∧
      (∀ tb y sat k, rd = .ok (tb, y, sat, some k) → ends (s.note 0x6008 u 0 k) 4) ∧
      (∀ tb y sat, rd = .ok (tb, y, sat, none) → ¬ adj →
        (field b 1 1 % 2 = 0 → runs) ∧
        (field b 1 1 % 2 = 1 →
          let w := s.exqRead acct none (field b 32 8) (4 + 4 * (tb.n + 2 * tb.m))
          (∀ x, w = .ok x → runs) ∧ (∀ r, w = .error r → stops r))) ∧
      (∀ tb y sat, rd = .ok (tb, y, sat, none) → adj →
        let w := s.exqRead acct none (field b 40 8 + 32) (4 * (tb.n + 2 * tb.m))
        let g := s.exqRead acct none (field b 48 8) (8 * tb.n)
        (∀ r, w = .error r → stops r) ∧ (∀ x r, w = .ok x → g = .error r → stops r) ∧
        (∀ x y, w = .ok x → g = .ok y → runs))) ∧
    (∀ o x tb, e.order = some o → e.table = some tb → s.exqFenced u = false → e.uncAt = none →
      ∃ t, exec (.iterationComplete u { unc := [x] }) s = .next t ∧ t.mem = s.mem ∧ (t.unit u).order = none ∧
        (t.unit u).phase = .rebuilding ∧ t.xrd F.EXQ_STATE_STATE u = 4 ∧ t.wrt = (s.exqDone o.queue o.index 0x20).wrt) ∧
    (e.order = none → exec (.solveOrderComplete u) s = .next s) ∧
    (∀ o, e.order = some o → ∃ t, exec (.solveOrderComplete u) s = .next t ∧ t.unit u = { e with order := none } ∧
      (∀ m, m ≠ u.val → t.unit m = s.unit m) ∧ t.xrd F.EXQ_STATE_STATE u = 0 ∧
      (let sts := o.writes.map (fun w => s.accWriteStatus o.account w.1 w.2.length)
       let st := firstStatus sts
       (st = 4 → t.mem = s.mem ∧ t.wrt = (s.exqDone o.queue o.index 4).wrt ∧
         t.dbk = (s.note 0x600C u o.account 5).dbk) ∧
       (st ≠ 4 → t.mem = (o.writes.foldl (fun s w => s.accWrite o.account w.1 w.2) s).mem ∧ t.dbk = s.dbk ∧
         t.wrt = (s.exqDone o.queue o.index (firstStatus [st, if o.status = 0x13 then 1 else o.status])).wrt)))

/-- While the module is up: a crash of a running or updating processor restarts it, from the new image once that has
started; the third within 60 s fails it with record 0x7002 cause 2. A restart of at most 40 ms puts it back with
record 0x7001, or 0x7003, the new image and a whole hand-off record; a longer one fails it with cause 1; the
recorder's goes on while a halt's warm reset waits. FW_UPDATE is refused with a reason and record 0x7004, a bad image
with 0x8001 besides, or stops the processor for the new image, which starts within 7 ms. NEGOTIATE of another major
version is refused; else the agreed words are what driver, firmware and policy share, and never grow in one start. An
error at module level makes a record alone during a dump, is held while the recorder steward restarts, and else stops
loops and module for a warm reset of source 3. (12_start_firmware_accounts.md R431, 12_start_firmware_accounts.md
R437, 12_start_firmware_accounts.md R438, 12_start_firmware_accounts.md R440, 12_start_firmware_accounts.md R442,
12_start_firmware_accounts.md R443, 02_timing_and_warrants.md R77, 13_daybook_and_dump.md R478, 13_daybook_and_dump.md
R479, 13_daybook_and_dump.md R484) -/
def Obligations.ProcessorsRestartUpdateAndFail : Prop :=
  ∀ (s : State),
    (∀ (p : Fin 17) (r : Restart),
      let now := s.clk.now
      let acts := s.up = true ∨ (p = 7 ∧ s.boot.phase = .halted ∧ s.boot.resetReq ≠ none)
      let alive := s.fwState p = 2 ∨ s.fwState p = 4
      let times := now :: s.within (s.proc p).crashTimes 1500000000
      let others := fun (w : State) => ∀ k, k ≠ p.val → w.proc k = s.proc k
      let fails := fun (c : Instr) cause (v : Proc) => ∃ t w, exec c s = .next t ∧
        w = { s with regs := w.regs, dbk := w.dbk, procs := w.procs } ∧ others w ∧ w.proc p = v ∧ w.fwState p = 5 ∧
        w.rd F.WRT_STATUS_BROKEN = 1 ∧ w.rd F.GLB_STATE_RESTART_NEEDED = 1 ∧ w.dbk = (s.note 0x7002 p cause).dbk ∧
        (p < 4 → t = w.dispatcherFails p) ∧ (p = 4 ∨ p = 5 ∨ p = 6 ∨ p = 8 → t = w) ∧
        (p = 7 → (s.boot.heldFatal = none ∨ s.boot.phase = .halted → t = w.st F.DBK_STATUS_STEWARD_ABSENT 1) ∧
          (∀ f, s.boot.heldFatal = some f → s.boot.phase ≠ .halted → ∃ x : State, t = x.fatalError f.1.toNat f.2.toNat ∧
            x = { w.st F.DBK_STATUS_STEWARD_ABSENT 1 with boot := { s.boot with heldFatal := none } })) ∧
        (9 ≤ p → t = w.loseShare (p - 9) 0)
      let image := match (s.proc p).upd with
        | some img => if now < (s.proc p).startsAt then (s.proc p).image else some img
        | none => (s.proc p).image
      let crashed := { s.proc p with image := image, upd := none, crashTimes := times, downSince := some now }
      (s.up = false ∨ ¬ alive → exec (.processorCrash p) s = .next s) ∧
      (s.up = true → alive →
        (times.length < 3 → ∃ t, exec (.processorCrash p) s = .next t ∧ others t ∧ t.proc p = crashed ∧ t.fwState p = 3 ∧
          t.wrt.restarts = [now] ∧ (p = 7 → t.rd F.DBK_STATUS_STEWARD_ABSENT = 1) ∧
          (∀ img, (s.proc p).upd = some img → (s.proc p).startsAt ≤ now → t.rd F.GLB_FW_VERSION 0 p = sigVersion img) ∧
          ((∀ x ∈ s.wrt.restarts, x + 250000000 ≤ now) →
            t = { s with regs := t.regs, procs := t.procs, wrt := { s.wrt with restarts := [now] } })) ∧
        (3 ≤ times.length → fails (.processorCrash p) 2 crashed)) ∧
      (¬ acts ∨ (s.fwState p ≠ 3 ∧ s.fwState p ≠ 4) → exec (.processorRestarted p r) s = .next s ∧
        exec (.processorRestartTimeout p) s = .next s) ∧
      (acts → s.fwState p = 3 ∨ s.fwState p = 4 →
        (40000 < r.us → fails (.processorRestarted p r) 1 { s.proc p with upd := none }) ∧
        (r.us ≤ 40000 → ∃ t w, exec (.processorRestarted p r) s = .next t ∧
          w = { s with regs := w.regs, dbk := w.dbk, procs := w.procs } ∧ others w ∧ w.fwState p = 2 ∧
          w.rd F.GLB_FW_LAST_RESTART_US 0 p = r.us ∧
          (p < 4 → t = w.settleKeepers) ∧ (p = 5 ∨ p = 6 ∨ 9 ≤ p → t = w) ∧ (p = 8 → t = w.exqWaiting) ∧
          (p = 4 → t = { w with regs := t.regs } ∧ ∀ d, d < 4 → t.rd F.MEM_STATUS_STEWARD_ABSENT d = 0) ∧
          (p = 7 →
            let x := w.st F.DBK_STATUS_STEWARD_ABSENT 0
            (s.boot.phase = .halted → t = x.persistAll.st F.PWR_LIMIT_TRIP_CLOCK 0) ∧
            (s.boot.phase ≠ .halted → s.boot.heldFatal = none → t = x) ∧
            (∀ f, s.boot.phase ≠ .halted → s.boot.heldFatal = some f →
              t = { x with boot := { s.boot with heldFatal := none } }.fatalError f.1.toNat f.2.toNat)) ∧
          ((s.proc p).upd = none → w.proc p = { s.proc p with downSince := none } ∧
            w.dbk = (s.note 0x7001 p r.us (s.within (s.proc p).crashTimes 1500000000).length).dbk) ∧
          (∀ img, (s.proc p).upd = some img →
            let whole := ∃ h, (s.proc p).handoff = some h ∧ r.areaOk = true ∧ h.crc = crc32c h.body
            w.proc p = { s.proc p with image := some img, upd := none, downSince := none, handoff := (w.proc p).handoff } ∧
            (whole → (w.proc p).handoff = (s.proc p).handoff) ∧ (¬ whole → (w.proc p).handoff = none) ∧
            w.rd F.GLB_FW_VERSION 0 p = sigVersion img ∧
            w.dbk = (s.note 0x7003 p (s.rd F.GLB_FW_VERSION 0 p) (sigVersion img)).dbk)) ∧
        ((∀ x, (s.proc p).downSince = some x → now < x + 1000000) → exec (.processorRestartTimeout p) s = .next s) ∧
        (∀ x, (s.proc p).downSince = some x → x + 1000000 ≤ now →
          fails (.processorRestartTimeout p) 1 { s.proc p with upd := none }))) ∧
    (∀ (slot : BitVec 10) (img : SigBlock) acct b, s.running = true → CmdReady s slot 0x0D acct b →
      let p := field b 16 1
      let r := s.updateReason p img
      let cls := procClass p
      let why := imgCheck cls (s.rd F.TRS_STATUS_ROOT_MIN) (s.floor cls) img
      (r ≠ 0 → r ≠ 3 → ∃ t, exec (.fwUpdate slot img) s = .next t ∧ CmdEnds (s.note 0x7004 p r) t slot 3 r 0) ∧
      (r = 3 → why ≠ 0 ∧ ∃ t v, exec (.fwUpdate slot img) s = .next t ∧ CmdEnds v t slot 3 3 0 ∧
        v = { s with regs := v.regs, dbk := v.dbk } ∧ v.rd F.TRS_LAST_REFUSE_CLASS = cls ∧ v.rd F.TRS_LAST_REFUSE_REASON = why ∧
        v.dbk = ((s.note 0x7004 p 3).note 0x8001 cls why (sigSvn img)).dbk) ∧
      (r = 0 → p < 17 ∧ s.fwAlive p = true ∧ why = 0 ∧ (∀ x ∈ s.wrt.restarts, x + 250000000 ≤ s.clk.now) ∧
        (∀ k, k < 17 → (s.proc k).upd = none) ∧ ∃ t v, exec (.fwUpdate slot img) s = .next t ∧ CmdEnds v t slot 0 0 0 ∧
          v = { s with regs := v.regs, procs := v.procs, free := v.free, wrt := { s.wrt with restarts := [s.clk.now] } } ∧
          v.fwState p = 4 ∧ s.clk.now ≤ (v.proc p).startsAt ∧ (v.proc p).startsAt ≤ s.clk.now + 175000 ∧
          (handoffClass p = true ↔ (v.proc p).handoff ≠ none) ∧ (∀ h, (v.proc p).handoff = some h → h.crc = crc32c h.body) ∧
          (v.proc p).upd = some img ∧ (v.proc p).downSince = some s.clk.now ∧ (v.proc p).image = (s.proc p).image ∧
          ∀ k, k ≠ p → v.proc k = s.proc k)) ∧
    (∀ (slot : BitVec 10) acct b, s.running = true → CmdReady s slot 0x10 acct b →
      let fv := s.rd F.GLB_FW_VERSION
      let mine := fun w => Nat.land (field b (16 + 8 * w) 8)
        (Nat.land (Config.capability (BitVec.ofNat 32 fv) w).toNat (s.rd F.GLB_POLICY_POLICY 0 w))
      (field b 48 4 / 2 ^ 24 ≠ fv / 2 ^ 24 → ∃ t, exec (.negotiate slot) s = .next t ∧
        CmdEnds (s.note 0x7006 (field b 48 4 / 2 ^ 24) (fv / 2 ^ 24)) t slot 3 1 0) ∧
      (field b 48 4 / 2 ^ 24 = fv / 2 ^ 24 → ∃ t v, exec (.negotiate slot) s = .next t ∧
        CmdEnds v t slot 0 0 (v.rd F.GLB_FEATURES_AGREED) ∧
        v = { s with regs := v.regs, dbk := v.dbk, boot := { s.boot with negotiated := true } } ∧
        ∀ w, w < 4 → v.rd F.GLB_FEATURES_AGREED 0 w = if s.boot.negotiated = true
          then Nat.land (mine w) (s.rd F.GLB_FEATURES_AGREED 0 w) else mine w)) ∧
    (∀ (code : BitVec 16) (level : BitVec 8),
      let c := exec (.moduleLevelError code level) s
      (s.boot.phase = .fatal → ∃ t, c = .next t ∧ OneRecord s t [] 0x0F10 code.toNat level.toNat 0) ∧
      (s.boot.phase ≠ .fatal → s.up = false → c = .next s) ∧
      (s.up = true → s.fwState 7 = 3 ∨ s.fwState 7 = 4 →
        c = .next { s with boot := { s.boot with heldFatal := some (s.boot.heldFatal.getD (code, level)) } }) ∧
      (s.up = true → s.fwState 7 ≠ 3 → s.fwState 7 ≠ 4 → ∃ t, c = .next t ∧ t.boot.phase = .fatal ∧
        t.boot.resetReq = some (s.boot.resetReq.getD 3) ∧ ∀ u, u < 16 → (t.unit u).loop = none))

/-- ATTACH with the session's token resumes it and binds its held accounts again; any other starts a session of a fresh
token. A heartbeat restarts the lapse; 2 s without one leave the module unattended, every bound account but 0 held,
with record 0x0030; 600 s later the session has ended and its accounts are reclaimed. A BIND with a reason is refused
with record 0x0022; else, once no other account holds what it names, the account re-binds: in ABORT mode the batches
on the queues it gives up end first; each core is wiped, tells its new account with record 0x0021, and leaves the
move; with no core left and nothing in use the command completes and the account holds what the descriptor names.
UNBIND frees an account the same way. A write of the ring's tail starts the entries announced: before an attach
refused with 0xFE, ill formed with 0xFF. (12_start_firmware_accounts.md R444, 12_start_firmware_accounts.md R445,
12_start_firmware_accounts.md R446, 12_start_firmware_accounts.md R447, 12_start_firmware_accounts.md R448,
12_start_firmware_accounts.md R449, 12_start_firmware_accounts.md R450, 12_start_firmware_accounts.md R451,
12_start_firmware_accounts.md R452) -/
def Obligations.SessionsAndAccountsMove : Prop :=
  ∀ (s : State),
    (∀ (slot : BitVec 10) x, s.cmdAcct slot.toNat 1 = some x →
      let c := exec (.attach slot) s
      let given := BitVec.ofNat 128 (field (s.cmdBytes slot.toNat) 16 16)
      let same := given ≠ 0 ∧ s.sess.token = some given
      let kind := if same then 1 else 0
      (s.up = false → c = .next s) ∧
      (s.boot.phase = .service → ∃ t, c = .next t ∧ CmdEnds s t slot 3 1 0) ∧
      (s.running = true → ∃ (t v : State) (tok : BitVec 128), c = .next t ∧
        CmdEnds (v.devWrite (v.cmdAddr slot.toNat + 32) (natLe 16 tok.toNat)) t slot 0 0 kind ∧
        v = { s with regs := v.regs, dbk := v.dbk, sess := v.sess, free := v.free,
                     boot := { s.boot with phase := .ready } } ∧
        v.sess = { s.sess with token := some tok, lastBeat := s.clk.now, lapsedAt := none, heldAccts := v.sess.heldAccts } ∧
        v.rd F.GLB_STATE_STATE = 1 ∧ v.dbk = (s.note 0x0031 kind).dbk ∧
        (same → tok = given ∧ v.free = s.free ∧ v.sess.heldAccts = [] ∧ ∀ p ∈ s.sess.heldAccts, p.1 < 64 →
          (∀ m ∈ s.moves, m.account ≠ p.1) → v.rd F.GLB_ACCT_STATE 0 p.1 = 1) ∧
        (¬ same → tok = Config.freeValue s.free ∧ v.free = s.free + 1 ∧ v.sess.heldAccts = s.sess.heldAccts))) ∧
    (∀ (q : Requester) (w : W32),
      (s.ctlWrite q = false ∨ q = .service → exec (.heartbeat q w) s = .next s) ∧
      (s.ctlWrite q = true → q ≠ .service → ∃ t, exec (.heartbeat q w) s = .next t ∧ NoHeld s t q ∧
        (s.attached = true → t = { s with bus := t.bus, sess := { s.sess with lastBeat := s.clk.now } }) ∧
        (s.attached = false → t = { s with bus := t.bus }))) ∧
    (s.boot.phase ≠ .ready ∨ s.attached = false ∨ s.clk.now < s.sess.lastBeat + 50000000 →
      exec .heartbeatLapse s = .next s) ∧
    (s.boot.phase = .ready → s.attached = true → s.sess.lastBeat + 50000000 ≤ s.clk.now →
      let new := (s.accts.map (·.1)).filter (fun a => a != 0 && !(s.sess.heldAccts.map (·.1)).contains a)
      let mask := (new.map (2 ^ ·)).sum
      ∃ t, exec .heartbeatLapse s = .next t ∧ t = { s with regs := t.regs, dbk := t.dbk, sess := t.sess, boot := t.boot } ∧
        t.boot = { s.boot with phase := .unattended } ∧ t.rd F.GLB_STATE_STATE = 2 ∧
        t.sess = { s.sess with lapsedAt := some s.clk.now, heldAccts := s.sess.heldAccts ++ new.map (·, s.clk.now) } ∧
        t.dbk = (s.note 0x0030 (mask % 2 ^ 32) (mask / 2 ^ 32)).dbk ∧
        ∀ a ∈ new, a < 64 → (∀ m ∈ s.moves, m.account ≠ a) → t.rd F.GLB_ACCT_STATE 0 a = 2) ∧
    (let due := (s.sess.heldAccts.filter (fun p => decide (p.2 + 15000000000 ≤ s.clk.now) && (s.moveOf p.1).isNone)).map (·.1)
     let ended := s.sess.token ≠ none ∧ ∃ x, s.sess.lapsedAt = some x ∧ x + 15000000000 ≤ s.clk.now
     (s.running = false → exec .holdExpiry s = .next s) ∧
     (due = [] → ¬ ended → s.moves = [] → exec .holdExpiry s = .next s) ∧
     (s.running = true → ended → ∃ t, exec .holdExpiry s = .next t ∧ t.sess.token = none ∧
       (∀ n ∈ due, n ≠ 0 → (∃ m ∈ t.moves, m.account = n ∧ m.slot = none) ∨ t.acct n = none ∨
         ∃ a, t.acct n = some a ∧ a.lomef = 0) ∧
       (due = [] → OneRecord { s with sess := { s.sess with token := none } } t [] 0x0032 0 0 0) ∧
       t.sess.heldAccts = s.sess.heldAccts.filter (fun p => !due.contains p.1))) ∧
    (∀ (slot : BitVec 10) n b, s.running = true → CmdReady s slot 2 n b → s.moveOf n = none →
      (∀ m ∈ s.moves, ∀ k ∈ m.cores, k < 256) →
      let c := exec (.bind slot) s
      let p := s.plan n (s.devRead [] (field b 16 8) 512)
      let new := p.acct.held (p.queues.map (·.1))
      let key := F.GLB_BIND_REFUSE_REASON.key
      let taken := (∃ o ∈ s.otherAccts n, (s.heldNow o).meets new = true) ∨ 256 < (p.queues.map (·.2.q)).sum + s.sharesNow n
      (s.boot.phase ≠ .ready → p.reason = 4) ∧ (s.boot.phase = .ready → n = 0 → p.reason = 8) ∧
      (p.reason ≠ 0 → ∃ t v, c = .next t ∧ CmdEnds v t slot 3 p.reason 0 ∧ OneRecord s v [key] 0x0022 n p.reason 0 ∧
        Sets s v key [(F.GLB_BIND_REFUSE_REASON, p.reason), (F.GLB_BIND_REFUSE_ACCOUNT, n)]) ∧
      (p.reason = 0 → taken → c = .next s) ∧
      (p.reason = 0 → ¬ taken → n < 64 → ∃ w : State, ∃ m ∈ w.moves, c = .next (w.tryEnd n) ∧ m.account = n ∧
        m.slot = some slot.toNat ∧ m.acct = some p.acct ∧ m.queues = p.queues ∧ m.drop = s.queuesMoved n p.queues ∧
        m.cores = coresMoved (s.heldNow n) new ∧ w.rd F.GLB_ACCT_STATE 0 n = 3 ∧
        (field b 24 1 % 2 = 0 → w = { s with regs := w.regs, moves := w.moves }) ∧
        (field b 24 1 % 2 = 1 → ∀ k ∈ m.drop, ∀ q, s.queue k = some q → q.batches.length ≤ 64 →
          ∀ x, w.queue k = some x → x.batches = []) ∧
        (m.cores ≠ [] → field b 24 1 % 2 = 0 → w.tryEnd n = w) ∧
        (m.cores = [] → field b 24 1 % 2 = 0 → w.moveClear m = true → ∃ v a, CmdEnds v (w.tryEnd n) slot 0 0 (s.moveUs m) ∧
          v.acct n = some a ∧ a = { p.acct with books := a.books } ∧ v.rd F.GLB_ACCT_STATE 0 n = 1 ∧ v.moveOf n = none))) ∧
    (∀ (slot : BitVec 10) n b, s.running = true → CmdReady s slot 3 n b → s.moveOf n = none →
      (∀ m ∈ s.moves, ∀ k ∈ m.cores, k < 256) →
      let c := exec (.unbind slot) s
      let fixed := n = 0 ∨ ∃ p ∈ s.sess.heldAccts, p.1 = n
      let loops := ∃ u ∈ maskBits 16 (s.heldNow n).exq, (s.unit u).loop ≠ none
      (fixed → ∃ t, c = .next t ∧ CmdEnds s t slot 3 8 0) ∧
      (¬ fixed → s.acct n = none → ∃ t, c = .next t ∧ CmdEnds s t slot 0 0 0) ∧
      (¬ fixed → s.acct n ≠ none → loops → ∃ t, c = .next t ∧ CmdEnds s t slot 3 3 0) ∧
      (¬ fixed → s.acct n ≠ none → ¬ loops → n < 64 → ∃ w : State, ∃ m ∈ w.moves, c = .next (w.tryEnd n) ∧ m.account = n ∧
        m.slot = some slot.toNat ∧ m.acct = none ∧ m.drop = s.acctQueues n ∧
        m.cores = coresMoved (s.heldNow n) Held.none ∧ w.rd F.GLB_ACCT_STATE 0 n = 3 ∧
        (field b 24 1 % 2 = 0 → w = { s with regs := w.regs, moves := w.moves }) ∧
        (field b 24 1 % 2 = 1 → ∀ k ∈ m.drop, ∀ q, s.queue k = some q → q.batches.length ≤ 64 →
          ∀ x, w.queue k = some x → x.batches = []) ∧
        (m.cores ≠ [] → field b 24 1 % 2 = 0 → w.tryEnd n = w) ∧
        (m.cores = [] → field b 24 1 % 2 = 0 → w.moveClear m = true → ∃ v, CmdEnds v (w.tryEnd n) slot 0 0 (s.moveUs m) ∧
          v.acct n = none ∧ v.rd F.GLB_ACCT_STATE 0 n = 0 ∧ v.moveOf n = none))) ∧
    (∀ (core : Fin 256) (m : Move), s.running = true → s.moves = [m] → m.account < 64 →
      let c := core.val
      let run := exec (.coreMove core) s
      let n := m.account
      let to_ := if bit (s.heldThen n).cores c then n else 0
      (c ∉ m.cores ∨ m.since = none ∨ s.fwState (c / 64) = 3 ∨ s.fwState (c / 64) = 4 → run = .next s) ∧
      let units := unitsMoved (s.heldNow n) (s.heldThen n)
      let inUse := hostCore (c / 16) = c ∧ c / 16 ∈ units ∧ ((s.unit (c / 16)).loop ≠ none ∨ (s.unit (c / 16)).order ≠ none)
      (c ∈ m.cores → m.since ≠ none → s.fwState (c / 64) ≠ 3 → s.fwState (c / 64) ≠ 4 → inUse →
        ((s.unit (c / 16)).loop = none → run = .next s) ∧
        ((s.unit (c / 16)).loop ≠ none → ∃ t, run = .next t ∧ LoopStops s t (c / 16))) ∧
      (c ∈ m.cores → m.since ≠ none → s.fwState (c / 64) ≠ 3 → s.fwState (c / 64) ≠ 4 → ¬ inUse → ∃ u : State,
        run = .next (u.tryEnd n) ∧
        ((∃ d ∈ m.cores, d ≠ c) → (∀ k ∈ units, (s.unit k).loop = none) → u.tryEnd n = u) ∧
        u = { s with mem := u.mem, cpu := u.cpu, regs := u.regs, dbk := u.dbk, moves := u.moves } ∧
        u.moves = [{ m with cores := m.cores.filter (· != c) }] ∧ u.mem.dram = s.mem.dram ∧
        u.mem.dramPoison = s.mem.dramPoison ∧ (∀ off, off < 2 ^ 21 → u.csRead c off 1 = [0#8] ∧ u.csPois c off 1 = false) ∧
        (∀ d r, u.sreg d r = if d = c then 0 else s.sreg d r) ∧ (∀ d, d ≠ c → u.core d = s.core d) ∧
        u.rd F.SEQ_STATE_ACCOUNT (c / 64) (c % 64) = to_ ∧
        u.dbk = (s.note 0x0021 (if bit (s.heldNow n).cores c then n else 0) to_ (s.moveUs m)).dbk)) ∧
    (∀ (q : Requester) (w : W32), CanWrite s q 0 F.GLB_CMD_TAIL_INDEX.key → 2 ≤ s.cmdSlots →
      let n := s.cmdSlots
      let old := s.rd F.GLB_CMD_TAIL_INDEX % n
      let new := w.toNat % 1024 % n
      ∃ v, NoHeld s v q ∧ OnlyRegs { s with bus := v.bus } v [regKey F.GLB_CMD_TAIL_INDEX.key 0 0] ∧
        v.rd F.GLB_CMD_TAIL_INDEX = new ∧
        exec (.glbCmdTail q w) s = .next ((List.range ((new + n - old) % n)).foldl (fun x i => x.cmdStart ((old + i) % n)) v)) ∧
    (∀ k : Nat,
      let b := s.cmdBytes k
      let op := field b 0 1
      let v := { s with sess := { s.sess with cmds := s.sess.cmds ++ [(k, op, field b 4 2)] } }
      (op ≠ 1 → s.attached = false → s.cmdStart k = v.cmdEnd k 3 0xFE) ∧
      ((op = 1 ∨ s.attached = true) → cmdWellFormed b = false → s.cmdStart k = v.cmdEnd k 3 0xFF) ∧
      ((op = 1 ∨ s.attached = true) → cmdWellFormed b = true → s.cmdStart k = v))

/-- While control space answers: an occurrence of a listed code above its flood limit only counts as suppressed; else its
record, with the parameters its code names and zeros for the others, is staged under the next sequence number, sealed
with its CRC, or held unsealed by a freeze, whose full queue loses it. The running steward enters the staged records
in order, and OPSEC every 360 s. A freeze, by register or command, holds until released or for 10 s, when the held
records are staged. DBK_READ returns the records asked for, a window read one word, its last word moving the cursor
under AUTOADV. New nonces are fresh values, dead after 300 s. DMP_CTRL stores its bits; DISCARD clears a dump not
being written. (13_daybook_and_dump.md R456, 13_daybook_and_dump.md R462, 13_daybook_and_dump.md R463,
13_daybook_and_dump.md R465, 13_daybook_and_dump.md R466, 13_daybook_and_dump.md R468, 13_daybook_and_dump.md R470,
13_daybook_and_dump.md R471, 13_daybook_and_dump.md R473, 13_daybook_and_dump.md R476, 13_daybook_and_dump.md R482,
14_trust.md R498) -/
def Obligations.RecordsAreHeldPersistedAndRead : Prop :=
  ∀ s : State,
    (∀ (code : BitVec 16) (p0 p1 p2 : W32) (p3 : BitVec 28),
      let c := exec (.recordAdmission code p0 p1 p2 p3) s
      let w := s.floodWin code
      let n := paramCount code.toNat
      (s.ctlAlive = false ∨ code.toNat ∉ codeList → c = .next s) ∧
      (s.ctlAlive = true → code.toNat ∈ codeList → ∃ t, c = .next t ∧ t = { s with regs := t.regs, dbk := t.dbk } ∧
        RegsBut s t dbkKeys ∧
        (w.admits code = false → t.dbk = { s.dbk with windows := t.dbk.windows } ∧
          t.rd F.DBK_SUPPRESSED_COUNT = min (s.rd F.DBK_SUPPRESSED_COUNT + 1) F.DBK_SUPPRESSED_COUNT.max) ∧
        (w.admits code = true → ∃ r : DbkRec, r.code = code ∧ r.sev.toNat = (codeInfo code.toNat).1 % 4 ∧
          r.p0 = (if 1 ≤ n then p0 else 0) ∧ r.p1 = (if 2 ≤ n then p1 else 0) ∧ r.p2 = (if 3 ≤ n then p2 else 0) ∧
           r.power = BitVec.ofNat 16 s.nor.power ∧ r.opsec = BitVec.ofNat 32 s.clk.opsec ∧
          (w.s = 0 → r.supp = false ∧ r.p3 = if param3 code.toNat = true then p3 else 0) ∧ (0 < w.s → r.supp = true ∧ r.p3.toNat = min w.s 0x0FFFFFFF) ∧
          (s.dbk.frozenAt = none → s.dbk.staging.length < 4096 → r.seq = s.dbk.seqNext ∧ r.crc = crc32c r.body ∧
            t.dbk = { s.dbk with windows := t.dbk.windows, staging := s.dbk.staging ++ [r], seqNext := s.dbk.seqNext + 1 }) ∧
          (s.dbk.frozenAt ≠ none → (codeInfo code.toNat).1 % 4 ≠ 3 →
            (s.dbk.holding.length < 256 → t.dbk = { s.dbk with windows := t.dbk.windows,
                                                               holding := s.dbk.holding ++ [r] }) ∧
            (256 ≤ s.dbk.holding.length → t.dbk = { s.dbk with windows := t.dbk.windows,
                                                               lostNow := s.dbk.lostNow + 1 }))))) ∧
    (let can := s.ctlAlive = true ∧ s.fwRuns 7 = true
     (¬ can ∨ s.dbk.frozenAt ≠ none → exec .recordPersist s = .next s) ∧
     (can → s.dbk.frozenAt = none → ∃ t, exec .recordPersist s = .next t ∧
       t = { s with regs := t.regs, dbk := { s.dbk with staging := [] },
                    nor := { s.nor with seq := s.dbk.seqNext, book := persisted s.nor.book s.dbk.staging } }) ∧
     (¬ can ∨ s.clk.now < s.dbk.opsecPersistAt + 9000000000 → exec .opsecPersist s = .next s) ∧
     (can → s.dbk.opsecPersistAt + 9000000000 ≤ s.clk.now → exec .opsecPersist s = .next
       { s with nor := { s.nor with opsec := s.clk.opsec, opsecPfail := false },
                dbk := { s.dbk with opsecPersistAt := s.clk.now } })) ∧
    (let frozen := fun (t : State) => t.dbk = if s.dbk.frozenAt = none ∧ s.boot.phase ≠ .fatal
         then { s.dbk with frozenAt := some s.clk.now, lostNow := 0 } else s.dbk
     let thawed := fun (t : State) (why : Nat) => RegsBut s t dbkKeys ∧ t.dbk.frozenAt = none ∧
       (s.dbk.frozenAt = none → t.dbk = s.dbk ∧ t.regs = s.regs) ∧
       (s.dbk.frozenAt ≠ none → t.dbk.holding = [] ∧ t.rd F.DBK_STATUS_LAST_END = why ∧
         (s.dbk.lostNow = 0 → t.dbk.seqNext = s.dbk.seqNext + BitVec.ofNat 16 s.dbk.holding.length))
     (∀ q, s.ctlWrite q = true →
       (∃ t, exec (.freeze none q) s = .next t ∧ NoHeld s t q ∧ t = { s with bus := t.bus, dbk := t.dbk } ∧ frozen t) ∧
       (∃ t, exec (.freezeRelease none q) s = .next t ∧ NoHeld s t q ∧
         t = { s with bus := t.bus, regs := t.regs, dbk := t.dbk } ∧ thawed t 1)) ∧
     (∀ q (slot : BitVec 10) acct b, CmdReady s slot 7 acct b →
       (field b 16 1 % 2 = 0 → exec (.freeze (some slot) q) s = .next s ∧ ∃ t v, exec (.freezeRelease (some slot) q) s =
         .next t ∧ CmdEnds v t slot 0 0 0 ∧ v = { s with regs := v.regs, dbk := v.dbk } ∧ thawed v 1) ∧
       (field b 16 1 % 2 = 1 → exec (.freezeRelease (some slot) q) s = .next s ∧ ∃ t v, exec (.freeze (some slot) q) s =
         .next t ∧ CmdEnds v t slot (if s.boot.phase = .fatal then 3 else 0) (if s.boot.phase = .fatal then 1 else 0) 0 ∧
         v = { s with dbk := v.dbk } ∧ frozen v)) ∧
     ((∀ x, s.dbk.frozenAt = some x → s.clk.now < x + 250000000) → exec .freezeExpiry s = .next s) ∧
     (∀ x, s.dbk.frozenAt = some x → x + 250000000 ≤ s.clk.now → ∃ t, exec .freezeExpiry s = .next t ∧
       t = { s with regs := t.regs, dbk := t.dbk } ∧ thawed t 2)) ∧
    (∀ (slot : BitVec 10) acct b, CmdReady s slot 8 acct b →
      let rs := readRange s.nor.book b
      (s.fwRuns 7 = false → exec (.dbkRead slot) s = .next s) ∧
      (s.fwRuns 7 = true → rs.length ≤ 4096 ∧ (field b 24 1 % 2 = 0 → rs = (s.nor.book.drop (field b 16 8)).take
          (max 1 (min 4096 (field b 26 2)))) ∧ ∃ t, exec (.dbkRead slot) s = .next t ∧
        CmdEnds (s.devWrite (field b 32 8) (rs.flatMap DbkRec.bytes)) t slot 0 0 rs.length)) ∧
    (∀ (q : Requester) (w : Fin 64) (i : Instr), i = .dbkWindowRead q w ∨ (w = 63 ∧ i = .dbkWindowAdvance q) →
      s.ctlRead q = true → reads q 3 = true →
      let c := exec i s
      let i := s.rd F.DBK_CURSOR_INDEX
      let word := match s.nor.book[i + w / 8]? with
        | some r => BitVec.ofNat 64 (field r.bytes (4 * (w % 8)) 4)
        | none => 0
      ∃ t, c = .next t ∧ t = { s with bus := t.bus, regs := t.regs } ∧ (q, word) ∈ t.bus.rdata ∧
        RegsBut s t [regKey F.DBK_CURSOR_INDEX.key 0 0, regKey F.DBK_STATUS_CRC_BAD.key 0 0] ∧
        t.rd F.DBK_CURSOR_INDEX = (if w.val = 63 ∧ s.rd F.DBK_CURSOR_AUTOADV = 1 then (i + 8) % 65536 else i) ∧
        (∀ r, s.nor.book[i + w / 8]? = some r → crc32c r.body ≠ r.crc → t.rd F.DBK_STATUS_CRC_BAD = 1)) ∧
    (∀ (q : Requester) (v : W32),
      (CanWrite s q 3 F.DBK_CLEAR_NONCE.key → ∃ t, exec (.dbkNonce q v) s = .next t ∧ NoHeld s t q ∧
        (v.toNat % 2 = 0 → t = { s with bus := t.bus }) ∧
        (v.toNat % 2 = 1 → t = { s with bus := t.bus, free := s.free + 1,
                                        dbk := { s.dbk with nonce := some (Config.freeValue s.free, s.clk.now) } })) ∧
      (CanWrite s q 5 F.TRS_NONCE_CTRL_NEW.key → ∃ t, exec (.trsNonceNew q v) s = .next t ∧ NoHeld s t q ∧
        (v.toNat % 2 = 0 → t = { s with bus := t.bus }) ∧
        (v.toNat % 2 = 1 → t = { s with bus := t.bus, free := s.free + 1,
                                        trust := { s.trust with nonce := some (Config.freeValue s.free, s.clk.now) } })) ∧
      (CanWrite s q 4 F.DMP_CTRL_KEEP.key → ∃ t, exec (.dmpDiscard q v) s = .next t ∧ NoHeld s t q ∧
        t.rd F.DMP_CTRL_KEEP = v.toNat % 2 ∧ t.rd F.DMP_CTRL_TILES = v.toNat / 2 % 2 ∧
        (v.toNat / 256 % 2 = 0 ∨ s.rd F.DMP_STATUS_WRITING = 1 → OnlyRegs { s with bus := t.bus } t
          [regKey F.DMP_CTRL_KEEP.key 0 0]) ∧
        (v.toNat / 256 % 2 = 1 → s.rd F.DMP_STATUS_WRITING ≠ 1 → t.rd F.DMP_STATUS_VALID = 0))) ∧
    (∀ x y, s.dbk.nonce = some (x, y) → exec (.nonceExpiry false) s =
      .next (if y + 7500000000 ≤ s.clk.now then { s with dbk := { s.dbk with nonce := none } } else s)) ∧
    (s.dbk.nonce = none → exec (.nonceExpiry false) s = .next s) ∧ (s.trust.nonce = none → exec (.nonceExpiry true) s = .next s) ∧
    (∀ x y, s.trust.nonce = some (x, y) → exec (.nonceExpiry true) s =
      .next (if y + 7500000000 ≤ s.clk.now then { s with trust := { s.trust with nonce := none } } else s))

/-- A token whose header memory holds is refused with the first check it fails and record 0x8004, using up its nonce from
the signature checks on; an accepted one empties the Daybook, empties the degrade log, or raises the counters it
names, but for those whose write UFS refuses. Attestation answers when the module serves and its identity keys exist,
and not ready before (the capability word is the model's, log entry 103). A checked charter is written for the next
start, a refused one is told with record 0x8001. In service state and before start step 7 completes the responder
answers each datagram, an unreadable one with result 1; it reads a register, writes a register, or gathers a token.
The management link goes down from up and up from down with one record; a debugger that attaches makes one record.
(14_trust.md R495, 14_trust.md R498, 14_trust.md R499, 14_trust.md R500, 14_trust.md R501,
16_connectors_power_mechanical.md R539, 16_connectors_power_mechanical.md R542, 16_connectors_power_mechanical.md
R545, 16_connectors_power_mechanical.md R551) -/
def Obligations.TokensAttestationAndTheEdgeAnswer : Prop :=
  ∀ s : State,
    (∀ (slot : BitVec 10) acct b (hdr : List Byte) (g : TokenSigs) (refused : List Nat),
      let c := exec (.token slot hdr g refused) s
      let h := (s.devRead [] (field b 16 8) 64).bytes
      let a := field h 4 1
      let k := field h 5 1
      let nonce := if a = 1 then s.nonceLive s.dbk.nonce else s.nonceLive s.trust.nonce
      let fails : List Bool := [
        decide (field b 24 4 ≠ 16672 ∨ slice h 0 4 ≠ [0x48#8, 0x4C#8, 0x58#8, 0x54#8] ∨ a = 0 ∨ 3 < a ∨ field h 6 2 ≠ 0 ∨
          field h 48 16 ≠ 0 ∨ (a ≠ 3 ∧ field h 40 8 ≠ 0)),
        decide (∀ x ∈ s.keyRoles k, bit x (a - 1) = false), decide (slice h 8 16 ≠ s.deviceId),
        decide (nonce ≠ some (BitVec.ofNat 128 (field h 24 16))), decide (g.rsa ≠ ⟨.rsa, s.keyRsa k, h⟩),
        decide (g.slh ≠ ⟨.slhS, s.keySlh k, h⟩), decide (a = 1 ∧ s.boot.phase = .fatal)]
      let r := match fails.findIdx? id with | some i => i + 1 | none => 0
      (64 < hdr.length → c = .fault .illFormed) ∧
      (hdr.length ≤ 64 → CmdReady s slot 0x0E acct b →
        (h ≠ hdr → c = .next s) ∧
        (h = hdr → r ≠ 0 → ∃ t v, c = .next t ∧ CmdEnds v t slot 3 r 0 ∧
          v = { s with regs := v.regs, dbk := v.dbk, trust := v.trust } ∧
          v.dbk = ((if r < 5 then s else s.dropNonce a).note 0x8004 a r k).dbk ∧
          (r < 5 → v.dbk.nonce = s.dbk.nonce ∧ v.trust = s.trust) ∧
          (5 ≤ r → (a = 1 → v.dbk.nonce = none) ∧ (a ≠ 1 → v.trust.nonce = none))) ∧
        (h = hdr → r = 0 → 1 ≤ a ∧ a ≤ 3 ∧
          ∃ t v, c = .next t ∧ CmdEnds v t slot 0 0 0 ∧ v.mem = s.mem ∧
            (a = 1 → v.nor.book = [] ∧ v.dbk.nonce = none ∧ v.rd F.DBK_CLEAR_RESULT = 1 ∧ v.dbk.frozenAt = none) ∧
            (a = 2 → v.nor.degrade = [] ∧ v.nor.degradeCtr = 0 ∧ v.rd F.GLB_DEGRADE_LOG = 0 ∧ v.trust.nonce = none ∧ v.rd F.TRS_NONCE_CTRL_RESULT = 1) ∧
            (a = 3 → v.trust.nonce = none ∧ ∀ k, k < 11 → s.runningSvn k < 2 ^ 32 →
              v.rd F.TRS_COUNTER_VALUE 0 k = if bit (field h 40 8) k = true ∧ k ∉ refused
                then max (s.rd F.TRS_COUNTER_VALUE 0 k) (s.runningSvn k) else s.rd F.TRS_COUNTER_VALUE 0 k)))) ∧
    (∀ (nonce : BitVec 256) (cs : BitVec 4) (ix : BitVec 8) (c : Instr) (ans : SpdmMsg),
      let n := natLe 32 nonce.toNat
      let chain := s.nor.chain.flatMap id
      let own := natLe 16 (Config.freeValue s.free).toNat ++ natLe 16 (Config.freeValue (s.free + 1)).toNat
      let blocks := (List.range 31).map (fun i => s.measure (i + 1))
      let all : Sig := ⟨.slhF, s.idSlh, sha (n ++ blocks.flatMap id)⟩
      let signed := fun code nums (data : List (List Byte)) (more : List Sig) =>
        (⟨code, nums, n :: data, ⟨.rsa, s.idRsa, n ++ data.flatMap id⟩ :: more⟩ : SpdmMsg)
      let serves := s.running = true ∧ s.rd F.TRS_STATUS_ID_READY = 1
      (c, ans) ∈ [(Instr.getVersion, (⟨0x04, [0x13], [], []⟩ : SpdmMsg)), (.getCapabilities, ⟨0x61, [0x16], [], []⟩),
        (.negotiateAlgorithms, ⟨0x63, [3072, 384], [], []⟩), (.getDigests, ⟨0x01, [1], [sha chain], []⟩),
        (.getCertificate cs, if cs = 0 then ⟨0x02, [0], s.nor.chain, []⟩ else ⟨0x7F, [0x01], [], []⟩),
        (.challenge nonce cs, if cs = 0 then signed 0x03 [0] [sha chain, own] [] else ⟨0x7F, [0x01], [], []⟩),
        (.getMeasurements nonce ix, if ix = 0xFF then signed 0x60 [32] blocks [all] else if ix = 0 then signed 0x60 [32] [] []
          else if ix.toNat ≤ 31 then signed 0x60 [ix.toNat] [s.measure ix.toNat] [] else if ix = 0xF0 then signed 0x60 [0xF0] [] [all]
          else ⟨0x7F, [0x01], [], []⟩)] →
      (serves → ∃ t, exec c s = .next t ∧ t = { s with trust := { s.trust with spdm := some ans }, free := t.free } ∧
        t.free = if c = .challenge nonce 0 then s.free + 2 else s.free) ∧
      (¬ serves → (s.up = true ∨ s.boot.phase = .starting) → s.rd F.GPC_HARTS_ONLINE ≠ 0 →
        exec c s = .next { s with trust := { s.trust with spdm := some ⟨0x7F, [0x42], [], []⟩ } }) ∧
      (¬ serves → (s.up = false ∧ s.boot.phase ≠ .starting) ∨ s.rd F.GPC_HARTS_ONLINE = 0 → exec c s = .next s)) ∧
    (∀ img : CharterImage,
      let why := imgCheck 0 (s.rd F.TRS_STATUS_ROOT_MIN) (s.floor 0) { img.sig with body := img.body }
      let serves := s.running = true ∧ s.rd F.TRS_STATUS_ID_READY = 1
      let fits := charterReadable img = true ∧ s.floor 0 ≤ field img.body 8 4
      (serves → why = 0 → fits → exec (.charterUpdate img) s = .next { s with nor := { s.nor with charter := img } }) ∧
      (serves → why ≠ 0 → ∃ t, exec (.charterUpdate img) s = .next t ∧ t.rd F.TRS_LAST_REFUSE_REASON = why ∧
        t.rd F.TRS_LAST_REFUSE_CLASS = 0 ∧ OneRecord s t [regKey F.TRS_LAST_REFUSE_CLASS.key 0 0] 0x8001 0 why (sigSvn img.sig)) ∧
      (¬ serves ∨ (why = 0 ∧ ¬ fits) → exec (.charterUpdate img) s = .next s)) ∧
    (∀ (d : List Byte) (g : TokenSigs) (refused : List Nat) (op : Nat),
      let c : Instr := if op = 1 then .serviceRead d else if op = 2 then .serviceWrite d else .serviceTokenFragment d g refused
      let time := s.boot.phase = .service ∨ (s.boot.phase = .starting ∧ s.rd F.GLB_STATE_STEP < 7)
      let answers := fun (t : State) v r => t.trust.svcReply = some (svcReplyBytes d v r)
      let ok := svcReadable d = true ∧ svcOp d = op
      let f := d.drop 24
      let off := svcValue d
      (1 ≤ op → op ≤ 3 → ¬ time → exec c s = .next s) ∧
      (time → 1 ≤ op → op ≤ 3 →
        (¬ ok → ∃ t, exec c s = .next t ∧ t = { s with trust := { s.trust with svcReply := t.trust.svcReply } } ∧
          answers t off 1) ∧
        (ok → op = 1 → svcReads (svcAddr d) = true → d.length = 24 → ∃ t u v, exec c s = .next t ∧
          u = s.busRead .service (svcAddr d) 4 ∧ v = u.svcGot ∧ t = { u with trust := t.trust } ∧ answers t v 0) ∧
        (ok → op = 2 → svcWrites (svcAddr d) = true → d.length = 24 → ∃ t u, exec c s = .next t ∧
          u = s.busWrite .service (svcAddr d) 4 off ∧ t = { u with trust := t.trust } ∧ answers t off 0) ∧
        (ok → (op = 1 ∧ (svcReads (svcAddr d) = false ∨ d.length ≠ 24)) ∨
            (op = 2 ∧ (svcWrites (svcAddr d) = false ∨ d.length ≠ 24)) ∨
            (op = 3 ∧ (f.length = 0 ∨ 1024 < f.length ∨ 16672 < off + f.length)) →
          ∃ t, exec c s = .next t ∧ t = { s with trust := { s.trust with svcReply := t.trust.svcReply } } ∧ answers t off 1) ∧
        (ok → op = 3 → 1 ≤ f.length → f.length ≤ 1024 → off + f.length < 16672 → ∃ t, exec c s = .next t ∧ answers t off 0 ∧
          t = { s with trust := { s.trust with svcReply := t.trust.svcReply, svcToken := t.trust.svcToken } } ∧
          ∀ k, mget 0#8 t.trust.svcToken k = if off ≤ k ∧ k < off + f.length then f.getD (k - off) 0
            else mget 0#8 s.trust.svcToken k) ∧
        (ok → op = 3 → 1 ≤ f.length → f.length ≤ 1024 → off + f.length = 16672 → ∃ t u, exec c s = .next t ∧
          answers t off 0 ∧ t = { u with trust := { u.trust with svcReply := t.trust.svcReply } } ∧
          u = ({ s with trust := { s.trust with svcToken := [] } }).checkToken
            ((List.range 64).map (fun i => mget 0#8 s.trust.svcToken i)) 16672 g refused))) ∧
    (∀ (cause : BitVec 2) (opt fec : Bool), s.ctlAlive = true →
      let key := regKey F.MGT_LINK_STATE.key 0 0
      (s.rd F.MGT_LINK_STATE ≠ 2 ∨ cause = 0 ∨ cause = 3 → exec (.managementLinkDown cause) s = .next s) ∧
      (s.rd F.MGT_LINK_STATE = 2 → cause = 1 ∨ cause = 2 → ∃ t, exec (.managementLinkDown cause) s = .next t ∧
        OneRecord s t [key, regKey F.MGT_LINK_DOWNS.key 0 0] 0x0061 cause.toNat 0 0 ∧ t.rd F.MGT_LINK_STATE = 0 ∧
        t.rd F.MGT_LINK_DOWNS = min 255 (s.rd F.MGT_LINK_DOWNS + 1)) ∧
      (s.rd F.MGT_LINK_STATE = 2 → exec (.managementLinkUp opt fec) s = .next s) ∧
      (s.rd F.MGT_LINK_STATE ≠ 2 → ∃ t, exec (.managementLinkUp opt fec) s = .next t ∧
        OneRecord s t [key] 0x0062 (b2n opt) (b2n fec) 0 ∧ t.rd F.MGT_LINK_STATE = 2 ∧ t.rd F.MGT_LINK_MEDIA = b2n opt ∧
        t.rd F.MGT_LINK_FEC = b2n fec) ∧
      (s.rd F.MGT_SLOT_DEBUG = 1 → exec .debugAttach s = .next s) ∧
      (s.rd F.MGT_SLOT_DEBUG = 0 → ∃ t, exec .debugAttach s = .next t ∧
        OneRecord { s with edge := { s.edge with debug := true } } t [regKey F.MGT_SLOT_DEBUG.key 0 0] 0x0060 0 0 0 ∧ t.rd F.MGT_SLOT_DEBUG = 1))

/-- While the unit's software runs: a sample below 0.10 A registers nothing, any other adds its product to the energy of
its direction, the remainder carried exactly; 4,000 samples make a meter second; each 1 Wh is persisted; a pulse is
made while the LED lags; at a multiple of D the period's demand may become the maximum. A demand reset is done or
refused (within 60 s of the last, or with the log closed) with record 0x9006; in a period's last second it waits for
the evaluation, and those that wait follow in order. At supply-up what was persisted is in force and openings are
logged; an input below 40 V persists and stops the unit. The hub divides the increase so that the shares sum to it.
Rounding to nearest and waiting while the link is lost are the model's choices (log entries 83 and 85).
(15_assize_unit.md R505, 15_assize_unit.md R507, 15_assize_unit.md R508, 15_assize_unit.md R510, 15_assize_unit.md
R511, 15_assize_unit.md R512, 15_assize_unit.md R513, 15_assize_unit.md R515, 15_assize_unit.md R517,
15_assize_unit.md R524) -/
def Obligations.TheMeterRegistersAndIsDivided : Prop :=
  ∀ s : State,
    let a := s.asz
    let logged := fun (l : List LogEntry) (e : LogEntry) => if 1024 ≤ l.length then l else l ++ [e]
    let kept := fun (l : List LogEntry) (e : LogEntry) => (l ++ [e]).drop (l.length + 1 - 256)
    let resets := fun (u t : State) (slot : Option (BitVec 10)) =>
      let heard := u.up = true ∧ u.asz.lost = false
      let early := (∃ x, u.asz.lastReset = some x ∧ u.asz.msec < x + 60) ∨ 1000 ≤ u.asz.legalLog.length
      ∃ (v : State) (r : Nat), (heard → OneRecord { u with asz := v.asz } v [] 0x9006 r u.asz.maxDemand v.asz.resets) ∧
        (¬ heard → v = { u with asz := v.asz }) ∧
        (early → r = 2 ∧ v.asz = u.asz) ∧
        (¬ early → r = 1 ∧ v.asz = { u.asz with
          legalLog := u.asz.legalLog ++ [⟨3, u.asz.msec, u.asz.euwh, BitVec.ofNat 32 u.asz.maxDemand, 0⟩]
          maxDemand := 0, maxDemandAt := 0, resets := u.asz.resets + 1
          lastReset := some u.asz.msec, periodStart := u.asz.euwh }) ∧
        (slot = none ∨ ¬ heard → t = v) ∧ ∀ k, slot = some k → heard → CmdEnds v t k 0 0 r
    let forwards := fun (c : Instr) (slot : Option (BitVec 10)) =>
      (a.lost = true ∨ a.running = false → exec c s = .next s) ∧
      (a.lost = false → a.running = true →
        ((a.msec + 1) % a.d = 0 → exec c s = .next { s with asz := { a with resetPend := a.resetPend ++ [slot] } }) ∧
        ((a.msec + 1) % a.d ≠ 0 → ∃ t, exec c s = .next t ∧ resets s t slot))
    (a.running = false → (∀ uv ua, exec (.energySample uv ua) s = .next s) ∧ exec .energyPersist s = .next s ∧
      exec .testPulse s = .next s ∧ exec .demandPeriodEnd s = .next s) ∧
    (a.running = true →
      (∀ uv ua : Int,
        let p := if ua.natAbs < 100000 then 0 else uv * ua
        ∃ t b, exec (.energySample uv ua) s = .next t ∧ t = { s with asz := b } ∧
          b = { a with euwh := b.euwh, eRem := b.eRem, ruwh := b.ruwh, rRem := b.rRem, samples := b.samples, msec := b.msec,
                       revHour := b.revHour, overRange := a.overRange || decide (64000000 < ua.natAbs) } ∧
          (0 ≤ p → b.ruwh = a.ruwh ∧ b.rRem = a.rRem ∧ (-7200000000000 ≤ a.eRem → ∃ n : Nat,
            b.euwh = (a.euwh + n) % 2 ^ 64 ∧ b.eRem + n * 14400000000000 = a.eRem + p ∧ -7200000000000 ≤ b.eRem ∧
            b.eRem < 7200000000000)) ∧
          (p < 0 → b.euwh = a.euwh ∧ b.eRem = a.eRem ∧ (-7200000000000 ≤ a.rRem → ∃ n : Nat,
            b.ruwh = (a.ruwh + n) % 2 ^ 64 ∧ b.rRem + n * 14400000000000 = a.rRem - p ∧ -7200000000000 ≤ b.rRem ∧
            b.rRem < 7200000000000)) ∧
          (a.samples + 1 < 4000 → b.samples = a.samples + 1 ∧ b.msec = a.msec ∧ b.revHour = a.revHour) ∧
          (4000 ≤ a.samples + 1 → b.samples = 0 ∧ b.msec = a.msec + 1 ∧
            b.revHour = if (a.msec + 1) / 3600 = a.revHour.1 then a.revHour else ((a.msec + 1) / 3600, b.ruwh))) ∧
      (a.euwh < a.nvEuwh + 1000000 → a.ruwh < a.nvRuwh + 1000000 → exec .energyPersist s = .next s) ∧
      (a.nvEuwh + 1000000 ≤ a.euwh ∨ a.nvRuwh + 1000000 ≤ a.ruwh → exec .energyPersist s = .next { s with asz :=
        { a with nvEuwh := a.euwh, nvRuwh := a.ruwh, nvMsec := a.msec, nvDemand := (a.maxDemand, a.maxDemandAt, a.resets) } }) ∧
      exec .testPulse s = .next { s with asz :=
        { a with pulses := if a.pulses < a.euwh * a.pulseConst / 1000000000 then a.pulses + 1 else a.pulses } } ∧
      (a.msec % a.d ≠ 0 → exec .demandPeriodEnd s = .next s) ∧
      (a.msec % a.d = 0 →
        let w := (a.euwh - a.periodStart) * 3600 / (a.d * 1000000)
        let e := { a with maxDemand := max a.maxDemand w, periodStart := a.euwh
                          maxDemandAt := if a.maxDemand < w then a.msec else a.maxDemandAt }
        exec .demandPeriodEnd s = .next (a.resetPend.foldl State.resetDone { s with asz := { e with resetPend := [] } }))) ∧
    (∀ slot, resets s (s.resetDone slot) slot) ∧
    (s.running = false → exec (.demandReset none) s = .next s) ∧
    (s.running = true → forwards (.demandReset none) none) ∧
    (∀ slot acct b, CmdReady s slot 0x0F acct b →
      (s.running = false → exec (.demandReset (some slot)) s = .next s) ∧
      (s.running = true → forwards (.demandReset (some slot)) (some slot))) ∧
    (∀ ok, (a.supplied = true → exec (.assizeSupplyUp ok) s = .next s) ∧
      (a.supplied = false → ∃ t b, exec (.assizeSupplyUp ok) s = .next t ∧ t = { s with asz := b } ∧
        b = { a with
          supplied := true, running := ok, euwh := a.nvEuwh, ruwh := a.nvRuwh, msec := a.nvMsec, samples := 0, eRem := 0
          rRem := 0, periodStart := a.nvEuwh, maxDemand := a.nvDemand.1, maxDemandAt := a.nvDemand.2.1
          resets := a.nvDemand.2.2, requested := false, revHour := (a.nvMsec / 3600, a.nvRuwh)
          supplyLog := if ok then kept a.supplyLog ⟨1, a.nvMsec, a.nvEuwh, 0, 0⟩ else a.supplyLog
          unlogged := if ok then 0 else a.unlogged
          legalLog := if ok then a.legalLog ++ List.replicate (min a.unlogged (1024 - a.legalLog.length))
            ⟨4, a.nvMsec, a.nvEuwh, 0, 0⟩ else a.legalLog })) ∧
    (∀ mv, (a.supplied = false ∨ 40000 ≤ mv → exec (.assizeSupplyFail mv) s = .next s) ∧
      (a.supplied = true → mv < 40000 → a.running = false → exec (.assizeSupplyFail mv) s = .next
        { s with asz := { a with supplied := false, requested := false, resetPend := [] } }) ∧
      (a.supplied = true → mv < 40000 → a.running = true → exec (.assizeSupplyFail mv) s = .next { s with asz := { a with
        supplied := false, running := false, requested := false, resetPend := []
        supplyLog := kept a.supplyLog ⟨2, a.msec, a.euwh, 0, 0⟩
        legalLog := if a.coverOpen then logged a.legalLog ⟨7, a.msec, a.euwh, 0, 0⟩ else a.legalLog
        nvEuwh := a.euwh, nvRuwh := a.ruwh, nvMsec := a.msec, nvDemand := (a.maxDemand, a.maxDemandAt, a.resets) } })) ∧
    (∀ es : List (Nat × Nat),
      (a.shareBase = none ∨ s.up = false ∨ s.fwAlive 6 = false → exec (.accountEnergyDivision es) s = .next s) ∧
      (∀ base, a.shareBase = some base → s.up = true → s.fwAlive 6 = true →
        let inc := s.rd F.ASZ_ENERGY_UWH - base
        let own := es.filter (fun e => decide (e.1 < 64))
        let total := (own.map (·.2)).sum
        let share := fun e : Nat × Nat => if total = 0 then 0 else inc * e.2 / total
        let grown := fun (t : State) n k => t.rd F.ASZ_ACCT_UWH 0 n = min (s.rd F.ASZ_ACCT_UWH 0 n + k) (2 ^ 64 - 1)
        ∃ t, exec (.accountEnergyDivision es) s = .next t ∧
          t = { s with regs := t.regs, asz := { a with shareBase := some (max base (s.rd F.ASZ_ENERGY_UWH)) } } ∧
          RegsBut s t ((List.range 64).map (regKey F.ASZ_ACCT_UWH.key 0)) ∧
          (∀ n, n ≠ 0 → n < 64 → grown t n ((own.filter (fun e => e.1 = n)).map share).sum) ∧
          ∃ k, grown t 0 k ∧ k + ((own.filter (fun e => e.1 ≠ 0)).map share).sum = inc))

/-- The cover's opening sets the latch, logged at once or at the next supply-up. While the software runs: overcurrent
above 64 A and more than 1 Wh of reverse energy in an hour are logged; parameters and software change only with the
cover open and the log not closed, each change logged; the latch clears and the cover is sealed anew with the cover
open, the log emptied or not (log entry 105); a reading, signed with the unit's two keys, is made when its interval or
period is due, or once per second on request, the oldest of more than 64 discarded. A status frame shows the readings
held, energy, voltage and current; 100 ms without one make record 0x9001. The oldest reading is fetched; a failed
signature makes record 0x9002; a verified one is delivered and shown, with records 0x9004 and 0x9005. Numbers of log
events and parameters are the model's choice (log entry 84). (15_assize_unit.md R512, 15_assize_unit.md R516,
15_assize_unit.md R517, 15_assize_unit.md R518, 15_assize_unit.md R519, 15_assize_unit.md R520, 15_assize_unit.md
R521, 15_assize_unit.md R522, 15_assize_unit.md R523, 15_assize_unit.md R525, 15_assize_unit.md R527) -/
def Obligations.ReadingsAreMadeFetchedAndShown : Prop :=
  ∀ s : State,
    let a := s.asz
    let logs := fun (ev : Nat) (x y : W32) => if 1024 ≤ a.legalLog.length then a.legalLog
      else a.legalLog ++ [⟨ev, a.msec, a.euwh, x, y⟩]
    let port := a.running = true ∧ a.coverOpen = true ∧ a.legalLog.length < 1000
    exec .coverOpening s = .next { s with asz := { a with
      coverOpen := true, tamper := true, legalLog := if a.running then logs 4 0 0 else a.legalLog
      unlogged := if a.running then a.unlogged else a.unlogged + 1 } } ∧
    (∀ ma : W32,
      (a.running = false ∨ ma.toNat ≤ 64000 → exec (.overcurrentEvent ma) s = .next s) ∧
      (a.running = true → 64000 < ma.toNat → exec (.overcurrentEvent ma) s = .next { s with asz := { a with
        overRange := true, legalLog := logs 6 ma 0 } })) ∧
    (a.running = false ∨ a.ruwh ≤ a.revHour.2 + 1000000 → exec .reverseEnergyEvent s = .next s) ∧
    (a.running = true → a.revHour.2 + 1000000 < a.ruwh → exec .reverseEnergyEvent s = .next { s with asz := { a with
      revHour := (a.revHour.1, a.ruwh), legalLog := logs 5 (BitVec.ofNat 32 (a.ruwh - a.revHour.2)) 0 } }) ∧
    (∀ (which : BitVec 4) (v : W32),
      let c := exec (.parameterChange which v) s
      let n := v.toNat
      (¬ port → c = .next s) ∧
      (port → (which = 0 → c = .next { s with asz := { a with calibration := v, legalLog := logs 2 a.calibration v } }) ∧
        (which = 1 → c = .next (if n = 300 ∨ n = 900 ∨ n = 1800 ∨ n = 3600 then { s with asz := { a with
          d := n, periodStart := a.euwh, legalLog := logs 2 (BitVec.ofNat 32 a.d) v } } else s)) ∧
        (which = 2 → c = .next { s with asz := { a with
          pulseConst := n, pulses := a.euwh * n / 1000000000, legalLog := logs 2 (BitVec.ofNat 32 a.pulseConst) v } }) ∧
        (which = 3 → c = .next (if n = 0 then s else { s with asz := { a with
          interval := n, legalLog := logs 2 (BitVec.ofNat 32 a.interval) v } })) ∧
        (4 ≤ which.toNat → c = .next s))) ∧
    (∀ (ver : W32) (dig : W64), exec (.softwareReplacement ver dig) s = .next (if port then { s with asz := { a with
      swVersion := ver, swDigest := dig, legalLog := logs 1 a.swVersion ver } } else s)) ∧
    exec .tamperLatchClear s = .next (if a.running = true ∧ a.coverOpen = true
      then { s with free := s.free + 1, asz := { a with
        tamper := false, coverOpen := false, legalLog := if (Config.freeValue s.free).toNat % 2 = 1 then [] else a.legalLog } } else s) ∧
    (let timed := (a.msec % a.interval = 0 ∨ a.msec % a.d = 0) ∧ a.madeAt ≠ some a.msec ∧ a.msec ≠ 0
     let asked := a.requested = true ∧ a.lastRequest ≠ some a.msec
     let rsaKey := natBe 384 a.rsaPub.toNat
     let slhKey := natBe 48 a.slhPub.toNat
     let r0 : Reading := {
                          serial := a.serial
                          rsa := ⟨.rsa, [], []⟩
                          slh := ⟨.slhF, [], []⟩
                          seq := a.seq + 1, msec := a.msec, energyWh := a.euwh / 1000000, maxDemand := a.maxDemand
                          maxDemandAt := a.maxDemandAt, resets := a.resets, d := a.d
                          flags := BitVec.ofNat 32 ((if a.tamper then 1 else 0) +
                            (if 1000 ≤ a.legalLog.length then 2 else 0) + (if a.overRange then 4 else 0))
                          legal := a.legalLog.length, swVersion := a.swVersion, swDigest := a.swDigest
                          rWh := a.ruwh / 1000000 }
     let r := { r0 with rsa := ⟨.rsa, rsaKey, r0.body⟩, slh := ⟨.slhF, slhKey, r0.body⟩ }
     (a.running = false ∨ (¬ timed ∧ ¬ asked) → exec .readingMade s = .next s) ∧
     (a.running = true → timed ∨ asked → exec .readingMade s = .next { s with asz := { a with
       seq := a.seq + 1, readings := (a.readings ++ [r]).drop (a.readings.length + 1 - 64), overRange := false
       requested := false, madeAt := if timed then some a.msec else a.madeAt
       lastRequest := if asked then some a.msec else a.lastRequest } })) ∧
    (∀ (q : Requester) (v : W32), CanWrite s q 6 F.ASZ_CMD_CMD.key → ∃ t, exec (.readingRequest q v) s = .next t ∧
      NoHeld s t q ∧ t = { s with bus := t.bus, asz := { a with
        requested := a.requested || (a.running && !a.lost && decide (v.toNat % 4 = 1)) } }) ∧
    (∀ (volt : BitVec 16) (ma : W32),
      (s.up = false ∨ a.running = false → exec (.statusFramePoll volt ma) s = .next s) ∧
      (s.up = true → a.running = true → ∃ t, exec (.statusFramePoll volt ma) s = .next t ∧
        t = { s with regs := t.regs, asz := { a with
          lastFrame := s.clk.now, lost := false, shareBase := some (a.shareBase.getD a.euwh) } } ∧
        RegsBut s t [regKey F.ASZ_STATUS_LINK.key 0 0, regKey F.ASZ_ENERGY_UWH.key 0 0, regKey F.ASZ_NOW_VOLTAGE.key 0 0] ∧
        Sets s t (regKey F.ASZ_STATUS_LINK.key 0 0) [(F.ASZ_STATUS_LINK, 1), (F.ASZ_STATUS_HELD, a.readings.length)] ∧
        t.rd F.ASZ_ENERGY_UWH = a.euwh % 2 ^ 64 ∧ t.rd F.ASZ_NOW_VOLTAGE = volt.toNat ∧
        t.rd F.ASZ_NOW_CURRENT = ma.toNat / 10 % 2 ^ 16)) ∧
    (s.up = false ∨ a.lost = true ∨ s.clk.now < a.lastFrame + 2500000 → exec .assizeLinkLost s = .next s) ∧
    (s.up = true → a.lost = false → a.lastFrame + 2500000 ≤ s.clk.now → ∃ t, exec .assizeLinkLost s = .next t ∧
      OneRecord { s with asz := { a with lost := true } } t [regKey F.ASZ_STATUS_LINK.key 0 0] 0x9001
        (s.rd F.ASZ_READING_SEQ) 0 0 ∧ t.rd F.ASZ_STATUS_LINK = 0) ∧
    (∀ rsa slh : Bool,
      let c := exec (.readingFetch rsa slh) s
      let key := regKey F.ASZ_STATUS_LINK.key 0 0
      (s.up = false ∨ a.lost = true ∨ a.running = false ∨ a.readings = [] → c = .next s) ∧
      ∀ r rest, s.up = true → a.lost = false → a.running = true → a.readings = r :: rest →
        let fl := r.flags.toNat
        let good := rsa = true ∧ r.rsa = ⟨.rsa, slice a.certBody 32 384, r.body⟩
        let good2 := slh = true ∧ r.slh = ⟨.slhF, slice a.certBody 416 48, r.body⟩
        (¬ good ∨ ¬ good2 → ∃ t p, (¬ good → p = 1) ∧ (good → p = 2) ∧ c = .next t ∧
          OneRecord { s with asz := { a with readings := rest } } t [key] 0x9002 r.seq p 0 ∧
          Sets s t key [(F.ASZ_STATUS_HELD, rest.length)]) ∧
        (good → good2 → ∃ t, c = .next t ∧
          t = { s with regs := t.regs, dbk := t.dbk, asz := { a with readings := rest, delivered := a.delivered ++ [r] } } ∧
          RegsBut s t ([key, regKey F.ASZ_READING_SEQ.key 0 0, regKey F.ASZ_SWID_VERSION.key 0 0] ++ dbkKeys) ∧
          Sets s t key [(F.ASZ_STATUS_HELD, rest.length), (F.ASZ_STATUS_TAMPER, fl % 2), (F.ASZ_STATUS_LOG_CLOSED, fl / 2 % 2)] ∧
          t.rd F.ASZ_READING_SEQ = r.seq % 2 ^ 32 ∧ t.rd F.ASZ_SWID_VERSION = r.swVersion.toNat ∧
          t.rd F.ASZ_SWID_DIGEST = r.swDigest.toNat % 2 ^ 32 ∧
          t.dbk = (let u := if fl % 2 = 1 ∨ fl / 4 % 2 = 1 then s.note 0x9004 r.seq fl else s
            if fl / 2 % 2 = 1 ∧ s.rd F.ASZ_STATUS_LOG_CLOSED ≠ 1 then u.note 0x9005 r.legal else u).dbk))

/-- From any state at all, with no command waiting or a well formed one in front, a step answers a next state: no command
is refused and none faults on data. The commands behind the front stay as they are and in order. When the fast tier,
the tile stores and the core stores are in canonical form (addresses and poisoned words rise, no byte listed that
reads as unlisted ones do) they are so after the step. That stores read zero where nothing is listed is the model's
choice (log entry 7). (02_timing_and_warrants.md R59, 05_engines_and_sequencers.md R160, 05_engines_and_sequencers.md
R186, 08_memory_tiers.md R275) -/
def Obligations.EveryCommandCompletesAndKeepsTheStores : Prop :=
  ∀ s : State, (∀ c rest, s.pending = c :: rest → c.wf = true) →
    ∃ t, step s = .next t ∧ t.pending = s.pending.tail ∧ (Memory.wf s.mem = true → Memory.wf t.mem = true) ∧
      (s.queueWf = true → t.queueWf = true)
end

