-- ==== Sys2Proof/Laws/State.lean ====
section
/-! SUPPORT. Frames of the register fields, of time and of the Daybook's admission: one lemma for each field of the state that
an operation leaves alone. -/

namespace Sys2Proof.Machine

/-- What each step of a fold keeps, the fold keeps. -/
theorem foldl_keeps {α β : Type} (g : State → β) (f : State → α → State) (h : ∀ s a, g (f s a) = g s) (l : List α)
    (s : State) : g (l.foldl f s) = g s := by
  induction l generalizing s with
  | nil => rfl
  | cons a t ih => rw [List.foldl_cons, ih, h]

/-! ### `setReg` -/

@[simp] theorem setReg_pending (s : State) (k : Nat) (v : W64) : (s.setReg k v).pending = s.pending := rfl
@[simp] theorem setReg_bus (s : State) (k : Nat) (v : W64) : (s.setReg k v).bus = s.bus := rfl
@[simp] theorem setReg_clk (s : State) (k : Nat) (v : W64) : (s.setReg k v).clk = s.clk := rfl
@[simp] theorem setReg_pow (s : State) (k : Nat) (v : W64) : (s.setReg k v).pow = s.pow := rfl
@[simp] theorem setReg_boot (s : State) (k : Nat) (v : W64) : (s.setReg k v).boot = s.boot := rfl
@[simp] theorem setReg_nor (s : State) (k : Nat) (v : W64) : (s.setReg k v).nor = s.nor := rfl
@[simp] theorem setReg_dbk (s : State) (k : Nat) (v : W64) : (s.setReg k v).dbk = s.dbk := rfl
@[simp] theorem setReg_trust (s : State) (k : Nat) (v : W64) : (s.setReg k v).trust = s.trust := rfl
@[simp] theorem setReg_procs (s : State) (k : Nat) (v : W64) : (s.setReg k v).procs = s.procs := rfl
@[simp] theorem setReg_sess (s : State) (k : Nat) (v : W64) : (s.setReg k v).sess = s.sess := rfl
@[simp] theorem setReg_accts (s : State) (k : Nat) (v : W64) : (s.setReg k v).accts = s.accts := rfl
@[simp] theorem setReg_moves (s : State) (k : Nat) (v : W64) : (s.setReg k v).moves = s.moves := rfl
@[simp] theorem setReg_wrt (s : State) (k : Nat) (v : W64) : (s.setReg k v).wrt = s.wrt := rfl
@[simp] theorem setReg_cpu (s : State) (k : Nat) (v : W64) : (s.setReg k v).cpu = s.cpu := rfl
@[simp] theorem setReg_mem (s : State) (k : Nat) (v : W64) : (s.setReg k v).mem = s.mem := rfl
@[simp] theorem setReg_ms (s : State) (k : Nat) (v : W64) : (s.setReg k v).ms = s.ms := rfl
@[simp] theorem setReg_train (s : State) (k : Nat) (v : W64) : (s.setReg k v).train = s.train := rfl
@[simp] theorem setReg_fab (s : State) (k : Nat) (v : W64) : (s.setReg k v).fab = s.fab := rfl
@[simp] theorem setReg_exq (s : State) (k : Nat) (v : W64) : (s.setReg k v).exq = s.exq := rfl
@[simp] theorem setReg_asz (s : State) (k : Nat) (v : W64) : (s.setReg k v).asz = s.asz := rfl
@[simp] theorem setReg_edge (s : State) (k : Nat) (v : W64) : (s.setReg k v).edge = s.edge := rfl
@[simp] theorem setReg_free (s : State) (k : Nat) (v : W64) : (s.setReg k v).free = s.free := rfl

/-! ### `st` -/

@[simp] theorem st_pending (s : State) (f : Field) (v i x : Nat) : (s.st f v i x).pending = s.pending := rfl
@[simp] theorem st_bus (s : State) (f : Field) (v i x : Nat) : (s.st f v i x).bus = s.bus := rfl
@[simp] theorem st_clk (s : State) (f : Field) (v i x : Nat) : (s.st f v i x).clk = s.clk := rfl
@[simp] theorem st_pow (s : State) (f : Field) (v i x : Nat) : (s.st f v i x).pow = s.pow := rfl
@[simp] theorem st_boot (s : State) (f : Field) (v i x : Nat) : (s.st f v i x).boot = s.boot := rfl
@[simp] theorem st_nor (s : State) (f : Field) (v i x : Nat) : (s.st f v i x).nor = s.nor := rfl
@[simp] theorem st_dbk (s : State) (f : Field) (v i x : Nat) : (s.st f v i x).dbk = s.dbk := rfl
@[simp] theorem st_trust (s : State) (f : Field) (v i x : Nat) : (s.st f v i x).trust = s.trust := rfl
@[simp] theorem st_procs (s : State) (f : Field) (v i x : Nat) : (s.st f v i x).procs = s.procs := rfl
@[simp] theorem st_sess (s : State) (f : Field) (v i x : Nat) : (s.st f v i x).sess = s.sess := rfl
@[simp] theorem st_accts (s : State) (f : Field) (v i x : Nat) : (s.st f v i x).accts = s.accts := rfl
@[simp] theorem st_moves (s : State) (f : Field) (v i x : Nat) : (s.st f v i x).moves = s.moves := rfl
@[simp] theorem st_wrt (s : State) (f : Field) (v i x : Nat) : (s.st f v i x).wrt = s.wrt := rfl
@[simp] theorem st_cpu (s : State) (f : Field) (v i x : Nat) : (s.st f v i x).cpu = s.cpu := rfl
@[simp] theorem st_mem (s : State) (f : Field) (v i x : Nat) : (s.st f v i x).mem = s.mem := rfl
@[simp] theorem st_ms (s : State) (f : Field) (v i x : Nat) : (s.st f v i x).ms = s.ms := rfl
@[simp] theorem st_train (s : State) (f : Field) (v i x : Nat) : (s.st f v i x).train = s.train := rfl
@[simp] theorem st_fab (s : State) (f : Field) (v i x : Nat) : (s.st f v i x).fab = s.fab := rfl
@[simp] theorem st_exq (s : State) (f : Field) (v i x : Nat) : (s.st f v i x).exq = s.exq := rfl
@[simp] theorem st_asz (s : State) (f : Field) (v i x : Nat) : (s.st f v i x).asz = s.asz := rfl
@[simp] theorem st_edge (s : State) (f : Field) (v i x : Nat) : (s.st f v i x).edge = s.edge := rfl
@[simp] theorem st_free (s : State) (f : Field) (v i x : Nat) : (s.st f v i x).free = s.free := rfl

/-! ### `inc` -/

@[simp] theorem inc_pending (s : State) (f : Field) (n i x : Nat) : (s.inc f n i x).pending = s.pending := rfl
@[simp] theorem inc_bus (s : State) (f : Field) (n i x : Nat) : (s.inc f n i x).bus = s.bus := rfl
@[simp] theorem inc_clk (s : State) (f : Field) (n i x : Nat) : (s.inc f n i x).clk = s.clk := rfl
@[simp] theorem inc_pow (s : State) (f : Field) (n i x : Nat) : (s.inc f n i x).pow = s.pow := rfl
@[simp] theorem inc_boot (s : State) (f : Field) (n i x : Nat) : (s.inc f n i x).boot = s.boot := rfl
@[simp] theorem inc_nor (s : State) (f : Field) (n i x : Nat) : (s.inc f n i x).nor = s.nor := rfl
@[simp] theorem inc_dbk (s : State) (f : Field) (n i x : Nat) : (s.inc f n i x).dbk = s.dbk := rfl
@[simp] theorem inc_trust (s : State) (f : Field) (n i x : Nat) : (s.inc f n i x).trust = s.trust := rfl
@[simp] theorem inc_procs (s : State) (f : Field) (n i x : Nat) : (s.inc f n i x).procs = s.procs := rfl
@[simp] theorem inc_sess (s : State) (f : Field) (n i x : Nat) : (s.inc f n i x).sess = s.sess := rfl
@[simp] theorem inc_accts (s : State) (f : Field) (n i x : Nat) : (s.inc f n i x).accts = s.accts := rfl
@[simp] theorem inc_moves (s : State) (f : Field) (n i x : Nat) : (s.inc f n i x).moves = s.moves := rfl
@[simp] theorem inc_wrt (s : State) (f : Field) (n i x : Nat) : (s.inc f n i x).wrt = s.wrt := rfl
@[simp] theorem inc_cpu (s : State) (f : Field) (n i x : Nat) : (s.inc f n i x).cpu = s.cpu := rfl
@[simp] theorem inc_mem (s : State) (f : Field) (n i x : Nat) : (s.inc f n i x).mem = s.mem := rfl
@[simp] theorem inc_ms (s : State) (f : Field) (n i x : Nat) : (s.inc f n i x).ms = s.ms := rfl
@[simp] theorem inc_train (s : State) (f : Field) (n i x : Nat) : (s.inc f n i x).train = s.train := rfl
@[simp] theorem inc_fab (s : State) (f : Field) (n i x : Nat) : (s.inc f n i x).fab = s.fab := rfl
@[simp] theorem inc_exq (s : State) (f : Field) (n i x : Nat) : (s.inc f n i x).exq = s.exq := rfl
@[simp] theorem inc_asz (s : State) (f : Field) (n i x : Nat) : (s.inc f n i x).asz = s.asz := rfl
@[simp] theorem inc_edge (s : State) (f : Field) (n i x : Nat) : (s.inc f n i x).edge = s.edge := rfl
@[simp] theorem inc_free (s : State) (f : Field) (n i x : Nat) : (s.inc f n i x).free = s.free := rfl

/-! ### `takeFree` -/

@[simp] theorem takeFree_pending (s : State) : s.takeFree.pending = s.pending := rfl
@[simp] theorem takeFree_regs (s : State) : s.takeFree.regs = s.regs := rfl
@[simp] theorem takeFree_bus (s : State) : s.takeFree.bus = s.bus := rfl
@[simp] theorem takeFree_clk (s : State) : s.takeFree.clk = s.clk := rfl
@[simp] theorem takeFree_pow (s : State) : s.takeFree.pow = s.pow := rfl
@[simp] theorem takeFree_boot (s : State) : s.takeFree.boot = s.boot := rfl
@[simp] theorem takeFree_nor (s : State) : s.takeFree.nor = s.nor := rfl
@[simp] theorem takeFree_dbk (s : State) : s.takeFree.dbk = s.dbk := rfl
@[simp] theorem takeFree_trust (s : State) : s.takeFree.trust = s.trust := rfl
@[simp] theorem takeFree_procs (s : State) : s.takeFree.procs = s.procs := rfl
@[simp] theorem takeFree_sess (s : State) : s.takeFree.sess = s.sess := rfl
@[simp] theorem takeFree_accts (s : State) : s.takeFree.accts = s.accts := rfl
@[simp] theorem takeFree_moves (s : State) : s.takeFree.moves = s.moves := rfl
@[simp] theorem takeFree_wrt (s : State) : s.takeFree.wrt = s.wrt := rfl
@[simp] theorem takeFree_cpu (s : State) : s.takeFree.cpu = s.cpu := rfl
@[simp] theorem takeFree_mem (s : State) : s.takeFree.mem = s.mem := rfl
@[simp] theorem takeFree_ms (s : State) : s.takeFree.ms = s.ms := rfl
@[simp] theorem takeFree_train (s : State) : s.takeFree.train = s.train := rfl
@[simp] theorem takeFree_fab (s : State) : s.takeFree.fab = s.fab := rfl
@[simp] theorem takeFree_exq (s : State) : s.takeFree.exq = s.exq := rfl
@[simp] theorem takeFree_asz (s : State) : s.takeFree.asz = s.asz := rfl
@[simp] theorem takeFree_edge (s : State) : s.takeFree.edge = s.edge := rfl

/-! ### `advance` -/

@[simp] theorem advance_pending (s : State) (n : Nat) : (s.advance n).pending = s.pending := by unfold State.advance; split <;> rfl
@[simp] theorem advance_regs (s : State) (n : Nat) : (s.advance n).regs = s.regs := by unfold State.advance; split <;> rfl
@[simp] theorem advance_bus (s : State) (n : Nat) : (s.advance n).bus = s.bus := by unfold State.advance; split <;> rfl
@[simp] theorem advance_pow (s : State) (n : Nat) : (s.advance n).pow = s.pow := by unfold State.advance; split <;> rfl
@[simp] theorem advance_boot (s : State) (n : Nat) : (s.advance n).boot = s.boot := by unfold State.advance; split <;> rfl
@[simp] theorem advance_nor (s : State) (n : Nat) : (s.advance n).nor = s.nor := by unfold State.advance; split <;> rfl
@[simp] theorem advance_dbk (s : State) (n : Nat) : (s.advance n).dbk = s.dbk := by unfold State.advance; split <;> rfl
@[simp] theorem advance_trust (s : State) (n : Nat) : (s.advance n).trust = s.trust := by unfold State.advance; split <;> rfl
@[simp] theorem advance_procs (s : State) (n : Nat) : (s.advance n).procs = s.procs := by unfold State.advance; split <;> rfl
@[simp] theorem advance_sess (s : State) (n : Nat) : (s.advance n).sess = s.sess := by unfold State.advance; split <;> rfl
@[simp] theorem advance_accts (s : State) (n : Nat) : (s.advance n).accts = s.accts := by unfold State.advance; split <;> rfl
@[simp] theorem advance_moves (s : State) (n : Nat) : (s.advance n).moves = s.moves := by unfold State.advance; split <;> rfl
@[simp] theorem advance_wrt (s : State) (n : Nat) : (s.advance n).wrt = s.wrt := by unfold State.advance; split <;> rfl
@[simp] theorem advance_cpu (s : State) (n : Nat) : (s.advance n).cpu = s.cpu := by unfold State.advance; split <;> rfl
@[simp] theorem advance_mem (s : State) (n : Nat) : (s.advance n).mem = s.mem := by unfold State.advance; split <;> rfl
@[simp] theorem advance_ms (s : State) (n : Nat) : (s.advance n).ms = s.ms := by unfold State.advance; split <;> rfl
@[simp] theorem advance_train (s : State) (n : Nat) : (s.advance n).train = s.train := by unfold State.advance; split <;> rfl
@[simp] theorem advance_fab (s : State) (n : Nat) : (s.advance n).fab = s.fab := by unfold State.advance; split <;> rfl
@[simp] theorem advance_exq (s : State) (n : Nat) : (s.advance n).exq = s.exq := by unfold State.advance; split <;> rfl
@[simp] theorem advance_asz (s : State) (n : Nat) : (s.advance n).asz = s.asz := by unfold State.advance; split <;> rfl
@[simp] theorem advance_edge (s : State) (n : Nat) : (s.advance n).edge = s.edge := by unfold State.advance; split <;> rfl
@[simp] theorem advance_free (s : State) (n : Nat) : (s.advance n).free = s.free := by unfold State.advance; split <;> rfl

/-! ### `setDbk` -/

@[simp] theorem setDbk_pending (s : State) (d : Dbk) : (s.setDbk d).pending = s.pending := rfl
@[simp] theorem setDbk_regs (s : State) (d : Dbk) : (s.setDbk d).regs = s.regs := rfl
@[simp] theorem setDbk_bus (s : State) (d : Dbk) : (s.setDbk d).bus = s.bus := rfl
@[simp] theorem setDbk_clk (s : State) (d : Dbk) : (s.setDbk d).clk = s.clk := rfl
@[simp] theorem setDbk_pow (s : State) (d : Dbk) : (s.setDbk d).pow = s.pow := rfl
@[simp] theorem setDbk_boot (s : State) (d : Dbk) : (s.setDbk d).boot = s.boot := rfl
@[simp] theorem setDbk_nor (s : State) (d : Dbk) : (s.setDbk d).nor = s.nor := rfl
@[simp] theorem setDbk_trust (s : State) (d : Dbk) : (s.setDbk d).trust = s.trust := rfl
@[simp] theorem setDbk_procs (s : State) (d : Dbk) : (s.setDbk d).procs = s.procs := rfl
@[simp] theorem setDbk_sess (s : State) (d : Dbk) : (s.setDbk d).sess = s.sess := rfl
@[simp] theorem setDbk_accts (s : State) (d : Dbk) : (s.setDbk d).accts = s.accts := rfl
@[simp] theorem setDbk_moves (s : State) (d : Dbk) : (s.setDbk d).moves = s.moves := rfl
@[simp] theorem setDbk_wrt (s : State) (d : Dbk) : (s.setDbk d).wrt = s.wrt := rfl
@[simp] theorem setDbk_cpu (s : State) (d : Dbk) : (s.setDbk d).cpu = s.cpu := rfl
@[simp] theorem setDbk_mem (s : State) (d : Dbk) : (s.setDbk d).mem = s.mem := rfl
@[simp] theorem setDbk_ms (s : State) (d : Dbk) : (s.setDbk d).ms = s.ms := rfl
@[simp] theorem setDbk_train (s : State) (d : Dbk) : (s.setDbk d).train = s.train := rfl
@[simp] theorem setDbk_fab (s : State) (d : Dbk) : (s.setDbk d).fab = s.fab := rfl
@[simp] theorem setDbk_exq (s : State) (d : Dbk) : (s.setDbk d).exq = s.exq := rfl
@[simp] theorem setDbk_asz (s : State) (d : Dbk) : (s.setDbk d).asz = s.asz := rfl
@[simp] theorem setDbk_edge (s : State) (d : Dbk) : (s.setDbk d).edge = s.edge := rfl
@[simp] theorem setDbk_free (s : State) (d : Dbk) : (s.setDbk d).free = s.free := rfl

/-! ### `stage` -/

@[simp] theorem stage_pending (s : State) (r : DbkRec) : (s.stage r).pending = s.pending := by unfold State.stage; dsimp only; split <;> rfl
@[simp] theorem stage_bus (s : State) (r : DbkRec) : (s.stage r).bus = s.bus := by unfold State.stage; dsimp only; split <;> rfl
@[simp] theorem stage_clk (s : State) (r : DbkRec) : (s.stage r).clk = s.clk := by unfold State.stage; dsimp only; split <;> rfl
@[simp] theorem stage_pow (s : State) (r : DbkRec) : (s.stage r).pow = s.pow := by unfold State.stage; dsimp only; split <;> rfl
@[simp] theorem stage_boot (s : State) (r : DbkRec) : (s.stage r).boot = s.boot := by unfold State.stage; dsimp only; split <;> rfl
@[simp] theorem stage_nor (s : State) (r : DbkRec) : (s.stage r).nor = s.nor := by unfold State.stage; dsimp only; split <;> rfl
@[simp] theorem stage_trust (s : State) (r : DbkRec) : (s.stage r).trust = s.trust := by unfold State.stage; dsimp only; split <;> rfl
@[simp] theorem stage_procs (s : State) (r : DbkRec) : (s.stage r).procs = s.procs := by unfold State.stage; dsimp only; split <;> rfl
@[simp] theorem stage_sess (s : State) (r : DbkRec) : (s.stage r).sess = s.sess := by unfold State.stage; dsimp only; split <;> rfl
@[simp] theorem stage_accts (s : State) (r : DbkRec) : (s.stage r).accts = s.accts := by unfold State.stage; dsimp only; split <;> rfl
@[simp] theorem stage_moves (s : State) (r : DbkRec) : (s.stage r).moves = s.moves := by unfold State.stage; dsimp only; split <;> rfl
@[simp] theorem stage_wrt (s : State) (r : DbkRec) : (s.stage r).wrt = s.wrt := by unfold State.stage; dsimp only; split <;> rfl
@[simp] theorem stage_cpu (s : State) (r : DbkRec) : (s.stage r).cpu = s.cpu := by unfold State.stage; dsimp only; split <;> rfl
@[simp] theorem stage_mem (s : State) (r : DbkRec) : (s.stage r).mem = s.mem := by unfold State.stage; dsimp only; split <;> rfl
@[simp] theorem stage_ms (s : State) (r : DbkRec) : (s.stage r).ms = s.ms := by unfold State.stage; dsimp only; split <;> rfl
@[simp] theorem stage_train (s : State) (r : DbkRec) : (s.stage r).train = s.train := by unfold State.stage; dsimp only; split <;> rfl
@[simp] theorem stage_fab (s : State) (r : DbkRec) : (s.stage r).fab = s.fab := by unfold State.stage; dsimp only; split <;> rfl
@[simp] theorem stage_exq (s : State) (r : DbkRec) : (s.stage r).exq = s.exq := by unfold State.stage; dsimp only; split <;> rfl
@[simp] theorem stage_asz (s : State) (r : DbkRec) : (s.stage r).asz = s.asz := by unfold State.stage; dsimp only; split <;> rfl
@[simp] theorem stage_edge (s : State) (r : DbkRec) : (s.stage r).edge = s.edge := by unfold State.stage; dsimp only; split <;> rfl
@[simp] theorem stage_free (s : State) (r : DbkRec) : (s.stage r).free = s.free := by unfold State.stage; dsimp only; split <;> rfl

/-! ### `submit` -/

theorem submit_pending (s : State) (c : BitVec 16) (p0 p1 p2 : W32) (p3 : BitVec 28) :
    (s.submit c p0 p1 p2 p3).2.pending = s.pending := by unfold State.submit; dsimp only; split <;> rfl
theorem submit_bus (s : State) (c : BitVec 16) (p0 p1 p2 : W32) (p3 : BitVec 28) :
    (s.submit c p0 p1 p2 p3).2.bus = s.bus := by unfold State.submit; dsimp only; split <;> rfl
theorem submit_clk (s : State) (c : BitVec 16) (p0 p1 p2 : W32) (p3 : BitVec 28) :
    (s.submit c p0 p1 p2 p3).2.clk = s.clk := by unfold State.submit; dsimp only; split <;> rfl
theorem submit_pow (s : State) (c : BitVec 16) (p0 p1 p2 : W32) (p3 : BitVec 28) :
    (s.submit c p0 p1 p2 p3).2.pow = s.pow := by unfold State.submit; dsimp only; split <;> rfl
theorem submit_boot (s : State) (c : BitVec 16) (p0 p1 p2 : W32) (p3 : BitVec 28) :
    (s.submit c p0 p1 p2 p3).2.boot = s.boot := by unfold State.submit; dsimp only; split <;> rfl
theorem submit_nor (s : State) (c : BitVec 16) (p0 p1 p2 : W32) (p3 : BitVec 28) :
    (s.submit c p0 p1 p2 p3).2.nor = s.nor := by unfold State.submit; dsimp only; split <;> rfl
theorem submit_trust (s : State) (c : BitVec 16) (p0 p1 p2 : W32) (p3 : BitVec 28) :
    (s.submit c p0 p1 p2 p3).2.trust = s.trust := by unfold State.submit; dsimp only; split <;> rfl
theorem submit_procs (s : State) (c : BitVec 16) (p0 p1 p2 : W32) (p3 : BitVec 28) :
    (s.submit c p0 p1 p2 p3).2.procs = s.procs := by unfold State.submit; dsimp only; split <;> rfl
theorem submit_sess (s : State) (c : BitVec 16) (p0 p1 p2 : W32) (p3 : BitVec 28) :
    (s.submit c p0 p1 p2 p3).2.sess = s.sess := by unfold State.submit; dsimp only; split <;> rfl
theorem submit_accts (s : State) (c : BitVec 16) (p0 p1 p2 : W32) (p3 : BitVec 28) :
    (s.submit c p0 p1 p2 p3).2.accts = s.accts := by unfold State.submit; dsimp only; split <;> rfl
theorem submit_moves (s : State) (c : BitVec 16) (p0 p1 p2 : W32) (p3 : BitVec 28) :
    (s.submit c p0 p1 p2 p3).2.moves = s.moves := by unfold State.submit; dsimp only; split <;> rfl
theorem submit_wrt (s : State) (c : BitVec 16) (p0 p1 p2 : W32) (p3 : BitVec 28) :
    (s.submit c p0 p1 p2 p3).2.wrt = s.wrt := by unfold State.submit; dsimp only; split <;> rfl
theorem submit_cpu (s : State) (c : BitVec 16) (p0 p1 p2 : W32) (p3 : BitVec 28) :
    (s.submit c p0 p1 p2 p3).2.cpu = s.cpu := by unfold State.submit; dsimp only; split <;> rfl
theorem submit_mem (s : State) (c : BitVec 16) (p0 p1 p2 : W32) (p3 : BitVec 28) :
    (s.submit c p0 p1 p2 p3).2.mem = s.mem := by unfold State.submit; dsimp only; split <;> rfl
theorem submit_ms (s : State) (c : BitVec 16) (p0 p1 p2 : W32) (p3 : BitVec 28) :
    (s.submit c p0 p1 p2 p3).2.ms = s.ms := by unfold State.submit; dsimp only; split <;> rfl
theorem submit_train (s : State) (c : BitVec 16) (p0 p1 p2 : W32) (p3 : BitVec 28) :
    (s.submit c p0 p1 p2 p3).2.train = s.train := by unfold State.submit; dsimp only; split <;> rfl
theorem submit_fab (s : State) (c : BitVec 16) (p0 p1 p2 : W32) (p3 : BitVec 28) :
    (s.submit c p0 p1 p2 p3).2.fab = s.fab := by unfold State.submit; dsimp only; split <;> rfl
theorem submit_exq (s : State) (c : BitVec 16) (p0 p1 p2 : W32) (p3 : BitVec 28) :
    (s.submit c p0 p1 p2 p3).2.exq = s.exq := by unfold State.submit; dsimp only; split <;> rfl
theorem submit_asz (s : State) (c : BitVec 16) (p0 p1 p2 : W32) (p3 : BitVec 28) :
    (s.submit c p0 p1 p2 p3).2.asz = s.asz := by unfold State.submit; dsimp only; split <;> rfl
theorem submit_edge (s : State) (c : BitVec 16) (p0 p1 p2 : W32) (p3 : BitVec 28) :
    (s.submit c p0 p1 p2 p3).2.edge = s.edge := by unfold State.submit; dsimp only; split <;> rfl
theorem submit_free (s : State) (c : BitVec 16) (p0 p1 p2 : W32) (p3 : BitVec 28) :
    (s.submit c p0 p1 p2 p3).2.free = s.free := by unfold State.submit; dsimp only; split <;> rfl

/-! ### `recordOpen` -/

@[simp] theorem recordOpen_pending (s : State) (c : BitVec 16) (p0 p1 p2 : W32) (p3 : BitVec 28) : (s.recordOpen c p0 p1 p2 p3).pending = s.pending := by
  have h := submit_pending s c p0 p1 p2 p3
  unfold State.recordOpen
  split <;> rename_i he <;> rw [he] at h <;> simpa using h
@[simp] theorem recordOpen_bus (s : State) (c : BitVec 16) (p0 p1 p2 : W32) (p3 : BitVec 28) : (s.recordOpen c p0 p1 p2 p3).bus = s.bus := by
  have h := submit_bus s c p0 p1 p2 p3
  unfold State.recordOpen
  split <;> rename_i he <;> rw [he] at h <;> simpa using h
@[simp] theorem recordOpen_clk (s : State) (c : BitVec 16) (p0 p1 p2 : W32) (p3 : BitVec 28) : (s.recordOpen c p0 p1 p2 p3).clk = s.clk := by
  have h := submit_clk s c p0 p1 p2 p3
  unfold State.recordOpen
  split <;> rename_i he <;> rw [he] at h <;> simpa using h
@[simp] theorem recordOpen_pow (s : State) (c : BitVec 16) (p0 p1 p2 : W32) (p3 : BitVec 28) : (s.recordOpen c p0 p1 p2 p3).pow = s.pow := by
  have h := submit_pow s c p0 p1 p2 p3
  unfold State.recordOpen
  split <;> rename_i he <;> rw [he] at h <;> simpa using h
@[simp] theorem recordOpen_boot (s : State) (c : BitVec 16) (p0 p1 p2 : W32) (p3 : BitVec 28) : (s.recordOpen c p0 p1 p2 p3).boot = s.boot := by
  have h := submit_boot s c p0 p1 p2 p3
  unfold State.recordOpen
  split <;> rename_i he <;> rw [he] at h <;> simpa using h
@[simp] theorem recordOpen_nor (s : State) (c : BitVec 16) (p0 p1 p2 : W32) (p3 : BitVec 28) : (s.recordOpen c p0 p1 p2 p3).nor = s.nor := by
  have h := submit_nor s c p0 p1 p2 p3
  unfold State.recordOpen
  split <;> rename_i he <;> rw [he] at h <;> simpa using h
@[simp] theorem recordOpen_trust (s : State) (c : BitVec 16) (p0 p1 p2 : W32) (p3 : BitVec 28) : (s.recordOpen c p0 p1 p2 p3).trust = s.trust := by
  have h := submit_trust s c p0 p1 p2 p3
  unfold State.recordOpen
  split <;> rename_i he <;> rw [he] at h <;> simpa using h
@[simp] theorem recordOpen_procs (s : State) (c : BitVec 16) (p0 p1 p2 : W32) (p3 : BitVec 28) : (s.recordOpen c p0 p1 p2 p3).procs = s.procs := by
  have h := submit_procs s c p0 p1 p2 p3
  unfold State.recordOpen
  split <;> rename_i he <;> rw [he] at h <;> simpa using h
@[simp] theorem recordOpen_sess (s : State) (c : BitVec 16) (p0 p1 p2 : W32) (p3 : BitVec 28) : (s.recordOpen c p0 p1 p2 p3).sess = s.sess := by
  have h := submit_sess s c p0 p1 p2 p3
  unfold State.recordOpen
  split <;> rename_i he <;> rw [he] at h <;> simpa using h
@[simp] theorem recordOpen_accts (s : State) (c : BitVec 16) (p0 p1 p2 : W32) (p3 : BitVec 28) : (s.recordOpen c p0 p1 p2 p3).accts = s.accts := by
  have h := submit_accts s c p0 p1 p2 p3
  unfold State.recordOpen
  split <;> rename_i he <;> rw [he] at h <;> simpa using h
@[simp] theorem recordOpen_moves (s : State) (c : BitVec 16) (p0 p1 p2 : W32) (p3 : BitVec 28) : (s.recordOpen c p0 p1 p2 p3).moves = s.moves := by
  have h := submit_moves s c p0 p1 p2 p3
  unfold State.recordOpen
  split <;> rename_i he <;> rw [he] at h <;> simpa using h
@[simp] theorem recordOpen_wrt (s : State) (c : BitVec 16) (p0 p1 p2 : W32) (p3 : BitVec 28) : (s.recordOpen c p0 p1 p2 p3).wrt = s.wrt := by
  have h := submit_wrt s c p0 p1 p2 p3
  unfold State.recordOpen
  split <;> rename_i he <;> rw [he] at h <;> simpa using h
@[simp] theorem recordOpen_cpu (s : State) (c : BitVec 16) (p0 p1 p2 : W32) (p3 : BitVec 28) : (s.recordOpen c p0 p1 p2 p3).cpu = s.cpu := by
  have h := submit_cpu s c p0 p1 p2 p3
  unfold State.recordOpen
  split <;> rename_i he <;> rw [he] at h <;> simpa using h
@[simp] theorem recordOpen_mem (s : State) (c : BitVec 16) (p0 p1 p2 : W32) (p3 : BitVec 28) : (s.recordOpen c p0 p1 p2 p3).mem = s.mem := by
  have h := submit_mem s c p0 p1 p2 p3
  unfold State.recordOpen
  split <;> rename_i he <;> rw [he] at h <;> simpa using h
@[simp] theorem recordOpen_ms (s : State) (c : BitVec 16) (p0 p1 p2 : W32) (p3 : BitVec 28) : (s.recordOpen c p0 p1 p2 p3).ms = s.ms := by
  have h := submit_ms s c p0 p1 p2 p3
  unfold State.recordOpen
  split <;> rename_i he <;> rw [he] at h <;> simpa using h
@[simp] theorem recordOpen_train (s : State) (c : BitVec 16) (p0 p1 p2 : W32) (p3 : BitVec 28) : (s.recordOpen c p0 p1 p2 p3).train = s.train := by
  have h := submit_train s c p0 p1 p2 p3
  unfold State.recordOpen
  split <;> rename_i he <;> rw [he] at h <;> simpa using h
@[simp] theorem recordOpen_fab (s : State) (c : BitVec 16) (p0 p1 p2 : W32) (p3 : BitVec 28) : (s.recordOpen c p0 p1 p2 p3).fab = s.fab := by
  have h := submit_fab s c p0 p1 p2 p3
  unfold State.recordOpen
  split <;> rename_i he <;> rw [he] at h <;> simpa using h
@[simp] theorem recordOpen_exq (s : State) (c : BitVec 16) (p0 p1 p2 : W32) (p3 : BitVec 28) : (s.recordOpen c p0 p1 p2 p3).exq = s.exq := by
  have h := submit_exq s c p0 p1 p2 p3
  unfold State.recordOpen
  split <;> rename_i he <;> rw [he] at h <;> simpa using h
@[simp] theorem recordOpen_asz (s : State) (c : BitVec 16) (p0 p1 p2 : W32) (p3 : BitVec 28) : (s.recordOpen c p0 p1 p2 p3).asz = s.asz := by
  have h := submit_asz s c p0 p1 p2 p3
  unfold State.recordOpen
  split <;> rename_i he <;> rw [he] at h <;> simpa using h
@[simp] theorem recordOpen_edge (s : State) (c : BitVec 16) (p0 p1 p2 : W32) (p3 : BitVec 28) : (s.recordOpen c p0 p1 p2 p3).edge = s.edge := by
  have h := submit_edge s c p0 p1 p2 p3
  unfold State.recordOpen
  split <;> rename_i he <;> rw [he] at h <;> simpa using h
@[simp] theorem recordOpen_free (s : State) (c : BitVec 16) (p0 p1 p2 : W32) (p3 : BitVec 28) : (s.recordOpen c p0 p1 p2 p3).free = s.free := by
  have h := submit_free s c p0 p1 p2 p3
  unfold State.recordOpen
  split <;> rename_i he <;> rw [he] at h <;> simpa using h

theorem stageAll_pending (l : List DbkRec) (s : State) : (l.foldl (fun s r => s.stage r) s).pending = s.pending :=
  foldl_keeps (·.pending) _ (fun s r => stage_pending s r) l s
theorem stageAll_bus (l : List DbkRec) (s : State) : (l.foldl (fun s r => s.stage r) s).bus = s.bus :=
  foldl_keeps (·.bus) _ (fun s r => stage_bus s r) l s
theorem stageAll_clk (l : List DbkRec) (s : State) : (l.foldl (fun s r => s.stage r) s).clk = s.clk :=
  foldl_keeps (·.clk) _ (fun s r => stage_clk s r) l s
theorem stageAll_pow (l : List DbkRec) (s : State) : (l.foldl (fun s r => s.stage r) s).pow = s.pow :=
  foldl_keeps (·.pow) _ (fun s r => stage_pow s r) l s
theorem stageAll_boot (l : List DbkRec) (s : State) : (l.foldl (fun s r => s.stage r) s).boot = s.boot :=
  foldl_keeps (·.boot) _ (fun s r => stage_boot s r) l s
theorem stageAll_nor (l : List DbkRec) (s : State) : (l.foldl (fun s r => s.stage r) s).nor = s.nor :=
  foldl_keeps (·.nor) _ (fun s r => stage_nor s r) l s
theorem stageAll_trust (l : List DbkRec) (s : State) : (l.foldl (fun s r => s.stage r) s).trust = s.trust :=
  foldl_keeps (·.trust) _ (fun s r => stage_trust s r) l s
theorem stageAll_procs (l : List DbkRec) (s : State) : (l.foldl (fun s r => s.stage r) s).procs = s.procs :=
  foldl_keeps (·.procs) _ (fun s r => stage_procs s r) l s
theorem stageAll_sess (l : List DbkRec) (s : State) : (l.foldl (fun s r => s.stage r) s).sess = s.sess :=
  foldl_keeps (·.sess) _ (fun s r => stage_sess s r) l s
theorem stageAll_accts (l : List DbkRec) (s : State) : (l.foldl (fun s r => s.stage r) s).accts = s.accts :=
  foldl_keeps (·.accts) _ (fun s r => stage_accts s r) l s
theorem stageAll_moves (l : List DbkRec) (s : State) : (l.foldl (fun s r => s.stage r) s).moves = s.moves :=
  foldl_keeps (·.moves) _ (fun s r => stage_moves s r) l s
theorem stageAll_wrt (l : List DbkRec) (s : State) : (l.foldl (fun s r => s.stage r) s).wrt = s.wrt :=
  foldl_keeps (·.wrt) _ (fun s r => stage_wrt s r) l s
theorem stageAll_cpu (l : List DbkRec) (s : State) : (l.foldl (fun s r => s.stage r) s).cpu = s.cpu :=
  foldl_keeps (·.cpu) _ (fun s r => stage_cpu s r) l s
theorem stageAll_mem (l : List DbkRec) (s : State) : (l.foldl (fun s r => s.stage r) s).mem = s.mem :=
  foldl_keeps (·.mem) _ (fun s r => stage_mem s r) l s
theorem stageAll_ms (l : List DbkRec) (s : State) : (l.foldl (fun s r => s.stage r) s).ms = s.ms :=
  foldl_keeps (·.ms) _ (fun s r => stage_ms s r) l s
theorem stageAll_train (l : List DbkRec) (s : State) : (l.foldl (fun s r => s.stage r) s).train = s.train :=
  foldl_keeps (·.train) _ (fun s r => stage_train s r) l s
theorem stageAll_fab (l : List DbkRec) (s : State) : (l.foldl (fun s r => s.stage r) s).fab = s.fab :=
  foldl_keeps (·.fab) _ (fun s r => stage_fab s r) l s
theorem stageAll_exq (l : List DbkRec) (s : State) : (l.foldl (fun s r => s.stage r) s).exq = s.exq :=
  foldl_keeps (·.exq) _ (fun s r => stage_exq s r) l s
theorem stageAll_asz (l : List DbkRec) (s : State) : (l.foldl (fun s r => s.stage r) s).asz = s.asz :=
  foldl_keeps (·.asz) _ (fun s r => stage_asz s r) l s
theorem stageAll_edge (l : List DbkRec) (s : State) : (l.foldl (fun s r => s.stage r) s).edge = s.edge :=
  foldl_keeps (·.edge) _ (fun s r => stage_edge s r) l s
theorem stageAll_free (l : List DbkRec) (s : State) : (l.foldl (fun s r => s.stage r) s).free = s.free :=
  foldl_keeps (·.free) _ (fun s r => stage_free s r) l s

/-! ### `thaw` -/

@[simp] theorem thaw_pending (s : State) (w : Nat) : (s.thaw w).pending = s.pending := by simp [State.thaw, stageAll_pending]
@[simp] theorem thaw_bus (s : State) (w : Nat) : (s.thaw w).bus = s.bus := by simp [State.thaw, stageAll_bus]
@[simp] theorem thaw_clk (s : State) (w : Nat) : (s.thaw w).clk = s.clk := by simp [State.thaw, stageAll_clk]
@[simp] theorem thaw_pow (s : State) (w : Nat) : (s.thaw w).pow = s.pow := by simp [State.thaw, stageAll_pow]
@[simp] theorem thaw_boot (s : State) (w : Nat) : (s.thaw w).boot = s.boot := by simp [State.thaw, stageAll_boot]
@[simp] theorem thaw_nor (s : State) (w : Nat) : (s.thaw w).nor = s.nor := by simp [State.thaw, stageAll_nor]
@[simp] theorem thaw_trust (s : State) (w : Nat) : (s.thaw w).trust = s.trust := by simp [State.thaw, stageAll_trust]
@[simp] theorem thaw_procs (s : State) (w : Nat) : (s.thaw w).procs = s.procs := by simp [State.thaw, stageAll_procs]
@[simp] theorem thaw_sess (s : State) (w : Nat) : (s.thaw w).sess = s.sess := by simp [State.thaw, stageAll_sess]
@[simp] theorem thaw_accts (s : State) (w : Nat) : (s.thaw w).accts = s.accts := by simp [State.thaw, stageAll_accts]
@[simp] theorem thaw_moves (s : State) (w : Nat) : (s.thaw w).moves = s.moves := by simp [State.thaw, stageAll_moves]
@[simp] theorem thaw_wrt (s : State) (w : Nat) : (s.thaw w).wrt = s.wrt := by simp [State.thaw, stageAll_wrt]
@[simp] theorem thaw_cpu (s : State) (w : Nat) : (s.thaw w).cpu = s.cpu := by simp [State.thaw, stageAll_cpu]
@[simp] theorem thaw_mem (s : State) (w : Nat) : (s.thaw w).mem = s.mem := by simp [State.thaw, stageAll_mem]
@[simp] theorem thaw_ms (s : State) (w : Nat) : (s.thaw w).ms = s.ms := by simp [State.thaw, stageAll_ms]
@[simp] theorem thaw_train (s : State) (w : Nat) : (s.thaw w).train = s.train := by simp [State.thaw, stageAll_train]
@[simp] theorem thaw_fab (s : State) (w : Nat) : (s.thaw w).fab = s.fab := by simp [State.thaw, stageAll_fab]
@[simp] theorem thaw_exq (s : State) (w : Nat) : (s.thaw w).exq = s.exq := by simp [State.thaw, stageAll_exq]
@[simp] theorem thaw_asz (s : State) (w : Nat) : (s.thaw w).asz = s.asz := by simp [State.thaw, stageAll_asz]
@[simp] theorem thaw_edge (s : State) (w : Nat) : (s.thaw w).edge = s.edge := by simp [State.thaw, stageAll_edge]
@[simp] theorem thaw_free (s : State) (w : Nat) : (s.thaw w).free = s.free := by simp [State.thaw, stageAll_free]

/-! ### `endFreeze` -/

@[simp] theorem endFreeze_pending (s : State) (w : Nat) : (s.endFreeze w).pending = s.pending := by
  unfold State.endFreeze; split
  · rfl
  · dsimp only; split <;> simp
@[simp] theorem endFreeze_bus (s : State) (w : Nat) : (s.endFreeze w).bus = s.bus := by
  unfold State.endFreeze; split
  · rfl
  · dsimp only; split <;> simp
@[simp] theorem endFreeze_clk (s : State) (w : Nat) : (s.endFreeze w).clk = s.clk := by
  unfold State.endFreeze; split
  · rfl
  · dsimp only; split <;> simp
@[simp] theorem endFreeze_pow (s : State) (w : Nat) : (s.endFreeze w).pow = s.pow := by
  unfold State.endFreeze; split
  · rfl
  · dsimp only; split <;> simp
@[simp] theorem endFreeze_boot (s : State) (w : Nat) : (s.endFreeze w).boot = s.boot := by
  unfold State.endFreeze; split
  · rfl
  · dsimp only; split <;> simp
@[simp] theorem endFreeze_nor (s : State) (w : Nat) : (s.endFreeze w).nor = s.nor := by
  unfold State.endFreeze; split
  · rfl
  · dsimp only; split <;> simp
@[simp] theorem endFreeze_trust (s : State) (w : Nat) : (s.endFreeze w).trust = s.trust := by
  unfold State.endFreeze; split
  · rfl
  · dsimp only; split <;> simp
@[simp] theorem endFreeze_procs (s : State) (w : Nat) : (s.endFreeze w).procs = s.procs := by
  unfold State.endFreeze; split
  · rfl
  · dsimp only; split <;> simp
@[simp] theorem endFreeze_sess (s : State) (w : Nat) : (s.endFreeze w).sess = s.sess := by
  unfold State.endFreeze; split
  · rfl
  · dsimp only; split <;> simp
@[simp] theorem endFreeze_accts (s : State) (w : Nat) : (s.endFreeze w).accts = s.accts := by
  unfold State.endFreeze; split
  · rfl
  · dsimp only; split <;> simp
@[simp] theorem endFreeze_moves (s : State) (w : Nat) : (s.endFreeze w).moves = s.moves := by
  unfold State.endFreeze; split
  · rfl
  · dsimp only; split <;> simp
@[simp] theorem endFreeze_wrt (s : State) (w : Nat) : (s.endFreeze w).wrt = s.wrt := by
  unfold State.endFreeze; split
  · rfl
  · dsimp only; split <;> simp
@[simp] theorem endFreeze_cpu (s : State) (w : Nat) : (s.endFreeze w).cpu = s.cpu := by
  unfold State.endFreeze; split
  · rfl
  · dsimp only; split <;> simp
@[simp] theorem endFreeze_mem (s : State) (w : Nat) : (s.endFreeze w).mem = s.mem := by
  unfold State.endFreeze; split
  · rfl
  · dsimp only; split <;> simp
@[simp] theorem endFreeze_ms (s : State) (w : Nat) : (s.endFreeze w).ms = s.ms := by
  unfold State.endFreeze; split
  · rfl
  · dsimp only; split <;> simp
@[simp] theorem endFreeze_train (s : State) (w : Nat) : (s.endFreeze w).train = s.train := by
  unfold State.endFreeze; split
  · rfl
  · dsimp only; split <;> simp
@[simp] theorem endFreeze_fab (s : State) (w : Nat) : (s.endFreeze w).fab = s.fab := by
  unfold State.endFreeze; split
  · rfl
  · dsimp only; split <;> simp
@[simp] theorem endFreeze_exq (s : State) (w : Nat) : (s.endFreeze w).exq = s.exq := by
  unfold State.endFreeze; split
  · rfl
  · dsimp only; split <;> simp
@[simp] theorem endFreeze_asz (s : State) (w : Nat) : (s.endFreeze w).asz = s.asz := by
  unfold State.endFreeze; split
  · rfl
  · dsimp only; split <;> simp
@[simp] theorem endFreeze_edge (s : State) (w : Nat) : (s.endFreeze w).edge = s.edge := by
  unfold State.endFreeze; split
  · rfl
  · dsimp only; split <;> simp
@[simp] theorem endFreeze_free (s : State) (w : Nat) : (s.endFreeze w).free = s.free := by
  unfold State.endFreeze; split
  · rfl
  · dsimp only; split <;> simp

/-! ### `recordIn` -/

@[simp] theorem recordIn_pending (s : State) (r : DbkRec) : (s.recordIn r).pending = s.pending := by unfold State.recordIn; split <;> (try split) <;> (try split) <;> simp
@[simp] theorem recordIn_bus (s : State) (r : DbkRec) : (s.recordIn r).bus = s.bus := by unfold State.recordIn; split <;> (try split) <;> (try split) <;> simp
@[simp] theorem recordIn_clk (s : State) (r : DbkRec) : (s.recordIn r).clk = s.clk := by unfold State.recordIn; split <;> (try split) <;> (try split) <;> simp
@[simp] theorem recordIn_pow (s : State) (r : DbkRec) : (s.recordIn r).pow = s.pow := by unfold State.recordIn; split <;> (try split) <;> (try split) <;> simp
@[simp] theorem recordIn_boot (s : State) (r : DbkRec) : (s.recordIn r).boot = s.boot := by unfold State.recordIn; split <;> (try split) <;> (try split) <;> simp
@[simp] theorem recordIn_nor (s : State) (r : DbkRec) : (s.recordIn r).nor = s.nor := by unfold State.recordIn; split <;> (try split) <;> (try split) <;> simp
@[simp] theorem recordIn_trust (s : State) (r : DbkRec) : (s.recordIn r).trust = s.trust := by unfold State.recordIn; split <;> (try split) <;> (try split) <;> simp
@[simp] theorem recordIn_procs (s : State) (r : DbkRec) : (s.recordIn r).procs = s.procs := by unfold State.recordIn; split <;> (try split) <;> (try split) <;> simp
@[simp] theorem recordIn_sess (s : State) (r : DbkRec) : (s.recordIn r).sess = s.sess := by unfold State.recordIn; split <;> (try split) <;> (try split) <;> simp
@[simp] theorem recordIn_accts (s : State) (r : DbkRec) : (s.recordIn r).accts = s.accts := by unfold State.recordIn; split <;> (try split) <;> (try split) <;> simp
@[simp] theorem recordIn_moves (s : State) (r : DbkRec) : (s.recordIn r).moves = s.moves := by unfold State.recordIn; split <;> (try split) <;> (try split) <;> simp
@[simp] theorem recordIn_wrt (s : State) (r : DbkRec) : (s.recordIn r).wrt = s.wrt := by unfold State.recordIn; split <;> (try split) <;> (try split) <;> simp
@[simp] theorem recordIn_cpu (s : State) (r : DbkRec) : (s.recordIn r).cpu = s.cpu := by unfold State.recordIn; split <;> (try split) <;> (try split) <;> simp
@[simp] theorem recordIn_mem (s : State) (r : DbkRec) : (s.recordIn r).mem = s.mem := by unfold State.recordIn; split <;> (try split) <;> (try split) <;> simp
@[simp] theorem recordIn_ms (s : State) (r : DbkRec) : (s.recordIn r).ms = s.ms := by unfold State.recordIn; split <;> (try split) <;> (try split) <;> simp
@[simp] theorem recordIn_train (s : State) (r : DbkRec) : (s.recordIn r).train = s.train := by unfold State.recordIn; split <;> (try split) <;> (try split) <;> simp
@[simp] theorem recordIn_fab (s : State) (r : DbkRec) : (s.recordIn r).fab = s.fab := by unfold State.recordIn; split <;> (try split) <;> (try split) <;> simp
@[simp] theorem recordIn_exq (s : State) (r : DbkRec) : (s.recordIn r).exq = s.exq := by unfold State.recordIn; split <;> (try split) <;> (try split) <;> simp
@[simp] theorem recordIn_asz (s : State) (r : DbkRec) : (s.recordIn r).asz = s.asz := by unfold State.recordIn; split <;> (try split) <;> (try split) <;> simp
@[simp] theorem recordIn_edge (s : State) (r : DbkRec) : (s.recordIn r).edge = s.edge := by unfold State.recordIn; split <;> (try split) <;> (try split) <;> simp
@[simp] theorem recordIn_free (s : State) (r : DbkRec) : (s.recordIn r).free = s.free := by unfold State.recordIn; split <;> (try split) <;> (try split) <;> simp

/-! ### `record` -/

@[simp] theorem record_pending (s : State) (c : BitVec 16) (p0 p1 p2 : W32) (p3 : BitVec 28) : (s.record c p0 p1 p2 p3).pending = s.pending := by
  have h := submit_pending s c p0 p1 p2 p3
  unfold State.record
  split <;> rename_i he <;> rw [he] at h <;> simpa using h
@[simp] theorem record_bus (s : State) (c : BitVec 16) (p0 p1 p2 : W32) (p3 : BitVec 28) : (s.record c p0 p1 p2 p3).bus = s.bus := by
  have h := submit_bus s c p0 p1 p2 p3
  unfold State.record
  split <;> rename_i he <;> rw [he] at h <;> simpa using h
@[simp] theorem record_clk (s : State) (c : BitVec 16) (p0 p1 p2 : W32) (p3 : BitVec 28) : (s.record c p0 p1 p2 p3).clk = s.clk := by
  have h := submit_clk s c p0 p1 p2 p3
  unfold State.record
  split <;> rename_i he <;> rw [he] at h <;> simpa using h
@[simp] theorem record_pow (s : State) (c : BitVec 16) (p0 p1 p2 : W32) (p3 : BitVec 28) : (s.record c p0 p1 p2 p3).pow = s.pow := by
  have h := submit_pow s c p0 p1 p2 p3
  unfold State.record
  split <;> rename_i he <;> rw [he] at h <;> simpa using h
@[simp] theorem record_boot (s : State) (c : BitVec 16) (p0 p1 p2 : W32) (p3 : BitVec 28) : (s.record c p0 p1 p2 p3).boot = s.boot := by
  have h := submit_boot s c p0 p1 p2 p3
  unfold State.record
  split <;> rename_i he <;> rw [he] at h <;> simpa using h
@[simp] theorem record_nor (s : State) (c : BitVec 16) (p0 p1 p2 : W32) (p3 : BitVec 28) : (s.record c p0 p1 p2 p3).nor = s.nor := by
  have h := submit_nor s c p0 p1 p2 p3
  unfold State.record
  split <;> rename_i he <;> rw [he] at h <;> simpa using h
@[simp] theorem record_trust (s : State) (c : BitVec 16) (p0 p1 p2 : W32) (p3 : BitVec 28) : (s.record c p0 p1 p2 p3).trust = s.trust := by
  have h := submit_trust s c p0 p1 p2 p3
  unfold State.record
  split <;> rename_i he <;> rw [he] at h <;> simpa using h
@[simp] theorem record_procs (s : State) (c : BitVec 16) (p0 p1 p2 : W32) (p3 : BitVec 28) : (s.record c p0 p1 p2 p3).procs = s.procs := by
  have h := submit_procs s c p0 p1 p2 p3
  unfold State.record
  split <;> rename_i he <;> rw [he] at h <;> simpa using h
@[simp] theorem record_sess (s : State) (c : BitVec 16) (p0 p1 p2 : W32) (p3 : BitVec 28) : (s.record c p0 p1 p2 p3).sess = s.sess := by
  have h := submit_sess s c p0 p1 p2 p3
  unfold State.record
  split <;> rename_i he <;> rw [he] at h <;> simpa using h
@[simp] theorem record_accts (s : State) (c : BitVec 16) (p0 p1 p2 : W32) (p3 : BitVec 28) : (s.record c p0 p1 p2 p3).accts = s.accts := by
  have h := submit_accts s c p0 p1 p2 p3
  unfold State.record
  split <;> rename_i he <;> rw [he] at h <;> simpa using h
@[simp] theorem record_moves (s : State) (c : BitVec 16) (p0 p1 p2 : W32) (p3 : BitVec 28) : (s.record c p0 p1 p2 p3).moves = s.moves := by
  have h := submit_moves s c p0 p1 p2 p3
  unfold State.record
  split <;> rename_i he <;> rw [he] at h <;> simpa using h
@[simp] theorem record_wrt (s : State) (c : BitVec 16) (p0 p1 p2 : W32) (p3 : BitVec 28) : (s.record c p0 p1 p2 p3).wrt = s.wrt := by
  have h := submit_wrt s c p0 p1 p2 p3
  unfold State.record
  split <;> rename_i he <;> rw [he] at h <;> simpa using h
@[simp] theorem record_cpu (s : State) (c : BitVec 16) (p0 p1 p2 : W32) (p3 : BitVec 28) : (s.record c p0 p1 p2 p3).cpu = s.cpu := by
  have h := submit_cpu s c p0 p1 p2 p3
  unfold State.record
  split <;> rename_i he <;> rw [he] at h <;> simpa using h
@[simp] theorem record_mem (s : State) (c : BitVec 16) (p0 p1 p2 : W32) (p3 : BitVec 28) : (s.record c p0 p1 p2 p3).mem = s.mem := by
  have h := submit_mem s c p0 p1 p2 p3
  unfold State.record
  split <;> rename_i he <;> rw [he] at h <;> simpa using h
@[simp] theorem record_ms (s : State) (c : BitVec 16) (p0 p1 p2 : W32) (p3 : BitVec 28) : (s.record c p0 p1 p2 p3).ms = s.ms := by
  have h := submit_ms s c p0 p1 p2 p3
  unfold State.record
  split <;> rename_i he <;> rw [he] at h <;> simpa using h
@[simp] theorem record_train (s : State) (c : BitVec 16) (p0 p1 p2 : W32) (p3 : BitVec 28) : (s.record c p0 p1 p2 p3).train = s.train := by
  have h := submit_train s c p0 p1 p2 p3
  unfold State.record
  split <;> rename_i he <;> rw [he] at h <;> simpa using h
@[simp] theorem record_fab (s : State) (c : BitVec 16) (p0 p1 p2 : W32) (p3 : BitVec 28) : (s.record c p0 p1 p2 p3).fab = s.fab := by
  have h := submit_fab s c p0 p1 p2 p3
  unfold State.record
  split <;> rename_i he <;> rw [he] at h <;> simpa using h
@[simp] theorem record_exq (s : State) (c : BitVec 16) (p0 p1 p2 : W32) (p3 : BitVec 28) : (s.record c p0 p1 p2 p3).exq = s.exq := by
  have h := submit_exq s c p0 p1 p2 p3
  unfold State.record
  split <;> rename_i he <;> rw [he] at h <;> simpa using h
@[simp] theorem record_asz (s : State) (c : BitVec 16) (p0 p1 p2 : W32) (p3 : BitVec 28) : (s.record c p0 p1 p2 p3).asz = s.asz := by
  have h := submit_asz s c p0 p1 p2 p3
  unfold State.record
  split <;> rename_i he <;> rw [he] at h <;> simpa using h
@[simp] theorem record_edge (s : State) (c : BitVec 16) (p0 p1 p2 : W32) (p3 : BitVec 28) : (s.record c p0 p1 p2 p3).edge = s.edge := by
  have h := submit_edge s c p0 p1 p2 p3
  unfold State.record
  split <;> rename_i he <;> rw [he] at h <;> simpa using h
@[simp] theorem record_free (s : State) (c : BitVec 16) (p0 p1 p2 : W32) (p3 : BitVec 28) : (s.record c p0 p1 p2 p3).free = s.free := by
  have h := submit_free s c p0 p1 p2 p3
  unfold State.record
  split <;> rename_i he <;> rw [he] at h <;> simpa using h

/-! ### `note` -/

@[simp] theorem note_pending (s : State) (c p0 p1 p2 : Nat) : (s.note c p0 p1 p2).pending = s.pending := by simp [State.note]
@[simp] theorem note_bus (s : State) (c p0 p1 p2 : Nat) : (s.note c p0 p1 p2).bus = s.bus := by simp [State.note]
@[simp] theorem note_clk (s : State) (c p0 p1 p2 : Nat) : (s.note c p0 p1 p2).clk = s.clk := by simp [State.note]
@[simp] theorem note_pow (s : State) (c p0 p1 p2 : Nat) : (s.note c p0 p1 p2).pow = s.pow := by simp [State.note]
@[simp] theorem note_boot (s : State) (c p0 p1 p2 : Nat) : (s.note c p0 p1 p2).boot = s.boot := by simp [State.note]
@[simp] theorem note_nor (s : State) (c p0 p1 p2 : Nat) : (s.note c p0 p1 p2).nor = s.nor := by simp [State.note]
@[simp] theorem note_trust (s : State) (c p0 p1 p2 : Nat) : (s.note c p0 p1 p2).trust = s.trust := by simp [State.note]
@[simp] theorem note_procs (s : State) (c p0 p1 p2 : Nat) : (s.note c p0 p1 p2).procs = s.procs := by simp [State.note]
@[simp] theorem note_sess (s : State) (c p0 p1 p2 : Nat) : (s.note c p0 p1 p2).sess = s.sess := by simp [State.note]
@[simp] theorem note_accts (s : State) (c p0 p1 p2 : Nat) : (s.note c p0 p1 p2).accts = s.accts := by simp [State.note]
@[simp] theorem note_moves (s : State) (c p0 p1 p2 : Nat) : (s.note c p0 p1 p2).moves = s.moves := by simp [State.note]
@[simp] theorem note_wrt (s : State) (c p0 p1 p2 : Nat) : (s.note c p0 p1 p2).wrt = s.wrt := by simp [State.note]
@[simp] theorem note_cpu (s : State) (c p0 p1 p2 : Nat) : (s.note c p0 p1 p2).cpu = s.cpu := by simp [State.note]
@[simp] theorem note_mem (s : State) (c p0 p1 p2 : Nat) : (s.note c p0 p1 p2).mem = s.mem := by simp [State.note]
@[simp] theorem note_ms (s : State) (c p0 p1 p2 : Nat) : (s.note c p0 p1 p2).ms = s.ms := by simp [State.note]
@[simp] theorem note_train (s : State) (c p0 p1 p2 : Nat) : (s.note c p0 p1 p2).train = s.train := by simp [State.note]
@[simp] theorem note_fab (s : State) (c p0 p1 p2 : Nat) : (s.note c p0 p1 p2).fab = s.fab := by simp [State.note]
@[simp] theorem note_exq (s : State) (c p0 p1 p2 : Nat) : (s.note c p0 p1 p2).exq = s.exq := by simp [State.note]
@[simp] theorem note_asz (s : State) (c p0 p1 p2 : Nat) : (s.note c p0 p1 p2).asz = s.asz := by simp [State.note]
@[simp] theorem note_edge (s : State) (c p0 p1 p2 : Nat) : (s.note c p0 p1 p2).edge = s.edge := by simp [State.note]
@[simp] theorem note_free (s : State) (c p0 p1 p2 : Nat) : (s.note c p0 p1 p2).free = s.free := by simp [State.note]

@[simp] theorem setDbk_dbk (s : State) (d : Dbk) : (s.setDbk d).dbk = d := rfl

end Sys2Proof.Machine
end

