-- ==== Sys2Proof/Laws/Cores.lean ====
section
/-! SUPPORT. Frames of the stores and of the cores: one lemma for each field of the state that an operation leaves alone. -/

namespace Sys2Proof.Machine

/-! ### `setBit` -/

@[simp] theorem setBit_pending (s : State) (f : Field) (b i x : Nat) : (s.setBit f b i x).pending = s.pending := by unfold State.setBit; dsimp only; split <;> rfl
@[simp] theorem setBit_bus (s : State) (f : Field) (b i x : Nat) : (s.setBit f b i x).bus = s.bus := by unfold State.setBit; dsimp only; split <;> rfl
@[simp] theorem setBit_clk (s : State) (f : Field) (b i x : Nat) : (s.setBit f b i x).clk = s.clk := by unfold State.setBit; dsimp only; split <;> rfl
@[simp] theorem setBit_pow (s : State) (f : Field) (b i x : Nat) : (s.setBit f b i x).pow = s.pow := by unfold State.setBit; dsimp only; split <;> rfl
@[simp] theorem setBit_boot (s : State) (f : Field) (b i x : Nat) : (s.setBit f b i x).boot = s.boot := by unfold State.setBit; dsimp only; split <;> rfl
@[simp] theorem setBit_nor (s : State) (f : Field) (b i x : Nat) : (s.setBit f b i x).nor = s.nor := by unfold State.setBit; dsimp only; split <;> rfl
@[simp] theorem setBit_dbk (s : State) (f : Field) (b i x : Nat) : (s.setBit f b i x).dbk = s.dbk := by unfold State.setBit; dsimp only; split <;> rfl
@[simp] theorem setBit_trust (s : State) (f : Field) (b i x : Nat) : (s.setBit f b i x).trust = s.trust := by unfold State.setBit; dsimp only; split <;> rfl
@[simp] theorem setBit_procs (s : State) (f : Field) (b i x : Nat) : (s.setBit f b i x).procs = s.procs := by unfold State.setBit; dsimp only; split <;> rfl
@[simp] theorem setBit_sess (s : State) (f : Field) (b i x : Nat) : (s.setBit f b i x).sess = s.sess := by unfold State.setBit; dsimp only; split <;> rfl
@[simp] theorem setBit_accts (s : State) (f : Field) (b i x : Nat) : (s.setBit f b i x).accts = s.accts := by unfold State.setBit; dsimp only; split <;> rfl
@[simp] theorem setBit_moves (s : State) (f : Field) (b i x : Nat) : (s.setBit f b i x).moves = s.moves := by unfold State.setBit; dsimp only; split <;> rfl
@[simp] theorem setBit_wrt (s : State) (f : Field) (b i x : Nat) : (s.setBit f b i x).wrt = s.wrt := by unfold State.setBit; dsimp only; split <;> rfl
@[simp] theorem setBit_cpu (s : State) (f : Field) (b i x : Nat) : (s.setBit f b i x).cpu = s.cpu := by unfold State.setBit; dsimp only; split <;> rfl
@[simp] theorem setBit_mem (s : State) (f : Field) (b i x : Nat) : (s.setBit f b i x).mem = s.mem := by unfold State.setBit; dsimp only; split <;> rfl
@[simp] theorem setBit_ms (s : State) (f : Field) (b i x : Nat) : (s.setBit f b i x).ms = s.ms := by unfold State.setBit; dsimp only; split <;> rfl
@[simp] theorem setBit_train (s : State) (f : Field) (b i x : Nat) : (s.setBit f b i x).train = s.train := by unfold State.setBit; dsimp only; split <;> rfl
@[simp] theorem setBit_fab (s : State) (f : Field) (b i x : Nat) : (s.setBit f b i x).fab = s.fab := by unfold State.setBit; dsimp only; split <;> rfl
@[simp] theorem setBit_exq (s : State) (f : Field) (b i x : Nat) : (s.setBit f b i x).exq = s.exq := by unfold State.setBit; dsimp only; split <;> rfl
@[simp] theorem setBit_asz (s : State) (f : Field) (b i x : Nat) : (s.setBit f b i x).asz = s.asz := by unfold State.setBit; dsimp only; split <;> rfl
@[simp] theorem setBit_edge (s : State) (f : Field) (b i x : Nat) : (s.setBit f b i x).edge = s.edge := by unfold State.setBit; dsimp only; split <;> rfl
@[simp] theorem setBit_free (s : State) (f : Field) (b i x : Nat) : (s.setBit f b i x).free = s.free := by unfold State.setBit; dsimp only; split <;> rfl

/-! ### `clearBit` -/

@[simp] theorem clearBit_pending (s : State) (f : Field) (b i x : Nat) : (s.clearBit f b i x).pending = s.pending := by unfold State.clearBit; dsimp only; split <;> rfl
@[simp] theorem clearBit_bus (s : State) (f : Field) (b i x : Nat) : (s.clearBit f b i x).bus = s.bus := by unfold State.clearBit; dsimp only; split <;> rfl
@[simp] theorem clearBit_clk (s : State) (f : Field) (b i x : Nat) : (s.clearBit f b i x).clk = s.clk := by unfold State.clearBit; dsimp only; split <;> rfl
@[simp] theorem clearBit_pow (s : State) (f : Field) (b i x : Nat) : (s.clearBit f b i x).pow = s.pow := by unfold State.clearBit; dsimp only; split <;> rfl
@[simp] theorem clearBit_boot (s : State) (f : Field) (b i x : Nat) : (s.clearBit f b i x).boot = s.boot := by unfold State.clearBit; dsimp only; split <;> rfl
@[simp] theorem clearBit_nor (s : State) (f : Field) (b i x : Nat) : (s.clearBit f b i x).nor = s.nor := by unfold State.clearBit; dsimp only; split <;> rfl
@[simp] theorem clearBit_dbk (s : State) (f : Field) (b i x : Nat) : (s.clearBit f b i x).dbk = s.dbk := by unfold State.clearBit; dsimp only; split <;> rfl
@[simp] theorem clearBit_trust (s : State) (f : Field) (b i x : Nat) : (s.clearBit f b i x).trust = s.trust := by unfold State.clearBit; dsimp only; split <;> rfl
@[simp] theorem clearBit_procs (s : State) (f : Field) (b i x : Nat) : (s.clearBit f b i x).procs = s.procs := by unfold State.clearBit; dsimp only; split <;> rfl
@[simp] theorem clearBit_sess (s : State) (f : Field) (b i x : Nat) : (s.clearBit f b i x).sess = s.sess := by unfold State.clearBit; dsimp only; split <;> rfl
@[simp] theorem clearBit_accts (s : State) (f : Field) (b i x : Nat) : (s.clearBit f b i x).accts = s.accts := by unfold State.clearBit; dsimp only; split <;> rfl
@[simp] theorem clearBit_moves (s : State) (f : Field) (b i x : Nat) : (s.clearBit f b i x).moves = s.moves := by unfold State.clearBit; dsimp only; split <;> rfl
@[simp] theorem clearBit_wrt (s : State) (f : Field) (b i x : Nat) : (s.clearBit f b i x).wrt = s.wrt := by unfold State.clearBit; dsimp only; split <;> rfl
@[simp] theorem clearBit_cpu (s : State) (f : Field) (b i x : Nat) : (s.clearBit f b i x).cpu = s.cpu := by unfold State.clearBit; dsimp only; split <;> rfl
@[simp] theorem clearBit_mem (s : State) (f : Field) (b i x : Nat) : (s.clearBit f b i x).mem = s.mem := by unfold State.clearBit; dsimp only; split <;> rfl
@[simp] theorem clearBit_ms (s : State) (f : Field) (b i x : Nat) : (s.clearBit f b i x).ms = s.ms := by unfold State.clearBit; dsimp only; split <;> rfl
@[simp] theorem clearBit_train (s : State) (f : Field) (b i x : Nat) : (s.clearBit f b i x).train = s.train := by unfold State.clearBit; dsimp only; split <;> rfl
@[simp] theorem clearBit_fab (s : State) (f : Field) (b i x : Nat) : (s.clearBit f b i x).fab = s.fab := by unfold State.clearBit; dsimp only; split <;> rfl
@[simp] theorem clearBit_exq (s : State) (f : Field) (b i x : Nat) : (s.clearBit f b i x).exq = s.exq := by unfold State.clearBit; dsimp only; split <;> rfl
@[simp] theorem clearBit_asz (s : State) (f : Field) (b i x : Nat) : (s.clearBit f b i x).asz = s.asz := by unfold State.clearBit; dsimp only; split <;> rfl
@[simp] theorem clearBit_edge (s : State) (f : Field) (b i x : Nat) : (s.clearBit f b i x).edge = s.edge := by unfold State.clearBit; dsimp only; split <;> rfl
@[simp] theorem clearBit_free (s : State) (f : Field) (b i x : Nat) : (s.clearBit f b i x).free = s.free := by unfold State.clearBit; dsimp only; split <;> rfl

/-! ### `needRestart` -/

@[simp] theorem needRestart_pending (s : State) : s.needRestart.pending = s.pending := rfl
@[simp] theorem needRestart_bus (s : State) : s.needRestart.bus = s.bus := rfl
@[simp] theorem needRestart_clk (s : State) : s.needRestart.clk = s.clk := rfl
@[simp] theorem needRestart_pow (s : State) : s.needRestart.pow = s.pow := rfl
@[simp] theorem needRestart_boot (s : State) : s.needRestart.boot = s.boot := rfl
@[simp] theorem needRestart_nor (s : State) : s.needRestart.nor = s.nor := rfl
@[simp] theorem needRestart_dbk (s : State) : s.needRestart.dbk = s.dbk := rfl
@[simp] theorem needRestart_trust (s : State) : s.needRestart.trust = s.trust := rfl
@[simp] theorem needRestart_procs (s : State) : s.needRestart.procs = s.procs := rfl
@[simp] theorem needRestart_sess (s : State) : s.needRestart.sess = s.sess := rfl
@[simp] theorem needRestart_accts (s : State) : s.needRestart.accts = s.accts := rfl
@[simp] theorem needRestart_moves (s : State) : s.needRestart.moves = s.moves := rfl
@[simp] theorem needRestart_wrt (s : State) : s.needRestart.wrt = s.wrt := rfl
@[simp] theorem needRestart_cpu (s : State) : s.needRestart.cpu = s.cpu := rfl
@[simp] theorem needRestart_mem (s : State) : s.needRestart.mem = s.mem := rfl
@[simp] theorem needRestart_ms (s : State) : s.needRestart.ms = s.ms := rfl
@[simp] theorem needRestart_train (s : State) : s.needRestart.train = s.train := rfl
@[simp] theorem needRestart_fab (s : State) : s.needRestart.fab = s.fab := rfl
@[simp] theorem needRestart_exq (s : State) : s.needRestart.exq = s.exq := rfl
@[simp] theorem needRestart_asz (s : State) : s.needRestart.asz = s.asz := rfl
@[simp] theorem needRestart_edge (s : State) : s.needRestart.edge = s.edge := rfl
@[simp] theorem needRestart_free (s : State) : s.needRestart.free = s.free := rfl

/-! ### `degradeAdd` -/

@[simp] theorem degradeAdd_pending (s : State) (k d u c : Nat) : (s.degradeAdd k d u c).pending = s.pending := by unfold State.degradeAdd; dsimp only; split <;> simp
@[simp] theorem degradeAdd_bus (s : State) (k d u c : Nat) : (s.degradeAdd k d u c).bus = s.bus := by unfold State.degradeAdd; dsimp only; split <;> simp
@[simp] theorem degradeAdd_clk (s : State) (k d u c : Nat) : (s.degradeAdd k d u c).clk = s.clk := by unfold State.degradeAdd; dsimp only; split <;> simp
@[simp] theorem degradeAdd_pow (s : State) (k d u c : Nat) : (s.degradeAdd k d u c).pow = s.pow := by unfold State.degradeAdd; dsimp only; split <;> simp
@[simp] theorem degradeAdd_boot (s : State) (k d u c : Nat) : (s.degradeAdd k d u c).boot = s.boot := by unfold State.degradeAdd; dsimp only; split <;> simp
@[simp] theorem degradeAdd_trust (s : State) (k d u c : Nat) : (s.degradeAdd k d u c).trust = s.trust := by unfold State.degradeAdd; dsimp only; split <;> simp
@[simp] theorem degradeAdd_procs (s : State) (k d u c : Nat) : (s.degradeAdd k d u c).procs = s.procs := by unfold State.degradeAdd; dsimp only; split <;> simp
@[simp] theorem degradeAdd_sess (s : State) (k d u c : Nat) : (s.degradeAdd k d u c).sess = s.sess := by unfold State.degradeAdd; dsimp only; split <;> simp
@[simp] theorem degradeAdd_accts (s : State) (k d u c : Nat) : (s.degradeAdd k d u c).accts = s.accts := by unfold State.degradeAdd; dsimp only; split <;> simp
@[simp] theorem degradeAdd_moves (s : State) (k d u c : Nat) : (s.degradeAdd k d u c).moves = s.moves := by unfold State.degradeAdd; dsimp only; split <;> simp
@[simp] theorem degradeAdd_wrt (s : State) (k d u c : Nat) : (s.degradeAdd k d u c).wrt = s.wrt := by unfold State.degradeAdd; dsimp only; split <;> simp
@[simp] theorem degradeAdd_cpu (s : State) (k d u c : Nat) : (s.degradeAdd k d u c).cpu = s.cpu := by unfold State.degradeAdd; dsimp only; split <;> simp
@[simp] theorem degradeAdd_mem (s : State) (k d u c : Nat) : (s.degradeAdd k d u c).mem = s.mem := by unfold State.degradeAdd; dsimp only; split <;> simp
@[simp] theorem degradeAdd_ms (s : State) (k d u c : Nat) : (s.degradeAdd k d u c).ms = s.ms := by unfold State.degradeAdd; dsimp only; split <;> simp
@[simp] theorem degradeAdd_train (s : State) (k d u c : Nat) : (s.degradeAdd k d u c).train = s.train := by unfold State.degradeAdd; dsimp only; split <;> simp
@[simp] theorem degradeAdd_fab (s : State) (k d u c : Nat) : (s.degradeAdd k d u c).fab = s.fab := by unfold State.degradeAdd; dsimp only; split <;> simp
@[simp] theorem degradeAdd_exq (s : State) (k d u c : Nat) : (s.degradeAdd k d u c).exq = s.exq := by unfold State.degradeAdd; dsimp only; split <;> simp
@[simp] theorem degradeAdd_asz (s : State) (k d u c : Nat) : (s.degradeAdd k d u c).asz = s.asz := by unfold State.degradeAdd; dsimp only; split <;> simp
@[simp] theorem degradeAdd_edge (s : State) (k d u c : Nat) : (s.degradeAdd k d u c).edge = s.edge := by unfold State.degradeAdd; dsimp only; split <;> simp
@[simp] theorem degradeAdd_free (s : State) (k d u c : Nat) : (s.degradeAdd k d u c).free = s.free := by unfold State.degradeAdd; dsimp only; split <;> simp

/-! ### `poisonDev` -/

@[simp] theorem poisonDev_pending (s : State) (ws : List Nat) : (s.poisonDev ws).pending = s.pending := rfl
@[simp] theorem poisonDev_regs (s : State) (ws : List Nat) : (s.poisonDev ws).regs = s.regs := rfl
@[simp] theorem poisonDev_bus (s : State) (ws : List Nat) : (s.poisonDev ws).bus = s.bus := rfl
@[simp] theorem poisonDev_clk (s : State) (ws : List Nat) : (s.poisonDev ws).clk = s.clk := rfl
@[simp] theorem poisonDev_pow (s : State) (ws : List Nat) : (s.poisonDev ws).pow = s.pow := rfl
@[simp] theorem poisonDev_boot (s : State) (ws : List Nat) : (s.poisonDev ws).boot = s.boot := rfl
@[simp] theorem poisonDev_nor (s : State) (ws : List Nat) : (s.poisonDev ws).nor = s.nor := rfl
@[simp] theorem poisonDev_dbk (s : State) (ws : List Nat) : (s.poisonDev ws).dbk = s.dbk := rfl
@[simp] theorem poisonDev_trust (s : State) (ws : List Nat) : (s.poisonDev ws).trust = s.trust := rfl
@[simp] theorem poisonDev_procs (s : State) (ws : List Nat) : (s.poisonDev ws).procs = s.procs := rfl
@[simp] theorem poisonDev_sess (s : State) (ws : List Nat) : (s.poisonDev ws).sess = s.sess := rfl
@[simp] theorem poisonDev_accts (s : State) (ws : List Nat) : (s.poisonDev ws).accts = s.accts := rfl
@[simp] theorem poisonDev_moves (s : State) (ws : List Nat) : (s.poisonDev ws).moves = s.moves := rfl
@[simp] theorem poisonDev_wrt (s : State) (ws : List Nat) : (s.poisonDev ws).wrt = s.wrt := rfl
@[simp] theorem poisonDev_cpu (s : State) (ws : List Nat) : (s.poisonDev ws).cpu = s.cpu := rfl
@[simp] theorem poisonDev_ms (s : State) (ws : List Nat) : (s.poisonDev ws).ms = s.ms := rfl
@[simp] theorem poisonDev_train (s : State) (ws : List Nat) : (s.poisonDev ws).train = s.train := rfl
@[simp] theorem poisonDev_fab (s : State) (ws : List Nat) : (s.poisonDev ws).fab = s.fab := rfl
@[simp] theorem poisonDev_exq (s : State) (ws : List Nat) : (s.poisonDev ws).exq = s.exq := rfl
@[simp] theorem poisonDev_asz (s : State) (ws : List Nat) : (s.poisonDev ws).asz = s.asz := rfl
@[simp] theorem poisonDev_edge (s : State) (ws : List Nat) : (s.poisonDev ws).edge = s.edge := rfl
@[simp] theorem poisonDev_free (s : State) (ws : List Nat) : (s.poisonDev ws).free = s.free := rfl

/-! ### `wrKey` -/

@[simp] theorem wrKey_pending (s : State) (k : Nat) (bs : List Byte) : (s.wrKey k bs).pending = s.pending := by unfold State.wrKey; split <;> rfl
@[simp] theorem wrKey_regs (s : State) (k : Nat) (bs : List Byte) : (s.wrKey k bs).regs = s.regs := by unfold State.wrKey; split <;> rfl
@[simp] theorem wrKey_bus (s : State) (k : Nat) (bs : List Byte) : (s.wrKey k bs).bus = s.bus := by unfold State.wrKey; split <;> rfl
@[simp] theorem wrKey_clk (s : State) (k : Nat) (bs : List Byte) : (s.wrKey k bs).clk = s.clk := by unfold State.wrKey; split <;> rfl
@[simp] theorem wrKey_pow (s : State) (k : Nat) (bs : List Byte) : (s.wrKey k bs).pow = s.pow := by unfold State.wrKey; split <;> rfl
@[simp] theorem wrKey_boot (s : State) (k : Nat) (bs : List Byte) : (s.wrKey k bs).boot = s.boot := by unfold State.wrKey; split <;> rfl
@[simp] theorem wrKey_nor (s : State) (k : Nat) (bs : List Byte) : (s.wrKey k bs).nor = s.nor := by unfold State.wrKey; split <;> rfl
@[simp] theorem wrKey_dbk (s : State) (k : Nat) (bs : List Byte) : (s.wrKey k bs).dbk = s.dbk := by unfold State.wrKey; split <;> rfl
@[simp] theorem wrKey_trust (s : State) (k : Nat) (bs : List Byte) : (s.wrKey k bs).trust = s.trust := by unfold State.wrKey; split <;> rfl
@[simp] theorem wrKey_procs (s : State) (k : Nat) (bs : List Byte) : (s.wrKey k bs).procs = s.procs := by unfold State.wrKey; split <;> rfl
@[simp] theorem wrKey_sess (s : State) (k : Nat) (bs : List Byte) : (s.wrKey k bs).sess = s.sess := by unfold State.wrKey; split <;> rfl
@[simp] theorem wrKey_accts (s : State) (k : Nat) (bs : List Byte) : (s.wrKey k bs).accts = s.accts := by unfold State.wrKey; split <;> rfl
@[simp] theorem wrKey_moves (s : State) (k : Nat) (bs : List Byte) : (s.wrKey k bs).moves = s.moves := by unfold State.wrKey; split <;> rfl
@[simp] theorem wrKey_wrt (s : State) (k : Nat) (bs : List Byte) : (s.wrKey k bs).wrt = s.wrt := by unfold State.wrKey; split <;> rfl
@[simp] theorem wrKey_cpu (s : State) (k : Nat) (bs : List Byte) : (s.wrKey k bs).cpu = s.cpu := by unfold State.wrKey; split <;> rfl
@[simp] theorem wrKey_ms (s : State) (k : Nat) (bs : List Byte) : (s.wrKey k bs).ms = s.ms := by unfold State.wrKey; split <;> rfl
@[simp] theorem wrKey_train (s : State) (k : Nat) (bs : List Byte) : (s.wrKey k bs).train = s.train := by unfold State.wrKey; split <;> rfl
@[simp] theorem wrKey_fab (s : State) (k : Nat) (bs : List Byte) : (s.wrKey k bs).fab = s.fab := by unfold State.wrKey; split <;> rfl
@[simp] theorem wrKey_exq (s : State) (k : Nat) (bs : List Byte) : (s.wrKey k bs).exq = s.exq := by unfold State.wrKey; split <;> rfl
@[simp] theorem wrKey_asz (s : State) (k : Nat) (bs : List Byte) : (s.wrKey k bs).asz = s.asz := by unfold State.wrKey; split <;> rfl
@[simp] theorem wrKey_edge (s : State) (k : Nat) (bs : List Byte) : (s.wrKey k bs).edge = s.edge := by unfold State.wrKey; split <;> rfl
@[simp] theorem wrKey_free (s : State) (k : Nat) (bs : List Byte) : (s.wrKey k bs).free = s.free := by unfold State.wrKey; split <;> rfl

/-! ### `devPut` -/

@[simp] theorem devPut_pending (s : State) (a : Nat) (bs : List Byte) : (s.devPut a bs).pending = s.pending := by unfold State.devPut; split <;> simp
@[simp] theorem devPut_regs (s : State) (a : Nat) (bs : List Byte) : (s.devPut a bs).regs = s.regs := by unfold State.devPut; split <;> simp
@[simp] theorem devPut_bus (s : State) (a : Nat) (bs : List Byte) : (s.devPut a bs).bus = s.bus := by unfold State.devPut; split <;> simp
@[simp] theorem devPut_clk (s : State) (a : Nat) (bs : List Byte) : (s.devPut a bs).clk = s.clk := by unfold State.devPut; split <;> simp
@[simp] theorem devPut_pow (s : State) (a : Nat) (bs : List Byte) : (s.devPut a bs).pow = s.pow := by unfold State.devPut; split <;> simp
@[simp] theorem devPut_boot (s : State) (a : Nat) (bs : List Byte) : (s.devPut a bs).boot = s.boot := by unfold State.devPut; split <;> simp
@[simp] theorem devPut_nor (s : State) (a : Nat) (bs : List Byte) : (s.devPut a bs).nor = s.nor := by unfold State.devPut; split <;> simp
@[simp] theorem devPut_dbk (s : State) (a : Nat) (bs : List Byte) : (s.devPut a bs).dbk = s.dbk := by unfold State.devPut; split <;> simp
@[simp] theorem devPut_trust (s : State) (a : Nat) (bs : List Byte) : (s.devPut a bs).trust = s.trust := by unfold State.devPut; split <;> simp
@[simp] theorem devPut_procs (s : State) (a : Nat) (bs : List Byte) : (s.devPut a bs).procs = s.procs := by unfold State.devPut; split <;> simp
@[simp] theorem devPut_sess (s : State) (a : Nat) (bs : List Byte) : (s.devPut a bs).sess = s.sess := by unfold State.devPut; split <;> simp
@[simp] theorem devPut_accts (s : State) (a : Nat) (bs : List Byte) : (s.devPut a bs).accts = s.accts := by unfold State.devPut; split <;> simp
@[simp] theorem devPut_moves (s : State) (a : Nat) (bs : List Byte) : (s.devPut a bs).moves = s.moves := by unfold State.devPut; split <;> simp
@[simp] theorem devPut_wrt (s : State) (a : Nat) (bs : List Byte) : (s.devPut a bs).wrt = s.wrt := by unfold State.devPut; split <;> simp
@[simp] theorem devPut_cpu (s : State) (a : Nat) (bs : List Byte) : (s.devPut a bs).cpu = s.cpu := by unfold State.devPut; split <;> simp
@[simp] theorem devPut_ms (s : State) (a : Nat) (bs : List Byte) : (s.devPut a bs).ms = s.ms := by unfold State.devPut; split <;> simp
@[simp] theorem devPut_train (s : State) (a : Nat) (bs : List Byte) : (s.devPut a bs).train = s.train := by unfold State.devPut; split <;> simp
@[simp] theorem devPut_fab (s : State) (a : Nat) (bs : List Byte) : (s.devPut a bs).fab = s.fab := by unfold State.devPut; split <;> simp
@[simp] theorem devPut_exq (s : State) (a : Nat) (bs : List Byte) : (s.devPut a bs).exq = s.exq := by unfold State.devPut; split <;> simp
@[simp] theorem devPut_asz (s : State) (a : Nat) (bs : List Byte) : (s.devPut a bs).asz = s.asz := by unfold State.devPut; split <;> simp
@[simp] theorem devPut_edge (s : State) (a : Nat) (bs : List Byte) : (s.devPut a bs).edge = s.edge := by unfold State.devPut; split <;> simp
@[simp] theorem devPut_free (s : State) (a : Nat) (bs : List Byte) : (s.devPut a bs).free = s.free := by unfold State.devPut; split <;> simp

/-! ### `devWrite` -/

@[simp] theorem devWrite_pending (s : State) (a : Nat) (bs : List Byte) : (s.devWrite a bs).pending = s.pending := by
  unfold State.devWrite
  apply foldl_keeps (·.pending)
  intro s p; split <;> simp
@[simp] theorem devWrite_regs (s : State) (a : Nat) (bs : List Byte) : (s.devWrite a bs).regs = s.regs := by
  unfold State.devWrite
  apply foldl_keeps (·.regs)
  intro s p; split <;> simp
@[simp] theorem devWrite_bus (s : State) (a : Nat) (bs : List Byte) : (s.devWrite a bs).bus = s.bus := by
  unfold State.devWrite
  apply foldl_keeps (·.bus)
  intro s p; split <;> simp
@[simp] theorem devWrite_clk (s : State) (a : Nat) (bs : List Byte) : (s.devWrite a bs).clk = s.clk := by
  unfold State.devWrite
  apply foldl_keeps (·.clk)
  intro s p; split <;> simp
@[simp] theorem devWrite_pow (s : State) (a : Nat) (bs : List Byte) : (s.devWrite a bs).pow = s.pow := by
  unfold State.devWrite
  apply foldl_keeps (·.pow)
  intro s p; split <;> simp
@[simp] theorem devWrite_boot (s : State) (a : Nat) (bs : List Byte) : (s.devWrite a bs).boot = s.boot := by
  unfold State.devWrite
  apply foldl_keeps (·.boot)
  intro s p; split <;> simp
@[simp] theorem devWrite_nor (s : State) (a : Nat) (bs : List Byte) : (s.devWrite a bs).nor = s.nor := by
  unfold State.devWrite
  apply foldl_keeps (·.nor)
  intro s p; split <;> simp
@[simp] theorem devWrite_dbk (s : State) (a : Nat) (bs : List Byte) : (s.devWrite a bs).dbk = s.dbk := by
  unfold State.devWrite
  apply foldl_keeps (·.dbk)
  intro s p; split <;> simp
@[simp] theorem devWrite_trust (s : State) (a : Nat) (bs : List Byte) : (s.devWrite a bs).trust = s.trust := by
  unfold State.devWrite
  apply foldl_keeps (·.trust)
  intro s p; split <;> simp
@[simp] theorem devWrite_procs (s : State) (a : Nat) (bs : List Byte) : (s.devWrite a bs).procs = s.procs := by
  unfold State.devWrite
  apply foldl_keeps (·.procs)
  intro s p; split <;> simp
@[simp] theorem devWrite_sess (s : State) (a : Nat) (bs : List Byte) : (s.devWrite a bs).sess = s.sess := by
  unfold State.devWrite
  apply foldl_keeps (·.sess)
  intro s p; split <;> simp
@[simp] theorem devWrite_accts (s : State) (a : Nat) (bs : List Byte) : (s.devWrite a bs).accts = s.accts := by
  unfold State.devWrite
  apply foldl_keeps (·.accts)
  intro s p; split <;> simp
@[simp] theorem devWrite_moves (s : State) (a : Nat) (bs : List Byte) : (s.devWrite a bs).moves = s.moves := by
  unfold State.devWrite
  apply foldl_keeps (·.moves)
  intro s p; split <;> simp
@[simp] theorem devWrite_wrt (s : State) (a : Nat) (bs : List Byte) : (s.devWrite a bs).wrt = s.wrt := by
  unfold State.devWrite
  apply foldl_keeps (·.wrt)
  intro s p; split <;> simp
@[simp] theorem devWrite_cpu (s : State) (a : Nat) (bs : List Byte) : (s.devWrite a bs).cpu = s.cpu := by
  unfold State.devWrite
  apply foldl_keeps (·.cpu)
  intro s p; split <;> simp
@[simp] theorem devWrite_ms (s : State) (a : Nat) (bs : List Byte) : (s.devWrite a bs).ms = s.ms := by
  unfold State.devWrite
  apply foldl_keeps (·.ms)
  intro s p; split <;> simp
@[simp] theorem devWrite_train (s : State) (a : Nat) (bs : List Byte) : (s.devWrite a bs).train = s.train := by
  unfold State.devWrite
  apply foldl_keeps (·.train)
  intro s p; split <;> simp
@[simp] theorem devWrite_fab (s : State) (a : Nat) (bs : List Byte) : (s.devWrite a bs).fab = s.fab := by
  unfold State.devWrite
  apply foldl_keeps (·.fab)
  intro s p; split <;> simp
@[simp] theorem devWrite_exq (s : State) (a : Nat) (bs : List Byte) : (s.devWrite a bs).exq = s.exq := by
  unfold State.devWrite
  apply foldl_keeps (·.exq)
  intro s p; split <;> simp
@[simp] theorem devWrite_asz (s : State) (a : Nat) (bs : List Byte) : (s.devWrite a bs).asz = s.asz := by
  unfold State.devWrite
  apply foldl_keeps (·.asz)
  intro s p; split <;> simp
@[simp] theorem devWrite_edge (s : State) (a : Nat) (bs : List Byte) : (s.devWrite a bs).edge = s.edge := by
  unfold State.devWrite
  apply foldl_keeps (·.edge)
  intro s p; split <;> simp
@[simp] theorem devWrite_free (s : State) (a : Nat) (bs : List Byte) : (s.devWrite a bs).free = s.free := by
  unfold State.devWrite
  apply foldl_keeps (·.free)
  intro s p; split <;> simp

/-! ### `dumpPut` -/

@[simp] theorem dumpPut_pending (s : State) (a : Nat) (bs : List Byte) : (s.dumpPut a bs).pending = s.pending := foldl_keeps (·.pending) _ (fun s _ => devPut_pending s _ _) _ s
@[simp] theorem dumpPut_regs (s : State) (a : Nat) (bs : List Byte) : (s.dumpPut a bs).regs = s.regs := foldl_keeps (·.regs) _ (fun s _ => devPut_regs s _ _) _ s
@[simp] theorem dumpPut_bus (s : State) (a : Nat) (bs : List Byte) : (s.dumpPut a bs).bus = s.bus := foldl_keeps (·.bus) _ (fun s _ => devPut_bus s _ _) _ s
@[simp] theorem dumpPut_clk (s : State) (a : Nat) (bs : List Byte) : (s.dumpPut a bs).clk = s.clk := foldl_keeps (·.clk) _ (fun s _ => devPut_clk s _ _) _ s
@[simp] theorem dumpPut_pow (s : State) (a : Nat) (bs : List Byte) : (s.dumpPut a bs).pow = s.pow := foldl_keeps (·.pow) _ (fun s _ => devPut_pow s _ _) _ s
@[simp] theorem dumpPut_boot (s : State) (a : Nat) (bs : List Byte) : (s.dumpPut a bs).boot = s.boot := foldl_keeps (·.boot) _ (fun s _ => devPut_boot s _ _) _ s
@[simp] theorem dumpPut_nor (s : State) (a : Nat) (bs : List Byte) : (s.dumpPut a bs).nor = s.nor := foldl_keeps (·.nor) _ (fun s _ => devPut_nor s _ _) _ s
@[simp] theorem dumpPut_dbk (s : State) (a : Nat) (bs : List Byte) : (s.dumpPut a bs).dbk = s.dbk := foldl_keeps (·.dbk) _ (fun s _ => devPut_dbk s _ _) _ s
@[simp] theorem dumpPut_trust (s : State) (a : Nat) (bs : List Byte) : (s.dumpPut a bs).trust = s.trust := foldl_keeps (·.trust) _ (fun s _ => devPut_trust s _ _) _ s
@[simp] theorem dumpPut_procs (s : State) (a : Nat) (bs : List Byte) : (s.dumpPut a bs).procs = s.procs := foldl_keeps (·.procs) _ (fun s _ => devPut_procs s _ _) _ s
@[simp] theorem dumpPut_sess (s : State) (a : Nat) (bs : List Byte) : (s.dumpPut a bs).sess = s.sess := foldl_keeps (·.sess) _ (fun s _ => devPut_sess s _ _) _ s
@[simp] theorem dumpPut_accts (s : State) (a : Nat) (bs : List Byte) : (s.dumpPut a bs).accts = s.accts := foldl_keeps (·.accts) _ (fun s _ => devPut_accts s _ _) _ s
@[simp] theorem dumpPut_moves (s : State) (a : Nat) (bs : List Byte) : (s.dumpPut a bs).moves = s.moves := foldl_keeps (·.moves) _ (fun s _ => devPut_moves s _ _) _ s
@[simp] theorem dumpPut_wrt (s : State) (a : Nat) (bs : List Byte) : (s.dumpPut a bs).wrt = s.wrt := foldl_keeps (·.wrt) _ (fun s _ => devPut_wrt s _ _) _ s
@[simp] theorem dumpPut_cpu (s : State) (a : Nat) (bs : List Byte) : (s.dumpPut a bs).cpu = s.cpu := foldl_keeps (·.cpu) _ (fun s _ => devPut_cpu s _ _) _ s
@[simp] theorem dumpPut_ms (s : State) (a : Nat) (bs : List Byte) : (s.dumpPut a bs).ms = s.ms := foldl_keeps (·.ms) _ (fun s _ => devPut_ms s _ _) _ s
@[simp] theorem dumpPut_train (s : State) (a : Nat) (bs : List Byte) : (s.dumpPut a bs).train = s.train := foldl_keeps (·.train) _ (fun s _ => devPut_train s _ _) _ s
@[simp] theorem dumpPut_fab (s : State) (a : Nat) (bs : List Byte) : (s.dumpPut a bs).fab = s.fab := foldl_keeps (·.fab) _ (fun s _ => devPut_fab s _ _) _ s
@[simp] theorem dumpPut_exq (s : State) (a : Nat) (bs : List Byte) : (s.dumpPut a bs).exq = s.exq := foldl_keeps (·.exq) _ (fun s _ => devPut_exq s _ _) _ s
@[simp] theorem dumpPut_asz (s : State) (a : Nat) (bs : List Byte) : (s.dumpPut a bs).asz = s.asz := foldl_keeps (·.asz) _ (fun s _ => devPut_asz s _ _) _ s
@[simp] theorem dumpPut_edge (s : State) (a : Nat) (bs : List Byte) : (s.dumpPut a bs).edge = s.edge := foldl_keeps (·.edge) _ (fun s _ => devPut_edge s _ _) _ s
@[simp] theorem dumpPut_free (s : State) (a : Nat) (bs : List Byte) : (s.dumpPut a bs).free = s.free := foldl_keeps (·.free) _ (fun s _ => devPut_free s _ _) _ s

/-! ### `accWrite` -/

@[simp] theorem accWrite_pending (s : State) (c a : Nat) (bs : List Byte) : (s.accWrite c a bs).pending = s.pending := by
  unfold State.accWrite
  apply foldl_keeps (·.pending)
  intro s p; split <;> simp
@[simp] theorem accWrite_regs (s : State) (c a : Nat) (bs : List Byte) : (s.accWrite c a bs).regs = s.regs := by
  unfold State.accWrite
  apply foldl_keeps (·.regs)
  intro s p; split <;> simp
@[simp] theorem accWrite_bus (s : State) (c a : Nat) (bs : List Byte) : (s.accWrite c a bs).bus = s.bus := by
  unfold State.accWrite
  apply foldl_keeps (·.bus)
  intro s p; split <;> simp
@[simp] theorem accWrite_clk (s : State) (c a : Nat) (bs : List Byte) : (s.accWrite c a bs).clk = s.clk := by
  unfold State.accWrite
  apply foldl_keeps (·.clk)
  intro s p; split <;> simp
@[simp] theorem accWrite_pow (s : State) (c a : Nat) (bs : List Byte) : (s.accWrite c a bs).pow = s.pow := by
  unfold State.accWrite
  apply foldl_keeps (·.pow)
  intro s p; split <;> simp
@[simp] theorem accWrite_boot (s : State) (c a : Nat) (bs : List Byte) : (s.accWrite c a bs).boot = s.boot := by
  unfold State.accWrite
  apply foldl_keeps (·.boot)
  intro s p; split <;> simp
@[simp] theorem accWrite_nor (s : State) (c a : Nat) (bs : List Byte) : (s.accWrite c a bs).nor = s.nor := by
  unfold State.accWrite
  apply foldl_keeps (·.nor)
  intro s p; split <;> simp
@[simp] theorem accWrite_dbk (s : State) (c a : Nat) (bs : List Byte) : (s.accWrite c a bs).dbk = s.dbk := by
  unfold State.accWrite
  apply foldl_keeps (·.dbk)
  intro s p; split <;> simp
@[simp] theorem accWrite_trust (s : State) (c a : Nat) (bs : List Byte) : (s.accWrite c a bs).trust = s.trust := by
  unfold State.accWrite
  apply foldl_keeps (·.trust)
  intro s p; split <;> simp
@[simp] theorem accWrite_procs (s : State) (c a : Nat) (bs : List Byte) : (s.accWrite c a bs).procs = s.procs := by
  unfold State.accWrite
  apply foldl_keeps (·.procs)
  intro s p; split <;> simp
@[simp] theorem accWrite_sess (s : State) (c a : Nat) (bs : List Byte) : (s.accWrite c a bs).sess = s.sess := by
  unfold State.accWrite
  apply foldl_keeps (·.sess)
  intro s p; split <;> simp
@[simp] theorem accWrite_accts (s : State) (c a : Nat) (bs : List Byte) : (s.accWrite c a bs).accts = s.accts := by
  unfold State.accWrite
  apply foldl_keeps (·.accts)
  intro s p; split <;> simp
@[simp] theorem accWrite_moves (s : State) (c a : Nat) (bs : List Byte) : (s.accWrite c a bs).moves = s.moves := by
  unfold State.accWrite
  apply foldl_keeps (·.moves)
  intro s p; split <;> simp
@[simp] theorem accWrite_wrt (s : State) (c a : Nat) (bs : List Byte) : (s.accWrite c a bs).wrt = s.wrt := by
  unfold State.accWrite
  apply foldl_keeps (·.wrt)
  intro s p; split <;> simp
@[simp] theorem accWrite_cpu (s : State) (c a : Nat) (bs : List Byte) : (s.accWrite c a bs).cpu = s.cpu := by
  unfold State.accWrite
  apply foldl_keeps (·.cpu)
  intro s p; split <;> simp
@[simp] theorem accWrite_ms (s : State) (c a : Nat) (bs : List Byte) : (s.accWrite c a bs).ms = s.ms := by
  unfold State.accWrite
  apply foldl_keeps (·.ms)
  intro s p; split <;> simp
@[simp] theorem accWrite_train (s : State) (c a : Nat) (bs : List Byte) : (s.accWrite c a bs).train = s.train := by
  unfold State.accWrite
  apply foldl_keeps (·.train)
  intro s p; split <;> simp
@[simp] theorem accWrite_fab (s : State) (c a : Nat) (bs : List Byte) : (s.accWrite c a bs).fab = s.fab := by
  unfold State.accWrite
  apply foldl_keeps (·.fab)
  intro s p; split <;> simp
@[simp] theorem accWrite_exq (s : State) (c a : Nat) (bs : List Byte) : (s.accWrite c a bs).exq = s.exq := by
  unfold State.accWrite
  apply foldl_keeps (·.exq)
  intro s p; split <;> simp
@[simp] theorem accWrite_asz (s : State) (c a : Nat) (bs : List Byte) : (s.accWrite c a bs).asz = s.asz := by
  unfold State.accWrite
  apply foldl_keeps (·.asz)
  intro s p; split <;> simp
@[simp] theorem accWrite_edge (s : State) (c a : Nat) (bs : List Byte) : (s.accWrite c a bs).edge = s.edge := by
  unfold State.accWrite
  apply foldl_keeps (·.edge)
  intro s p; split <;> simp
@[simp] theorem accWrite_free (s : State) (c a : Nat) (bs : List Byte) : (s.accWrite c a bs).free = s.free := by
  unfold State.accWrite
  apply foldl_keeps (·.free)
  intro s p; split <;> simp

/-! ### `tsWrite` -/

@[simp] theorem tsWrite_pending (s : State) (e a : Nat) (bs : List Byte) : (s.tsWrite e a bs).pending = s.pending := rfl
@[simp] theorem tsWrite_regs (s : State) (e a : Nat) (bs : List Byte) : (s.tsWrite e a bs).regs = s.regs := rfl
@[simp] theorem tsWrite_bus (s : State) (e a : Nat) (bs : List Byte) : (s.tsWrite e a bs).bus = s.bus := rfl
@[simp] theorem tsWrite_clk (s : State) (e a : Nat) (bs : List Byte) : (s.tsWrite e a bs).clk = s.clk := rfl
@[simp] theorem tsWrite_pow (s : State) (e a : Nat) (bs : List Byte) : (s.tsWrite e a bs).pow = s.pow := rfl
@[simp] theorem tsWrite_boot (s : State) (e a : Nat) (bs : List Byte) : (s.tsWrite e a bs).boot = s.boot := rfl
@[simp] theorem tsWrite_nor (s : State) (e a : Nat) (bs : List Byte) : (s.tsWrite e a bs).nor = s.nor := rfl
@[simp] theorem tsWrite_dbk (s : State) (e a : Nat) (bs : List Byte) : (s.tsWrite e a bs).dbk = s.dbk := rfl
@[simp] theorem tsWrite_trust (s : State) (e a : Nat) (bs : List Byte) : (s.tsWrite e a bs).trust = s.trust := rfl
@[simp] theorem tsWrite_procs (s : State) (e a : Nat) (bs : List Byte) : (s.tsWrite e a bs).procs = s.procs := rfl
@[simp] theorem tsWrite_sess (s : State) (e a : Nat) (bs : List Byte) : (s.tsWrite e a bs).sess = s.sess := rfl
@[simp] theorem tsWrite_accts (s : State) (e a : Nat) (bs : List Byte) : (s.tsWrite e a bs).accts = s.accts := rfl
@[simp] theorem tsWrite_moves (s : State) (e a : Nat) (bs : List Byte) : (s.tsWrite e a bs).moves = s.moves := rfl
@[simp] theorem tsWrite_wrt (s : State) (e a : Nat) (bs : List Byte) : (s.tsWrite e a bs).wrt = s.wrt := rfl
@[simp] theorem tsWrite_cpu (s : State) (e a : Nat) (bs : List Byte) : (s.tsWrite e a bs).cpu = s.cpu := rfl
@[simp] theorem tsWrite_ms (s : State) (e a : Nat) (bs : List Byte) : (s.tsWrite e a bs).ms = s.ms := rfl
@[simp] theorem tsWrite_train (s : State) (e a : Nat) (bs : List Byte) : (s.tsWrite e a bs).train = s.train := rfl
@[simp] theorem tsWrite_fab (s : State) (e a : Nat) (bs : List Byte) : (s.tsWrite e a bs).fab = s.fab := rfl
@[simp] theorem tsWrite_exq (s : State) (e a : Nat) (bs : List Byte) : (s.tsWrite e a bs).exq = s.exq := rfl
@[simp] theorem tsWrite_asz (s : State) (e a : Nat) (bs : List Byte) : (s.tsWrite e a bs).asz = s.asz := rfl
@[simp] theorem tsWrite_edge (s : State) (e a : Nat) (bs : List Byte) : (s.tsWrite e a bs).edge = s.edge := rfl
@[simp] theorem tsWrite_free (s : State) (e a : Nat) (bs : List Byte) : (s.tsWrite e a bs).free = s.free := rfl

/-! ### `csWrite` -/

@[simp] theorem csWrite_pending (s : State) (c a : Nat) (bs : List Byte) : (s.csWrite c a bs).pending = s.pending := rfl
@[simp] theorem csWrite_regs (s : State) (c a : Nat) (bs : List Byte) : (s.csWrite c a bs).regs = s.regs := rfl
@[simp] theorem csWrite_bus (s : State) (c a : Nat) (bs : List Byte) : (s.csWrite c a bs).bus = s.bus := rfl
@[simp] theorem csWrite_clk (s : State) (c a : Nat) (bs : List Byte) : (s.csWrite c a bs).clk = s.clk := rfl
@[simp] theorem csWrite_pow (s : State) (c a : Nat) (bs : List Byte) : (s.csWrite c a bs).pow = s.pow := rfl
@[simp] theorem csWrite_boot (s : State) (c a : Nat) (bs : List Byte) : (s.csWrite c a bs).boot = s.boot := rfl
@[simp] theorem csWrite_nor (s : State) (c a : Nat) (bs : List Byte) : (s.csWrite c a bs).nor = s.nor := rfl
@[simp] theorem csWrite_dbk (s : State) (c a : Nat) (bs : List Byte) : (s.csWrite c a bs).dbk = s.dbk := rfl
@[simp] theorem csWrite_trust (s : State) (c a : Nat) (bs : List Byte) : (s.csWrite c a bs).trust = s.trust := rfl
@[simp] theorem csWrite_procs (s : State) (c a : Nat) (bs : List Byte) : (s.csWrite c a bs).procs = s.procs := rfl
@[simp] theorem csWrite_sess (s : State) (c a : Nat) (bs : List Byte) : (s.csWrite c a bs).sess = s.sess := rfl
@[simp] theorem csWrite_accts (s : State) (c a : Nat) (bs : List Byte) : (s.csWrite c a bs).accts = s.accts := rfl
@[simp] theorem csWrite_moves (s : State) (c a : Nat) (bs : List Byte) : (s.csWrite c a bs).moves = s.moves := rfl
@[simp] theorem csWrite_wrt (s : State) (c a : Nat) (bs : List Byte) : (s.csWrite c a bs).wrt = s.wrt := rfl
@[simp] theorem csWrite_cpu (s : State) (c a : Nat) (bs : List Byte) : (s.csWrite c a bs).cpu = s.cpu := rfl
@[simp] theorem csWrite_ms (s : State) (c a : Nat) (bs : List Byte) : (s.csWrite c a bs).ms = s.ms := rfl
@[simp] theorem csWrite_train (s : State) (c a : Nat) (bs : List Byte) : (s.csWrite c a bs).train = s.train := rfl
@[simp] theorem csWrite_fab (s : State) (c a : Nat) (bs : List Byte) : (s.csWrite c a bs).fab = s.fab := rfl
@[simp] theorem csWrite_exq (s : State) (c a : Nat) (bs : List Byte) : (s.csWrite c a bs).exq = s.exq := rfl
@[simp] theorem csWrite_asz (s : State) (c a : Nat) (bs : List Byte) : (s.csWrite c a bs).asz = s.asz := rfl
@[simp] theorem csWrite_edge (s : State) (c a : Nat) (bs : List Byte) : (s.csWrite c a bs).edge = s.edge := rfl
@[simp] theorem csWrite_free (s : State) (c a : Nat) (bs : List Byte) : (s.csWrite c a bs).free = s.free := rfl

/-! ### `tsSetPoison` -/

@[simp] theorem tsSetPoison_pending (s : State) (e a n : Nat) : (s.tsSetPoison e a n).pending = s.pending := rfl
@[simp] theorem tsSetPoison_regs (s : State) (e a n : Nat) : (s.tsSetPoison e a n).regs = s.regs := rfl
@[simp] theorem tsSetPoison_bus (s : State) (e a n : Nat) : (s.tsSetPoison e a n).bus = s.bus := rfl
@[simp] theorem tsSetPoison_clk (s : State) (e a n : Nat) : (s.tsSetPoison e a n).clk = s.clk := rfl
@[simp] theorem tsSetPoison_pow (s : State) (e a n : Nat) : (s.tsSetPoison e a n).pow = s.pow := rfl
@[simp] theorem tsSetPoison_boot (s : State) (e a n : Nat) : (s.tsSetPoison e a n).boot = s.boot := rfl
@[simp] theorem tsSetPoison_nor (s : State) (e a n : Nat) : (s.tsSetPoison e a n).nor = s.nor := rfl
@[simp] theorem tsSetPoison_dbk (s : State) (e a n : Nat) : (s.tsSetPoison e a n).dbk = s.dbk := rfl
@[simp] theorem tsSetPoison_trust (s : State) (e a n : Nat) : (s.tsSetPoison e a n).trust = s.trust := rfl
@[simp] theorem tsSetPoison_procs (s : State) (e a n : Nat) : (s.tsSetPoison e a n).procs = s.procs := rfl
@[simp] theorem tsSetPoison_sess (s : State) (e a n : Nat) : (s.tsSetPoison e a n).sess = s.sess := rfl
@[simp] theorem tsSetPoison_accts (s : State) (e a n : Nat) : (s.tsSetPoison e a n).accts = s.accts := rfl
@[simp] theorem tsSetPoison_moves (s : State) (e a n : Nat) : (s.tsSetPoison e a n).moves = s.moves := rfl
@[simp] theorem tsSetPoison_wrt (s : State) (e a n : Nat) : (s.tsSetPoison e a n).wrt = s.wrt := rfl
@[simp] theorem tsSetPoison_cpu (s : State) (e a n : Nat) : (s.tsSetPoison e a n).cpu = s.cpu := rfl
@[simp] theorem tsSetPoison_ms (s : State) (e a n : Nat) : (s.tsSetPoison e a n).ms = s.ms := rfl
@[simp] theorem tsSetPoison_train (s : State) (e a n : Nat) : (s.tsSetPoison e a n).train = s.train := rfl
@[simp] theorem tsSetPoison_fab (s : State) (e a n : Nat) : (s.tsSetPoison e a n).fab = s.fab := rfl
@[simp] theorem tsSetPoison_exq (s : State) (e a n : Nat) : (s.tsSetPoison e a n).exq = s.exq := rfl
@[simp] theorem tsSetPoison_asz (s : State) (e a n : Nat) : (s.tsSetPoison e a n).asz = s.asz := rfl
@[simp] theorem tsSetPoison_edge (s : State) (e a n : Nat) : (s.tsSetPoison e a n).edge = s.edge := rfl
@[simp] theorem tsSetPoison_free (s : State) (e a n : Nat) : (s.tsSetPoison e a n).free = s.free := rfl

/-! ### `csSetPoison` -/

@[simp] theorem csSetPoison_pending (s : State) (c a n : Nat) : (s.csSetPoison c a n).pending = s.pending := rfl
@[simp] theorem csSetPoison_regs (s : State) (c a n : Nat) : (s.csSetPoison c a n).regs = s.regs := rfl
@[simp] theorem csSetPoison_bus (s : State) (c a n : Nat) : (s.csSetPoison c a n).bus = s.bus := rfl
@[simp] theorem csSetPoison_clk (s : State) (c a n : Nat) : (s.csSetPoison c a n).clk = s.clk := rfl
@[simp] theorem csSetPoison_pow (s : State) (c a n : Nat) : (s.csSetPoison c a n).pow = s.pow := rfl
@[simp] theorem csSetPoison_boot (s : State) (c a n : Nat) : (s.csSetPoison c a n).boot = s.boot := rfl
@[simp] theorem csSetPoison_nor (s : State) (c a n : Nat) : (s.csSetPoison c a n).nor = s.nor := rfl
@[simp] theorem csSetPoison_dbk (s : State) (c a n : Nat) : (s.csSetPoison c a n).dbk = s.dbk := rfl
@[simp] theorem csSetPoison_trust (s : State) (c a n : Nat) : (s.csSetPoison c a n).trust = s.trust := rfl
@[simp] theorem csSetPoison_procs (s : State) (c a n : Nat) : (s.csSetPoison c a n).procs = s.procs := rfl
@[simp] theorem csSetPoison_sess (s : State) (c a n : Nat) : (s.csSetPoison c a n).sess = s.sess := rfl
@[simp] theorem csSetPoison_accts (s : State) (c a n : Nat) : (s.csSetPoison c a n).accts = s.accts := rfl
@[simp] theorem csSetPoison_moves (s : State) (c a n : Nat) : (s.csSetPoison c a n).moves = s.moves := rfl
@[simp] theorem csSetPoison_wrt (s : State) (c a n : Nat) : (s.csSetPoison c a n).wrt = s.wrt := rfl
@[simp] theorem csSetPoison_cpu (s : State) (c a n : Nat) : (s.csSetPoison c a n).cpu = s.cpu := rfl
@[simp] theorem csSetPoison_ms (s : State) (c a n : Nat) : (s.csSetPoison c a n).ms = s.ms := rfl
@[simp] theorem csSetPoison_train (s : State) (c a n : Nat) : (s.csSetPoison c a n).train = s.train := rfl
@[simp] theorem csSetPoison_fab (s : State) (c a n : Nat) : (s.csSetPoison c a n).fab = s.fab := rfl
@[simp] theorem csSetPoison_exq (s : State) (c a n : Nat) : (s.csSetPoison c a n).exq = s.exq := rfl
@[simp] theorem csSetPoison_asz (s : State) (c a n : Nat) : (s.csSetPoison c a n).asz = s.asz := rfl
@[simp] theorem csSetPoison_edge (s : State) (c a n : Nat) : (s.csSetPoison c a n).edge = s.edge := rfl
@[simp] theorem csSetPoison_free (s : State) (c a n : Nat) : (s.csSetPoison c a n).free = s.free := rfl

/-! ### `zeroTile` -/

@[simp] theorem zeroTile_pending (s : State) (e : Nat) : (s.zeroTile e).pending = s.pending := rfl
@[simp] theorem zeroTile_regs (s : State) (e : Nat) : (s.zeroTile e).regs = s.regs := rfl
@[simp] theorem zeroTile_bus (s : State) (e : Nat) : (s.zeroTile e).bus = s.bus := rfl
@[simp] theorem zeroTile_clk (s : State) (e : Nat) : (s.zeroTile e).clk = s.clk := rfl
@[simp] theorem zeroTile_pow (s : State) (e : Nat) : (s.zeroTile e).pow = s.pow := rfl
@[simp] theorem zeroTile_boot (s : State) (e : Nat) : (s.zeroTile e).boot = s.boot := rfl
@[simp] theorem zeroTile_nor (s : State) (e : Nat) : (s.zeroTile e).nor = s.nor := rfl
@[simp] theorem zeroTile_dbk (s : State) (e : Nat) : (s.zeroTile e).dbk = s.dbk := rfl
@[simp] theorem zeroTile_trust (s : State) (e : Nat) : (s.zeroTile e).trust = s.trust := rfl
@[simp] theorem zeroTile_procs (s : State) (e : Nat) : (s.zeroTile e).procs = s.procs := rfl
@[simp] theorem zeroTile_sess (s : State) (e : Nat) : (s.zeroTile e).sess = s.sess := rfl
@[simp] theorem zeroTile_accts (s : State) (e : Nat) : (s.zeroTile e).accts = s.accts := rfl
@[simp] theorem zeroTile_moves (s : State) (e : Nat) : (s.zeroTile e).moves = s.moves := rfl
@[simp] theorem zeroTile_wrt (s : State) (e : Nat) : (s.zeroTile e).wrt = s.wrt := rfl
@[simp] theorem zeroTile_cpu (s : State) (e : Nat) : (s.zeroTile e).cpu = s.cpu := rfl
@[simp] theorem zeroTile_ms (s : State) (e : Nat) : (s.zeroTile e).ms = s.ms := rfl
@[simp] theorem zeroTile_train (s : State) (e : Nat) : (s.zeroTile e).train = s.train := rfl
@[simp] theorem zeroTile_fab (s : State) (e : Nat) : (s.zeroTile e).fab = s.fab := rfl
@[simp] theorem zeroTile_exq (s : State) (e : Nat) : (s.zeroTile e).exq = s.exq := rfl
@[simp] theorem zeroTile_asz (s : State) (e : Nat) : (s.zeroTile e).asz = s.asz := rfl
@[simp] theorem zeroTile_edge (s : State) (e : Nat) : (s.zeroTile e).edge = s.edge := rfl
@[simp] theorem zeroTile_free (s : State) (e : Nat) : (s.zeroTile e).free = s.free := rfl

/-! ### `zeroCore` -/

@[simp] theorem zeroCore_pending (s : State) (c : Nat) : (s.zeroCore c).pending = s.pending := rfl
@[simp] theorem zeroCore_regs (s : State) (c : Nat) : (s.zeroCore c).regs = s.regs := rfl
@[simp] theorem zeroCore_bus (s : State) (c : Nat) : (s.zeroCore c).bus = s.bus := rfl
@[simp] theorem zeroCore_clk (s : State) (c : Nat) : (s.zeroCore c).clk = s.clk := rfl
@[simp] theorem zeroCore_pow (s : State) (c : Nat) : (s.zeroCore c).pow = s.pow := rfl
@[simp] theorem zeroCore_boot (s : State) (c : Nat) : (s.zeroCore c).boot = s.boot := rfl
@[simp] theorem zeroCore_nor (s : State) (c : Nat) : (s.zeroCore c).nor = s.nor := rfl
@[simp] theorem zeroCore_dbk (s : State) (c : Nat) : (s.zeroCore c).dbk = s.dbk := rfl
@[simp] theorem zeroCore_trust (s : State) (c : Nat) : (s.zeroCore c).trust = s.trust := rfl
@[simp] theorem zeroCore_procs (s : State) (c : Nat) : (s.zeroCore c).procs = s.procs := rfl
@[simp] theorem zeroCore_sess (s : State) (c : Nat) : (s.zeroCore c).sess = s.sess := rfl
@[simp] theorem zeroCore_accts (s : State) (c : Nat) : (s.zeroCore c).accts = s.accts := rfl
@[simp] theorem zeroCore_moves (s : State) (c : Nat) : (s.zeroCore c).moves = s.moves := rfl
@[simp] theorem zeroCore_wrt (s : State) (c : Nat) : (s.zeroCore c).wrt = s.wrt := rfl
@[simp] theorem zeroCore_cpu (s : State) (c : Nat) : (s.zeroCore c).cpu = s.cpu := rfl
@[simp] theorem zeroCore_ms (s : State) (c : Nat) : (s.zeroCore c).ms = s.ms := rfl
@[simp] theorem zeroCore_train (s : State) (c : Nat) : (s.zeroCore c).train = s.train := rfl
@[simp] theorem zeroCore_fab (s : State) (c : Nat) : (s.zeroCore c).fab = s.fab := rfl
@[simp] theorem zeroCore_exq (s : State) (c : Nat) : (s.zeroCore c).exq = s.exq := rfl
@[simp] theorem zeroCore_asz (s : State) (c : Nat) : (s.zeroCore c).asz = s.asz := rfl
@[simp] theorem zeroCore_edge (s : State) (c : Nat) : (s.zeroCore c).edge = s.edge := rfl
@[simp] theorem zeroCore_free (s : State) (c : Nat) : (s.zeroCore c).free = s.free := rfl

/-! ### `setCore` -/

@[simp] theorem setCore_pending (s : State) (c : Nat) (v : Core) : (s.setCore c v).pending = s.pending := rfl
@[simp] theorem setCore_regs (s : State) (c : Nat) (v : Core) : (s.setCore c v).regs = s.regs := rfl
@[simp] theorem setCore_bus (s : State) (c : Nat) (v : Core) : (s.setCore c v).bus = s.bus := rfl
@[simp] theorem setCore_clk (s : State) (c : Nat) (v : Core) : (s.setCore c v).clk = s.clk := rfl
@[simp] theorem setCore_pow (s : State) (c : Nat) (v : Core) : (s.setCore c v).pow = s.pow := rfl
@[simp] theorem setCore_boot (s : State) (c : Nat) (v : Core) : (s.setCore c v).boot = s.boot := rfl
@[simp] theorem setCore_nor (s : State) (c : Nat) (v : Core) : (s.setCore c v).nor = s.nor := rfl
@[simp] theorem setCore_dbk (s : State) (c : Nat) (v : Core) : (s.setCore c v).dbk = s.dbk := rfl
@[simp] theorem setCore_trust (s : State) (c : Nat) (v : Core) : (s.setCore c v).trust = s.trust := rfl
@[simp] theorem setCore_procs (s : State) (c : Nat) (v : Core) : (s.setCore c v).procs = s.procs := rfl
@[simp] theorem setCore_sess (s : State) (c : Nat) (v : Core) : (s.setCore c v).sess = s.sess := rfl
@[simp] theorem setCore_accts (s : State) (c : Nat) (v : Core) : (s.setCore c v).accts = s.accts := rfl
@[simp] theorem setCore_moves (s : State) (c : Nat) (v : Core) : (s.setCore c v).moves = s.moves := rfl
@[simp] theorem setCore_wrt (s : State) (c : Nat) (v : Core) : (s.setCore c v).wrt = s.wrt := rfl
@[simp] theorem setCore_mem (s : State) (c : Nat) (v : Core) : (s.setCore c v).mem = s.mem := rfl
@[simp] theorem setCore_ms (s : State) (c : Nat) (v : Core) : (s.setCore c v).ms = s.ms := rfl
@[simp] theorem setCore_train (s : State) (c : Nat) (v : Core) : (s.setCore c v).train = s.train := rfl
@[simp] theorem setCore_fab (s : State) (c : Nat) (v : Core) : (s.setCore c v).fab = s.fab := rfl
@[simp] theorem setCore_exq (s : State) (c : Nat) (v : Core) : (s.setCore c v).exq = s.exq := rfl
@[simp] theorem setCore_asz (s : State) (c : Nat) (v : Core) : (s.setCore c v).asz = s.asz := rfl
@[simp] theorem setCore_edge (s : State) (c : Nat) (v : Core) : (s.setCore c v).edge = s.edge := rfl
@[simp] theorem setCore_free (s : State) (c : Nat) (v : Core) : (s.setCore c v).free = s.free := rfl

/-! ### `setEngine` -/

@[simp] theorem setEngine_pending (s : State) (e : Nat) (v : Engine) : (s.setEngine e v).pending = s.pending := rfl
@[simp] theorem setEngine_regs (s : State) (e : Nat) (v : Engine) : (s.setEngine e v).regs = s.regs := rfl
@[simp] theorem setEngine_bus (s : State) (e : Nat) (v : Engine) : (s.setEngine e v).bus = s.bus := rfl
@[simp] theorem setEngine_clk (s : State) (e : Nat) (v : Engine) : (s.setEngine e v).clk = s.clk := rfl
@[simp] theorem setEngine_pow (s : State) (e : Nat) (v : Engine) : (s.setEngine e v).pow = s.pow := rfl
@[simp] theorem setEngine_boot (s : State) (e : Nat) (v : Engine) : (s.setEngine e v).boot = s.boot := rfl
@[simp] theorem setEngine_nor (s : State) (e : Nat) (v : Engine) : (s.setEngine e v).nor = s.nor := rfl
@[simp] theorem setEngine_dbk (s : State) (e : Nat) (v : Engine) : (s.setEngine e v).dbk = s.dbk := rfl
@[simp] theorem setEngine_trust (s : State) (e : Nat) (v : Engine) : (s.setEngine e v).trust = s.trust := rfl
@[simp] theorem setEngine_procs (s : State) (e : Nat) (v : Engine) : (s.setEngine e v).procs = s.procs := rfl
@[simp] theorem setEngine_sess (s : State) (e : Nat) (v : Engine) : (s.setEngine e v).sess = s.sess := rfl
@[simp] theorem setEngine_accts (s : State) (e : Nat) (v : Engine) : (s.setEngine e v).accts = s.accts := rfl
@[simp] theorem setEngine_moves (s : State) (e : Nat) (v : Engine) : (s.setEngine e v).moves = s.moves := rfl
@[simp] theorem setEngine_wrt (s : State) (e : Nat) (v : Engine) : (s.setEngine e v).wrt = s.wrt := rfl
@[simp] theorem setEngine_mem (s : State) (e : Nat) (v : Engine) : (s.setEngine e v).mem = s.mem := rfl
@[simp] theorem setEngine_ms (s : State) (e : Nat) (v : Engine) : (s.setEngine e v).ms = s.ms := rfl
@[simp] theorem setEngine_train (s : State) (e : Nat) (v : Engine) : (s.setEngine e v).train = s.train := rfl
@[simp] theorem setEngine_fab (s : State) (e : Nat) (v : Engine) : (s.setEngine e v).fab = s.fab := rfl
@[simp] theorem setEngine_exq (s : State) (e : Nat) (v : Engine) : (s.setEngine e v).exq = s.exq := rfl
@[simp] theorem setEngine_asz (s : State) (e : Nat) (v : Engine) : (s.setEngine e v).asz = s.asz := rfl
@[simp] theorem setEngine_edge (s : State) (e : Nat) (v : Engine) : (s.setEngine e v).edge = s.edge := rfl
@[simp] theorem setEngine_free (s : State) (e : Nat) (v : Engine) : (s.setEngine e v).free = s.free := rfl

/-! ### `setLoader` -/

@[simp] theorem setLoader_pending (s : State) (c : Nat) (v : List Order) : (s.setLoader c v).pending = s.pending := rfl
@[simp] theorem setLoader_regs (s : State) (c : Nat) (v : List Order) : (s.setLoader c v).regs = s.regs := rfl
@[simp] theorem setLoader_bus (s : State) (c : Nat) (v : List Order) : (s.setLoader c v).bus = s.bus := rfl
@[simp] theorem setLoader_clk (s : State) (c : Nat) (v : List Order) : (s.setLoader c v).clk = s.clk := rfl
@[simp] theorem setLoader_pow (s : State) (c : Nat) (v : List Order) : (s.setLoader c v).pow = s.pow := rfl
@[simp] theorem setLoader_boot (s : State) (c : Nat) (v : List Order) : (s.setLoader c v).boot = s.boot := rfl
@[simp] theorem setLoader_nor (s : State) (c : Nat) (v : List Order) : (s.setLoader c v).nor = s.nor := rfl
@[simp] theorem setLoader_dbk (s : State) (c : Nat) (v : List Order) : (s.setLoader c v).dbk = s.dbk := rfl
@[simp] theorem setLoader_trust (s : State) (c : Nat) (v : List Order) : (s.setLoader c v).trust = s.trust := rfl
@[simp] theorem setLoader_procs (s : State) (c : Nat) (v : List Order) : (s.setLoader c v).procs = s.procs := rfl
@[simp] theorem setLoader_sess (s : State) (c : Nat) (v : List Order) : (s.setLoader c v).sess = s.sess := rfl
@[simp] theorem setLoader_accts (s : State) (c : Nat) (v : List Order) : (s.setLoader c v).accts = s.accts := rfl
@[simp] theorem setLoader_moves (s : State) (c : Nat) (v : List Order) : (s.setLoader c v).moves = s.moves := rfl
@[simp] theorem setLoader_wrt (s : State) (c : Nat) (v : List Order) : (s.setLoader c v).wrt = s.wrt := rfl
@[simp] theorem setLoader_mem (s : State) (c : Nat) (v : List Order) : (s.setLoader c v).mem = s.mem := rfl
@[simp] theorem setLoader_ms (s : State) (c : Nat) (v : List Order) : (s.setLoader c v).ms = s.ms := rfl
@[simp] theorem setLoader_train (s : State) (c : Nat) (v : List Order) : (s.setLoader c v).train = s.train := rfl
@[simp] theorem setLoader_fab (s : State) (c : Nat) (v : List Order) : (s.setLoader c v).fab = s.fab := rfl
@[simp] theorem setLoader_exq (s : State) (c : Nat) (v : List Order) : (s.setLoader c v).exq = s.exq := rfl
@[simp] theorem setLoader_asz (s : State) (c : Nat) (v : List Order) : (s.setLoader c v).asz = s.asz := rfl
@[simp] theorem setLoader_edge (s : State) (c : Nat) (v : List Order) : (s.setLoader c v).edge = s.edge := rfl
@[simp] theorem setLoader_free (s : State) (c : Nat) (v : List Order) : (s.setLoader c v).free = s.free := rfl

/-! ### `setSreg` -/

@[simp] theorem setSreg_pending (s : State) (c : Nat) (r : BitVec 5) (v : W64) : (s.setSreg c r v).pending = s.pending := by unfold State.setSreg; split <;> rfl
@[simp] theorem setSreg_regs (s : State) (c : Nat) (r : BitVec 5) (v : W64) : (s.setSreg c r v).regs = s.regs := by unfold State.setSreg; split <;> rfl
@[simp] theorem setSreg_bus (s : State) (c : Nat) (r : BitVec 5) (v : W64) : (s.setSreg c r v).bus = s.bus := by unfold State.setSreg; split <;> rfl
@[simp] theorem setSreg_clk (s : State) (c : Nat) (r : BitVec 5) (v : W64) : (s.setSreg c r v).clk = s.clk := by unfold State.setSreg; split <;> rfl
@[simp] theorem setSreg_pow (s : State) (c : Nat) (r : BitVec 5) (v : W64) : (s.setSreg c r v).pow = s.pow := by unfold State.setSreg; split <;> rfl
@[simp] theorem setSreg_boot (s : State) (c : Nat) (r : BitVec 5) (v : W64) : (s.setSreg c r v).boot = s.boot := by unfold State.setSreg; split <;> rfl
@[simp] theorem setSreg_nor (s : State) (c : Nat) (r : BitVec 5) (v : W64) : (s.setSreg c r v).nor = s.nor := by unfold State.setSreg; split <;> rfl
@[simp] theorem setSreg_dbk (s : State) (c : Nat) (r : BitVec 5) (v : W64) : (s.setSreg c r v).dbk = s.dbk := by unfold State.setSreg; split <;> rfl
@[simp] theorem setSreg_trust (s : State) (c : Nat) (r : BitVec 5) (v : W64) : (s.setSreg c r v).trust = s.trust := by unfold State.setSreg; split <;> rfl
@[simp] theorem setSreg_procs (s : State) (c : Nat) (r : BitVec 5) (v : W64) : (s.setSreg c r v).procs = s.procs := by unfold State.setSreg; split <;> rfl
@[simp] theorem setSreg_sess (s : State) (c : Nat) (r : BitVec 5) (v : W64) : (s.setSreg c r v).sess = s.sess := by unfold State.setSreg; split <;> rfl
@[simp] theorem setSreg_accts (s : State) (c : Nat) (r : BitVec 5) (v : W64) : (s.setSreg c r v).accts = s.accts := by unfold State.setSreg; split <;> rfl
@[simp] theorem setSreg_moves (s : State) (c : Nat) (r : BitVec 5) (v : W64) : (s.setSreg c r v).moves = s.moves := by unfold State.setSreg; split <;> rfl
@[simp] theorem setSreg_wrt (s : State) (c : Nat) (r : BitVec 5) (v : W64) : (s.setSreg c r v).wrt = s.wrt := by unfold State.setSreg; split <;> rfl
@[simp] theorem setSreg_mem (s : State) (c : Nat) (r : BitVec 5) (v : W64) : (s.setSreg c r v).mem = s.mem := by unfold State.setSreg; split <;> rfl
@[simp] theorem setSreg_ms (s : State) (c : Nat) (r : BitVec 5) (v : W64) : (s.setSreg c r v).ms = s.ms := by unfold State.setSreg; split <;> rfl
@[simp] theorem setSreg_train (s : State) (c : Nat) (r : BitVec 5) (v : W64) : (s.setSreg c r v).train = s.train := by unfold State.setSreg; split <;> rfl
@[simp] theorem setSreg_fab (s : State) (c : Nat) (r : BitVec 5) (v : W64) : (s.setSreg c r v).fab = s.fab := by unfold State.setSreg; split <;> rfl
@[simp] theorem setSreg_exq (s : State) (c : Nat) (r : BitVec 5) (v : W64) : (s.setSreg c r v).exq = s.exq := by unfold State.setSreg; split <;> rfl
@[simp] theorem setSreg_asz (s : State) (c : Nat) (r : BitVec 5) (v : W64) : (s.setSreg c r v).asz = s.asz := by unfold State.setSreg; split <;> rfl
@[simp] theorem setSreg_edge (s : State) (c : Nat) (r : BitVec 5) (v : W64) : (s.setSreg c r v).edge = s.edge := by unfold State.setSreg; split <;> rfl
@[simp] theorem setSreg_free (s : State) (c : Nat) (r : BitVec 5) (v : W64) : (s.setSreg c r v).free = s.free := by unfold State.setSreg; split <;> rfl

/-! ### `setCsr` -/

@[simp] theorem setCsr_pending (s : State) (c n : Nat) (v : W64) : (s.setCsr c n v).pending = s.pending := rfl
@[simp] theorem setCsr_regs (s : State) (c n : Nat) (v : W64) : (s.setCsr c n v).regs = s.regs := rfl
@[simp] theorem setCsr_bus (s : State) (c n : Nat) (v : W64) : (s.setCsr c n v).bus = s.bus := rfl
@[simp] theorem setCsr_clk (s : State) (c n : Nat) (v : W64) : (s.setCsr c n v).clk = s.clk := rfl
@[simp] theorem setCsr_pow (s : State) (c n : Nat) (v : W64) : (s.setCsr c n v).pow = s.pow := rfl
@[simp] theorem setCsr_boot (s : State) (c n : Nat) (v : W64) : (s.setCsr c n v).boot = s.boot := rfl
@[simp] theorem setCsr_nor (s : State) (c n : Nat) (v : W64) : (s.setCsr c n v).nor = s.nor := rfl
@[simp] theorem setCsr_dbk (s : State) (c n : Nat) (v : W64) : (s.setCsr c n v).dbk = s.dbk := rfl
@[simp] theorem setCsr_trust (s : State) (c n : Nat) (v : W64) : (s.setCsr c n v).trust = s.trust := rfl
@[simp] theorem setCsr_procs (s : State) (c n : Nat) (v : W64) : (s.setCsr c n v).procs = s.procs := rfl
@[simp] theorem setCsr_sess (s : State) (c n : Nat) (v : W64) : (s.setCsr c n v).sess = s.sess := rfl
@[simp] theorem setCsr_accts (s : State) (c n : Nat) (v : W64) : (s.setCsr c n v).accts = s.accts := rfl
@[simp] theorem setCsr_moves (s : State) (c n : Nat) (v : W64) : (s.setCsr c n v).moves = s.moves := rfl
@[simp] theorem setCsr_wrt (s : State) (c n : Nat) (v : W64) : (s.setCsr c n v).wrt = s.wrt := rfl
@[simp] theorem setCsr_mem (s : State) (c n : Nat) (v : W64) : (s.setCsr c n v).mem = s.mem := rfl
@[simp] theorem setCsr_ms (s : State) (c n : Nat) (v : W64) : (s.setCsr c n v).ms = s.ms := rfl
@[simp] theorem setCsr_train (s : State) (c n : Nat) (v : W64) : (s.setCsr c n v).train = s.train := rfl
@[simp] theorem setCsr_fab (s : State) (c n : Nat) (v : W64) : (s.setCsr c n v).fab = s.fab := rfl
@[simp] theorem setCsr_exq (s : State) (c n : Nat) (v : W64) : (s.setCsr c n v).exq = s.exq := rfl
@[simp] theorem setCsr_asz (s : State) (c n : Nat) (v : W64) : (s.setCsr c n v).asz = s.asz := rfl
@[simp] theorem setCsr_edge (s : State) (c n : Nat) (v : W64) : (s.setCsr c n v).edge = s.edge := rfl
@[simp] theorem setCsr_free (s : State) (c n : Nat) (v : W64) : (s.setCsr c n v).free = s.free := rfl

/-! ### `setPc` -/

@[simp] theorem setPc_pending (s : State) (c : Nat) (v : W64) : (s.setPc c v).pending = s.pending := by simp [State.setPc]
@[simp] theorem setPc_regs (s : State) (c : Nat) (v : W64) : (s.setPc c v).regs = s.regs := by simp [State.setPc]
@[simp] theorem setPc_bus (s : State) (c : Nat) (v : W64) : (s.setPc c v).bus = s.bus := by simp [State.setPc]
@[simp] theorem setPc_clk (s : State) (c : Nat) (v : W64) : (s.setPc c v).clk = s.clk := by simp [State.setPc]
@[simp] theorem setPc_pow (s : State) (c : Nat) (v : W64) : (s.setPc c v).pow = s.pow := by simp [State.setPc]
@[simp] theorem setPc_boot (s : State) (c : Nat) (v : W64) : (s.setPc c v).boot = s.boot := by simp [State.setPc]
@[simp] theorem setPc_nor (s : State) (c : Nat) (v : W64) : (s.setPc c v).nor = s.nor := by simp [State.setPc]
@[simp] theorem setPc_dbk (s : State) (c : Nat) (v : W64) : (s.setPc c v).dbk = s.dbk := by simp [State.setPc]
@[simp] theorem setPc_trust (s : State) (c : Nat) (v : W64) : (s.setPc c v).trust = s.trust := by simp [State.setPc]
@[simp] theorem setPc_procs (s : State) (c : Nat) (v : W64) : (s.setPc c v).procs = s.procs := by simp [State.setPc]
@[simp] theorem setPc_sess (s : State) (c : Nat) (v : W64) : (s.setPc c v).sess = s.sess := by simp [State.setPc]
@[simp] theorem setPc_accts (s : State) (c : Nat) (v : W64) : (s.setPc c v).accts = s.accts := by simp [State.setPc]
@[simp] theorem setPc_moves (s : State) (c : Nat) (v : W64) : (s.setPc c v).moves = s.moves := by simp [State.setPc]
@[simp] theorem setPc_wrt (s : State) (c : Nat) (v : W64) : (s.setPc c v).wrt = s.wrt := by simp [State.setPc]
@[simp] theorem setPc_mem (s : State) (c : Nat) (v : W64) : (s.setPc c v).mem = s.mem := by simp [State.setPc]
@[simp] theorem setPc_ms (s : State) (c : Nat) (v : W64) : (s.setPc c v).ms = s.ms := by simp [State.setPc]
@[simp] theorem setPc_train (s : State) (c : Nat) (v : W64) : (s.setPc c v).train = s.train := by simp [State.setPc]
@[simp] theorem setPc_fab (s : State) (c : Nat) (v : W64) : (s.setPc c v).fab = s.fab := by simp [State.setPc]
@[simp] theorem setPc_exq (s : State) (c : Nat) (v : W64) : (s.setPc c v).exq = s.exq := by simp [State.setPc]
@[simp] theorem setPc_asz (s : State) (c : Nat) (v : W64) : (s.setPc c v).asz = s.asz := by simp [State.setPc]
@[simp] theorem setPc_edge (s : State) (c : Nat) (v : W64) : (s.setPc c v).edge = s.edge := by simp [State.setPc]
@[simp] theorem setPc_free (s : State) (c : Nat) (v : W64) : (s.setPc c v).free = s.free := by simp [State.setPc]

/-! ### `setSeqState` -/

@[simp] theorem setSeqState_pending (s : State) (c v : Nat) : (s.setSeqState c v).pending = s.pending := by simp [State.setSeqState]
@[simp] theorem setSeqState_bus (s : State) (c v : Nat) : (s.setSeqState c v).bus = s.bus := by simp [State.setSeqState]
@[simp] theorem setSeqState_clk (s : State) (c v : Nat) : (s.setSeqState c v).clk = s.clk := by simp [State.setSeqState]
@[simp] theorem setSeqState_pow (s : State) (c v : Nat) : (s.setSeqState c v).pow = s.pow := by simp [State.setSeqState]
@[simp] theorem setSeqState_boot (s : State) (c v : Nat) : (s.setSeqState c v).boot = s.boot := by simp [State.setSeqState]
@[simp] theorem setSeqState_nor (s : State) (c v : Nat) : (s.setSeqState c v).nor = s.nor := by simp [State.setSeqState]
@[simp] theorem setSeqState_dbk (s : State) (c v : Nat) : (s.setSeqState c v).dbk = s.dbk := by simp [State.setSeqState]
@[simp] theorem setSeqState_trust (s : State) (c v : Nat) : (s.setSeqState c v).trust = s.trust := by simp [State.setSeqState]
@[simp] theorem setSeqState_procs (s : State) (c v : Nat) : (s.setSeqState c v).procs = s.procs := by simp [State.setSeqState]
@[simp] theorem setSeqState_sess (s : State) (c v : Nat) : (s.setSeqState c v).sess = s.sess := by simp [State.setSeqState]
@[simp] theorem setSeqState_accts (s : State) (c v : Nat) : (s.setSeqState c v).accts = s.accts := by simp [State.setSeqState]
@[simp] theorem setSeqState_moves (s : State) (c v : Nat) : (s.setSeqState c v).moves = s.moves := by simp [State.setSeqState]
@[simp] theorem setSeqState_wrt (s : State) (c v : Nat) : (s.setSeqState c v).wrt = s.wrt := by simp [State.setSeqState]
@[simp] theorem setSeqState_cpu (s : State) (c v : Nat) : (s.setSeqState c v).cpu = s.cpu := by simp [State.setSeqState]
@[simp] theorem setSeqState_mem (s : State) (c v : Nat) : (s.setSeqState c v).mem = s.mem := by simp [State.setSeqState]
@[simp] theorem setSeqState_ms (s : State) (c v : Nat) : (s.setSeqState c v).ms = s.ms := by simp [State.setSeqState]
@[simp] theorem setSeqState_train (s : State) (c v : Nat) : (s.setSeqState c v).train = s.train := by simp [State.setSeqState]
@[simp] theorem setSeqState_fab (s : State) (c v : Nat) : (s.setSeqState c v).fab = s.fab := by simp [State.setSeqState]
@[simp] theorem setSeqState_exq (s : State) (c v : Nat) : (s.setSeqState c v).exq = s.exq := by simp [State.setSeqState]
@[simp] theorem setSeqState_asz (s : State) (c v : Nat) : (s.setSeqState c v).asz = s.asz := by simp [State.setSeqState]
@[simp] theorem setSeqState_edge (s : State) (c v : Nat) : (s.setSeqState c v).edge = s.edge := by simp [State.setSeqState]
@[simp] theorem setSeqState_free (s : State) (c v : Nat) : (s.setSeqState c v).free = s.free := by simp [State.setSeqState]

/-! ### `addStat` -/

@[simp] theorem addStat_pending (s : State) (c src v : Nat) : (s.addStat c src v).pending = s.pending := by simp [State.addStat]
@[simp] theorem addStat_regs (s : State) (c src v : Nat) : (s.addStat c src v).regs = s.regs := by simp [State.addStat]
@[simp] theorem addStat_bus (s : State) (c src v : Nat) : (s.addStat c src v).bus = s.bus := by simp [State.addStat]
@[simp] theorem addStat_clk (s : State) (c src v : Nat) : (s.addStat c src v).clk = s.clk := by simp [State.addStat]
@[simp] theorem addStat_pow (s : State) (c src v : Nat) : (s.addStat c src v).pow = s.pow := by simp [State.addStat]
@[simp] theorem addStat_boot (s : State) (c src v : Nat) : (s.addStat c src v).boot = s.boot := by simp [State.addStat]
@[simp] theorem addStat_nor (s : State) (c src v : Nat) : (s.addStat c src v).nor = s.nor := by simp [State.addStat]
@[simp] theorem addStat_dbk (s : State) (c src v : Nat) : (s.addStat c src v).dbk = s.dbk := by simp [State.addStat]
@[simp] theorem addStat_trust (s : State) (c src v : Nat) : (s.addStat c src v).trust = s.trust := by simp [State.addStat]
@[simp] theorem addStat_procs (s : State) (c src v : Nat) : (s.addStat c src v).procs = s.procs := by simp [State.addStat]
@[simp] theorem addStat_sess (s : State) (c src v : Nat) : (s.addStat c src v).sess = s.sess := by simp [State.addStat]
@[simp] theorem addStat_accts (s : State) (c src v : Nat) : (s.addStat c src v).accts = s.accts := by simp [State.addStat]
@[simp] theorem addStat_moves (s : State) (c src v : Nat) : (s.addStat c src v).moves = s.moves := by simp [State.addStat]
@[simp] theorem addStat_wrt (s : State) (c src v : Nat) : (s.addStat c src v).wrt = s.wrt := by simp [State.addStat]
@[simp] theorem addStat_mem (s : State) (c src v : Nat) : (s.addStat c src v).mem = s.mem := by simp [State.addStat]
@[simp] theorem addStat_ms (s : State) (c src v : Nat) : (s.addStat c src v).ms = s.ms := by simp [State.addStat]
@[simp] theorem addStat_train (s : State) (c src v : Nat) : (s.addStat c src v).train = s.train := by simp [State.addStat]
@[simp] theorem addStat_fab (s : State) (c src v : Nat) : (s.addStat c src v).fab = s.fab := by simp [State.addStat]
@[simp] theorem addStat_exq (s : State) (c src v : Nat) : (s.addStat c src v).exq = s.exq := by simp [State.addStat]
@[simp] theorem addStat_asz (s : State) (c src v : Nat) : (s.addStat c src v).asz = s.asz := by simp [State.addStat]
@[simp] theorem addStat_edge (s : State) (c src v : Nat) : (s.addStat c src v).edge = s.edge := by simp [State.addStat]
@[simp] theorem addStat_free (s : State) (c src v : Nat) : (s.addStat c src v).free = s.free := by simp [State.addStat]

/-! ### `finish` -/

@[simp] theorem finish_pending (s : State) (c src i : Nat) (r : Result) : (s.finish c src i r).pending = s.pending := by unfold State.finish; split <;> rfl
@[simp] theorem finish_regs (s : State) (c src i : Nat) (r : Result) : (s.finish c src i r).regs = s.regs := by unfold State.finish; split <;> rfl
@[simp] theorem finish_bus (s : State) (c src i : Nat) (r : Result) : (s.finish c src i r).bus = s.bus := by unfold State.finish; split <;> rfl
@[simp] theorem finish_clk (s : State) (c src i : Nat) (r : Result) : (s.finish c src i r).clk = s.clk := by unfold State.finish; split <;> rfl
@[simp] theorem finish_pow (s : State) (c src i : Nat) (r : Result) : (s.finish c src i r).pow = s.pow := by unfold State.finish; split <;> rfl
@[simp] theorem finish_boot (s : State) (c src i : Nat) (r : Result) : (s.finish c src i r).boot = s.boot := by unfold State.finish; split <;> rfl
@[simp] theorem finish_nor (s : State) (c src i : Nat) (r : Result) : (s.finish c src i r).nor = s.nor := by unfold State.finish; split <;> rfl
@[simp] theorem finish_dbk (s : State) (c src i : Nat) (r : Result) : (s.finish c src i r).dbk = s.dbk := by unfold State.finish; split <;> rfl
@[simp] theorem finish_trust (s : State) (c src i : Nat) (r : Result) : (s.finish c src i r).trust = s.trust := by unfold State.finish; split <;> rfl
@[simp] theorem finish_procs (s : State) (c src i : Nat) (r : Result) : (s.finish c src i r).procs = s.procs := by unfold State.finish; split <;> rfl
@[simp] theorem finish_sess (s : State) (c src i : Nat) (r : Result) : (s.finish c src i r).sess = s.sess := by unfold State.finish; split <;> rfl
@[simp] theorem finish_accts (s : State) (c src i : Nat) (r : Result) : (s.finish c src i r).accts = s.accts := by unfold State.finish; split <;> rfl
@[simp] theorem finish_moves (s : State) (c src i : Nat) (r : Result) : (s.finish c src i r).moves = s.moves := by unfold State.finish; split <;> rfl
@[simp] theorem finish_wrt (s : State) (c src i : Nat) (r : Result) : (s.finish c src i r).wrt = s.wrt := by unfold State.finish; split <;> rfl
@[simp] theorem finish_mem (s : State) (c src i : Nat) (r : Result) : (s.finish c src i r).mem = s.mem := by unfold State.finish; split <;> rfl
@[simp] theorem finish_ms (s : State) (c src i : Nat) (r : Result) : (s.finish c src i r).ms = s.ms := by unfold State.finish; split <;> rfl
@[simp] theorem finish_train (s : State) (c src i : Nat) (r : Result) : (s.finish c src i r).train = s.train := by unfold State.finish; split <;> rfl
@[simp] theorem finish_fab (s : State) (c src i : Nat) (r : Result) : (s.finish c src i r).fab = s.fab := by unfold State.finish; split <;> rfl
@[simp] theorem finish_exq (s : State) (c src i : Nat) (r : Result) : (s.finish c src i r).exq = s.exq := by unfold State.finish; split <;> rfl
@[simp] theorem finish_asz (s : State) (c src i : Nat) (r : Result) : (s.finish c src i r).asz = s.asz := by unfold State.finish; split <;> rfl
@[simp] theorem finish_edge (s : State) (c src i : Nat) (r : Result) : (s.finish c src i r).edge = s.edge := by unfold State.finish; split <;> rfl
@[simp] theorem finish_free (s : State) (c src i : Nat) (r : Result) : (s.finish c src i r).free = s.free := by unfold State.finish; split <;> rfl

/-! ### `seqLast` -/

@[simp] theorem seqLast_pending (s : State) (c k : Nat) : (s.seqLast c k).pending = s.pending := by simp [State.seqLast]
@[simp] theorem seqLast_bus (s : State) (c k : Nat) : (s.seqLast c k).bus = s.bus := by simp [State.seqLast]
@[simp] theorem seqLast_clk (s : State) (c k : Nat) : (s.seqLast c k).clk = s.clk := by simp [State.seqLast]
@[simp] theorem seqLast_pow (s : State) (c k : Nat) : (s.seqLast c k).pow = s.pow := by simp [State.seqLast]
@[simp] theorem seqLast_boot (s : State) (c k : Nat) : (s.seqLast c k).boot = s.boot := by simp [State.seqLast]
@[simp] theorem seqLast_nor (s : State) (c k : Nat) : (s.seqLast c k).nor = s.nor := by simp [State.seqLast]
@[simp] theorem seqLast_dbk (s : State) (c k : Nat) : (s.seqLast c k).dbk = s.dbk := by simp [State.seqLast]
@[simp] theorem seqLast_trust (s : State) (c k : Nat) : (s.seqLast c k).trust = s.trust := by simp [State.seqLast]
@[simp] theorem seqLast_procs (s : State) (c k : Nat) : (s.seqLast c k).procs = s.procs := by simp [State.seqLast]
@[simp] theorem seqLast_sess (s : State) (c k : Nat) : (s.seqLast c k).sess = s.sess := by simp [State.seqLast]
@[simp] theorem seqLast_accts (s : State) (c k : Nat) : (s.seqLast c k).accts = s.accts := by simp [State.seqLast]
@[simp] theorem seqLast_moves (s : State) (c k : Nat) : (s.seqLast c k).moves = s.moves := by simp [State.seqLast]
@[simp] theorem seqLast_wrt (s : State) (c k : Nat) : (s.seqLast c k).wrt = s.wrt := by simp [State.seqLast]
@[simp] theorem seqLast_cpu (s : State) (c k : Nat) : (s.seqLast c k).cpu = s.cpu := by simp [State.seqLast]
@[simp] theorem seqLast_mem (s : State) (c k : Nat) : (s.seqLast c k).mem = s.mem := by simp [State.seqLast]
@[simp] theorem seqLast_ms (s : State) (c k : Nat) : (s.seqLast c k).ms = s.ms := by simp [State.seqLast]
@[simp] theorem seqLast_train (s : State) (c k : Nat) : (s.seqLast c k).train = s.train := by simp [State.seqLast]
@[simp] theorem seqLast_fab (s : State) (c k : Nat) : (s.seqLast c k).fab = s.fab := by simp [State.seqLast]
@[simp] theorem seqLast_exq (s : State) (c k : Nat) : (s.seqLast c k).exq = s.exq := by simp [State.seqLast]
@[simp] theorem seqLast_asz (s : State) (c k : Nat) : (s.seqLast c k).asz = s.asz := by simp [State.seqLast]
@[simp] theorem seqLast_edge (s : State) (c k : Nat) : (s.seqLast c k).edge = s.edge := by simp [State.seqLast]
@[simp] theorem seqLast_free (s : State) (c k : Nat) : (s.seqLast c k).free = s.free := by simp [State.seqLast]

/-! ### `seqErr` -/

@[simp] theorem seqErr_pending (s : State) (c k : Nat) : (s.seqErr c k).pending = s.pending := by simp [State.seqErr]
@[simp] theorem seqErr_bus (s : State) (c k : Nat) : (s.seqErr c k).bus = s.bus := by simp [State.seqErr]
@[simp] theorem seqErr_clk (s : State) (c k : Nat) : (s.seqErr c k).clk = s.clk := by simp [State.seqErr]
@[simp] theorem seqErr_pow (s : State) (c k : Nat) : (s.seqErr c k).pow = s.pow := by simp [State.seqErr]
@[simp] theorem seqErr_boot (s : State) (c k : Nat) : (s.seqErr c k).boot = s.boot := by simp [State.seqErr]
@[simp] theorem seqErr_nor (s : State) (c k : Nat) : (s.seqErr c k).nor = s.nor := by simp [State.seqErr]
@[simp] theorem seqErr_dbk (s : State) (c k : Nat) : (s.seqErr c k).dbk = s.dbk := by simp [State.seqErr]
@[simp] theorem seqErr_trust (s : State) (c k : Nat) : (s.seqErr c k).trust = s.trust := by simp [State.seqErr]
@[simp] theorem seqErr_procs (s : State) (c k : Nat) : (s.seqErr c k).procs = s.procs := by simp [State.seqErr]
@[simp] theorem seqErr_sess (s : State) (c k : Nat) : (s.seqErr c k).sess = s.sess := by simp [State.seqErr]
@[simp] theorem seqErr_accts (s : State) (c k : Nat) : (s.seqErr c k).accts = s.accts := by simp [State.seqErr]
@[simp] theorem seqErr_moves (s : State) (c k : Nat) : (s.seqErr c k).moves = s.moves := by simp [State.seqErr]
@[simp] theorem seqErr_wrt (s : State) (c k : Nat) : (s.seqErr c k).wrt = s.wrt := by simp [State.seqErr]
@[simp] theorem seqErr_cpu (s : State) (c k : Nat) : (s.seqErr c k).cpu = s.cpu := by simp [State.seqErr]
@[simp] theorem seqErr_mem (s : State) (c k : Nat) : (s.seqErr c k).mem = s.mem := by simp [State.seqErr]
@[simp] theorem seqErr_ms (s : State) (c k : Nat) : (s.seqErr c k).ms = s.ms := by simp [State.seqErr]
@[simp] theorem seqErr_train (s : State) (c k : Nat) : (s.seqErr c k).train = s.train := by simp [State.seqErr]
@[simp] theorem seqErr_fab (s : State) (c k : Nat) : (s.seqErr c k).fab = s.fab := by simp [State.seqErr]
@[simp] theorem seqErr_exq (s : State) (c k : Nat) : (s.seqErr c k).exq = s.exq := by simp [State.seqErr]
@[simp] theorem seqErr_asz (s : State) (c k : Nat) : (s.seqErr c k).asz = s.asz := by simp [State.seqErr]
@[simp] theorem seqErr_edge (s : State) (c k : Nat) : (s.seqErr c k).edge = s.edge := by simp [State.seqErr]
@[simp] theorem seqErr_free (s : State) (c k : Nat) : (s.seqErr c k).free = s.free := by simp [State.seqErr]

/-! ### `engErr` -/

@[simp] theorem engErr_pending (s : State) (c e k : Nat) : (s.engErr c e k).pending = s.pending := by simp [State.engErr]
@[simp] theorem engErr_bus (s : State) (c e k : Nat) : (s.engErr c e k).bus = s.bus := by simp [State.engErr]
@[simp] theorem engErr_clk (s : State) (c e k : Nat) : (s.engErr c e k).clk = s.clk := by simp [State.engErr]
@[simp] theorem engErr_pow (s : State) (c e k : Nat) : (s.engErr c e k).pow = s.pow := by simp [State.engErr]
@[simp] theorem engErr_boot (s : State) (c e k : Nat) : (s.engErr c e k).boot = s.boot := by simp [State.engErr]
@[simp] theorem engErr_nor (s : State) (c e k : Nat) : (s.engErr c e k).nor = s.nor := by simp [State.engErr]
@[simp] theorem engErr_dbk (s : State) (c e k : Nat) : (s.engErr c e k).dbk = s.dbk := by simp [State.engErr]
@[simp] theorem engErr_trust (s : State) (c e k : Nat) : (s.engErr c e k).trust = s.trust := by simp [State.engErr]
@[simp] theorem engErr_procs (s : State) (c e k : Nat) : (s.engErr c e k).procs = s.procs := by simp [State.engErr]
@[simp] theorem engErr_sess (s : State) (c e k : Nat) : (s.engErr c e k).sess = s.sess := by simp [State.engErr]
@[simp] theorem engErr_accts (s : State) (c e k : Nat) : (s.engErr c e k).accts = s.accts := by simp [State.engErr]
@[simp] theorem engErr_moves (s : State) (c e k : Nat) : (s.engErr c e k).moves = s.moves := by simp [State.engErr]
@[simp] theorem engErr_wrt (s : State) (c e k : Nat) : (s.engErr c e k).wrt = s.wrt := by simp [State.engErr]
@[simp] theorem engErr_cpu (s : State) (c e k : Nat) : (s.engErr c e k).cpu = s.cpu := by simp [State.engErr]
@[simp] theorem engErr_mem (s : State) (c e k : Nat) : (s.engErr c e k).mem = s.mem := by simp [State.engErr]
@[simp] theorem engErr_ms (s : State) (c e k : Nat) : (s.engErr c e k).ms = s.ms := by simp [State.engErr]
@[simp] theorem engErr_train (s : State) (c e k : Nat) : (s.engErr c e k).train = s.train := by simp [State.engErr]
@[simp] theorem engErr_fab (s : State) (c e k : Nat) : (s.engErr c e k).fab = s.fab := by simp [State.engErr]
@[simp] theorem engErr_exq (s : State) (c e k : Nat) : (s.engErr c e k).exq = s.exq := by simp [State.engErr]
@[simp] theorem engErr_asz (s : State) (c e k : Nat) : (s.engErr c e k).asz = s.asz := by simp [State.engErr]
@[simp] theorem engErr_edge (s : State) (c e k : Nat) : (s.engErr c e k).edge = s.edge := by simp [State.engErr]
@[simp] theorem engErr_free (s : State) (c e k : Nat) : (s.engErr c e k).free = s.free := by simp [State.engErr]

/-! ### `stopCore` -/

@[simp] theorem stopCore_pending (s : State) (c v : Nat) : (s.stopCore c v).pending = s.pending := by simp [State.stopCore]
@[simp] theorem stopCore_bus (s : State) (c v : Nat) : (s.stopCore c v).bus = s.bus := by simp [State.stopCore]
@[simp] theorem stopCore_clk (s : State) (c v : Nat) : (s.stopCore c v).clk = s.clk := by simp [State.stopCore]
@[simp] theorem stopCore_pow (s : State) (c v : Nat) : (s.stopCore c v).pow = s.pow := by simp [State.stopCore]
@[simp] theorem stopCore_boot (s : State) (c v : Nat) : (s.stopCore c v).boot = s.boot := by simp [State.stopCore]
@[simp] theorem stopCore_nor (s : State) (c v : Nat) : (s.stopCore c v).nor = s.nor := by simp [State.stopCore]
@[simp] theorem stopCore_dbk (s : State) (c v : Nat) : (s.stopCore c v).dbk = s.dbk := by simp [State.stopCore]
@[simp] theorem stopCore_trust (s : State) (c v : Nat) : (s.stopCore c v).trust = s.trust := by simp [State.stopCore]
@[simp] theorem stopCore_procs (s : State) (c v : Nat) : (s.stopCore c v).procs = s.procs := by simp [State.stopCore]
@[simp] theorem stopCore_sess (s : State) (c v : Nat) : (s.stopCore c v).sess = s.sess := by simp [State.stopCore]
@[simp] theorem stopCore_accts (s : State) (c v : Nat) : (s.stopCore c v).accts = s.accts := by simp [State.stopCore]
@[simp] theorem stopCore_moves (s : State) (c v : Nat) : (s.stopCore c v).moves = s.moves := by simp [State.stopCore]
@[simp] theorem stopCore_wrt (s : State) (c v : Nat) : (s.stopCore c v).wrt = s.wrt := by simp [State.stopCore]
@[simp] theorem stopCore_mem (s : State) (c v : Nat) : (s.stopCore c v).mem = s.mem := by simp [State.stopCore]
@[simp] theorem stopCore_ms (s : State) (c v : Nat) : (s.stopCore c v).ms = s.ms := by simp [State.stopCore]
@[simp] theorem stopCore_train (s : State) (c v : Nat) : (s.stopCore c v).train = s.train := by simp [State.stopCore]
@[simp] theorem stopCore_fab (s : State) (c v : Nat) : (s.stopCore c v).fab = s.fab := by simp [State.stopCore]
@[simp] theorem stopCore_exq (s : State) (c v : Nat) : (s.stopCore c v).exq = s.exq := by simp [State.stopCore]
@[simp] theorem stopCore_asz (s : State) (c v : Nat) : (s.stopCore c v).asz = s.asz := by simp [State.stopCore]
@[simp] theorem stopCore_edge (s : State) (c v : Nat) : (s.stopCore c v).edge = s.edge := by simp [State.stopCore]
@[simp] theorem stopCore_free (s : State) (c v : Nat) : (s.stopCore c v).free = s.free := by simp [State.stopCore]

/-! ### `programFault` -/

@[simp] theorem programFault_pending (s : State) (c k : Nat) : (s.programFault c k).pending = s.pending := by simp [State.programFault]
@[simp] theorem programFault_bus (s : State) (c k : Nat) : (s.programFault c k).bus = s.bus := by simp [State.programFault]
@[simp] theorem programFault_clk (s : State) (c k : Nat) : (s.programFault c k).clk = s.clk := by simp [State.programFault]
@[simp] theorem programFault_pow (s : State) (c k : Nat) : (s.programFault c k).pow = s.pow := by simp [State.programFault]
@[simp] theorem programFault_boot (s : State) (c k : Nat) : (s.programFault c k).boot = s.boot := by simp [State.programFault]
@[simp] theorem programFault_nor (s : State) (c k : Nat) : (s.programFault c k).nor = s.nor := by simp [State.programFault]
@[simp] theorem programFault_trust (s : State) (c k : Nat) : (s.programFault c k).trust = s.trust := by simp [State.programFault]
@[simp] theorem programFault_procs (s : State) (c k : Nat) : (s.programFault c k).procs = s.procs := by simp [State.programFault]
@[simp] theorem programFault_sess (s : State) (c k : Nat) : (s.programFault c k).sess = s.sess := by simp [State.programFault]
@[simp] theorem programFault_accts (s : State) (c k : Nat) : (s.programFault c k).accts = s.accts := by simp [State.programFault]
@[simp] theorem programFault_moves (s : State) (c k : Nat) : (s.programFault c k).moves = s.moves := by simp [State.programFault]
@[simp] theorem programFault_wrt (s : State) (c k : Nat) : (s.programFault c k).wrt = s.wrt := by simp [State.programFault]
@[simp] theorem programFault_mem (s : State) (c k : Nat) : (s.programFault c k).mem = s.mem := by simp [State.programFault]
@[simp] theorem programFault_ms (s : State) (c k : Nat) : (s.programFault c k).ms = s.ms := by simp [State.programFault]
@[simp] theorem programFault_train (s : State) (c k : Nat) : (s.programFault c k).train = s.train := by simp [State.programFault]
@[simp] theorem programFault_fab (s : State) (c k : Nat) : (s.programFault c k).fab = s.fab := by simp [State.programFault]
@[simp] theorem programFault_exq (s : State) (c k : Nat) : (s.programFault c k).exq = s.exq := by simp [State.programFault]
@[simp] theorem programFault_asz (s : State) (c k : Nat) : (s.programFault c k).asz = s.asz := by simp [State.programFault]
@[simp] theorem programFault_edge (s : State) (c k : Nat) : (s.programFault c k).edge = s.edge := by simp [State.programFault]
@[simp] theorem programFault_free (s : State) (c k : Nat) : (s.programFault c k).free = s.free := by simp [State.programFault]

/-! ### `retire` -/

@[simp] theorem retire_pending (s : State) (c : Nat) : (s.retire c).pending = s.pending := by simp [State.retire]
@[simp] theorem retire_bus (s : State) (c : Nat) : (s.retire c).bus = s.bus := by simp [State.retire]
@[simp] theorem retire_clk (s : State) (c : Nat) : (s.retire c).clk = s.clk := by simp [State.retire]
@[simp] theorem retire_pow (s : State) (c : Nat) : (s.retire c).pow = s.pow := by simp [State.retire]
@[simp] theorem retire_boot (s : State) (c : Nat) : (s.retire c).boot = s.boot := by simp [State.retire]
@[simp] theorem retire_nor (s : State) (c : Nat) : (s.retire c).nor = s.nor := by simp [State.retire]
@[simp] theorem retire_dbk (s : State) (c : Nat) : (s.retire c).dbk = s.dbk := by simp [State.retire]
@[simp] theorem retire_trust (s : State) (c : Nat) : (s.retire c).trust = s.trust := by simp [State.retire]
@[simp] theorem retire_procs (s : State) (c : Nat) : (s.retire c).procs = s.procs := by simp [State.retire]
@[simp] theorem retire_sess (s : State) (c : Nat) : (s.retire c).sess = s.sess := by simp [State.retire]
@[simp] theorem retire_accts (s : State) (c : Nat) : (s.retire c).accts = s.accts := by simp [State.retire]
@[simp] theorem retire_moves (s : State) (c : Nat) : (s.retire c).moves = s.moves := by simp [State.retire]
@[simp] theorem retire_wrt (s : State) (c : Nat) : (s.retire c).wrt = s.wrt := by simp [State.retire]
@[simp] theorem retire_mem (s : State) (c : Nat) : (s.retire c).mem = s.mem := by simp [State.retire]
@[simp] theorem retire_ms (s : State) (c : Nat) : (s.retire c).ms = s.ms := by simp [State.retire]
@[simp] theorem retire_train (s : State) (c : Nat) : (s.retire c).train = s.train := by simp [State.retire]
@[simp] theorem retire_fab (s : State) (c : Nat) : (s.retire c).fab = s.fab := by simp [State.retire]
@[simp] theorem retire_exq (s : State) (c : Nat) : (s.retire c).exq = s.exq := by simp [State.retire]
@[simp] theorem retire_asz (s : State) (c : Nat) : (s.retire c).asz = s.asz := by simp [State.retire]
@[simp] theorem retire_edge (s : State) (c : Nat) : (s.retire c).edge = s.edge := by simp [State.retire]
@[simp] theorem retire_free (s : State) (c : Nat) : (s.retire c).free = s.free := by simp [State.retire]

/-! ### `waitSeq` -/

@[simp] theorem waitSeq_pending (s : State) (c : Nat) (w : SeqWait) : (s.waitSeq c w).pending = s.pending := by simp [State.waitSeq]
@[simp] theorem waitSeq_bus (s : State) (c : Nat) (w : SeqWait) : (s.waitSeq c w).bus = s.bus := by simp [State.waitSeq]
@[simp] theorem waitSeq_clk (s : State) (c : Nat) (w : SeqWait) : (s.waitSeq c w).clk = s.clk := by simp [State.waitSeq]
@[simp] theorem waitSeq_pow (s : State) (c : Nat) (w : SeqWait) : (s.waitSeq c w).pow = s.pow := by simp [State.waitSeq]
@[simp] theorem waitSeq_boot (s : State) (c : Nat) (w : SeqWait) : (s.waitSeq c w).boot = s.boot := by simp [State.waitSeq]
@[simp] theorem waitSeq_nor (s : State) (c : Nat) (w : SeqWait) : (s.waitSeq c w).nor = s.nor := by simp [State.waitSeq]
@[simp] theorem waitSeq_dbk (s : State) (c : Nat) (w : SeqWait) : (s.waitSeq c w).dbk = s.dbk := by simp [State.waitSeq]
@[simp] theorem waitSeq_trust (s : State) (c : Nat) (w : SeqWait) : (s.waitSeq c w).trust = s.trust := by simp [State.waitSeq]
@[simp] theorem waitSeq_procs (s : State) (c : Nat) (w : SeqWait) : (s.waitSeq c w).procs = s.procs := by simp [State.waitSeq]
@[simp] theorem waitSeq_sess (s : State) (c : Nat) (w : SeqWait) : (s.waitSeq c w).sess = s.sess := by simp [State.waitSeq]
@[simp] theorem waitSeq_accts (s : State) (c : Nat) (w : SeqWait) : (s.waitSeq c w).accts = s.accts := by simp [State.waitSeq]
@[simp] theorem waitSeq_moves (s : State) (c : Nat) (w : SeqWait) : (s.waitSeq c w).moves = s.moves := by simp [State.waitSeq]
@[simp] theorem waitSeq_wrt (s : State) (c : Nat) (w : SeqWait) : (s.waitSeq c w).wrt = s.wrt := by simp [State.waitSeq]
@[simp] theorem waitSeq_mem (s : State) (c : Nat) (w : SeqWait) : (s.waitSeq c w).mem = s.mem := by simp [State.waitSeq]
@[simp] theorem waitSeq_ms (s : State) (c : Nat) (w : SeqWait) : (s.waitSeq c w).ms = s.ms := by simp [State.waitSeq]
@[simp] theorem waitSeq_train (s : State) (c : Nat) (w : SeqWait) : (s.waitSeq c w).train = s.train := by simp [State.waitSeq]
@[simp] theorem waitSeq_fab (s : State) (c : Nat) (w : SeqWait) : (s.waitSeq c w).fab = s.fab := by simp [State.waitSeq]
@[simp] theorem waitSeq_exq (s : State) (c : Nat) (w : SeqWait) : (s.waitSeq c w).exq = s.exq := by simp [State.waitSeq]
@[simp] theorem waitSeq_asz (s : State) (c : Nat) (w : SeqWait) : (s.waitSeq c w).asz = s.asz := by simp [State.waitSeq]
@[simp] theorem waitSeq_edge (s : State) (c : Nat) (w : SeqWait) : (s.waitSeq c w).edge = s.edge := by simp [State.waitSeq]
@[simp] theorem waitSeq_free (s : State) (c : Nat) (w : SeqWait) : (s.waitSeq c w).free = s.free := by simp [State.waitSeq]

/-! ### `scalarOp` -/

@[simp] theorem scalarOp_pending (s : State) (c : Nat) (r : BitVec 5) (v : W64) : (s.scalarOp c r v).pending = s.pending := by simp [State.scalarOp]
@[simp] theorem scalarOp_bus (s : State) (c : Nat) (r : BitVec 5) (v : W64) : (s.scalarOp c r v).bus = s.bus := by simp [State.scalarOp]
@[simp] theorem scalarOp_clk (s : State) (c : Nat) (r : BitVec 5) (v : W64) : (s.scalarOp c r v).clk = s.clk := by simp [State.scalarOp]
@[simp] theorem scalarOp_pow (s : State) (c : Nat) (r : BitVec 5) (v : W64) : (s.scalarOp c r v).pow = s.pow := by simp [State.scalarOp]
@[simp] theorem scalarOp_boot (s : State) (c : Nat) (r : BitVec 5) (v : W64) : (s.scalarOp c r v).boot = s.boot := by simp [State.scalarOp]
@[simp] theorem scalarOp_nor (s : State) (c : Nat) (r : BitVec 5) (v : W64) : (s.scalarOp c r v).nor = s.nor := by simp [State.scalarOp]
@[simp] theorem scalarOp_dbk (s : State) (c : Nat) (r : BitVec 5) (v : W64) : (s.scalarOp c r v).dbk = s.dbk := by simp [State.scalarOp]
@[simp] theorem scalarOp_trust (s : State) (c : Nat) (r : BitVec 5) (v : W64) : (s.scalarOp c r v).trust = s.trust := by simp [State.scalarOp]
@[simp] theorem scalarOp_procs (s : State) (c : Nat) (r : BitVec 5) (v : W64) : (s.scalarOp c r v).procs = s.procs := by simp [State.scalarOp]
@[simp] theorem scalarOp_sess (s : State) (c : Nat) (r : BitVec 5) (v : W64) : (s.scalarOp c r v).sess = s.sess := by simp [State.scalarOp]
@[simp] theorem scalarOp_accts (s : State) (c : Nat) (r : BitVec 5) (v : W64) : (s.scalarOp c r v).accts = s.accts := by simp [State.scalarOp]
@[simp] theorem scalarOp_moves (s : State) (c : Nat) (r : BitVec 5) (v : W64) : (s.scalarOp c r v).moves = s.moves := by simp [State.scalarOp]
@[simp] theorem scalarOp_wrt (s : State) (c : Nat) (r : BitVec 5) (v : W64) : (s.scalarOp c r v).wrt = s.wrt := by simp [State.scalarOp]
@[simp] theorem scalarOp_mem (s : State) (c : Nat) (r : BitVec 5) (v : W64) : (s.scalarOp c r v).mem = s.mem := by simp [State.scalarOp]
@[simp] theorem scalarOp_ms (s : State) (c : Nat) (r : BitVec 5) (v : W64) : (s.scalarOp c r v).ms = s.ms := by simp [State.scalarOp]
@[simp] theorem scalarOp_train (s : State) (c : Nat) (r : BitVec 5) (v : W64) : (s.scalarOp c r v).train = s.train := by simp [State.scalarOp]
@[simp] theorem scalarOp_fab (s : State) (c : Nat) (r : BitVec 5) (v : W64) : (s.scalarOp c r v).fab = s.fab := by simp [State.scalarOp]
@[simp] theorem scalarOp_exq (s : State) (c : Nat) (r : BitVec 5) (v : W64) : (s.scalarOp c r v).exq = s.exq := by simp [State.scalarOp]
@[simp] theorem scalarOp_asz (s : State) (c : Nat) (r : BitVec 5) (v : W64) : (s.scalarOp c r v).asz = s.asz := by simp [State.scalarOp]
@[simp] theorem scalarOp_edge (s : State) (c : Nat) (r : BitVec 5) (v : W64) : (s.scalarOp c r v).edge = s.edge := by simp [State.scalarOp]
@[simp] theorem scalarOp_free (s : State) (c : Nat) (r : BitVec 5) (v : W64) : (s.scalarOp c r v).free = s.free := by simp [State.scalarOp]

end Sys2Proof.Machine
end

