-- ==== Sys2Proof/Laws/Frames.lean ====
section
/-! SUPPORT. When two states differ in some fields only: one lemma for each group of fields, its hypotheses tried by `simp`. -/

namespace Sys2Proof.Machine

variable {s t : State}

theorem frame_regs
    (h_pending : t.pending = s.pending := by simp) (h_bus : t.bus = s.bus := by simp)
    (h_clk : t.clk = s.clk := by simp) (h_pow : t.pow = s.pow := by simp) (h_boot : t.boot = s.boot := by simp)
    (h_nor : t.nor = s.nor := by simp) (h_dbk : t.dbk = s.dbk := by simp) (h_trust : t.trust = s.trust := by simp)
    (h_procs : t.procs = s.procs := by simp) (h_sess : t.sess = s.sess := by simp)
    (h_accts : t.accts = s.accts := by simp) (h_moves : t.moves = s.moves := by simp)
    (h_wrt : t.wrt = s.wrt := by simp) (h_cpu : t.cpu = s.cpu := by simp) (h_mem : t.mem = s.mem := by simp)
    (h_ms : t.ms = s.ms := by simp) (h_train : t.train = s.train := by simp) (h_fab : t.fab = s.fab := by simp)
    (h_exq : t.exq = s.exq := by simp) (h_asz : t.asz = s.asz := by simp) (h_edge : t.edge = s.edge := by simp)
    (h_free : t.free = s.free := by simp) :
    t = { s with regs := t.regs } :=
  State.ext h_pending rfl h_bus h_clk h_pow h_boot h_nor h_dbk h_trust h_procs h_sess h_accts h_moves h_wrt h_cpu h_mem h_ms h_train h_fab h_exq h_asz h_edge h_free

theorem frame_regs_dbk
    (h_pending : t.pending = s.pending := by simp) (h_bus : t.bus = s.bus := by simp)
    (h_clk : t.clk = s.clk := by simp) (h_pow : t.pow = s.pow := by simp) (h_boot : t.boot = s.boot := by simp)
    (h_nor : t.nor = s.nor := by simp) (h_trust : t.trust = s.trust := by simp)
    (h_procs : t.procs = s.procs := by simp) (h_sess : t.sess = s.sess := by simp)
    (h_accts : t.accts = s.accts := by simp) (h_moves : t.moves = s.moves := by simp)
    (h_wrt : t.wrt = s.wrt := by simp) (h_cpu : t.cpu = s.cpu := by simp) (h_mem : t.mem = s.mem := by simp)
    (h_ms : t.ms = s.ms := by simp) (h_train : t.train = s.train := by simp) (h_fab : t.fab = s.fab := by simp)
    (h_exq : t.exq = s.exq := by simp) (h_asz : t.asz = s.asz := by simp) (h_edge : t.edge = s.edge := by simp)
    (h_free : t.free = s.free := by simp) :
    t = { s with regs := t.regs, dbk := t.dbk } :=
  State.ext h_pending rfl h_bus h_clk h_pow h_boot h_nor rfl h_trust h_procs h_sess h_accts h_moves h_wrt h_cpu h_mem h_ms h_train h_fab h_exq h_asz h_edge h_free

theorem frame_regs_cpu
    (h_pending : t.pending = s.pending := by simp) (h_bus : t.bus = s.bus := by simp)
    (h_clk : t.clk = s.clk := by simp) (h_pow : t.pow = s.pow := by simp) (h_boot : t.boot = s.boot := by simp)
    (h_nor : t.nor = s.nor := by simp) (h_dbk : t.dbk = s.dbk := by simp) (h_trust : t.trust = s.trust := by simp)
    (h_procs : t.procs = s.procs := by simp) (h_sess : t.sess = s.sess := by simp)
    (h_accts : t.accts = s.accts := by simp) (h_moves : t.moves = s.moves := by simp)
    (h_wrt : t.wrt = s.wrt := by simp) (h_mem : t.mem = s.mem := by simp) (h_ms : t.ms = s.ms := by simp)
    (h_train : t.train = s.train := by simp) (h_fab : t.fab = s.fab := by simp) (h_exq : t.exq = s.exq := by simp)
    (h_asz : t.asz = s.asz := by simp) (h_edge : t.edge = s.edge := by simp) (h_free : t.free = s.free := by simp) :
    t = { s with regs := t.regs, cpu := t.cpu } :=
  State.ext h_pending rfl h_bus h_clk h_pow h_boot h_nor h_dbk h_trust h_procs h_sess h_accts h_moves h_wrt rfl h_mem h_ms h_train h_fab h_exq h_asz h_edge h_free

theorem frame_regs_dbk_cpu
    (h_pending : t.pending = s.pending := by simp) (h_bus : t.bus = s.bus := by simp)
    (h_clk : t.clk = s.clk := by simp) (h_pow : t.pow = s.pow := by simp) (h_boot : t.boot = s.boot := by simp)
    (h_nor : t.nor = s.nor := by simp) (h_trust : t.trust = s.trust := by simp)
    (h_procs : t.procs = s.procs := by simp) (h_sess : t.sess = s.sess := by simp)
    (h_accts : t.accts = s.accts := by simp) (h_moves : t.moves = s.moves := by simp)
    (h_wrt : t.wrt = s.wrt := by simp) (h_mem : t.mem = s.mem := by simp) (h_ms : t.ms = s.ms := by simp)
    (h_train : t.train = s.train := by simp) (h_fab : t.fab = s.fab := by simp) (h_exq : t.exq = s.exq := by simp)
    (h_asz : t.asz = s.asz := by simp) (h_edge : t.edge = s.edge := by simp) (h_free : t.free = s.free := by simp) :
    t = { s with regs := t.regs, dbk := t.dbk, cpu := t.cpu } :=
  State.ext h_pending rfl h_bus h_clk h_pow h_boot h_nor rfl h_trust h_procs h_sess h_accts h_moves h_wrt rfl h_mem h_ms h_train h_fab h_exq h_asz h_edge h_free

theorem frame_regs_cpu_mem
    (h_pending : t.pending = s.pending := by simp) (h_bus : t.bus = s.bus := by simp)
    (h_clk : t.clk = s.clk := by simp) (h_pow : t.pow = s.pow := by simp) (h_boot : t.boot = s.boot := by simp)
    (h_nor : t.nor = s.nor := by simp) (h_dbk : t.dbk = s.dbk := by simp) (h_trust : t.trust = s.trust := by simp)
    (h_procs : t.procs = s.procs := by simp) (h_sess : t.sess = s.sess := by simp)
    (h_accts : t.accts = s.accts := by simp) (h_moves : t.moves = s.moves := by simp)
    (h_wrt : t.wrt = s.wrt := by simp) (h_ms : t.ms = s.ms := by simp) (h_train : t.train = s.train := by simp)
    (h_fab : t.fab = s.fab := by simp) (h_exq : t.exq = s.exq := by simp) (h_asz : t.asz = s.asz := by simp)
    (h_edge : t.edge = s.edge := by simp) (h_free : t.free = s.free := by simp) :
    t = { s with regs := t.regs, cpu := t.cpu, mem := t.mem } :=
  State.ext h_pending rfl h_bus h_clk h_pow h_boot h_nor h_dbk h_trust h_procs h_sess h_accts h_moves h_wrt rfl rfl h_ms h_train h_fab h_exq h_asz h_edge h_free

theorem frame_regs_dbk_cpu_mem
    (h_pending : t.pending = s.pending := by simp) (h_bus : t.bus = s.bus := by simp)
    (h_clk : t.clk = s.clk := by simp) (h_pow : t.pow = s.pow := by simp) (h_boot : t.boot = s.boot := by simp)
    (h_nor : t.nor = s.nor := by simp) (h_trust : t.trust = s.trust := by simp)
    (h_procs : t.procs = s.procs := by simp) (h_sess : t.sess = s.sess := by simp)
    (h_accts : t.accts = s.accts := by simp) (h_moves : t.moves = s.moves := by simp)
    (h_wrt : t.wrt = s.wrt := by simp) (h_ms : t.ms = s.ms := by simp) (h_train : t.train = s.train := by simp)
    (h_fab : t.fab = s.fab := by simp) (h_exq : t.exq = s.exq := by simp) (h_asz : t.asz = s.asz := by simp)
    (h_edge : t.edge = s.edge := by simp) (h_free : t.free = s.free := by simp) :
    t = { s with regs := t.regs, dbk := t.dbk, cpu := t.cpu, mem := t.mem } :=
  State.ext h_pending rfl h_bus h_clk h_pow h_boot h_nor rfl h_trust h_procs h_sess h_accts h_moves h_wrt rfl rfl h_ms h_train h_fab h_exq h_asz h_edge h_free

theorem frame_clk_wrt
    (h_pending : t.pending = s.pending := by simp) (h_regs : t.regs = s.regs := by simp)
    (h_bus : t.bus = s.bus := by simp) (h_pow : t.pow = s.pow := by simp) (h_boot : t.boot = s.boot := by simp)
    (h_nor : t.nor = s.nor := by simp) (h_dbk : t.dbk = s.dbk := by simp) (h_trust : t.trust = s.trust := by simp)
    (h_procs : t.procs = s.procs := by simp) (h_sess : t.sess = s.sess := by simp)
    (h_accts : t.accts = s.accts := by simp) (h_moves : t.moves = s.moves := by simp)
    (h_cpu : t.cpu = s.cpu := by simp) (h_mem : t.mem = s.mem := by simp) (h_ms : t.ms = s.ms := by simp)
    (h_train : t.train = s.train := by simp) (h_fab : t.fab = s.fab := by simp) (h_exq : t.exq = s.exq := by simp)
    (h_asz : t.asz = s.asz := by simp) (h_edge : t.edge = s.edge := by simp) (h_free : t.free = s.free := by simp) :
    t = { s with clk := t.clk, wrt := t.wrt } :=
  State.ext h_pending h_regs h_bus rfl h_pow h_boot h_nor h_dbk h_trust h_procs h_sess h_accts h_moves rfl h_cpu h_mem h_ms h_train h_fab h_exq h_asz h_edge h_free

theorem frame_wrt
    (h_pending : t.pending = s.pending := by simp) (h_regs : t.regs = s.regs := by simp)
    (h_bus : t.bus = s.bus := by simp) (h_clk : t.clk = s.clk := by simp) (h_pow : t.pow = s.pow := by simp)
    (h_boot : t.boot = s.boot := by simp) (h_nor : t.nor = s.nor := by simp) (h_dbk : t.dbk = s.dbk := by simp)
    (h_trust : t.trust = s.trust := by simp) (h_procs : t.procs = s.procs := by simp)
    (h_sess : t.sess = s.sess := by simp) (h_accts : t.accts = s.accts := by simp)
    (h_moves : t.moves = s.moves := by simp) (h_cpu : t.cpu = s.cpu := by simp) (h_mem : t.mem = s.mem := by simp)
    (h_ms : t.ms = s.ms := by simp) (h_train : t.train = s.train := by simp) (h_fab : t.fab = s.fab := by simp)
    (h_exq : t.exq = s.exq := by simp) (h_asz : t.asz = s.asz := by simp) (h_edge : t.edge = s.edge := by simp)
    (h_free : t.free = s.free := by simp) :
    t = { s with wrt := t.wrt } :=
  State.ext h_pending h_regs h_bus h_clk h_pow h_boot h_nor h_dbk h_trust h_procs h_sess h_accts h_moves rfl h_cpu h_mem h_ms h_train h_fab h_exq h_asz h_edge h_free

theorem frame_regs_wrt
    (h_pending : t.pending = s.pending := by simp) (h_bus : t.bus = s.bus := by simp)
    (h_clk : t.clk = s.clk := by simp) (h_pow : t.pow = s.pow := by simp) (h_boot : t.boot = s.boot := by simp)
    (h_nor : t.nor = s.nor := by simp) (h_dbk : t.dbk = s.dbk := by simp) (h_trust : t.trust = s.trust := by simp)
    (h_procs : t.procs = s.procs := by simp) (h_sess : t.sess = s.sess := by simp)
    (h_accts : t.accts = s.accts := by simp) (h_moves : t.moves = s.moves := by simp)
    (h_cpu : t.cpu = s.cpu := by simp) (h_mem : t.mem = s.mem := by simp) (h_ms : t.ms = s.ms := by simp)
    (h_train : t.train = s.train := by simp) (h_fab : t.fab = s.fab := by simp) (h_exq : t.exq = s.exq := by simp)
    (h_asz : t.asz = s.asz := by simp) (h_edge : t.edge = s.edge := by simp) (h_free : t.free = s.free := by simp) :
    t = { s with regs := t.regs, wrt := t.wrt } :=
  State.ext h_pending rfl h_bus h_clk h_pow h_boot h_nor h_dbk h_trust h_procs h_sess h_accts h_moves rfl h_cpu h_mem h_ms h_train h_fab h_exq h_asz h_edge h_free

theorem frame_regs_dbk_wrt
    (h_pending : t.pending = s.pending := by simp) (h_bus : t.bus = s.bus := by simp)
    (h_clk : t.clk = s.clk := by simp) (h_pow : t.pow = s.pow := by simp) (h_boot : t.boot = s.boot := by simp)
    (h_nor : t.nor = s.nor := by simp) (h_trust : t.trust = s.trust := by simp)
    (h_procs : t.procs = s.procs := by simp) (h_sess : t.sess = s.sess := by simp)
    (h_accts : t.accts = s.accts := by simp) (h_moves : t.moves = s.moves := by simp)
    (h_cpu : t.cpu = s.cpu := by simp) (h_mem : t.mem = s.mem := by simp) (h_ms : t.ms = s.ms := by simp)
    (h_train : t.train = s.train := by simp) (h_fab : t.fab = s.fab := by simp) (h_exq : t.exq = s.exq := by simp)
    (h_asz : t.asz = s.asz := by simp) (h_edge : t.edge = s.edge := by simp) (h_free : t.free = s.free := by simp) :
    t = { s with regs := t.regs, dbk := t.dbk, wrt := t.wrt } :=
  State.ext h_pending rfl h_bus h_clk h_pow h_boot h_nor rfl h_trust h_procs h_sess h_accts h_moves rfl h_cpu h_mem h_ms h_train h_fab h_exq h_asz h_edge h_free

theorem frame_cpu
    (h_pending : t.pending = s.pending := by simp) (h_regs : t.regs = s.regs := by simp)
    (h_bus : t.bus = s.bus := by simp) (h_clk : t.clk = s.clk := by simp) (h_pow : t.pow = s.pow := by simp)
    (h_boot : t.boot = s.boot := by simp) (h_nor : t.nor = s.nor := by simp) (h_dbk : t.dbk = s.dbk := by simp)
    (h_trust : t.trust = s.trust := by simp) (h_procs : t.procs = s.procs := by simp)
    (h_sess : t.sess = s.sess := by simp) (h_accts : t.accts = s.accts := by simp)
    (h_moves : t.moves = s.moves := by simp) (h_wrt : t.wrt = s.wrt := by simp) (h_mem : t.mem = s.mem := by simp)
    (h_ms : t.ms = s.ms := by simp) (h_train : t.train = s.train := by simp) (h_fab : t.fab = s.fab := by simp)
    (h_exq : t.exq = s.exq := by simp) (h_asz : t.asz = s.asz := by simp) (h_edge : t.edge = s.edge := by simp)
    (h_free : t.free = s.free := by simp) :
    t = { s with cpu := t.cpu } :=
  State.ext h_pending h_regs h_bus h_clk h_pow h_boot h_nor h_dbk h_trust h_procs h_sess h_accts h_moves h_wrt rfl h_mem h_ms h_train h_fab h_exq h_asz h_edge h_free

theorem frame_mem
    (h_pending : t.pending = s.pending := by simp) (h_regs : t.regs = s.regs := by simp)
    (h_bus : t.bus = s.bus := by simp) (h_clk : t.clk = s.clk := by simp) (h_pow : t.pow = s.pow := by simp)
    (h_boot : t.boot = s.boot := by simp) (h_nor : t.nor = s.nor := by simp) (h_dbk : t.dbk = s.dbk := by simp)
    (h_trust : t.trust = s.trust := by simp) (h_procs : t.procs = s.procs := by simp)
    (h_sess : t.sess = s.sess := by simp) (h_accts : t.accts = s.accts := by simp)
    (h_moves : t.moves = s.moves := by simp) (h_wrt : t.wrt = s.wrt := by simp) (h_cpu : t.cpu = s.cpu := by simp)
    (h_ms : t.ms = s.ms := by simp) (h_train : t.train = s.train := by simp) (h_fab : t.fab = s.fab := by simp)
    (h_exq : t.exq = s.exq := by simp) (h_asz : t.asz = s.asz := by simp) (h_edge : t.edge = s.edge := by simp)
    (h_free : t.free = s.free := by simp) :
    t = { s with mem := t.mem } :=
  State.ext h_pending h_regs h_bus h_clk h_pow h_boot h_nor h_dbk h_trust h_procs h_sess h_accts h_moves h_wrt h_cpu rfl h_ms h_train h_fab h_exq h_asz h_edge h_free

theorem frame_bus
    (h_pending : t.pending = s.pending := by simp) (h_regs : t.regs = s.regs := by simp)
    (h_clk : t.clk = s.clk := by simp) (h_pow : t.pow = s.pow := by simp) (h_boot : t.boot = s.boot := by simp)
    (h_nor : t.nor = s.nor := by simp) (h_dbk : t.dbk = s.dbk := by simp) (h_trust : t.trust = s.trust := by simp)
    (h_procs : t.procs = s.procs := by simp) (h_sess : t.sess = s.sess := by simp)
    (h_accts : t.accts = s.accts := by simp) (h_moves : t.moves = s.moves := by simp)
    (h_wrt : t.wrt = s.wrt := by simp) (h_cpu : t.cpu = s.cpu := by simp) (h_mem : t.mem = s.mem := by simp)
    (h_ms : t.ms = s.ms := by simp) (h_train : t.train = s.train := by simp) (h_fab : t.fab = s.fab := by simp)
    (h_exq : t.exq = s.exq := by simp) (h_asz : t.asz = s.asz := by simp) (h_edge : t.edge = s.edge := by simp)
    (h_free : t.free = s.free := by simp) :
    t = { s with bus := t.bus } :=
  State.ext h_pending h_regs rfl h_clk h_pow h_boot h_nor h_dbk h_trust h_procs h_sess h_accts h_moves h_wrt h_cpu h_mem h_ms h_train h_fab h_exq h_asz h_edge h_free

theorem frame_regs_bus
    (h_pending : t.pending = s.pending := by simp) (h_clk : t.clk = s.clk := by simp)
    (h_pow : t.pow = s.pow := by simp) (h_boot : t.boot = s.boot := by simp) (h_nor : t.nor = s.nor := by simp)
    (h_dbk : t.dbk = s.dbk := by simp) (h_trust : t.trust = s.trust := by simp)
    (h_procs : t.procs = s.procs := by simp) (h_sess : t.sess = s.sess := by simp)
    (h_accts : t.accts = s.accts := by simp) (h_moves : t.moves = s.moves := by simp)
    (h_wrt : t.wrt = s.wrt := by simp) (h_cpu : t.cpu = s.cpu := by simp) (h_mem : t.mem = s.mem := by simp)
    (h_ms : t.ms = s.ms := by simp) (h_train : t.train = s.train := by simp) (h_fab : t.fab = s.fab := by simp)
    (h_exq : t.exq = s.exq := by simp) (h_asz : t.asz = s.asz := by simp) (h_edge : t.edge = s.edge := by simp)
    (h_free : t.free = s.free := by simp) :
    t = { s with regs := t.regs, bus := t.bus } :=
  State.ext h_pending rfl rfl h_clk h_pow h_boot h_nor h_dbk h_trust h_procs h_sess h_accts h_moves h_wrt h_cpu h_mem h_ms h_train h_fab h_exq h_asz h_edge h_free

theorem frame_regs_dbk_bus
    (h_pending : t.pending = s.pending := by simp) (h_clk : t.clk = s.clk := by simp)
    (h_pow : t.pow = s.pow := by simp) (h_boot : t.boot = s.boot := by simp) (h_nor : t.nor = s.nor := by simp)
    (h_trust : t.trust = s.trust := by simp) (h_procs : t.procs = s.procs := by simp)
    (h_sess : t.sess = s.sess := by simp) (h_accts : t.accts = s.accts := by simp)
    (h_moves : t.moves = s.moves := by simp) (h_wrt : t.wrt = s.wrt := by simp) (h_cpu : t.cpu = s.cpu := by simp)
    (h_mem : t.mem = s.mem := by simp) (h_ms : t.ms = s.ms := by simp) (h_train : t.train = s.train := by simp)
    (h_fab : t.fab = s.fab := by simp) (h_exq : t.exq = s.exq := by simp) (h_asz : t.asz = s.asz := by simp)
    (h_edge : t.edge = s.edge := by simp) (h_free : t.free = s.free := by simp) :
    t = { s with regs := t.regs, dbk := t.dbk, bus := t.bus } :=
  State.ext h_pending rfl rfl h_clk h_pow h_boot h_nor rfl h_trust h_procs h_sess h_accts h_moves h_wrt h_cpu h_mem h_ms h_train h_fab h_exq h_asz h_edge h_free

theorem frame_regs_cpu_train
    (h_pending : t.pending = s.pending := by simp) (h_bus : t.bus = s.bus := by simp)
    (h_clk : t.clk = s.clk := by simp) (h_pow : t.pow = s.pow := by simp) (h_boot : t.boot = s.boot := by simp)
    (h_nor : t.nor = s.nor := by simp) (h_dbk : t.dbk = s.dbk := by simp) (h_trust : t.trust = s.trust := by simp)
    (h_procs : t.procs = s.procs := by simp) (h_sess : t.sess = s.sess := by simp)
    (h_accts : t.accts = s.accts := by simp) (h_moves : t.moves = s.moves := by simp)
    (h_wrt : t.wrt = s.wrt := by simp) (h_mem : t.mem = s.mem := by simp) (h_ms : t.ms = s.ms := by simp)
    (h_fab : t.fab = s.fab := by simp) (h_exq : t.exq = s.exq := by simp) (h_asz : t.asz = s.asz := by simp)
    (h_edge : t.edge = s.edge := by simp) (h_free : t.free = s.free := by simp) :
    t = { s with regs := t.regs, cpu := t.cpu, train := t.train } :=
  State.ext h_pending rfl h_bus h_clk h_pow h_boot h_nor h_dbk h_trust h_procs h_sess h_accts h_moves h_wrt rfl h_mem h_ms rfl h_fab h_exq h_asz h_edge h_free

theorem frame_train
    (h_pending : t.pending = s.pending := by simp) (h_regs : t.regs = s.regs := by simp)
    (h_bus : t.bus = s.bus := by simp) (h_clk : t.clk = s.clk := by simp) (h_pow : t.pow = s.pow := by simp)
    (h_boot : t.boot = s.boot := by simp) (h_nor : t.nor = s.nor := by simp) (h_dbk : t.dbk = s.dbk := by simp)
    (h_trust : t.trust = s.trust := by simp) (h_procs : t.procs = s.procs := by simp)
    (h_sess : t.sess = s.sess := by simp) (h_accts : t.accts = s.accts := by simp)
    (h_moves : t.moves = s.moves := by simp) (h_wrt : t.wrt = s.wrt := by simp) (h_cpu : t.cpu = s.cpu := by simp)
    (h_mem : t.mem = s.mem := by simp) (h_ms : t.ms = s.ms := by simp) (h_fab : t.fab = s.fab := by simp)
    (h_exq : t.exq = s.exq := by simp) (h_asz : t.asz = s.asz := by simp) (h_edge : t.edge = s.edge := by simp)
    (h_free : t.free = s.free := by simp) :
    t = { s with train := t.train } :=
  State.ext h_pending h_regs h_bus h_clk h_pow h_boot h_nor h_dbk h_trust h_procs h_sess h_accts h_moves h_wrt h_cpu h_mem h_ms rfl h_fab h_exq h_asz h_edge h_free

end Sys2Proof.Machine
end

