-- ==== Sys2Proof/Laws/Store.lean ====
section
/-! SUPPORT. The laws of the keyed store: a read after a write, the canonical form, and byte ranges over it. -/

namespace Sys2Proof.Machine

variable {α : Type} [DecidableEq α]

omit [DecidableEq α] in
theorem mget_mdel_same (d : α) (m : SMap α) (k : Nat) : mget d (mdel m k) k = d := by
  induction m with
  | nil => rfl
  | cons e t ih =>
    obtain ⟨k', v'⟩ := e
    by_cases h : k' = k
    · simpa [mdel, h] using ih
    · have h' : ¬ k = k' := fun e => h e.symm
      have : mdel ((k', v') :: t) k = (k', v') :: mdel t k := by simp [mdel, h]
      rw [this]; simp [mget, h', ih]

omit [DecidableEq α] in
theorem mget_mdel_ne (d : α) (m : SMap α) {k j : Nat} (h : j ≠ k) : mget d (mdel m k) j = mget d m j := by
  induction m with
  | nil => rfl
  | cons e t ih =>
    obtain ⟨k', v'⟩ := e
    by_cases hk : k' = k
    · have : mdel ((k', v') :: t) k = mdel t k := by simp [mdel, hk]
      rw [this, ih]; simp [mget, hk, h]
    · have : mdel ((k', v') :: t) k = (k', v') :: mdel t k := by simp [mdel, hk]
      rw [this]; simp [mget, ih]

/-- A read after a write to the same key gives the value written. -/
@[simp] theorem mget_mset_same (d : α) (m : SMap α) (k : Nat) (v : α) : mget d (mset d m k v) k = v := by
  induction m with
  | nil => simp only [mset]; split <;> simp_all [mget]
  | cons e t ih =>
    obtain ⟨k', v'⟩ := e
    simp only [mset]
    split
    · split
      · rename_i h hv; simp [mget, Nat.ne_of_lt h, mget_mdel_same, hv]
      · simp [mget]
    · split
      · split
        · rename_i hv; simp [mget_mdel_same, hv]
        · simp [mget]
      · rename_i h; simp [mget, h, ih]

/-- A write leaves every other key alone, whatever that key's default. -/
theorem mget_mset_ne (d d' : α) (m : SMap α) {k j : Nat} (v : α) (h : j ≠ k) :
    mget d' (mset d m k v) j = mget d' m j := by
  induction m with
  | nil => simp only [mset]; split <;> simp [mget, h]
  | cons e t ih =>
    obtain ⟨k', v'⟩ := e
    simp only [mset]
    split
    · split <;> simp [mget, mget_mdel_ne, h]
    · split
      · rename_i hk; subst hk
        split <;> simp [mget, mget_mdel_ne, h]
      · simp [mget, ih]

theorem mget_mset (d : α) (m : SMap α) (k j : Nat) (v : α) :
    mget d (mset d m k v) j = if j = k then v else mget d m j := by
  by_cases h : j = k
  · subst h; simp
  · simp [h, mget_mset_ne]

omit [DecidableEq α] in
theorem mdel_all (p : Nat × α → Bool) (m : SMap α) (k : Nat) (h : m.all p = true) : (mdel m k).all p = true := by
  simp only [mdel, List.all_eq_true, List.mem_filter] at *
  exact fun e he => h e he.1

omit [DecidableEq α] in
theorem mdel_of_lt (m : SMap α) (k : Nat) (h : m.all (fun e => decide (k < e.1)) = true) : mdel m k = m := by
  simp only [mdel, List.filter_eq_self]
  intro e he
  have := (List.all_eq_true.mp h) e he
  simp only [decide_eq_true_eq] at this
  simp [bne_iff_ne, Nat.ne_of_gt this]

theorem mset_all (d : α) (m : SMap α) (k : Nat) (v : α) (p : Nat × α → Bool) (h : m.all p = true)
    (hk : p (k, v) = true) : (mset d m k v).all p = true := by
  induction m with
  | nil => simp only [mset]; split <;> simp [hk]
  | cons e t ih =>
    obtain ⟨k', v'⟩ := e
    simp only [List.all_cons, Bool.and_eq_true] at h
    simp only [mset]
    split
    · split <;> simp [h.1, hk, mdel_all p t k h.2]
    · split
      · split <;> simp [hk, mdel_all p t k h.2]
      · simp [h.1, ih h.2]

/-- A write keeps the canonical form. -/
theorem mwf_mset (d : α) (m : SMap α) (k : Nat) (v : α) (h : mwf d m = true) : mwf d (mset d m k v) = true := by
  induction m with
  | nil => simp only [mset]; split <;> simp_all [mwf]
  | cons e t ih =>
    obtain ⟨k', v'⟩ := e
    simp only [mwf, Bool.and_eq_true, decide_eq_true_eq] at h
    obtain ⟨⟨hv, ha⟩, ht⟩ := h
    simp only [mset]
    split
    · rename_i hlt
      have hgt : t.all (fun e => decide (k < e.1)) = true := by
        simp only [List.all_eq_true, decide_eq_true_eq] at ha ⊢
        exact fun e he => Nat.lt_trans hlt (ha e he)
      rw [mdel_of_lt t k hgt]
      split
      · simp [mwf, hv, ht, ha]
      · rename_i hne; simp [mwf, hv, ht, hne, hgt, hlt]; simpa using ha
    · split
      · rename_i hk; subst hk
        rw [mdel_of_lt t k ha]
        split
        · exact ht
        · rename_i hne; simp [mwf, hne, ht]; simpa using ha
      · rename_i h1 h2
        have hk : k' < k := by omega
        simp only [mwf, Bool.and_eq_true, decide_eq_true_eq]
        exact ⟨⟨hv, mset_all d t k v _ ha (by simpa using hk)⟩, ih ht⟩

/-! ### Byte ranges -/

@[simp] theorem rdBytes_length (m : List Host.Cell) (a n : Nat) : (rdBytes m a n).length = n := by
  induction n generalizing a with
  | zero => rfl
  | succ n ih => simp [rdBytes, ih]

theorem mwf_wrBytes (m : List Host.Cell) (a : Nat) (bs : List Byte) (h : mwf 0#8 m = true) :
    mwf 0#8 (wrBytes m a bs) = true := by
  induction bs generalizing m a with
  | nil => exact h
  | cons b t ih => exact ih _ _ (mwf_mset _ _ _ _ h)

/-! ### Lists of poisoned words -/

theorem rising_filter (p : Nat → Bool) (l : List Nat) (h : rising l = true) : rising (l.filter p) = true := by
  induction l with
  | nil => rfl
  | cons x t ih =>
    simp only [rising, Bool.and_eq_true] at h
    by_cases hp : p x
    · simp only [List.filter_cons, hp, if_true, rising, Bool.and_eq_true]
      refine ⟨?_, ih h.2⟩
      simp only [List.all_eq_true, List.mem_filter] at h ⊢
      exact fun y hy => h.1 y hy.1
    · simpa [List.filter_cons, hp] using ih h.2

theorem ins_all (k : Nat) (l : List Nat) (p : Nat → Bool) (h : l.all p = true) (hk : p k = true) :
    (ins k l).all p = true := by
  induction l with
  | nil => simp [ins, hk]
  | cons x t ih =>
    simp only [List.all_cons, Bool.and_eq_true] at h
    simp only [ins]
    split
    · simp [hk, h.1, h.2]
    · split
      · simp [h.1, h.2]
      · simp [h.1, ih h.2]

theorem rising_ins (k : Nat) (l : List Nat) (h : rising l = true) : rising (ins k l) = true := by
  induction l with
  | nil => rfl
  | cons x t ih =>
    have h0 := h
    simp only [rising, Bool.and_eq_true] at h
    simp only [ins]
    split
    · rename_i hlt
      simp only [rising, Bool.and_eq_true, List.all_cons, decide_eq_true_eq]
      refine ⟨⟨hlt, ?_⟩, h.1, h.2⟩
      simp only [List.all_eq_true, decide_eq_true_eq] at h ⊢
      exact fun y hy => Nat.lt_trans hlt (h.1 y hy)
    · split
      · exact h0
      · rename_i h1 h2
        simp only [rising, Bool.and_eq_true]
        exact ⟨ins_all k t _ h.1 (by simpa using (by omega : x < k)), ih h.2⟩

theorem rising_addPoison (p ws : List Nat) (h : rising p = true) : rising (addPoison p ws) = true := by
  unfold addPoison
  induction ws generalizing p with
  | nil => exact h
  | cons w t ih => exact ih _ (rising_ins w p h)

theorem rising_dropPoison (p ws : List Nat) (h : rising p = true) : rising (dropPoison p ws) = true :=
  rising_filter _ p h

/-- A write of bytes into a store with poison keeps both canonical. -/
theorem wrStore_wf (m : List Host.Cell) (p : List Nat) (a : Nat) (bs : List Byte)
    (hm : mwf 0#8 m = true) (hp : rising p = true) :
    mwf 0#8 (wrStore m p a bs).1 = true ∧ rising (wrStore m p a bs).2 = true := by
  refine ⟨?_, rising_dropPoison _ _ hp⟩
  simp only [wrStore]
  generalize bs.zipIdx = l
  induction l generalizing m with
  | nil => exact hm
  | cons e t ih =>
    simp only [List.foldl_cons]
    apply ih
    split
    · exact hm
    · exact mwf_mset _ _ _ _ hm

theorem mwf_filter (p : Nat × Byte → Bool) (m : List Host.Cell) (h : mwf 0#8 m = true) : mwf 0#8 (m.filter p) = true := by
  induction m with
  | nil => rfl
  | cons e t ih =>
    simp only [mwf, Bool.and_eq_true] at h
    obtain ⟨⟨hv, ha⟩, ht⟩ := h
    by_cases hp : p e
    · simp only [List.filter_cons, hp, if_true, mwf, Bool.and_eq_true]
      refine ⟨⟨hv, ?_⟩, ih ht⟩
      simp only [List.all_eq_true, List.mem_filter] at ha ⊢
      exact fun y hy => ha y hy.1
    · simpa [List.filter_cons, hp] using ih ht

theorem zeroRange_wf (m : List Host.Cell) (lo hi : Nat) (h : mwf 0#8 m = true) : mwf 0#8 (zeroRange m lo hi) = true :=
  mwf_filter _ m h

end Sys2Proof.Machine
end

