-- ==== Sys2Proof/Laws/Memory.lean ====
section
/-! SUPPORT. Every memory operation keeps the canonical form of the stores (`Memory.wf`), and the memory at reset has it. -/

namespace Sys2Proof.Machine

/-- The canonical form, part by part. -/
theorem Memory.wf_iff (m : Mem) : Memory.wf m = true ↔
    (mwf 0#8 m.dram = true ∧ rising m.dramPoison = true) ∧ (mwf 0#8 m.ts = true ∧ rising m.tsPoison = true) ∧
      (mwf 0#8 m.cs = true ∧ rising m.csPoison = true) := by
  simp only [Memory.wf, Bool.and_eq_true]; tauto

theorem reset_memory_wf : Memory.wf State.reset.mem = true := by decide

/-- What each step of a fold over the state keeps of its memory, the fold keeps. -/
theorem foldl_memory_wf {α : Type} (f : State → α → State)
    (h : ∀ s a, Memory.wf s.mem = true → Memory.wf (f s a).mem = true) (l : List α) (s : State)
    (hs : Memory.wf s.mem = true) : Memory.wf (l.foldl f s).mem = true := by
  induction l generalizing s with
  | nil => exact hs
  | cons a t ih => exact ih _ (h s a hs)

variable {s : State}

theorem wrKey_wf (k : Nat) (bs : List Byte) (h : Memory.wf s.mem = true) : Memory.wf (s.wrKey k bs).mem = true := by
  unfold State.wrKey
  split
  · exact h
  · rw [Memory.wf_iff] at h ⊢
    exact ⟨wrStore_wf _ _ _ _ h.1.1 h.1.2, h.2⟩

theorem poisonDev_wf (ws : List Nat) (h : Memory.wf s.mem = true) : Memory.wf (s.poisonDev ws).mem = true := by
  rw [Memory.wf_iff] at h ⊢
  exact ⟨⟨h.1.1, rising_addPoison _ _ h.1.2⟩, h.2⟩

theorem devPut_wf (a : Nat) (bs : List Byte) (h : Memory.wf s.mem = true) :
    Memory.wf (s.devPut a bs).mem = true := by
  unfold State.devPut
  split
  · exact wrKey_wf _ _ h
  · exact h

theorem devWrite_wf (a : Nat) (bs : List Byte) (h : Memory.wf s.mem = true) :
    Memory.wf (s.devWrite a bs).mem = true := by
  refine foldl_memory_wf _ (fun s p hs => ?_) _ _ h
  split
  · exact hs
  · exact devPut_wf _ _ hs

theorem dumpPut_wf (a : Nat) (bs : List Byte) (h : Memory.wf s.mem = true) :
    Memory.wf (s.dumpPut a bs).mem = true :=
  foldl_memory_wf _ (fun _ _ hs => devPut_wf _ _ hs) _ _ h

theorem accWrite_wf (c a : Nat) (bs : List Byte) (h : Memory.wf s.mem = true) :
    Memory.wf (s.accWrite c a bs).mem = true := by
  refine foldl_memory_wf _ (fun s p hs => ?_) _ _ h
  split
  · exact wrKey_wf _ _ hs
  · exact hs

theorem accPoison_wf (c a n : Nat) (h : Memory.wf s.mem = true) : Memory.wf (s.accPoison c a n).mem = true := by
  refine foldl_memory_wf _ (fun s p hs => ?_) _ _ h
  split
  · split
    · exact hs
    · exact poisonDev_wf _ hs
  · exact hs

theorem tsWrite_wf (e a : Nat) (bs : List Byte) (h : Memory.wf s.mem = true) :
    Memory.wf (s.tsWrite e a bs).mem = true := by
  rw [Memory.wf_iff] at h ⊢
  exact ⟨h.1, wrStore_wf _ _ _ _ h.2.1.1 h.2.1.2, h.2.2⟩

theorem csWrite_wf (c a : Nat) (bs : List Byte) (h : Memory.wf s.mem = true) :
    Memory.wf (s.csWrite c a bs).mem = true := by
  rw [Memory.wf_iff] at h ⊢
  exact ⟨h.1, h.2.1, wrStore_wf _ _ _ _ h.2.2.1 h.2.2.2⟩

theorem tsSetPoison_wf (e a n : Nat) (h : Memory.wf s.mem = true) : Memory.wf (s.tsSetPoison e a n).mem = true := by
  rw [Memory.wf_iff] at h ⊢
  exact ⟨h.1, ⟨h.2.1.1, rising_addPoison _ _ h.2.1.2⟩, h.2.2⟩

theorem csSetPoison_wf (c a n : Nat) (h : Memory.wf s.mem = true) : Memory.wf (s.csSetPoison c a n).mem = true := by
  rw [Memory.wf_iff] at h ⊢
  exact ⟨h.1, h.2.1, h.2.2.1, rising_addPoison _ _ h.2.2.2⟩

theorem zeroTile_wf (e : Nat) (h : Memory.wf s.mem = true) : Memory.wf (s.zeroTile e).mem = true := by
  rw [Memory.wf_iff] at h ⊢
  exact ⟨h.1, ⟨zeroRange_wf _ _ _ h.2.1.1, rising_filter _ _ h.2.1.2⟩, h.2.2⟩

theorem zeroCore_wf (c : Nat) (h : Memory.wf s.mem = true) : Memory.wf (s.zeroCore c).mem = true := by
  rw [Memory.wf_iff] at h ⊢
  exact ⟨h.1, h.2.1, zeroRange_wf _ _ _ h.2.2.1, rising_filter _ _ h.2.2.2⟩

theorem fullRate_mem (s : State) (d : Nat) : (s.fullRate d).mem = s.mem := by
  unfold State.fullRate; exact st_mem ..

theorem channels_mem (s : State) (d g : Nat) (l : List Nat) :
    (l.foldl (fun s c => s.st F.MEM_CH_STATE_STATE 4 d (16 * g + c)) s).mem = s.mem :=
  foldl_keeps (·.mem) _ (fun _ _ => st_mem ..) l s

theorem fenceGroup_mem (s : State) (d g c : Nat) : (s.fenceGroup d g c).mem = s.mem := by
  simp only [State.fenceGroup, apply_ite State.mem, degradeAdd_mem, note_mem, fullRate_mem, channels_mem, setBit_mem,
    ite_self]

theorem groupUnc_mem (s : State) (c : Nat) : (s.groupUnc c).mem = s.mem := by
  simp only [State.groupUnc, apply_ite State.mem, fenceGroup_mem, ite_self]

theorem countUnc_mem (s : State) (c w : Nat) : (s.countUnc c w).mem = s.mem := by
  simp only [State.countUnc]
  split
  · exact inc_mem ..
  · simp only [groupUnc_mem, note_mem, st_mem, inc_mem]

theorem takeUnc_wf (c : Nat) (ws : List Nat) (h : Memory.wf s.mem = true) : Memory.wf (s.takeUnc c ws).mem = true := by
  have he : (s.takeUnc c ws).mem = (s.poisonDev ws).mem := by
    unfold State.takeUnc
    rw [foldl_keeps (·.mem) _ (fun t w => countUnc_mem t c w)]
  rw [he]
  exact poisonDev_wf ws h

end Sys2Proof.Machine
end

