-- ==== Sys2Proof/Laws/Operands.lean ====
section
/-! SUPPORT. Frames of jumps, queues, posts, the bus and the command ring: one lemma for each field of the state that an
operation leaves alone. -/

namespace Sys2Proof.Machine

/-! ### `jump` -/

@[simp] theorem jump_pending (s : State) (c : Nat) (v : W64) : (s.jump c v).pending = s.pending := by simp [State.jump]
@[simp] theorem jump_bus (s : State) (c : Nat) (v : W64) : (s.jump c v).bus = s.bus := by simp [State.jump]
@[simp] theorem jump_clk (s : State) (c : Nat) (v : W64) : (s.jump c v).clk = s.clk := by simp [State.jump]
@[simp] theorem jump_pow (s : State) (c : Nat) (v : W64) : (s.jump c v).pow = s.pow := by simp [State.jump]
@[simp] theorem jump_boot (s : State) (c : Nat) (v : W64) : (s.jump c v).boot = s.boot := by simp [State.jump]
@[simp] theorem jump_nor (s : State) (c : Nat) (v : W64) : (s.jump c v).nor = s.nor := by simp [State.jump]
@[simp] theorem jump_dbk (s : State) (c : Nat) (v : W64) : (s.jump c v).dbk = s.dbk := by simp [State.jump]
@[simp] theorem jump_trust (s : State) (c : Nat) (v : W64) : (s.jump c v).trust = s.trust := by simp [State.jump]
@[simp] theorem jump_procs (s : State) (c : Nat) (v : W64) : (s.jump c v).procs = s.procs := by simp [State.jump]
@[simp] theorem jump_sess (s : State) (c : Nat) (v : W64) : (s.jump c v).sess = s.sess := by simp [State.jump]
@[simp] theorem jump_accts (s : State) (c : Nat) (v : W64) : (s.jump c v).accts = s.accts := by simp [State.jump]
@[simp] theorem jump_moves (s : State) (c : Nat) (v : W64) : (s.jump c v).moves = s.moves := by simp [State.jump]
@[simp] theorem jump_wrt (s : State) (c : Nat) (v : W64) : (s.jump c v).wrt = s.wrt := by simp [State.jump]
@[simp] theorem jump_mem (s : State) (c : Nat) (v : W64) : (s.jump c v).mem = s.mem := by simp [State.jump]
@[simp] theorem jump_ms (s : State) (c : Nat) (v : W64) : (s.jump c v).ms = s.ms := by simp [State.jump]
@[simp] theorem jump_train (s : State) (c : Nat) (v : W64) : (s.jump c v).train = s.train := by simp [State.jump]
@[simp] theorem jump_fab (s : State) (c : Nat) (v : W64) : (s.jump c v).fab = s.fab := by simp [State.jump]
@[simp] theorem jump_exq (s : State) (c : Nat) (v : W64) : (s.jump c v).exq = s.exq := by simp [State.jump]
@[simp] theorem jump_asz (s : State) (c : Nat) (v : W64) : (s.jump c v).asz = s.asz := by simp [State.jump]
@[simp] theorem jump_edge (s : State) (c : Nat) (v : W64) : (s.jump c v).edge = s.edge := by simp [State.jump]
@[simp] theorem jump_free (s : State) (c : Nat) (v : W64) : (s.jump c v).free = s.free := by simp [State.jump]

/-! ### `setQueue` -/

@[simp] theorem setQueue_pending (s : State) (q : Nat) (v : Queue) : (s.setQueue q v).pending = s.pending := rfl
@[simp] theorem setQueue_regs (s : State) (q : Nat) (v : Queue) : (s.setQueue q v).regs = s.regs := rfl
@[simp] theorem setQueue_bus (s : State) (q : Nat) (v : Queue) : (s.setQueue q v).bus = s.bus := rfl
@[simp] theorem setQueue_clk (s : State) (q : Nat) (v : Queue) : (s.setQueue q v).clk = s.clk := rfl
@[simp] theorem setQueue_pow (s : State) (q : Nat) (v : Queue) : (s.setQueue q v).pow = s.pow := rfl
@[simp] theorem setQueue_boot (s : State) (q : Nat) (v : Queue) : (s.setQueue q v).boot = s.boot := rfl
@[simp] theorem setQueue_nor (s : State) (q : Nat) (v : Queue) : (s.setQueue q v).nor = s.nor := rfl
@[simp] theorem setQueue_dbk (s : State) (q : Nat) (v : Queue) : (s.setQueue q v).dbk = s.dbk := rfl
@[simp] theorem setQueue_trust (s : State) (q : Nat) (v : Queue) : (s.setQueue q v).trust = s.trust := rfl
@[simp] theorem setQueue_procs (s : State) (q : Nat) (v : Queue) : (s.setQueue q v).procs = s.procs := rfl
@[simp] theorem setQueue_sess (s : State) (q : Nat) (v : Queue) : (s.setQueue q v).sess = s.sess := rfl
@[simp] theorem setQueue_accts (s : State) (q : Nat) (v : Queue) : (s.setQueue q v).accts = s.accts := rfl
@[simp] theorem setQueue_moves (s : State) (q : Nat) (v : Queue) : (s.setQueue q v).moves = s.moves := rfl
@[simp] theorem setQueue_cpu (s : State) (q : Nat) (v : Queue) : (s.setQueue q v).cpu = s.cpu := rfl
@[simp] theorem setQueue_mem (s : State) (q : Nat) (v : Queue) : (s.setQueue q v).mem = s.mem := rfl
@[simp] theorem setQueue_ms (s : State) (q : Nat) (v : Queue) : (s.setQueue q v).ms = s.ms := rfl
@[simp] theorem setQueue_train (s : State) (q : Nat) (v : Queue) : (s.setQueue q v).train = s.train := rfl
@[simp] theorem setQueue_fab (s : State) (q : Nat) (v : Queue) : (s.setQueue q v).fab = s.fab := rfl
@[simp] theorem setQueue_exq (s : State) (q : Nat) (v : Queue) : (s.setQueue q v).exq = s.exq := rfl
@[simp] theorem setQueue_asz (s : State) (q : Nat) (v : Queue) : (s.setQueue q v).asz = s.asz := rfl
@[simp] theorem setQueue_edge (s : State) (q : Nat) (v : Queue) : (s.setQueue q v).edge = s.edge := rfl
@[simp] theorem setQueue_free (s : State) (q : Nat) (v : Queue) : (s.setQueue q v).free = s.free := rfl

/-! ### `updRun` -/

@[simp] theorem updRun_pending (s : State) (q : Nat) (f : Batch → Batch) : (s.updRun q f).pending = s.pending := by unfold State.updRun; split <;> rfl
@[simp] theorem updRun_regs (s : State) (q : Nat) (f : Batch → Batch) : (s.updRun q f).regs = s.regs := by unfold State.updRun; split <;> rfl
@[simp] theorem updRun_bus (s : State) (q : Nat) (f : Batch → Batch) : (s.updRun q f).bus = s.bus := by unfold State.updRun; split <;> rfl
@[simp] theorem updRun_clk (s : State) (q : Nat) (f : Batch → Batch) : (s.updRun q f).clk = s.clk := by unfold State.updRun; split <;> rfl
@[simp] theorem updRun_pow (s : State) (q : Nat) (f : Batch → Batch) : (s.updRun q f).pow = s.pow := by unfold State.updRun; split <;> rfl
@[simp] theorem updRun_boot (s : State) (q : Nat) (f : Batch → Batch) : (s.updRun q f).boot = s.boot := by unfold State.updRun; split <;> rfl
@[simp] theorem updRun_nor (s : State) (q : Nat) (f : Batch → Batch) : (s.updRun q f).nor = s.nor := by unfold State.updRun; split <;> rfl
@[simp] theorem updRun_dbk (s : State) (q : Nat) (f : Batch → Batch) : (s.updRun q f).dbk = s.dbk := by unfold State.updRun; split <;> rfl
@[simp] theorem updRun_trust (s : State) (q : Nat) (f : Batch → Batch) : (s.updRun q f).trust = s.trust := by unfold State.updRun; split <;> rfl
@[simp] theorem updRun_procs (s : State) (q : Nat) (f : Batch → Batch) : (s.updRun q f).procs = s.procs := by unfold State.updRun; split <;> rfl
@[simp] theorem updRun_sess (s : State) (q : Nat) (f : Batch → Batch) : (s.updRun q f).sess = s.sess := by unfold State.updRun; split <;> rfl
@[simp] theorem updRun_accts (s : State) (q : Nat) (f : Batch → Batch) : (s.updRun q f).accts = s.accts := by unfold State.updRun; split <;> rfl
@[simp] theorem updRun_moves (s : State) (q : Nat) (f : Batch → Batch) : (s.updRun q f).moves = s.moves := by unfold State.updRun; split <;> rfl
@[simp] theorem updRun_cpu (s : State) (q : Nat) (f : Batch → Batch) : (s.updRun q f).cpu = s.cpu := by unfold State.updRun; split <;> rfl
@[simp] theorem updRun_mem (s : State) (q : Nat) (f : Batch → Batch) : (s.updRun q f).mem = s.mem := by unfold State.updRun; split <;> rfl
@[simp] theorem updRun_ms (s : State) (q : Nat) (f : Batch → Batch) : (s.updRun q f).ms = s.ms := by unfold State.updRun; split <;> rfl
@[simp] theorem updRun_train (s : State) (q : Nat) (f : Batch → Batch) : (s.updRun q f).train = s.train := by unfold State.updRun; split <;> rfl
@[simp] theorem updRun_fab (s : State) (q : Nat) (f : Batch → Batch) : (s.updRun q f).fab = s.fab := by unfold State.updRun; split <;> rfl
@[simp] theorem updRun_exq (s : State) (q : Nat) (f : Batch → Batch) : (s.updRun q f).exq = s.exq := by unfold State.updRun; split <;> rfl
@[simp] theorem updRun_asz (s : State) (q : Nat) (f : Batch → Batch) : (s.updRun q f).asz = s.asz := by unfold State.updRun; split <;> rfl
@[simp] theorem updRun_edge (s : State) (q : Nat) (f : Batch → Batch) : (s.updRun q f).edge = s.edge := by unfold State.updRun; split <;> rfl
@[simp] theorem updRun_free (s : State) (q : Nat) (f : Batch → Batch) : (s.updRun q f).free = s.free := by unfold State.updRun; split <;> rfl

/-! ### `lpost` -/

@[simp] theorem lpost_pending (s : State) (c : Nat) (v : W64) : (s.lpost c v).pending = s.pending := rfl
@[simp] theorem lpost_regs (s : State) (c : Nat) (v : W64) : (s.lpost c v).regs = s.regs := rfl
@[simp] theorem lpost_bus (s : State) (c : Nat) (v : W64) : (s.lpost c v).bus = s.bus := rfl
@[simp] theorem lpost_clk (s : State) (c : Nat) (v : W64) : (s.lpost c v).clk = s.clk := rfl
@[simp] theorem lpost_pow (s : State) (c : Nat) (v : W64) : (s.lpost c v).pow = s.pow := rfl
@[simp] theorem lpost_boot (s : State) (c : Nat) (v : W64) : (s.lpost c v).boot = s.boot := rfl
@[simp] theorem lpost_nor (s : State) (c : Nat) (v : W64) : (s.lpost c v).nor = s.nor := rfl
@[simp] theorem lpost_dbk (s : State) (c : Nat) (v : W64) : (s.lpost c v).dbk = s.dbk := rfl
@[simp] theorem lpost_trust (s : State) (c : Nat) (v : W64) : (s.lpost c v).trust = s.trust := rfl
@[simp] theorem lpost_procs (s : State) (c : Nat) (v : W64) : (s.lpost c v).procs = s.procs := rfl
@[simp] theorem lpost_sess (s : State) (c : Nat) (v : W64) : (s.lpost c v).sess = s.sess := rfl
@[simp] theorem lpost_accts (s : State) (c : Nat) (v : W64) : (s.lpost c v).accts = s.accts := rfl
@[simp] theorem lpost_moves (s : State) (c : Nat) (v : W64) : (s.lpost c v).moves = s.moves := rfl
@[simp] theorem lpost_wrt (s : State) (c : Nat) (v : W64) : (s.lpost c v).wrt = s.wrt := rfl
@[simp] theorem lpost_mem (s : State) (c : Nat) (v : W64) : (s.lpost c v).mem = s.mem := rfl
@[simp] theorem lpost_ms (s : State) (c : Nat) (v : W64) : (s.lpost c v).ms = s.ms := rfl
@[simp] theorem lpost_fab (s : State) (c : Nat) (v : W64) : (s.lpost c v).fab = s.fab := rfl
@[simp] theorem lpost_exq (s : State) (c : Nat) (v : W64) : (s.lpost c v).exq = s.exq := rfl
@[simp] theorem lpost_asz (s : State) (c : Nat) (v : W64) : (s.lpost c v).asz = s.asz := rfl
@[simp] theorem lpost_edge (s : State) (c : Nat) (v : W64) : (s.lpost c v).edge = s.edge := rfl
@[simp] theorem lpost_free (s : State) (c : Nat) (v : W64) : (s.lpost c v).free = s.free := rfl

/-! ### `wpost` -/

@[simp] theorem wpost_pending (s : State) (c : Nat) (v : W64) : (s.wpost c v).pending = s.pending := rfl
@[simp] theorem wpost_regs (s : State) (c : Nat) (v : W64) : (s.wpost c v).regs = s.regs := rfl
@[simp] theorem wpost_bus (s : State) (c : Nat) (v : W64) : (s.wpost c v).bus = s.bus := rfl
@[simp] theorem wpost_clk (s : State) (c : Nat) (v : W64) : (s.wpost c v).clk = s.clk := rfl
@[simp] theorem wpost_pow (s : State) (c : Nat) (v : W64) : (s.wpost c v).pow = s.pow := rfl
@[simp] theorem wpost_boot (s : State) (c : Nat) (v : W64) : (s.wpost c v).boot = s.boot := rfl
@[simp] theorem wpost_nor (s : State) (c : Nat) (v : W64) : (s.wpost c v).nor = s.nor := rfl
@[simp] theorem wpost_dbk (s : State) (c : Nat) (v : W64) : (s.wpost c v).dbk = s.dbk := rfl
@[simp] theorem wpost_trust (s : State) (c : Nat) (v : W64) : (s.wpost c v).trust = s.trust := rfl
@[simp] theorem wpost_procs (s : State) (c : Nat) (v : W64) : (s.wpost c v).procs = s.procs := rfl
@[simp] theorem wpost_sess (s : State) (c : Nat) (v : W64) : (s.wpost c v).sess = s.sess := rfl
@[simp] theorem wpost_accts (s : State) (c : Nat) (v : W64) : (s.wpost c v).accts = s.accts := rfl
@[simp] theorem wpost_moves (s : State) (c : Nat) (v : W64) : (s.wpost c v).moves = s.moves := rfl
@[simp] theorem wpost_wrt (s : State) (c : Nat) (v : W64) : (s.wpost c v).wrt = s.wrt := rfl
@[simp] theorem wpost_cpu (s : State) (c : Nat) (v : W64) : (s.wpost c v).cpu = s.cpu := rfl
@[simp] theorem wpost_mem (s : State) (c : Nat) (v : W64) : (s.wpost c v).mem = s.mem := rfl
@[simp] theorem wpost_ms (s : State) (c : Nat) (v : W64) : (s.wpost c v).ms = s.ms := rfl
@[simp] theorem wpost_fab (s : State) (c : Nat) (v : W64) : (s.wpost c v).fab = s.fab := rfl
@[simp] theorem wpost_exq (s : State) (c : Nat) (v : W64) : (s.wpost c v).exq = s.exq := rfl
@[simp] theorem wpost_asz (s : State) (c : Nat) (v : W64) : (s.wpost c v).asz = s.asz := rfl
@[simp] theorem wpost_edge (s : State) (c : Nat) (v : W64) : (s.wpost c v).edge = s.edge := rfl
@[simp] theorem wpost_free (s : State) (c : Nat) (v : W64) : (s.wpost c v).free = s.free := rfl

/-! ### `answer` -/

@[simp] theorem answer_pending (s : State) (q : Requester) (v : W64) : (s.answer q v).pending = s.pending := rfl
@[simp] theorem answer_regs (s : State) (q : Requester) (v : W64) : (s.answer q v).regs = s.regs := rfl
@[simp] theorem answer_clk (s : State) (q : Requester) (v : W64) : (s.answer q v).clk = s.clk := rfl
@[simp] theorem answer_pow (s : State) (q : Requester) (v : W64) : (s.answer q v).pow = s.pow := rfl
@[simp] theorem answer_boot (s : State) (q : Requester) (v : W64) : (s.answer q v).boot = s.boot := rfl
@[simp] theorem answer_nor (s : State) (q : Requester) (v : W64) : (s.answer q v).nor = s.nor := rfl
@[simp] theorem answer_dbk (s : State) (q : Requester) (v : W64) : (s.answer q v).dbk = s.dbk := rfl
@[simp] theorem answer_trust (s : State) (q : Requester) (v : W64) : (s.answer q v).trust = s.trust := rfl
@[simp] theorem answer_procs (s : State) (q : Requester) (v : W64) : (s.answer q v).procs = s.procs := rfl
@[simp] theorem answer_sess (s : State) (q : Requester) (v : W64) : (s.answer q v).sess = s.sess := rfl
@[simp] theorem answer_accts (s : State) (q : Requester) (v : W64) : (s.answer q v).accts = s.accts := rfl
@[simp] theorem answer_moves (s : State) (q : Requester) (v : W64) : (s.answer q v).moves = s.moves := rfl
@[simp] theorem answer_wrt (s : State) (q : Requester) (v : W64) : (s.answer q v).wrt = s.wrt := rfl
@[simp] theorem answer_cpu (s : State) (q : Requester) (v : W64) : (s.answer q v).cpu = s.cpu := rfl
@[simp] theorem answer_mem (s : State) (q : Requester) (v : W64) : (s.answer q v).mem = s.mem := rfl
@[simp] theorem answer_ms (s : State) (q : Requester) (v : W64) : (s.answer q v).ms = s.ms := rfl
@[simp] theorem answer_train (s : State) (q : Requester) (v : W64) : (s.answer q v).train = s.train := rfl
@[simp] theorem answer_fab (s : State) (q : Requester) (v : W64) : (s.answer q v).fab = s.fab := rfl
@[simp] theorem answer_exq (s : State) (q : Requester) (v : W64) : (s.answer q v).exq = s.exq := rfl
@[simp] theorem answer_asz (s : State) (q : Requester) (v : W64) : (s.answer q v).asz = s.asz := rfl
@[simp] theorem answer_edge (s : State) (q : Requester) (v : W64) : (s.answer q v).edge = s.edge := rfl
@[simp] theorem answer_free (s : State) (q : Requester) (v : W64) : (s.answer q v).free = s.free := rfl

/-! ### `dropHeld` -/

@[simp] theorem dropHeld_pending (s : State) (q : Requester) (k : Nat) : (s.dropHeld q k).pending = s.pending := rfl
@[simp] theorem dropHeld_regs (s : State) (q : Requester) (k : Nat) : (s.dropHeld q k).regs = s.regs := rfl
@[simp] theorem dropHeld_clk (s : State) (q : Requester) (k : Nat) : (s.dropHeld q k).clk = s.clk := rfl
@[simp] theorem dropHeld_pow (s : State) (q : Requester) (k : Nat) : (s.dropHeld q k).pow = s.pow := rfl
@[simp] theorem dropHeld_boot (s : State) (q : Requester) (k : Nat) : (s.dropHeld q k).boot = s.boot := rfl
@[simp] theorem dropHeld_nor (s : State) (q : Requester) (k : Nat) : (s.dropHeld q k).nor = s.nor := rfl
@[simp] theorem dropHeld_dbk (s : State) (q : Requester) (k : Nat) : (s.dropHeld q k).dbk = s.dbk := rfl
@[simp] theorem dropHeld_trust (s : State) (q : Requester) (k : Nat) : (s.dropHeld q k).trust = s.trust := rfl
@[simp] theorem dropHeld_procs (s : State) (q : Requester) (k : Nat) : (s.dropHeld q k).procs = s.procs := rfl
@[simp] theorem dropHeld_sess (s : State) (q : Requester) (k : Nat) : (s.dropHeld q k).sess = s.sess := rfl
@[simp] theorem dropHeld_accts (s : State) (q : Requester) (k : Nat) : (s.dropHeld q k).accts = s.accts := rfl
@[simp] theorem dropHeld_moves (s : State) (q : Requester) (k : Nat) : (s.dropHeld q k).moves = s.moves := rfl
@[simp] theorem dropHeld_wrt (s : State) (q : Requester) (k : Nat) : (s.dropHeld q k).wrt = s.wrt := rfl
@[simp] theorem dropHeld_cpu (s : State) (q : Requester) (k : Nat) : (s.dropHeld q k).cpu = s.cpu := rfl
@[simp] theorem dropHeld_mem (s : State) (q : Requester) (k : Nat) : (s.dropHeld q k).mem = s.mem := rfl
@[simp] theorem dropHeld_ms (s : State) (q : Requester) (k : Nat) : (s.dropHeld q k).ms = s.ms := rfl
@[simp] theorem dropHeld_train (s : State) (q : Requester) (k : Nat) : (s.dropHeld q k).train = s.train := rfl
@[simp] theorem dropHeld_fab (s : State) (q : Requester) (k : Nat) : (s.dropHeld q k).fab = s.fab := rfl
@[simp] theorem dropHeld_exq (s : State) (q : Requester) (k : Nat) : (s.dropHeld q k).exq = s.exq := rfl
@[simp] theorem dropHeld_asz (s : State) (q : Requester) (k : Nat) : (s.dropHeld q k).asz = s.asz := rfl
@[simp] theorem dropHeld_edge (s : State) (q : Requester) (k : Nat) : (s.dropHeld q k).edge = s.edge := rfl
@[simp] theorem dropHeld_free (s : State) (q : Requester) (k : Nat) : (s.dropHeld q k).free = s.free := rfl

/-! ### `dropAllHeld` -/

@[simp] theorem dropAllHeld_pending (s : State) (q : Requester) : (s.dropAllHeld q).pending = s.pending := rfl
@[simp] theorem dropAllHeld_regs (s : State) (q : Requester) : (s.dropAllHeld q).regs = s.regs := rfl
@[simp] theorem dropAllHeld_clk (s : State) (q : Requester) : (s.dropAllHeld q).clk = s.clk := rfl
@[simp] theorem dropAllHeld_pow (s : State) (q : Requester) : (s.dropAllHeld q).pow = s.pow := rfl
@[simp] theorem dropAllHeld_boot (s : State) (q : Requester) : (s.dropAllHeld q).boot = s.boot := rfl
@[simp] theorem dropAllHeld_nor (s : State) (q : Requester) : (s.dropAllHeld q).nor = s.nor := rfl
@[simp] theorem dropAllHeld_dbk (s : State) (q : Requester) : (s.dropAllHeld q).dbk = s.dbk := rfl
@[simp] theorem dropAllHeld_trust (s : State) (q : Requester) : (s.dropAllHeld q).trust = s.trust := rfl
@[simp] theorem dropAllHeld_procs (s : State) (q : Requester) : (s.dropAllHeld q).procs = s.procs := rfl
@[simp] theorem dropAllHeld_sess (s : State) (q : Requester) : (s.dropAllHeld q).sess = s.sess := rfl
@[simp] theorem dropAllHeld_accts (s : State) (q : Requester) : (s.dropAllHeld q).accts = s.accts := rfl
@[simp] theorem dropAllHeld_moves (s : State) (q : Requester) : (s.dropAllHeld q).moves = s.moves := rfl
@[simp] theorem dropAllHeld_wrt (s : State) (q : Requester) : (s.dropAllHeld q).wrt = s.wrt := rfl
@[simp] theorem dropAllHeld_cpu (s : State) (q : Requester) : (s.dropAllHeld q).cpu = s.cpu := rfl
@[simp] theorem dropAllHeld_mem (s : State) (q : Requester) : (s.dropAllHeld q).mem = s.mem := rfl
@[simp] theorem dropAllHeld_ms (s : State) (q : Requester) : (s.dropAllHeld q).ms = s.ms := rfl
@[simp] theorem dropAllHeld_train (s : State) (q : Requester) : (s.dropAllHeld q).train = s.train := rfl
@[simp] theorem dropAllHeld_fab (s : State) (q : Requester) : (s.dropAllHeld q).fab = s.fab := rfl
@[simp] theorem dropAllHeld_exq (s : State) (q : Requester) : (s.dropAllHeld q).exq = s.exq := rfl
@[simp] theorem dropAllHeld_asz (s : State) (q : Requester) : (s.dropAllHeld q).asz = s.asz := rfl
@[simp] theorem dropAllHeld_edge (s : State) (q : Requester) : (s.dropAllHeld q).edge = s.edge := rfl
@[simp] theorem dropAllHeld_free (s : State) (q : Requester) : (s.dropAllHeld q).free = s.free := rfl

/-! ### `setLatch` -/

@[simp] theorem setLatch_pending (s : State) (q : Requester) (k : Nat) (v : Option W32) : (s.setLatch q k v).pending = s.pending := rfl
@[simp] theorem setLatch_regs (s : State) (q : Requester) (k : Nat) (v : Option W32) : (s.setLatch q k v).regs = s.regs := rfl
@[simp] theorem setLatch_clk (s : State) (q : Requester) (k : Nat) (v : Option W32) : (s.setLatch q k v).clk = s.clk := rfl
@[simp] theorem setLatch_pow (s : State) (q : Requester) (k : Nat) (v : Option W32) : (s.setLatch q k v).pow = s.pow := rfl
@[simp] theorem setLatch_boot (s : State) (q : Requester) (k : Nat) (v : Option W32) : (s.setLatch q k v).boot = s.boot := rfl
@[simp] theorem setLatch_nor (s : State) (q : Requester) (k : Nat) (v : Option W32) : (s.setLatch q k v).nor = s.nor := rfl
@[simp] theorem setLatch_dbk (s : State) (q : Requester) (k : Nat) (v : Option W32) : (s.setLatch q k v).dbk = s.dbk := rfl
@[simp] theorem setLatch_trust (s : State) (q : Requester) (k : Nat) (v : Option W32) : (s.setLatch q k v).trust = s.trust := rfl
@[simp] theorem setLatch_procs (s : State) (q : Requester) (k : Nat) (v : Option W32) : (s.setLatch q k v).procs = s.procs := rfl
@[simp] theorem setLatch_sess (s : State) (q : Requester) (k : Nat) (v : Option W32) : (s.setLatch q k v).sess = s.sess := rfl
@[simp] theorem setLatch_accts (s : State) (q : Requester) (k : Nat) (v : Option W32) : (s.setLatch q k v).accts = s.accts := rfl
@[simp] theorem setLatch_moves (s : State) (q : Requester) (k : Nat) (v : Option W32) : (s.setLatch q k v).moves = s.moves := rfl
@[simp] theorem setLatch_wrt (s : State) (q : Requester) (k : Nat) (v : Option W32) : (s.setLatch q k v).wrt = s.wrt := rfl
@[simp] theorem setLatch_cpu (s : State) (q : Requester) (k : Nat) (v : Option W32) : (s.setLatch q k v).cpu = s.cpu := rfl
@[simp] theorem setLatch_mem (s : State) (q : Requester) (k : Nat) (v : Option W32) : (s.setLatch q k v).mem = s.mem := rfl
@[simp] theorem setLatch_ms (s : State) (q : Requester) (k : Nat) (v : Option W32) : (s.setLatch q k v).ms = s.ms := rfl
@[simp] theorem setLatch_train (s : State) (q : Requester) (k : Nat) (v : Option W32) : (s.setLatch q k v).train = s.train := rfl
@[simp] theorem setLatch_fab (s : State) (q : Requester) (k : Nat) (v : Option W32) : (s.setLatch q k v).fab = s.fab := rfl
@[simp] theorem setLatch_exq (s : State) (q : Requester) (k : Nat) (v : Option W32) : (s.setLatch q k v).exq = s.exq := rfl
@[simp] theorem setLatch_asz (s : State) (q : Requester) (k : Nat) (v : Option W32) : (s.setLatch q k v).asz = s.asz := rfl
@[simp] theorem setLatch_edge (s : State) (q : Requester) (k : Nat) (v : Option W32) : (s.setLatch q k v).edge = s.edge := rfl
@[simp] theorem setLatch_free (s : State) (q : Requester) (k : Nat) (v : Option W32) : (s.setLatch q k v).free = s.free := rfl

/-! ### `cmdHead` -/

@[simp] theorem cmdHead_pending (s : State) : s.cmdHead.pending = s.pending := rfl
@[simp] theorem cmdHead_bus (s : State) : s.cmdHead.bus = s.bus := rfl
@[simp] theorem cmdHead_clk (s : State) : s.cmdHead.clk = s.clk := rfl
@[simp] theorem cmdHead_pow (s : State) : s.cmdHead.pow = s.pow := rfl
@[simp] theorem cmdHead_boot (s : State) : s.cmdHead.boot = s.boot := rfl
@[simp] theorem cmdHead_nor (s : State) : s.cmdHead.nor = s.nor := rfl
@[simp] theorem cmdHead_dbk (s : State) : s.cmdHead.dbk = s.dbk := rfl
@[simp] theorem cmdHead_trust (s : State) : s.cmdHead.trust = s.trust := rfl
@[simp] theorem cmdHead_procs (s : State) : s.cmdHead.procs = s.procs := rfl
@[simp] theorem cmdHead_sess (s : State) : s.cmdHead.sess = s.sess := rfl
@[simp] theorem cmdHead_accts (s : State) : s.cmdHead.accts = s.accts := rfl
@[simp] theorem cmdHead_moves (s : State) : s.cmdHead.moves = s.moves := rfl
@[simp] theorem cmdHead_wrt (s : State) : s.cmdHead.wrt = s.wrt := rfl
@[simp] theorem cmdHead_cpu (s : State) : s.cmdHead.cpu = s.cpu := rfl
@[simp] theorem cmdHead_mem (s : State) : s.cmdHead.mem = s.mem := rfl
@[simp] theorem cmdHead_ms (s : State) : s.cmdHead.ms = s.ms := rfl
@[simp] theorem cmdHead_train (s : State) : s.cmdHead.train = s.train := rfl
@[simp] theorem cmdHead_fab (s : State) : s.cmdHead.fab = s.fab := rfl
@[simp] theorem cmdHead_exq (s : State) : s.cmdHead.exq = s.exq := rfl
@[simp] theorem cmdHead_asz (s : State) : s.cmdHead.asz = s.asz := rfl
@[simp] theorem cmdHead_edge (s : State) : s.cmdHead.edge = s.edge := rfl
@[simp] theorem cmdHead_free (s : State) : s.cmdHead.free = s.free := rfl

/-! ### `cmdEnd` -/

@[simp] theorem cmdEnd_pending (s : State) (i st r v : Nat) : (s.cmdEnd i st r v).pending = s.pending := by simp [State.cmdEnd]
@[simp] theorem cmdEnd_bus (s : State) (i st r v : Nat) : (s.cmdEnd i st r v).bus = s.bus := by simp [State.cmdEnd]
@[simp] theorem cmdEnd_clk (s : State) (i st r v : Nat) : (s.cmdEnd i st r v).clk = s.clk := by simp [State.cmdEnd]
@[simp] theorem cmdEnd_pow (s : State) (i st r v : Nat) : (s.cmdEnd i st r v).pow = s.pow := by simp [State.cmdEnd]
@[simp] theorem cmdEnd_boot (s : State) (i st r v : Nat) : (s.cmdEnd i st r v).boot = s.boot := by simp [State.cmdEnd]
@[simp] theorem cmdEnd_nor (s : State) (i st r v : Nat) : (s.cmdEnd i st r v).nor = s.nor := by simp [State.cmdEnd]
@[simp] theorem cmdEnd_dbk (s : State) (i st r v : Nat) : (s.cmdEnd i st r v).dbk = s.dbk := by simp [State.cmdEnd]
@[simp] theorem cmdEnd_trust (s : State) (i st r v : Nat) : (s.cmdEnd i st r v).trust = s.trust := by simp [State.cmdEnd]
@[simp] theorem cmdEnd_procs (s : State) (i st r v : Nat) : (s.cmdEnd i st r v).procs = s.procs := by simp [State.cmdEnd]
@[simp] theorem cmdEnd_accts (s : State) (i st r v : Nat) : (s.cmdEnd i st r v).accts = s.accts := by simp [State.cmdEnd]
@[simp] theorem cmdEnd_moves (s : State) (i st r v : Nat) : (s.cmdEnd i st r v).moves = s.moves := by simp [State.cmdEnd]
@[simp] theorem cmdEnd_wrt (s : State) (i st r v : Nat) : (s.cmdEnd i st r v).wrt = s.wrt := by simp [State.cmdEnd]
@[simp] theorem cmdEnd_cpu (s : State) (i st r v : Nat) : (s.cmdEnd i st r v).cpu = s.cpu := by simp [State.cmdEnd]
@[simp] theorem cmdEnd_ms (s : State) (i st r v : Nat) : (s.cmdEnd i st r v).ms = s.ms := by simp [State.cmdEnd]
@[simp] theorem cmdEnd_train (s : State) (i st r v : Nat) : (s.cmdEnd i st r v).train = s.train := by simp [State.cmdEnd]
@[simp] theorem cmdEnd_fab (s : State) (i st r v : Nat) : (s.cmdEnd i st r v).fab = s.fab := by simp [State.cmdEnd]
@[simp] theorem cmdEnd_exq (s : State) (i st r v : Nat) : (s.cmdEnd i st r v).exq = s.exq := by simp [State.cmdEnd]
@[simp] theorem cmdEnd_asz (s : State) (i st r v : Nat) : (s.cmdEnd i st r v).asz = s.asz := by simp [State.cmdEnd]
@[simp] theorem cmdEnd_edge (s : State) (i st r v : Nat) : (s.cmdEnd i st r v).edge = s.edge := by simp [State.cmdEnd]
@[simp] theorem cmdEnd_free (s : State) (i st r v : Nat) : (s.cmdEnd i st r v).free = s.free := by simp [State.cmdEnd]

end Sys2Proof.Machine
end

