-- ==== Sys2Proof/Laws/Register.lean ====
section
/-! SUPPORT. The laws of register fields (R13 to R18): what a field reads after it, another field or another register was
set. -/

namespace Sys2Proof.Machine

/-- A field's place in its register is sound. -/
def Field.ok (f : Field) : Bool := decide (f.lo ≤ f.hi ∧ f.hi < 64)

/-- A number cut at a field: what is above, the field, what is below. -/
theorem cut_field (N lo n : Nat) :
    N = N / 2 ^ (lo + n) * 2 ^ (lo + n) + N / 2 ^ lo % 2 ^ n * 2 ^ lo + N % 2 ^ lo := by
  have h1 := Nat.div_add_mod N (2 ^ lo)
  have h2 := Nat.div_add_mod (N / 2 ^ lo) (2 ^ n)
  rw [Nat.div_div_eq_div_mul, ← Nat.pow_add] at h2
  calc N = 2 ^ lo * (N / 2 ^ lo) + N % 2 ^ lo := h1.symm
    _ = 2 ^ lo * (2 ^ n * (N / 2 ^ (lo + n)) + N / 2 ^ lo % 2 ^ n) + N % 2 ^ lo := by rw [h2]
    _ = _ := by rw [Nat.pow_add]; ring

theorem cut_bits (H v L lo n : Nat) (hL : L < 2 ^ lo) (hv : v < 2 ^ n) :
    (H * 2 ^ (lo + n) + v * 2 ^ lo + L) / 2 ^ lo % 2 ^ n = v := by
  have hp : 0 < 2 ^ lo := Nat.two_pow_pos lo
  have : H * 2 ^ (lo + n) + v * 2 ^ lo + L = L + 2 ^ lo * (H * 2 ^ n + v) := by rw [Nat.pow_add]; ring
  rw [this, Nat.add_mul_div_left _ _ hp, Nat.div_eq_of_lt hL, Nat.zero_add, Nat.mul_comm, Nat.mul_add_mod,
    Nat.mod_eq_of_lt hv]

theorem putField_toNat (w : W64) (f : Field) (v : Nat) (h : f.ok = true) :
    (putField w f v).toNat = w.toNat / 2 ^ (f.hi + 1) * 2 ^ (f.hi + 1) + v % 2 ^ (f.hi + 1 - f.lo) * 2 ^ f.lo +
      w.toNat % 2 ^ f.lo := by
  simp only [Field.ok, decide_eq_true_eq] at h
  obtain ⟨h1, h2⟩ := h
  have hn : f.lo + (f.hi + 1 - f.lo) = f.hi + 1 := by omega
  have hc := cut_field w.toNat f.lo (f.hi + 1 - f.lo)
  rw [hn] at hc
  simp only [putField, bits, BitVec.toNat_ofNat]
  have hv : v % 2 ^ (f.hi + 1 - f.lo) < 2 ^ (f.hi + 1 - f.lo) := Nat.mod_lt _ (Nat.two_pow_pos _)
  have hL : w.toNat % 2 ^ f.lo < 2 ^ f.lo := Nat.mod_lt _ (Nat.two_pow_pos _)
  have hm : v % 2 ^ (f.hi + 1 - f.lo) * 2 ^ f.lo + w.toNat % 2 ^ f.lo < 2 ^ (f.hi + 1) := by
    calc _ < v % 2 ^ (f.hi + 1 - f.lo) * 2 ^ f.lo + 2 ^ f.lo := by omega
      _ = (v % 2 ^ (f.hi + 1 - f.lo) + 1) * 2 ^ f.lo := by ring
      _ ≤ 2 ^ (f.hi + 1 - f.lo) * 2 ^ f.lo := Nat.mul_le_mul_right _ hv
      _ = 2 ^ (f.hi + 1) := by rw [← Nat.pow_add]; congr 1; omega
  have hH : w.toNat / 2 ^ (f.hi + 1) < 2 ^ (63 - f.hi) := by
    rw [Nat.div_lt_iff_lt_mul (Nat.two_pow_pos _), ← Nat.pow_add]
    have : 63 - f.hi + (f.hi + 1) = 64 := by omega
    rw [this]; exact w.isLt
  have hlt : w.toNat / 2 ^ (f.hi + 1) * 2 ^ (f.hi + 1) + v % 2 ^ (f.hi + 1 - f.lo) * 2 ^ f.lo + w.toNat % 2 ^ f.lo < 2 ^ 64 := by
    calc _ < w.toNat / 2 ^ (f.hi + 1) * 2 ^ (f.hi + 1) + 2 ^ (f.hi + 1) := by omega
      _ = (w.toNat / 2 ^ (f.hi + 1) + 1) * 2 ^ (f.hi + 1) := by ring
      _ ≤ 2 ^ (63 - f.hi) * 2 ^ (f.hi + 1) := Nat.mul_le_mul_right _ hH
      _ = 2 ^ 64 := by rw [← Nat.pow_add]; congr 1; omega
  have he : w.toNat - w.toNat / 2 ^ f.lo % 2 ^ (f.hi + 1 - f.lo) * 2 ^ f.lo + v % 2 ^ (f.hi + 1 - f.lo) * 2 ^ f.lo =
      w.toNat / 2 ^ (f.hi + 1) * 2 ^ (f.hi + 1) + v % 2 ^ (f.hi + 1 - f.lo) * 2 ^ f.lo + w.toNat % 2 ^ f.lo := by omega
  rw [he, Nat.mod_eq_of_lt hlt]

/-- A field reads what was put in it, cut to its width. -/
theorem bits_putField_same (w : W64) (f : Field) (v : Nat) (h : f.ok = true) :
    bits (putField w f v).toNat f.hi f.lo = v % 2 ^ (f.hi + 1 - f.lo) := by
  rw [putField_toNat w f v h]
  simp only [Field.ok, decide_eq_true_eq] at h
  have hn : f.hi + 1 = f.lo + (f.hi + 1 - f.lo) := by omega
  simp only [bits]
  have := cut_bits (w.toNat / 2 ^ (f.hi + 1)) (v % 2 ^ (f.hi + 1 - f.lo)) (w.toNat % 2 ^ f.lo) f.lo (f.hi + 1 - f.lo)
    (Nat.mod_lt _ (Nat.two_pow_pos _)) (Nat.mod_lt _ (Nat.two_pow_pos _))
  rw [← hn] at this; exact this

/-- A field below or above keeps its bits. -/
theorem bits_putField_other (w : W64) (f g : Field) (v : Nat) (h : f.ok = true) (hg : g.hi < f.lo ∨ f.hi < g.lo)
    (hg' : g.lo ≤ g.hi) : bits (putField w f v).toNat g.hi g.lo = bits w.toNat g.hi g.lo := by
  rw [putField_toNat w f v h]
  simp only [Field.ok, decide_eq_true_eq] at h
  have hv : v % 2 ^ (f.hi + 1 - f.lo) < 2 ^ (f.hi + 1 - f.lo) := Nat.mod_lt _ (Nat.two_pow_pos _)
  have hL : w.toNat % 2 ^ f.lo < 2 ^ f.lo := Nat.mod_lt _ (Nat.two_pow_pos _)
  have hn : f.hi + 1 = f.lo + (f.hi + 1 - f.lo) := by omega
  simp only [bits]
  rcases hg with hg | hg
  · have key : ∀ N : Nat, N / 2 ^ g.lo % 2 ^ (g.hi + 1 - g.lo) = N % 2 ^ f.lo / 2 ^ g.lo % 2 ^ (g.hi + 1 - g.lo) := by
      intro N
      have e : f.lo = g.lo + (f.lo - g.lo) := by omega
      rw [e, Nat.pow_add, Nat.mod_mul_right_div_self, Nat.mod_mod_of_dvd _ (Nat.pow_dvd_pow 2 (by omega))]
    rw [key, key w.toNat]
    congr 2
    have : w.toNat / 2 ^ (f.hi + 1) * 2 ^ (f.hi + 1) + v % 2 ^ (f.hi + 1 - f.lo) * 2 ^ f.lo + w.toNat % 2 ^ f.lo =
        w.toNat % 2 ^ f.lo + 2 ^ f.lo * (w.toNat / 2 ^ (f.hi + 1) * 2 ^ (f.hi + 1 - f.lo) + v % 2 ^ (f.hi + 1 - f.lo)) := by
      conv_lhs => rw [show (2 : Nat) ^ (f.hi + 1) = 2 ^ f.lo * 2 ^ (f.hi + 1 - f.lo) by rw [← Nat.pow_add]; congr 1]
      rw [show (2 : Nat) ^ f.lo * 2 ^ (f.hi + 1 - f.lo) = 2 ^ (f.hi + 1) by rw [← Nat.pow_add]; congr 1; omega]
      conv_lhs => rw [show w.toNat / 2 ^ (f.hi + 1) * 2 ^ (f.hi + 1) = w.toNat / 2 ^ (f.hi + 1) * (2 ^ f.lo * 2 ^ (f.hi + 1 - f.lo)) by rw [← Nat.pow_add]; congr 2]
      ring
    rw [this, Nat.add_mul_mod_self_left, Nat.mod_mod]
  · have key : ∀ N : Nat, N / 2 ^ g.lo = N / 2 ^ (f.hi + 1) / 2 ^ (g.lo - (f.hi + 1)) := by
      intro N
      rw [Nat.div_div_eq_div_mul, ← Nat.pow_add]; congr 2; omega
    rw [key, key w.toNat]
    congr 2
    have hm : v % 2 ^ (f.hi + 1 - f.lo) * 2 ^ f.lo + w.toNat % 2 ^ f.lo < 2 ^ (f.hi + 1) := by
      calc _ < v % 2 ^ (f.hi + 1 - f.lo) * 2 ^ f.lo + 2 ^ f.lo := by omega
        _ = (v % 2 ^ (f.hi + 1 - f.lo) + 1) * 2 ^ f.lo := by ring
        _ ≤ 2 ^ (f.hi + 1 - f.lo) * 2 ^ f.lo := Nat.mul_le_mul_right _ hv
        _ = 2 ^ (f.hi + 1) := by rw [← Nat.pow_add]; congr 1; omega
    rw [Nat.add_assoc, Nat.add_comm, Nat.add_mul_div_right _ _ (Nat.two_pow_pos _), Nat.div_eq_of_lt hm, Nat.zero_add]

/-! ### Registers of the state -/

@[simp] theorem reg_setReg_same (s : State) (k : Nat) (v : W64) : (s.setReg k v).reg k = v := by
  simp [State.reg, State.setReg]

theorem reg_setReg_ne (s : State) {k j : Nat} (v : W64) (h : j ≠ k) : (s.setReg k v).reg j = s.reg j := by
  simp [State.reg, State.setReg, mget_mset_ne _ _ _ v h]

/-- A field reads what it was set to. -/
theorem rd_st_same (s : State) (f : Field) (v i x : Nat) (h : f.ok = true) :
    (s.st f v i x).rd f i x = v % 2 ^ (f.hi + 1 - f.lo) := by
  simp [State.rd, State.st, bits_putField_same _ _ _ h]

/-- Setting a field leaves the other fields of its register. -/
theorem rd_st_other (s : State) (f g : Field) (v i x : Nat) (h : f.ok = true) (hk : g.key = f.key)
    (hg : g.hi < f.lo ∨ f.hi < g.lo) (hg' : g.lo ≤ g.hi) : (s.st f v i x).rd g i x = s.rd g i x := by
  simp [State.rd, State.st, hk, bits_putField_other _ _ _ _ h hg hg']

/-- Setting a field leaves every other register element. -/
theorem rd_st_ne (s : State) (f g : Field) (v i x j y : Nat) (h : regKey g.key j y ≠ regKey f.key i x) :
    (s.st f v i x).rd g j y = s.rd g j y := by
  simp [State.rd, State.st, reg_setReg_ne _ _ h]

end Sys2Proof.Machine
end

