-- ==== Sys2Proof/Laws/Recorder.lean ====
section
/-! SUPPORT. What writing a record and writing registers can change: `RegsBut` of each operation, and that the recorder's
answer to a record rests on the recorder, the clock and the power count alone. -/

namespace Sys2Proof.Machine

variable {s t u : State}

/-! ### `RegsBut` -/

theorem RegsBut.refl (s : State) (l : List Nat) : RegsBut s s l := fun _ _ => rfl

theorem RegsBut.mono {l m : List Nat} (h : RegsBut s t l) (hl : ∀ k, k ∈ l → k ∈ m) : RegsBut s t m :=
  fun k hk => h k (fun hk' => hk (hl k hk'))

theorem RegsBut.trans {l m : List Nat} (h : RegsBut s t l) (h' : RegsBut t u m) : RegsBut s u (l ++ m) := fun k hk => by
  simp only [List.mem_append, not_or] at hk
  rw [h' k hk.2, h k hk.1]

/-- Two steps within one set of registers. -/
theorem RegsBut.step {l : List Nat} (h : RegsBut s t l) (h' : RegsBut t u l) : RegsBut s u l := fun k hk => by
  rw [h' k hk, h k hk]

theorem RegsBut.of_regs {l : List Nat} (h : t.regs = s.regs) : RegsBut s t l := fun k _ => by simp [State.reg, h]

theorem RegsBut.congr {l : List Nat} (h : RegsBut s t l) (ht : u.regs = t.regs) : RegsBut s u l :=
  fun k hk => by rw [← h k hk]; simp [State.reg, ht]

theorem RegsBut.congr_left {l : List Nat} (h : RegsBut s t l) (hs : u.regs = s.regs) : RegsBut u t l :=
  fun k hk => by rw [h k hk]; simp [State.reg, hs]

/-- A register outside the set reads as before. -/
theorem RegsBut.rd {l : List Nat} (h : RegsBut s t l) (f : Field) (i x : Nat) (hk : regKey f.key i x ∉ l) :
    t.rd f i x = s.rd f i x := by
  simp only [State.rd, h _ hk]

theorem regsBut_setReg (s : State) (k : Nat) (v : W64) {l : List Nat} (hk : k ∈ l) : RegsBut s (s.setReg k v) l :=
  fun _ hj => reg_setReg_ne s v (fun e => hj (e ▸ hk))

theorem regsBut_st (s : State) (f : Field) (v i x : Nat) {l : List Nat} (hk : regKey f.key i x ∈ l) :
    RegsBut s (s.st f v i x) l := regsBut_setReg s _ _ hk

theorem regsBut_inc (s : State) (f : Field) (n i x : Nat) {l : List Nat} (hk : regKey f.key i x ∈ l) :
    RegsBut s (s.inc f n i x) l := regsBut_st s f _ i x hk

/-! ### Records -/

theorem submit_regs (c : BitVec 16) (p0 p1 p2 : W32) (p3 : BitVec 28) :
    RegsBut s (s.submit c p0 p1 p2 p3).2 dbkKeys := by
  simp only [State.submit]
  split
  · exact RegsBut.of_regs rfl
  · exact (regsBut_inc _ _ _ _ _ (by decide)).congr_left rfl

theorem stage_regs (r : DbkRec) : RegsBut s (s.stage r) dbkKeys := by
  simp only [State.stage]
  split
  · exact RegsBut.of_regs rfl
  · refine (regsBut_inc _ _ _ _ _ ?_).congr_left rfl
    have : ∀ v : BitVec 2, regKey F.DBK_LOSS_COUNT.key 0 v.toNat ∈ dbkKeys := by decide
    exact this _

theorem recordOpen_regs (c : BitVec 16) (p0 p1 p2 : W32) (p3 : BitVec 28) :
    RegsBut s (s.recordOpen c p0 p1 p2 p3) dbkKeys := by
  have h := submit_regs (s := s) c p0 p1 p2 p3
  simp only [State.recordOpen]
  split <;> rename_i e <;> rw [e] at h
  · exact h.step (stage_regs _)
  · exact h

theorem stages_regs (l : List DbkRec) (s : State) : RegsBut s (l.foldl (fun s r => s.stage r) s) dbkKeys := by
  induction l generalizing s with
  | nil => exact RegsBut.refl _ _
  | cons r l ih => exact (stage_regs r).step (ih _)

theorem setDbk_regsBut (d : Dbk) {l : List Nat} : RegsBut s (s.setDbk d) l := RegsBut.of_regs rfl

theorem thaw_regs (w : Nat) : RegsBut s (s.thaw w) dbkKeys :=
  ((setDbk_regsBut _).step (regsBut_st _ _ _ _ _ (by decide))).step (stages_regs _ _)

theorem endFreeze_regs (w : Nat) : RegsBut s (s.endFreeze w) dbkKeys := by
  simp only [State.endFreeze]
  split
  · exact RegsBut.refl _ _
  · split
    · exact thaw_regs w
    · exact ((thaw_regs w).step (setDbk_regsBut _)).step (recordOpen_regs _ _ _ _ _)

theorem recordIn_regs (r : DbkRec) : RegsBut s (s.recordIn r) dbkKeys := by
  simp only [State.recordIn]
  split
  · exact stage_regs r
  · split
    · exact ((endFreeze_regs 3).step (stage_regs r)).step (recordOpen_regs _ _ _ _ _)
    · split
      · exact RegsBut.of_regs rfl
      · exact (regsBut_inc _ _ _ _ _ (by decide)).congr_left rfl

theorem record_regs (c : BitVec 16) (p0 p1 p2 : W32) (p3 : BitVec 28) :
    RegsBut s (s.record c p0 p1 p2 p3) dbkKeys := by
  have h := submit_regs (s := s) c p0 p1 p2 p3
  simp only [State.record]
  split <;> rename_i e <;> rw [e] at h
  · exact h.step (recordIn_regs _)
  · exact h

/-- A record changes no register but the recorder's own. -/
theorem note_regs (c p0 p1 p2 : Nat) : RegsBut s (s.note c p0 p1 p2) dbkKeys := record_regs _ _ _ _ _

/-! ### The recorder's answer rests on the recorder, the clock and the power count -/

/-- What a record's fate rests on. -/
def SameRec (s t : State) : Prop :=
  s.dbk = t.dbk ∧ (s.clk.now = t.clk.now ∧ s.clk.opsec = t.clk.opsec ∧ s.clk.frac = t.clk.frac) ∧
    s.nor.power = t.nor.power

theorem stage_dbk (r : DbkRec) (h : s.dbk = t.dbk) : (s.stage r).dbk = (t.stage r).dbk := by
  simp only [State.stage, ← h, setDbk_dbk]
  cases enter 4096 s.dbk.staging (r.seal s.dbk.seqNext) <;> simp

theorem submit_dbk (c : BitVec 16) (p0 p1 p2 : W32) (p3 : BitVec 28) (h : SameRec s t) :
    (s.submit c p0 p1 p2 p3).1 = (t.submit c p0 p1 p2 p3).1 ∧
      SameRec (s.submit c p0 p1 p2 p3).2 (t.submit c p0 p1 p2 p3).2 := by
  obtain ⟨h1, h2, h3⟩ := h
  have hw : s.floodWin c = t.floodWin c := by simp only [State.floodWin, h1, h2.1]
  have hn : ∀ n, s.newRec c p0 p1 p2 p3 n = t.newRec c p0 p1 p2 p3 n := fun n => by simp only [State.newRec, h2.2, h3]
  simp only [State.submit, hw]
  split
  · exact ⟨by simp only [hn], by simp [SameRec, State.setWin, h1, h2, h3]⟩
  · exact ⟨rfl, by simp [SameRec, State.setWin, h1, h2, h3]⟩

theorem recordOpen_dbk (c : BitVec 16) (p0 p1 p2 : W32) (p3 : BitVec 28) (h : SameRec s t) :
    (s.recordOpen c p0 p1 p2 p3).dbk = (t.recordOpen c p0 p1 p2 p3).dbk := by
  obtain ⟨h1, h2⟩ := submit_dbk c p0 p1 p2 p3 h
  simp only [State.recordOpen]
  split <;> rename_i e1 <;> split <;> rename_i e2 <;> rw [e1, e2] at h1 h2
  · obtain rfl := Option.some.inj h1; exact stage_dbk _ h2.1
  · simp at h1
  · simp at h1
  · exact h2.1

theorem stages_dbk (l : List DbkRec) (s t : State) (h : SameRec s t) :
    SameRec (l.foldl (fun s r => s.stage r) s) (l.foldl (fun s r => s.stage r) t) := by
  induction l generalizing s t with
  | nil => exact h
  | cons r l ih => exact ih _ _ ⟨stage_dbk r h.1, by simp [h.2.1], by simp [h.2.2]⟩

theorem SameRec.setDbk (h : SameRec s t) {d e : Dbk} (hd : d = e) : SameRec (s.setDbk d) (t.setDbk e) :=
  ⟨hd, h.2.1, h.2.2⟩

theorem thaw_dbk (w : Nat) (h : SameRec s t) : SameRec (s.thaw w) (t.thaw w) := by
  simp only [State.thaw, ← h.1]
  exact stages_dbk _ _ _ ⟨rfl, h.2.1, h.2.2⟩

theorem endFreeze_dbk (w : Nat) (h : SameRec s t) : (s.endFreeze w).dbk = (t.endFreeze w).dbk := by
  have k := thaw_dbk w h
  simp only [State.endFreeze, ← h.1, ← h.2.1.1]
  split
  · exact h.1
  · split
    · exact k.1
    · exact recordOpen_dbk _ _ _ _ _ (k.setDbk (by rw [k.1]))

theorem recordIn_dbk (r : DbkRec) (h : SameRec s t) : (s.recordIn r).dbk = (t.recordIn r).dbk := by
  simp only [State.recordIn, ← h.1]
  split
  · exact stage_dbk r h.1
  · split
    · refine recordOpen_dbk _ _ _ _ _ ⟨stage_dbk r (endFreeze_dbk 3 h), by simp [h.2.1], by simp [h.2.2]⟩
    · split <;> simp

/-- The recorder after a record. -/
theorem note_dbk (c p0 p1 p2 : Nat) (h : SameRec s t) : (s.note c p0 p1 p2).dbk = (t.note c p0 p1 p2).dbk := by
  obtain ⟨h1, h2⟩ := submit_dbk (BitVec.ofNat 16 c) (BitVec.ofNat 32 p0) (BitVec.ofNat 32 p1) (BitVec.ofNat 32 p2) 0 h
  simp only [State.note, State.record]
  split <;> rename_i e1 <;> split <;> rename_i e2 <;> rw [e1, e2] at h1 h2
  · obtain rfl := Option.some.inj h1; exact recordIn_dbk _ h2
  · simp at h1
  · simp at h1
  · exact h2.1

/-- Registers written within a set, then a record, as one step. -/
theorem oneRecord_of {keys : List Nat} {c p0 p1 p2 : Nat} (h : OnlyRegs s t keys) :
    OneRecord s (t.note c p0 p1 p2) keys c p0 p1 p2 := by
  have hd : t.dbk = s.dbk := by rw [h.1]
  have hc : t.clk = s.clk := by rw [h.1]
  have hn : t.nor = s.nor := by rw [h.1]
  refine ⟨?_, (h.2.mono (by simp +contextual)).step ((note_regs c p0 p1 p2).mono (by simp +contextual)), ?_⟩
  · rw [h.1]; exact frame_regs_dbk
  · exact note_dbk c p0 p1 p2 ⟨hd, by rw [hc]; exact ⟨rfl, rfl, rfl⟩, by rw [hn]⟩

theorem onlyRegs_refl (s : State) (l : List Nat) : OnlyRegs s s l := ⟨rfl, RegsBut.refl _ _⟩

theorem OnlyRegs.st {keys : List Nat} (h : OnlyRegs s t keys) (f : Field) (v i x : Nat) (hk : regKey f.key i x ∈ keys) :
    OnlyRegs s (t.st f v i x) keys :=
  ⟨by rw [h.1]; rfl, h.2.step (regsBut_st t f v i x hk)⟩

end Sys2Proof.Machine
end

