-- ==== Sys2Proof/Laws/Sequencer.lean ====
section
/-! SUPPORT. What the shared operations of the sequencer do: the gate of an instruction, a scalar result, a jump, a wait, a
fault of the core. -/

namespace Sys2Proof.Machine

variable {s : State} {c : Nat}

/-- A ready sequencer runs the instruction's effect. -/
theorem instr_ready (h : SeqReady s c) (f : State → State) : s.instr c f = f s := by
  obtain ⟨h1, h2, h3⟩ := h
  simp [State.instr, h1, h2, h3]

/-- An instruction of a ready sequencer answers a next state: its effect. -/
theorem instr_completes {f : State → State} {P : State → Prop} (h : SeqReady s c) (hp : P (f s)) :
    ∃ t, (Host.Outcome.next (s.instr c f) : Res) = .next t ∧ P t := ⟨_, by rw [instr_ready h], hp⟩

theorem seqRuns_iff : s.seqRuns c = true ↔
    ((s.running = true ∧ (s.seqState c = 1 ∨ s.seqState c = 2 ∧ (s.core c).wait ≠ .unit)) ∧ (s.core c).fault = none) ∧
      (s.core c).held = false := by
  simp [State.seqRuns]

theorem SeqReady.fault (h : SeqReady s c) : (s.core c).fault = none := (seqRuns_iff.mp h.1).1.2

/-! ### Cores -/

@[simp] theorem core_setCore_same (v : Core) : (s.setCore c v).core c = v := by simp [State.core, State.setCore]

theorem core_setCore_ne {d : Nat} (v : Core) (h : d ≠ c) : (s.setCore c v).core d = s.core d := by
  simp [State.core, State.setCore, mget_mset_ne _ _ _ v h]

theorem core_of_cpu {s t : State} (h : t.cpu = s.cpu) (d : Nat) : t.core d = s.core d := by simp [State.core, h]

/-! ### SEQ_STATE -/

theorem seqState_st (v : Nat) (hv : v < 8) : (s.setSeqState c v).seqState c = v := by
  have h := rd_st_same s F.SEQ_STATE_STATE v (c / 64) (c % 64) (by decide)
  simp only [State.seqState, State.setSeqState]
  rw [h]
  exact Nat.mod_eq_of_lt (by simpa [F.SEQ_STATE_STATE] using hv)

theorem regs_setSeqState (v : Nat) : RegsBut s (s.setSeqState c v) [seqKey c] := by
  intro k hk
  simp only [List.mem_singleton] at hk
  exact reg_setReg_ne s _ hk

theorem reg_of_regs {s t : State} (h : t.regs = s.regs) (k : Nat) : t.reg k = s.reg k := by simp [State.reg, h]

/-! ### Scalar registers -/

theorem sreg_setSreg (rd : BitVec 5) (v : W64) (d : Nat) (r : BitVec 5) :
    (s.setSreg c rd v).sreg d r = if d = c ∧ r = rd ∧ rd ≠ 0 then v else s.sreg d r := by
  by_cases hrd : rd = 0
  · simp [State.setSreg, hrd]
  · by_cases hr : r = 0
    · simp only [State.sreg, hr, if_true]
      rw [if_neg]
      rintro ⟨-, h, h'⟩
      exact h' h.symm
    · by_cases h : d = c ∧ r = rd
      · obtain ⟨rfl, rfl⟩ := h
        simp only [State.sreg, State.setSreg, mget_mset_same, ne_eq, hr, not_false_iff, and_self, if_true,
          if_false]
      · have hk : d * 32 + r.toNat ≠ c * 32 + rd.toNat := by
          intro e
          apply h
          have h1 := r.isLt
          have h2 := rd.isLt
          refine ⟨by omega, BitVec.eq_of_toNat_eq (by omega)⟩
        have : ¬ (d = c ∧ r = rd ∧ rd ≠ 0) := fun e => h ⟨e.1, e.2.1⟩
        simp only [this, if_false, State.sreg, State.setSreg, hr, hrd]
        exact mget_mset_ne _ _ _ v hk

theorem sreg_of_sregs {s t : State} (h : t.cpu.sregs = s.cpu.sregs) (d : Nat) (r : BitVec 5) : t.sreg d r = s.sreg d r := by
  simp [State.sreg, h]

/-! ### What an instruction does -/

@[simp] theorem setSreg_csrs (rd : BitVec 5) (v : W64) : (s.setSreg c rd v).cpu.csrs = s.cpu.csrs := by
  simp only [State.setSreg]; split <;> rfl
@[simp] theorem setSreg_cores (rd : BitVec 5) (v : W64) : (s.setSreg c rd v).cpu.cores = s.cpu.cores := by
  simp only [State.setSreg]; split <;> rfl
@[simp] theorem setSreg_vregs (rd : BitVec 5) (v : W64) : (s.setSreg c rd v).cpu.vregs = s.cpu.vregs := by
  simp only [State.setSreg]; split <;> rfl
@[simp] theorem setSreg_mregs (rd : BitVec 5) (v : W64) : (s.setSreg c rd v).cpu.mregs = s.cpu.mregs := by
  simp only [State.setSreg]; split <;> rfl
@[simp] theorem setSreg_engines (rd : BitVec 5) (v : W64) : (s.setSreg c rd v).cpu.engines = s.cpu.engines := by
  simp only [State.setSreg]; split <;> rfl
@[simp] theorem setSreg_loaders (rd : BitVec 5) (v : W64) : (s.setSreg c rd v).cpu.loaders = s.cpu.loaders := by
  simp only [State.setSreg]; split <;> rfl

@[simp] theorem core_setSreg (rd : BitVec 5) (v : W64) (d : Nat) : (s.setSreg c rd v).core d = s.core d := by
  simp only [State.setSreg]; split <;> rfl

/-- A jump that writes a scalar register first. -/
theorem jump_spec (rd : BitVec 5) (v pc : W64) : SeqWrites s ((s.setSreg c rd v).jump c pc) c rd v pc := by
  refine ⟨?_, ⟨?_, ?_⟩, ?_, ?_, ?_⟩
  · apply State.ext <;> (try simp)
    apply Compute.ext <;> simp [State.jump, State.setPc, State.setCore]
  · intro d hd
    rw [State.jump, core_of_cpu (setSeqState_cpu _ _ _), State.setPc, core_setCore_ne _ hd, core_setSreg]
  · intro k hk
    rw [State.jump, regs_setSeqState (s := (s.setSreg c rd v).setPc c pc) 1 k hk]
    exact reg_of_regs (by simp) k
  · rw [State.jump, core_of_cpu (setSeqState_cpu _ _ _), State.setPc, core_setCore_same, core_setSreg, setSreg_clk]
  · exact seqState_st 1 (by decide)
  · intro d r
    rw [← sreg_setSreg rd v d r]
    exact sreg_of_sregs (by simp [State.jump, State.setPc, State.setCore]) d r

theorem scalarOp_eq (rd : BitVec 5) (v : W64) : s.scalarOp c rd v = (s.setSreg c rd v).jump c (s.pc c + 4) := by
  simp [State.scalarOp, State.retire, State.jump, State.pc]

/-- A scalar result: rd, the PC moved on by 4. -/
theorem scalarOp_spec (rd : BitVec 5) (v : W64) : SeqWrites s (s.scalarOp c rd v) c rd v (s.pc c + 4) := by
  rw [scalarOp_eq]; exact jump_spec rd v _

theorem setSreg_zero (v : W64) : s.setSreg c 0 v = s := by simp [State.setSreg]

/-- A jump without a link. -/
theorem jump_only_spec (pc : W64) : SeqWrites s (s.jump c pc) c 0 0 pc := by
  have := jump_spec (s := s) (c := c) 0 0 pc
  rwa [setSreg_zero] at this

theorem retire_spec : SeqWrites s (s.retire c) c 0 0 (s.pc c + 4) := by
  have := jump_only_spec (s := s) (c := c) (s.pc c + 4)
  exact this

theorem waitSeq_spec {w : SeqWait} (hw : w ≠ .unit) : SeqWaits s (s.waitSeq c w) c := by
  refine ⟨?_, ⟨?_, regs_setSeqState (s := s.setCore c { s.core c with wait := w }) 2⟩, ⟨w, hw, ?_⟩,
    seqState_st 2 (by decide)⟩
  · simp [State.waitSeq, State.setSeqState, State.st, State.setReg, State.setCore]
  · intro d hd
    rw [State.waitSeq, core_of_cpu (setSeqState_cpu _ _ _), core_setCore_ne _ hd]
  · rw [State.waitSeq, core_of_cpu (setSeqState_cpu _ _ _), core_setCore_same]

theorem programFault_eq (k : Nat) : s.programFault c k =
    ((s.seqErr c 3).note 0x2303 c (s.pc c).toNat k).stopCore c (if k = 4 then 0x20 else 0x04) := by
  simp only [State.programFault]

theorem stopCore_eq (v : Nat) : s.stopCore c v =
    (s.setCore c { s.core c with fault := some (firstStatus ((s.core c).fault.toList ++ [v])) }).setSeqState c 3 := by
  simp only [State.stopCore]

/-- A fault of the core with a status of a running batch that had none. -/
theorem programFault_spec (h : (s.core c).fault = none) (k : Nat) :
    SeqFaults s (s.programFault c k) c (if k = 4 then 0x20 else 0x04) := by
  have hc : ((s.seqErr c 3).note 0x2303 c (s.pc c).toNat k).cpu = s.cpu := by simp
  refine ⟨?_, ?_, ?_, ?_⟩
  · have hcpu : (s.programFault c k).cpu = { s.cpu with cores := (s.programFault c k).cpu.cores } := by
      rw [programFault_eq, stopCore_eq]; simp [State.setCore]
    have hf := frame_regs_dbk_cpu (s := s) (t := s.programFault c k)
    rw [hcpu] at hf
    exact hf
  · intro d hd
    rw [programFault_eq, stopCore_eq, core_of_cpu (setSeqState_cpu _ _ _), core_setCore_ne _ hd, core_of_cpu hc]
  · rw [programFault_eq, stopCore_eq, core_of_cpu (setSeqState_cpu _ _ _), core_setCore_same, core_of_cpu hc, h]
    split <;> rfl
  · rw [programFault_eq, stopCore_eq]; exact seqState_st 3 (by decide)

end Sys2Proof.Machine
end

