-- ==== Sys2Proof/Tests/Slice0.lean ====
section
/-! SUPPORT. Tests: ill-formed commands that WellFormed refuses, words of the sequencer written out from R182 to R224, the
addresses of R571, results worked from the spec by hand, and for each statement a state and operands that meet its
hypotheses. -/

namespace Sys2Proof.Tests

set_option Elab.async false

open Sys2Proof Sys2Proof.Machine

/-! ### Well-formed commands -/

/-- A signature block of the sizes of R488 and R489. -/
def noSig : Sig := ⟨.rsa, [], []⟩
def sig : SigBlock := ⟨List.replicate 128 0#8, List.replicate 512 0#8, [], noSig, noSig, noSig, noSig⟩

/-- Two signatures of a token, over nothing. -/
def tokSigs : TokenSigs := ⟨⟨.rsa, List.replicate 384 0#8, []⟩, ⟨.slhS, List.replicate 48 0#8, []⟩⟩

/-- What a start meets, all in order. -/
def env : StartEnv where
  readyMs := 1000
  pufOk := true
  loader := sig
  os := sig
  osRuns := true
  images := List.replicate 17 sig
  lomefImages := List.replicate 8 sig
  driverVersion := 0
  driverWords := [0, 0, 0, 0]
  notRaised := []
  portsUp := 0xFFFF
  lomefUp := 0xFF
  badHmac := []
  rpmbRefuse := []
  dumpCut := false

theorem test_wf_good : (Instr.powerGood env).wf = true ∧ (Instr.warmReset env).wf = true ∧ (Instr.imageLoad 3 sig).wf = true ∧
    (Instr.charterUpdate ⟨true, [], sig⟩).wf = true ∧ Instr.recordPersist.wf = true := by decide +kernel

theorem test_wf_register_width : (Instr.registerWrite .bootRom 0 2 0).wf = false := by decide

theorem test_wf_wrong_size_width : (Instr.wrongSizeAccess .bootRom 0 3 true).wf = false ∧
    (Instr.unassignedRangeAccess .bootRom 0 32 false).wf = false := by decide

theorem test_wf_signature_header :
    (Instr.imageLoad 0 { sig with hdr := List.replicate 127 0#8 }).wf = false ∧
    (Instr.fwUpdate 0 { sig with cert := List.replicate 513 0#8 }).wf = false := by decide +kernel

theorem test_wf_charter : (Instr.charterUpdate ⟨true, [], { sig with hdr := [] }⟩).wf = false := by decide +kernel

theorem test_wf_start_images :
    (Instr.powerGood { env with images := List.replicate 16 sig }).wf = false ∧
    (Instr.powerGood { env with images := List.replicate 17 { sig with hdr := [] } }).wf = false ∧
    (Instr.powerGood { env with lomefImages := List.replicate 9 sig }).wf = false ∧
    (Instr.powerGood { env with lomefImages := List.replicate 8 { sig with cert := [] } }).wf = false ∧
    (Instr.powerGood { env with loader := { sig with hdr := [] } }).wf = false ∧
    (Instr.powerGood { env with os := { sig with cert := [] } }).wf = false := by decide +kernel

theorem test_wf_start_rest :
    (Instr.warmReset { env with driverWords := [0] }).wf = false ∧
    (Instr.warmReset { env with notRaised := [(512, 40)] }).wf = false ∧
    (Instr.warmReset { env with rpmbRefuse := [11] }).wf = false := by decide +kernel

theorem test_wf_bad_words :
    (Instr.scalarLoad 0 .ld 1 2 0 { unc := [2 ^ 26] }).wf = false ∧ (Instr.tld 0 1 { cor := [2 ^ 26] }).wf = false ∧
    (Instr.vectorLoad 0 ⟨0, 0, 0, false, 0⟩ 0 0 { unc := [2 ^ 26] }).wf = false ∧
    (Instr.firstFaultLoad 0 ⟨0, 0, 0, false, 0⟩ 0 { unc := [2 ^ 26] }).wf = false := by decide +kernel

theorem test_wf_causes :
    (Instr.pcieLinkRetrainEnd 0 3 0).wf = false ∧ (Instr.fabricPortDown 0 0).wf = false ∧
    (Instr.powerFailWarning 0 0).wf = false ∧ (Instr.managementLinkDown 3).wf = false ∧
    (Instr.parameterChange 4 0).wf = false ∧ (Instr.accountEnergyDivision [(64, 1)]).wf = false := by decide

theorem test_wf_byte_lists :
    (Instr.hostFrameReceive 0 { bytes := List.replicate 9217 0#8 }).wf = false ∧
    (Instr.hostFrameSend 0 (List.replicate 9217 0#8)).wf = false ∧
    (Instr.measurementFragment 0 (List.replicate 9217 0#8)).wf = false ∧
    (Instr.dataPacketReceive 0 { bytes := List.replicate 8225 0#8 } false).wf = false ∧
    (Instr.ackReceive 0 (List.replicate 8225 0#8) []).wf = false ∧
    (Instr.nackReceive 0 (List.replicate 8225 0#8) []).wf = false ∧
    (Instr.creditReceive 0 (List.replicate 8225 0#8)).wf = false ∧
    (Instr.resendReceive 0 (List.replicate 8225 0#8)).wf = false ∧
    (Instr.token 0 (List.replicate 63 0#8) tokSigs []).wf = false ∧
    (Instr.token 0 (List.replicate 64 0#8) ⟨noSig, noSig⟩ []).wf = false ∧
    (Instr.serviceTokenFragment [] tokSigs [11]).wf = false ∧
    (Instr.loaderTransfer 0 { again := [⟨0, 3, 2, none⟩] } {}).wf = false ∧
    (Instr.update 0 { again := [⟨0, 3, 0, some true⟩] }).wf = false ∧
    (Instr.gateExchangeResult 0 [List.replicate 31 0#8] [] {}).wf = false := by decide +kernel

/-! ### Words of the sequencer, from the fields of R182 and R206 and the examples of both chapters -/

/-- ADDI s5, s5, -1 and TORD s8, s9 (R183). -/
theorem test_decode_scalar : seqDecode 0 0x04A5FFFF = some (.addi 0 5 5 0xFFFF) ∧
    seqDecode 0 0x80084800 = some (.tord 0 8 9) := by decide +kernel

/-- ALU s3, s1, s2 with func 0x014: major 0, rd 3, ra 1, rb 2. -/
theorem test_decode_alu : seqDecode 0 (BitVec.ofNat 32 (0 * 2 ^ 26 + 3 * 2 ^ 21 + 1 * 2 ^ 16 + 2 * 2 ^ 11 + 0x014)) =
    some (.alu 0 3 1 2 0x014) := by decide +kernel

/-- The five vector instructions of the example after R224. -/
theorem test_decode_vector : seqDecode 7 0xC0C5000F = some (.vsetvl 7 6 5 15) ∧
    seqDecode 7 0xD0070000 = some (.vectorLoad 7 ⟨0, 7, 0, false, 0⟩ 0 0 {}) ∧
    seqDecode 7 0xD10A0000 = some (.vectorLoad 7 ⟨8, 10, 0, false, 0⟩ 0 0 {}) ∧
    seqDecode 7 0xCD004840 = some (.vectorFma 7 ⟨8, 0, 9, false, 0⟩ true 0 0) ∧
    seqDecode 7 0xD50A0000 = some (.vectorStore 7 ⟨8, 10, 0, false, 0⟩ 0 0) := by decide +kernel

/-- Majors 0x08, 0x10, 0x16, 0x18, 0x19, 0x24, 0x26 and 0x27. -/
theorem test_decode_majors :
    seqDecode 0 (BitVec.ofNat 32 (0x08 * 2 ^ 26 + 4 * 2 ^ 21 + 9 * 2 ^ 16 + 0x10)) = some (.scalarLoad 0 .ld 4 9 0x10 {}) ∧
    seqDecode 0 (BitVec.ofNat 32 (0x10 * 2 ^ 26 + 4 * 2 ^ 21 + 9 * 2 ^ 16 + 0xFFFE)) = some (.branch 0 .beq 4 9 0xFFFE) ∧
    seqDecode 0 (BitVec.ofNat 32 (0x16 * 2 ^ 26 + 5)) = some (.jal 0 5) ∧
    seqDecode 0 (BitVec.ofNat 32 (0x18 * 2 ^ 26 + 1 * 2 ^ 21 + 2 * 2 ^ 16 + 3 * 2 ^ 11)) = some (.fop 0 1 2 3 0) ∧
    seqDecode 0 (BitVec.ofNat 32 (0x19 * 2 ^ 26 + 1 * 2 ^ 21 + 2 * 2 ^ 16 + 3 * 2 ^ 11 + 4 * 2 ^ 6 + 8)) =
      some (.fma 0 1 2 3 4 1 0) ∧
    seqDecode 0 (BitVec.ofNat 32 (0x24 * 2 ^ 26 + 7 * 2 ^ 21 + 0x004)) = some (.csrr 0 7 0x004) ∧
    seqDecode 0 (BitVec.ofNat 32 (0x26 * 2 ^ 26)) = some (.done 0) ∧
    seqDecode 0 (BitVec.ofNat 32 (0x27 * 2 ^ 26 + 1)) = some (.sys 0 1) := by decide +kernel

/-- Major 0x3F, and ALU with func 0x013, are listed nowhere. -/
theorem test_decode_illegal : seqDecode 0 (BitVec.ofNat 32 (0x3F * 2 ^ 26)) = none ∧
    seqDecode 0 (BitVec.ofNat 32 0x013) = none := by decide +kernel

/-! ### Control-space addresses -/

/-- The addresses of the example after R571. -/
theorem test_addresses :
    (match target 0x3F00040501B4 4 with
      | .lower r inst idx => r.key == F.EXQ_SWITCH_VA_VA.key && inst == 3 && idx == 2 | _ => false) = true ∧
    (match target 0x3F00040501B8 4 with
      | .upper r inst idx => r.key == F.EXQ_SWITCH_VA_VA.key && inst == 3 && idx == 2 | _ => false) = true ∧
    target 0x3F00040501B4 8 = .wrong ∧
    (match target 0x3F0002020374 4 with
      | .whole r inst idx => r.key == F.MEM_CH_STATE_STATE.key && inst == 1 && idx == 93 | _ => false) = true ∧
    (match target 0x3F0000250024 4 with
      | .whole r inst _ => r.key == F.LMF_LINK_WIDTH.key && inst == 5 | _ => false) = true := by decide +kernel

/-! ### States -/

/-- The state that a command left. -/
def nx (o : Res) : State :=
  match o with
  | .next s => s
  | _ => State.reset

/-- Ready, every processor running. -/
def ready : State :=
  (List.range 17).foldl (fun s p => s.st F.GLB_FW_STATE 2 0 p)
    { State.reset with boot := { State.reset.boot with phase := .ready, locked := true } }

def putS (s : State) (c r v : Nat) : State := s.setSreg c (BitVec.ofNat 5 r) (BitVec.ofNat 64 v)

/-- Core 0 runs a batch: s4 is 10, s5 is 1,000, s6 is -7 and s7 is 2. -/
def seq : State := putS (putS (putS (putS (ready.setSeqState 0 1) 0 4 10) 0 5 1000) 0 6 (2 ^ 64 - 7)) 0 7 2

theorem seq_ready : SeqReady seq 0 := ⟨by decide +kernel, by decide +kernel, by decide +kernel⟩

/-! ### Sequencer instructions -/

/-- Division truncates toward zero: -7 / 2 = -3, remainder -1; a zero divisor gives all ones and the dividend (R184). -/
theorem test_alu_division :
    (nx (exec (.alu 0 1 6 7 0x014) seq)).sreg 0 1 = BitVec.ofInt 64 (-3) ∧
    (nx (exec (.alu 0 1 6 7 0x016) seq)).sreg 0 1 = BitVec.ofInt 64 (-1) ∧
    (nx (exec (.alu 0 1 6 0 0x014) seq)).sreg 0 1 = BitVec.allOnes 64 ∧
    (nx (exec (.alu 0 1 6 0 0x016) seq)).sreg 0 1 = BitVec.ofInt 64 (-7) := by decide +kernel

/-- ADDI s5, s5, -1; a write of s0 is discarded. -/
theorem test_addi : (nx (exec (.addi 0 5 5 0xFFFF) seq)).sreg 0 5 = 999 ∧ (nx (exec (.addi 0 5 5 0xFFFF) seq)).pc 0 = 4 ∧
    (nx (exec (.addi 0 0 5 1) seq)).sreg 0 0 = 0 := by decide +kernel

/-- SHI with selector 2 shifts in the sign; ORI does not extend one. -/
theorem test_shi_ori : (nx (exec (.shi 0 1 6 0x81) seq)).sreg 0 1 = BitVec.ofInt 64 (-4) ∧
    (nx (exec (.ori 0 1 0 0x8000) seq)).sreg 0 1 = 0x8000 := by decide +kernel

/-- A branch counts words from its own address; JALR clears the low two bits. -/
theorem test_branch_jalr : (nx (exec (.branch 0 .blt 6 7 4) seq)).pc 0 = 16 ∧
    (nx (exec (.branch 0 .bltu 6 7 4) seq)).pc 0 = 4 ∧ (nx (exec (.jalr 0 31 4 1) seq)).pc 0 = 8 ∧
    (nx (exec (.jalr 0 31 4 1) seq)).sreg 0 31 = 4 := by decide +kernel

/-- A store and the load that follows it; SW keeps the upper half of the word. -/
theorem test_store_load :
    (nx (exec (.scalarLoad 0 .lw 1 0 16 {}) (nx (exec (.scalarStore 0 .sd 6 0 16) seq)))).sreg 0 1 = BitVec.ofInt 64 (-7) ∧
    (nx (exec (.scalarLoad 0 .lbu 1 0 16 {}) (nx (exec (.scalarStore 0 .sw 6 0 16) seq)))).sreg 0 1 = 0xF9 := by
  decide +kernel

/-- The example after R208: VSETVL s6, s5 with SEW 64 and G 8 gives 64 for 1,000 and 40 for 40. -/
theorem test_vsetvl : (nx (exec (.vsetvl 0 6 5 15) seq)).sreg 0 6 = 64 ∧ (nx (exec (.vsetvl 0 6 5 15) seq)).vl 0 = 64 ∧
    (nx (exec (.vsetvl 0 6 5 15) (putS seq 0 5 40))).sreg 0 6 = 40 := by decide +kernel

/-! ### Statements about the queue and the sequencer: states that meet their hypotheses -/

def seqReadyB (s : State) (c : Nat) : Bool := s.seqRuns c && pcOk (s.pc c) && !s.csPois c (s.pc c).toNat 4

theorem ready_of {s : State} {c : Nat} (h : seqReadyB s c = true) : SeqReady s c := by
  simp only [seqReadyB, Bool.and_eq_true, Bool.not_eq_true'] at h
  exact ⟨h.1.1, h.1.2, h.2⟩

theorem wit_StepRunsTheFrontCommand : { ready with pending := [.recordPersist] }.pending = .recordPersist :: [] := rfl

theorem wit_EmptyQueueTicksTheClock : ready.pending = [] ∧ ready.clk.counting = true ∧
    { ready with clk := ⟨2 ^ 64 - 1, false, 0, 24999999⟩ }.clk.counting = false := by decide +kernel

/-- Selectors 0 to 3 of SHI; a test that holds and one that fails. -/
theorem wit_ScalarImmediatesAndJumps : SeqReady seq 0 ∧ (0x3F#16).toNat / 64 % 4 = 0 ∧ (0x40#16).toNat / 64 % 4 = 1 ∧
    (0x81#16).toNat / 64 % 4 = 2 ∧ (0xFFFF#16).toNat / 64 % 4 = 3 ∧ (seq.sreg 0 6).toInt < (seq.sreg 0 7).toInt ∧
    ¬ (seq.sreg 0 6).toNat < (seq.sreg 0 7).toNat := ⟨seq_ready, by decide +kernel⟩

/-- s8 is -2^63, s9 is -1. -/
def seqMin : State := putS (putS seq 0 8 (2 ^ 63)) 0 9 (2 ^ 64 - 1)

theorem wit_SequencerAluTable : SeqReady seqMin 0 ∧ seqMin.sreg 0 7 ≠ 0 ∧ seqMin.sreg 0 0 = 0 ∧
    (seqMin.sreg 0 8).toInt = -(2 ^ 63) ∧ (seqMin.sreg 0 9).toInt = -1 ∧ (seqMin.sreg 0 8).toNat / 2 ^ 63 = 1 ∧
    (putS seq 0 1 1).sreg 0 1 / 2 ^ 0 = 1 := ⟨ready_of (by decide +kernel), by decide +kernel⟩

theorem wit_SequencerFloatCompletes : SeqReady seq 0 := seq_ready

/-- s1 addresses the last word of the core store, of which a second state has poison. -/
def seqEnd : State := putS seq 0 1 (2 ^ 21 - 8)
def seqPois : State := { seqEnd with mem := { seqEnd.mem with csPoison := [csKey 0 (2 ^ 21 - 8) / 8] } }

theorem wit_ScalarLoadsAndStores : SeqReady seqEnd 0 ∧ SeqReady seqPois 0 ∧
    (seqEnd.sreg 0 1).toNat + 8 ≤ 2 ^ 21 ∧ (seqEnd.sreg 0 1).toNat % 8 = 0 ∧
    seqEnd.csPois 0 (seqEnd.sreg 0 1).toNat 8 = false ∧ seqPois.csPois 0 (seqPois.sreg 0 1).toNat 8 = true ∧
    2 ^ 21 < (seqEnd.sreg 0 1 + 1).toNat + 8 ∧ (seqEnd.sreg 0 5 + 4).toNat % 8 ≠ 0 :=
  ⟨ready_of (by decide +kernel), ready_of (by decide +kernel), by decide +kernel⟩

theorem wit_SequencerCsrs : SeqReady seq 0 := seq_ready

/-- An order's place and words with nothing else. -/
def ord (issue : Nat) (w0 w1 : Nat) : Order :=
  ⟨BitVec.ofNat 64 w0, BitVec.ofNat 64 w1, 0, 0, ⟨0, 0, 0, 0, 0, 0, 0, 0, 0⟩, issue, 0, false, none, false, [], 0, false, false⟩

/-- Core 0 with its engines present, engine 0's queue and the loader's given. -/
def seqQ (q l : List Order) : State :=
  ((seq.st F.ENG_PRESENT_MASK (2 ^ 32 - 1)).setEngine 0 ⟨q, false, 0, 0⟩).setLoader 0 l

theorem wit_SequencerOrdersAndWaits :
    SeqReady (seqQ (List.replicate 8 (ord 0 1 0)) (List.replicate 8 (ord 0 0 0))) 0 ∧
    8 ≤ ((seqQ (List.replicate 8 (ord 0 1 0)) []).engine (0 * 32 + 0)).queue.length ∧
    8 ≤ ((seqQ [] (List.replicate 8 (ord 0 0 0))).loader 0).length ∧
    SeqReady (seqQ [] []) 0 ∧ (seqQ [] []).engPresent 0 0 = true ∧ (seqQ [] []).engFenced 0 0 = false ∧
    ((seqQ [] []).sreg 0 0).toNat + 32 ≤ 2 ^ 21 ∧ (seqQ [] []).csPois 0 0 32 = false ∧
    ((seqQ [] []).sreg 0 4).toNat % 32 ≠ 0 ∧
    SeqReady (putS (seqQ [ord 0 1 0] [ord 0 0 0]) 0 4 1) 0 ∧
    (∃ x ∈ (putS (seqQ [ord 0 1 0] []) 0 4 1).orders 0, (x.1 < 32 ∧ (1#64).getLsbD x.1 = true) ∧ x.2.finished = false) ∧
    (∀ x ∈ (seqQ [] [{ ord 0 0 0 with finished := true }]).orders 0, x.1 = 32 → x.2.finished = true) :=
  ⟨ready_of (by decide +kernel), by decide +kernel, by decide +kernel, ready_of (by decide +kernel), by decide +kernel,
    by decide +kernel, by decide +kernel, by decide +kernel, by decide +kernel, ready_of (by decide +kernel),
    by decide +kernel, by decide +kernel⟩

def noBatch : Batch :=
  ⟨0, none, false, 60, 0, 0, 0, false, 0, 0, 0, 0, [], 0, 0, 0, 0, 0, 0, true, true, 0, false, false, false, [], [], [], [], [],
    0, false⟩

/-- A queue of account 1 with rings of 16 slots, at 0x10000 and 0x20000. -/
def aQueue : Queue := { queueDef with account := 1, subSlots := 16, cplSlots := 16, subVa := 0x10000, cplVa := 0x20000 }

def seqBatch : State := seq.setQueue 0 { aQueue with cores := 1, batches := [{ noBatch with running := [0] }] }

theorem wit_SequencerEndsAndBreaks : SeqReady seqBatch 0 ∧ seqBatch.drained 0 = true ∧
    seqBatch.runBatch (seqBatch.coreQueue 0) = some { noBatch with running := [0] } ∧
    SeqReady (seqQ [ord 0 1 0] []) 0 ∧ (seqQ [ord 0 1 0] []).drained 0 = false ∧ seq.debugger = false ∧
    SeqReady (seq.st F.MGT_SLOT_DEBUG 1) 0 ∧ (seq.st F.MGT_SLOT_DEBUG 1).debugger = true ∧ seqDecode 0 0xFC000000 = none ∧
    ((seq.setCore 0 { coreDef with held := true }).core 0).held = true :=
  ⟨ready_of (by decide +kernel), by decide +kernel, by decide +kernel, ready_of (by decide +kernel), by decide +kernel,
    by decide +kernel, ready_of (by decide +kernel), by decide +kernel⟩

/-! ### Vector statements -/

/-- VTYPE t with VL v on core 0. -/
def vec (t v : Nat) : State := (seq.setCsr 0 0x021 (BitVec.ofNat 64 t)).setCsr 0 0x020 (BitVec.ofNat 64 v)

theorem vec_ready : SeqReady (vec 15 64) 0 ∧ SeqReady (vec 2 16) 0 ∧ SeqReady (vec 0 64) 0 :=
  ⟨ready_of (by decide +kernel), ready_of (by decide +kernel), ready_of (by decide +kernel)⟩

/-- SEW 64 with G 8: groups at v0, v8, v16 and v24. -/
theorem wit_VectorConfigurationAndMoves : (15#6).toNat < 16 ∧ 16 ≤ (16#6).toNat ∧ (24#5).toNat % (vec 15 64).vgroup 0 = 0 ∧
    (24#5).toNat + (vec 15 64).vgroup 0 ≤ 32 ∧ ((vec 15 64).sreg 0 7).toNat < (vec 15 64).vlmax 0 ∧
    (vec 15 64).vl 0 ≤ (vec 15 64).vlmax 0 := by decide +kernel

theorem wit_VectorMaskInstructions : (vec 15 64).vl 0 ≤ 512 ∧ (7#5).toNat < 8 ∧ (0#5).toNat < 8 ∧ 8 ≤ (8#5).toNat := by
  decide +kernel

/-- v8 := v16 op v24, active where m3 says so. -/
def vo : VOp := ⟨8, 16, 24, true, 3⟩

theorem wit_VectorArithmetic : (vec 15 64).vl 0 ≤ (vec 15 64).vlmax 0 ∧ (vec 15 64).viOk 0 vo 0 = true ∧
    (vec 15 64).viOk 0 vo 2 = true ∧ (vec 15 64).vfOk 0 vo false = true ∧ (vec 2 16).vfOk 0 vo true = true ∧
    cvtFmt 0 ≠ none ∧ grpOk 16 8 = true ∧ grpMeet 8 8 16 8 = false := by decide +kernel

theorem wit_vint_defined (x y : Nat) : (vintOp (0x00#5).toNat ((vec 15 64).sew 0) x y).isSome = true := rfl

theorem wit_VectorReductionsAndSums : 0 < (vec 2 16).vl 0 ∧ (vec 2 16).vl 0 ≤ (vec 2 16).vlmax 0 ∧
    grpOk vo.va.toNat ((vec 2 16).vgroup 0) = true ∧ (vec 2 16).sew 0 = 32 ∧ (vec 15 64).sew 0 = 64 ∧
    (vec 0 64).sew 0 = 8 ∧ (vec 0 64).viOk 0 vo 0 = true ∧ (vec 0 64).vl 0 ≤ (vec 0 64).vlmax 0 ∧
    grpMeet 8 ((vec 0 64).vgroup 0) 16 ((vec 0 64).vgroup 0) = false := by decide +kernel

theorem wit_VectorPermutesAndCompares : (vec 2 16).viOk 0 vo 1 = true ∧ (vec 2 16).viOk 0 vo 0 = true ∧
    grpMeet 8 ((vec 2 16).vgroup 0) 16 ((vec 2 16).vgroup 0) = false ∧
    grpMeet 8 ((vec 2 16).vgroup 0) 24 ((vec 2 16).vgroup 0) = false ∧ grpOk 8 ((vec 2 16).vgroup 0) = true ∧
    ({ vo with vd := 7 }).vd.toNat < 8 := by decide +kernel

/-- Two elements of 4 bytes at 0 and 4; the third lies behind the store for a base of 2 MiB - 8. -/
def vecMem : State := putS (vec 2 2) 0 16 0
def vecEnd : State := putS (vec 2 3) 0 16 (2 ^ 21 - 8)

theorem wit_VectorMemoryAndPower : SeqReady vecMem 0 ∧ SeqReady vecEnd 0 ∧ vecMem.loader 0 = [] ∧
    vecMem.vmOk 0 { vo with m := false } 0 1 = true ∧
    (∀ i, i < 2 → ∀ f, f ≤ 0 → (vecMem.vaddr 0 vo 0 1 i f).toNat + 4 ≤ 2 ^ 21 ∧ (vecMem.vaddr 0 vo 0 1 i f).toNat % 4 = 0 ∧
      vecMem.csPois 0 (vecMem.vaddr 0 vo 0 1 i f).toNat 4 = false) ∧
    (vecEnd.csr 0 0x022).toNat = 0 ∧ (vecEnd.sreg 0 16 + 4).toNat + 4 ≤ 2 ^ 21 ∧ 2 ^ 21 < (vecEnd.sreg 0 16 + 8).toNat + 4 ∧
    grpOk 8 (vecEnd.vgroup 0) = true ∧
    ((seq.setCore 0 { coreDef with vAwake := true }).core 0).vAwake = true ∧ (seq.csr 0 0x023).toNat % 2 = 0 ∧
    (seq.core 0).vLast + 100 ≤ { seq with clk := ⟨100, true, 0, 0⟩ }.clk.now :=
  ⟨ready_of (by decide +kernel), ready_of (by decide +kernel), by decide +kernel⟩

/-! ### Control space -/

/-- The register of the table with a key. -/
def info (key : Nat) : RegInfo := (regTable.find? (fun r => r.key == key)).getD strCtrlInfo

def canWrite (s : State) (q : Requester) (page key : Nat) : Bool := s.ctlWrite q && writes q page key

theorem can_of {s : State} {q : Requester} {page key : Nat} (h : canWrite s q page key = true) : CanWrite s q page key := by
  simp only [canWrite, Bool.and_eq_true] at h; exact h

def addrOf (key inst idx : Nat) : Addr := BitVec.ofNat 48 ((info key).addr inst idx)

/-- WRT_CTRL, and LMF_CTRL in the window of chip 5 while its link retrains. -/
theorem wit_RegisterWritesFollowTheAccessCode :
    target (addrOf F.WRT_CTRL_MAXBOUND_MS.key 0 0).toNat 4 = .whole (info F.WRT_CTRL_MAXBOUND_MS.key) 0 0 ∧
    F.WRT_CTRL_MAXBOUND_MS.key ∉ actKeys ∧ CanWrite ready (.hart 0) 1 F.WRT_CTRL_MAXBOUND_MS.key ∧
    target (addrOf F.LMF_CTRL_SCRUB_EN.key 5 0).toNat 4 = .whole (info F.LMF_CTRL_SCRUB_EN.key) 5 0 ∧
    (info F.LMF_CTRL_SCRUB_EN.key).page = 32 ∧ F.LMF_CTRL_SCRUB_EN.key ∉ actKeys ∧
    CanWrite ready (.proc 14) 32 F.LMF_CTRL_SCRUB_EN.key ∧ (ready.st F.PCI_PORT_STATE 3 0 5).shareUp 5 = true :=
  ⟨by decide +kernel, by decide +kernel, can_of (by decide +kernel), by decide +kernel, by decide +kernel,
    by decide +kernel, can_of (by decide +kernel), by decide +kernel⟩

/-- GLB_CMD_BASE, whole at its own address and in two halves. -/
theorem wit_HalfRegisterAccesses :
    target (addrOf F.GLB_CMD_BASE_ADDR.key 0 0).toNat 4 = .lower (info F.GLB_CMD_BASE_ADDR.key) 0 0 ∧
    target (addrOf F.GLB_CMD_BASE_ADDR.key 0 0 + 4).toNat 4 = .upper (info F.GLB_CMD_BASE_ADDR.key) 0 0 ∧
    target (addrOf F.GLB_CMD_BASE_ADDR.key 0 0).toNat 8 = .whole (info F.GLB_CMD_BASE_ADDR.key) 0 0 ∧
    CanWrite ready (.hart 31) 0 F.GLB_CMD_BASE_ADDR.key ∧
    ready.heldHalf (.hart 31) (regKey F.GLB_CMD_BASE_ADDR.key 0 0) = none ∧ ready.ctlRead (.hart 31) = true ∧
    reads (.hart 31) 0 = true ∧ ready.latched (.hart 31) (regKey F.GLB_CMD_BASE_ADDR.key 0 0) = none ∧
    (ready.setLatch (.hart 31) 7 (some 5)).latched (.hart 31) 7 = some 5 :=
  ⟨by decide +kernel, by decide +kernel, by decide +kernel, can_of (by decide +kernel), by decide +kernel⟩

theorem wit_BadAccessesAreRecorded : ready.ctlWrite (.hart 0) = true ∧ ready.ctlRead (.hart 0) = true ∧
    target 0x3F0000000001 4 = .wrong ∧ target 0x3F0000000000 2 = .wrong ∧ target 0x3FFFFFFFFFF8 8 = .unassigned ∧
    ready.ctlAlive = true ∧ ready.place 0x200000000000 = .none ∧ bit (ready.rd F.GLB_FEATURES_AGREED) 9 = false ∧
    bit ((ready.st F.GLB_FEATURES_AGREED 512).rd F.GLB_FEATURES_AGREED) 9 = true ∧ ready.shareUp 0 = false := by
  decide +kernel

/-! ### Limits, power, clock -/

/-- Ready with no processor: no steward is alive. -/
def bare : State := { State.reset with boot := { State.reset.boot with phase := .ready } }

theorem wit_HardwareDropsGoToTheFloor : ready.boot.phase ≠ .off ∧ State.reset.boot.phase ≠ .off ∧ 105 ≤ (105#8).toNat ∧ 60000 < (60001#16).toNat ∧
    ready.rd F.PWR_LIMIT_THERMAL_DROP = 0 ∧ ready.rd F.PWR_LIMIT_CURRENT_DROP = 0 ∧
    (ready.st F.PWR_LIMIT_THERMAL_DROP 1).rd F.PWR_LIMIT_THERMAL_DROP = 1 ∧
    (ready.st F.PWR_LIMIT_CURRENT_DROP 1).rd F.PWR_LIMIT_CURRENT_DROP = 1 := by decide +kernel

theorem wit_LimitsEndBelowTheirThresholds : ready.boot.phase ≠ .off ∧ (∀ v ∈ Temps.list ⟨99, 99, 99, 99, 99⟩, v < 100) ∧
    (∃ v ∈ Temps.list ⟨0, 0, 100, 0, 0⟩, 100 ≤ v) ∧ (60000#16).toNat ≤ 60000 ∧ 105 < (106#8).toNat ∧
    ready.rd F.PWR_LIMIT_ABOVE_105 = 0 ∧ (ready.st F.PWR_LIMIT_ABOVE_105 1).rd F.PWR_LIMIT_ABOVE_105 = 1 ∧
    (∀ v ∈ Temps.list ⟨105, 105, 105, 105, 105⟩, v ≤ 105) ∧ (∃ v ∈ Temps.list ⟨0, 0, 0, 0, 106⟩, 105 < v) ∧
    ready.rd F.PWR_LIMIT_CLAMP_ACTIVE = 0 ∧ (61999#16).toNat < 62000 := by decide +kernel

/-- A point of 70 pends below an actual one of 75; at 800 W the cap of 3,000 W leaves room, at 65 A x 54 V it does not. -/
def pends : State := ready.st F.PWR_VDDF_PENDING 70

theorem wit_SetPointsRiseAtOnceAndFallAfterWarrants : CanWrite ready (.hart 0) 2 F.PWR_VDDF_TARGET.key ∧
    ready.pow.coolPending = false ∧ ready.fwAlive 6 = true ∧ bare.fwAlive 6 = false ∧ pends.up = true ∧
    pends.rd F.PWR_VDDF_PENDING ≠ 0 ∧ (∀ b ∈ pends.allBatches, b.setBasis = true → b.setPoint ≤ pends.rd F.PWR_VDDF_PENDING) ∧
    (∃ b ∈ (pends.setQueue 0 { aQueue with batches := [{ noBatch with setBasis := true, setPoint := 71 }] }).allBatches,
      b.setBasis = true ∧ pends.rd F.PWR_VDDF_PENDING < b.setPoint) ∧
    ready.vddf ≤ 75 ∧ ready.vddf < 76 ∧ ready.fwRuns 6 = true ∧ ready.hwDrop = false ∧ 60 < ready.setPoint ∧
    (ready.st F.PWR_VDDF_ACTUAL 60).setPoint ≤ 60 ∧ ready.pow.capLoweredAt = none ∧
    { ready.pow with capLoweredAt := some 0 }.capLoweredAt = some 0 ∧
    (ready.st F.PWR_CAP_WATTS 3000).rd F.PWR_CAP_WATTS * 100000 < (65000#16).toNat * (5400#16).toNat ∧
    60 ≤ (ready.st F.PWR_VDDF_ACTUAL 70).setPoint ∧ (ready.st F.PWR_VDDF_ACTUAL 70).setPoint < ready.pow.startVddf ∧
    { ready.pow with belowSince := some 0 }.belowSince = some 0 ∧ 0 + 25000000 ≤ 25000000 ∧
    (1000#16).toNat * (5400#16).toNat < ((ready.st F.PWR_CAP_WATTS 3000).rd F.PWR_CAP_WATTS - 100) * 100000 ∧
    ((ready.st F.PWR_CAP_WATTS 3000).rd F.PWR_CAP_WATTS - 100) * 100000 ≤ (65000#16).toNat * (5400#16).toNat :=
  ⟨can_of (by decide +kernel), by decide +kernel⟩

/-- The fiftieth reading with a low flow; a clear one. -/
theorem wit_CoolantReadingsAreJudgedOverFifty :
    let s := ready.st F.MGT_COOL_LIMIT_FLOW_MIN 10
    (9#16).toNat < s.rd F.MGT_COOL_LIMIT_FLOW_MIN ∧ 50 ≤ { s.pow with flowLow := 49 }.flowLow + 1 ∧ s.up = true ∧
    s.fwAlive 6 = true ∧ 60 < s.vddf ∧ (s.st F.PWR_VDDF_ACTUAL 60).vddf ≤ 60 ∧ State.reset.up = false ∧ ¬ (50 ≤ 0 ∨ 50 ≤ 0) := by decide +kernel

def halted : State := { ready with boot := { ready.boot with phase := .halted }, clk := ⟨9, false, 0, 9⟩ }

theorem wit_ReferenceLossHaltsAndReturns : ready.ctlAlive = true ∧ halted.boot.phase = .halted ∧ halted.fwRuns 7 = true ∧
    { bare with boot := halted.boot }.fwRuns 7 = false := by decide +kernel

theorem clamp_between (lo hi v : Nat) (h : lo ≤ hi) : lo ≤ clampNat lo hi v ∧ clampNat lo hi v ≤ hi := by
  unfold clampNat; split <;> [omega; (split <;> omega)]

theorem wit_ShutdownsCutTheMainRails : ready.pow.mainRails = true ∧ 115 ≤ (115#8).toNat ∧
    { ready.pow with clampSince := some 0 }.clampSince = some 0 ∧ 0 + 125000 ≤ 125000 ∧ ready.fwAlive 7 = true ∧
    bare.fwAlive 7 = false ∧ 45499 < pfWarn ∧ overVolt ≤ 60500 ∧ halted.boot.phase = .halted ∧
    ready.boot.phase ≠ .halted := by
  have := (clamp_between 45500 46500 Config.warnMv (by decide)).1
  have h := (clamp_between 59500 60500 Config.overMv (by decide)).2
  exact ⟨by decide +kernel, by decide, by decide +kernel, by decide, by decide +kernel, by decide +kernel,
    Nat.lt_of_lt_of_le (by decide) this, h, by decide +kernel, by decide +kernel⟩

def off : State := { State.reset with boot := { State.reset.boot with phase := .off } }

theorem wit_TheInputBringsTheRailsUp : off.boot.phase = .off ∧ turnOn ≤ 47000 ∧ 47000 < overVolt ∧ 58999 < 59000 ∧
    58999 < overVolt ∧ turnOn ≤ 58999 ∧ 45999 < turnOn ∧ off.pow.pwrEn = true ∧ off.pow.lockedOff = false ∧
    off.pow.overvoltage = false ∧ { off.pow with overvoltage := true }.overvoltage = true ∧ 60000 < 655360 := by
  have h := clamp_between 46000 47000 Config.turnOnMv (by decide)
  have h' := (clamp_between 59500 60500 Config.overMv (by decide)).1
  refine ⟨rfl, h.2, Nat.lt_of_lt_of_le (by decide) h', by decide, Nat.lt_of_lt_of_le (by decide) h',
    Nat.le_trans h.2 (by decide), Nat.lt_of_lt_of_le (by decide) h.1, rfl, rfl, rfl, rfl, by decide⟩

/-! ### Starts -/

/-- A certificate of root set 0 with zeros for its keys, which may sign one class. -/
def cert (cls : Nat) : List Byte :=
  certMagic ++ natLe 2 (if cls = 0 then 2 else 1) ++ natLe 2 0 ++ natLe 4 (2 ^ cls) ++ List.replicate 500 0#8

/-- The header of a class, of a body and its version. -/
def header (cls ver : Nat) (body : List Byte) : List Byte :=
  sigMagic ++ natLe 2 cls ++ natLe 6 0 ++ natLe 4 ver ++ natLe 4 body.length ++ natLe 8 0 ++ sha body ++ List.replicate 48 0#8

/-- A signed image that passes the checks of R491 for a class. -/
def signedBlock (cls ver : Nat) (body : List Byte) : SigBlock where
  hdr := header cls ver body
  cert := cert cls
  body := body
  issuerRsa := ⟨.rsa, rootRsa 0, cert cls⟩
  issuerSlh := ⟨.slhS, rootSlh 0, cert cls⟩
  rsa := ⟨.rsa, certRsa (cert cls), header cls ver body⟩
  slh := ⟨.slhS, certSlh (cert cls), header cls ver body⟩

def block (cls : Nat) : SigBlock := signedBlock cls 0 []

theorem verifies_self (g : Sig) : verifies g g.alg g.key g.msg = true := by simp [verifies]

/-- What of a block evaluates passes, and its digest is its body's: the checks of R491 pass. -/
theorem block_passes {cls ver rootMin floor : Nat} {body : List Byte} (h1 : sigForm cls (signedBlock cls ver body) = true)
    (h2 : sigCls (signedBlock cls ver body) = cls) (h3 : sha body = sigDigest (signedBlock cls ver body))
    (h4 : field (cert cls) 6 2 = 0 ∧ field (cert cls) 4 2 = (if cls = 0 then 2 else 1) ∧ bit (field (cert cls) 8 4) cls = true)
    (h5 : floor ≤ sigSvn (signedBlock cls ver body)) (h6 : rootMin = 0) :
    imgCheck cls rootMin floor (signedBlock cls ver body) = 0 := by
  have h7 : certOk cls rootMin (signedBlock cls ver body) = true := by
    simp [certOk, signedBlock, h4, h6, verifies]
  have h8 : ¬ sigSvn (signedBlock cls ver body) < floor := Nat.not_lt.mpr h5
  simp only [imgCheck, h1, h2, h7, h8, Bool.not_true, Bool.false_eq_true, if_false, ne_eq, not_true_eq_false]
  rw [if_neg (by rw [← h3]; simp [signedBlock])]
  simp [signedBlock, verifies]

theorem block_ok (cls floor : Nat) (h : cls < 11) (hf : floor = 0) : imgCheck cls 0 floor (block cls) = 0 := by
  subst hf
  have : ∀ c : Fin 11, sigForm c (signedBlock c 0 []) = true ∧ sigCls (signedBlock c 0 []) = c ∧
      field (cert c) 6 2 = 0 ∧ field (cert c) 4 2 = (if c.val = 0 then 2 else 1) ∧ bit (field (cert c) 8 4) c = true := by
    decide +kernel
  have := this ⟨cls, h⟩
  exact block_passes this.1 this.2.1 rfl this.2.2 (Nat.zero_le _) rfl

theorem test_image_class : imgCheck 4 0 0 (block 5) = 2 := by
  have h : sigForm 4 (block 5) = true ∧ sigCls (block 5) = 5 := by decide +kernel
  simp [imgCheck, h]

theorem test_image_form : imgCheck 5 0 0 sig = 1 := by decide +kernel

/-- A header that names another digest than its body's cannot pass. -/
theorem test_image_root : certOk 5 1 (block 5) = false := by decide +kernel

/-- The six sections a charter must hold (R422), each with its CRC: half the memory groups of each die, every other field
zero. -/
def sections : List (Nat × List Byte × Nat) :=
  [(1, List.replicate 4 15#8 ++ List.replicate 28 0#8, 3654710474), (2, List.replicate 192 0#8, 1949661232),
    (3, List.replicate 8 0#8, 2351477386), (6, List.replicate 48 0#8, 680278713), (7, List.replicate 32 0#8, 2324772522),
    (8, List.replicate 512 0#8, 821882304)]

/-- Directory entries from an offset on. -/
def dirOf : Nat → List (Nat × List Byte × Nat) → List Byte
  | _, [] => []
  | off, e :: rest => natLe 4 e.1 ++ natLe 4 off ++ natLe 4 e.2.1.length ++ natLe 4 e.2.2 ++ dirOf (off + e.2.1.length) rest

/-- A charter of R421 with those sections. -/
def charterBody : List Byte :=
  natLe 4 1 ++ natLe 8 984 ++ natLe 4 6 ++ List.replicate 48 0#8 ++ dirOf 160 sections ++ sections.flatMap (·.2.1)

def startable : State :=
  { State.reset with nor := { State.reset.nor with charter := ⟨true, charterBody, signedBlock 0 0 charterBody⟩ } }

def goodEnv : StartEnv :=
  { env with loader := block 1, os := block 2, images := (List.range 17).map (fun p => block (procClass p)),
             lomefImages := List.replicate 8 (block 10) }

/-- The CRC of a run of zeros, 64 bytes at a time. -/
def chunk (c : Nat) : Nat := (List.replicate 64 0#8).foldl crcByte c

theorem zeros_fold (n c : Nat) : (List.replicate (64 + n) 0#8).foldl crcByte c = (List.replicate n 0#8).foldl crcByte (chunk c) := by
  rw [List.replicate_add, List.foldl_append, chunk]

theorem zeros_chunks : chunk 4294967295 = 4231468184 ∧ chunk 4231468184 = 4158167844 ∧
    chunk 4158167844 = 2345306063 ∧ chunk 2345306063 = 1200442991 ∧ chunk 1200442991 = 64332339 ∧
    chunk 64332339 = 1158271177 ∧ chunk 1158271177 = 3425213895 ∧ chunk 3425213895 = 3473084991 := by decide +kernel

theorem crc_of {l : List Byte} {n : Nat} (h : l.foldl crcByte 0xFFFFFFFF = n) :
    crc32c l = BitVec.ofNat 32 (Nat.xor n 0xFFFFFFFF) := by subst h; rfl

theorem zeros_crc : crc32c (List.replicate 192 0#8) = 1949661232#32 ∧ crc32c (List.replicate 512 0#8) = 821882304#32 := by
  obtain ⟨h1, h2, h3, h4, h5, h6, h7, h8⟩ := zeros_chunks
  have step : ∀ n a b, chunk a = b →
      (List.replicate (64 + n) 0#8).foldl crcByte a = (List.replicate n 0#8).foldl crcByte b := by
    intro n a b h; rw [zeros_fold, h]
  have c3 := (step 128 _ _ h1).trans ((step 64 _ _ h2).trans (step 0 _ _ h3))
  have c8 := (step 448 _ _ h1).trans ((step 384 _ _ h2).trans (step 320 _ _ h3))
  have a : (List.replicate 192 0#8).foldl crcByte 0xFFFFFFFF = 2345306063 := c3
  have b : (List.replicate 512 0#8).foldl crcByte 0xFFFFFFFF = 3473084991 :=
    c8.trans ((step 256 _ _ h4).trans ((step 192 _ _ h5).trans ((step 128 _ _ h6).trans ((step 64 _ _ h7).trans (step 0 _ _ h8)))))
  exact ⟨(crc_of a).trans (by decide), (crc_of b).trans (by decide)⟩

/-- The same environment, but the operating system does not run. -/
def deafEnv : StartEnv := { goodEnv with osRuns := false }

theorem charter_dir : charterDir charterBody = [⟨1, 160, 32, 3654710474⟩, ⟨2, 192, 192, 1949661232⟩, ⟨3, 384, 8, 2351477386⟩,
    ⟨6, 392, 48, 680278713⟩, ⟨7, 440, 32, 2324772522⟩, ⟨8, 472, 512, 821882304⟩] := by decide +kernel

theorem charter_sums : ∀ e ∈ charterDir charterBody, (crc32c (slice charterBody e.off e.len)).toNat = e.crc := by
  have h : slice charterBody 192 192 = List.replicate 192 0#8 ∧ slice charterBody 472 512 = List.replicate 512 0#8 := by
    decide +kernel
  rw [charter_dir]
  simp only [List.forall_mem_cons, h, zeros_crc]
  decide +kernel

theorem charter_checks : charterReadable startable.nor.charter = true ∧ charterComplete charterBody = true ∧
    field (charterBytes charterBody 6) 0 1 = 0 ∧ (∀ c, c < 11 → field (charterBytes charterBody 6) (4 + 4 * c) 4 = 0) ∧
    field charterBody 8 4 = 0 := by
  refine ⟨?_, by decide +kernel, by decide +kernel, by decide +kernel, by decide +kernel⟩
  have h : field charterBody 0 4 = 1 ∧ field charterBody 4 4 ≤ 262144 ∧ (1 ≤ field charterBody 12 4 ∧ field charterBody 12 4 ≤ 64) ∧
      64 + 16 * field charterBody 12 4 ≤ charterBody.length ∧
      ∀ e ∈ charterDir charterBody, e.off + e.len ≤ charterBody.length := by decide +kernel
  simp only [charterReadable, startable, Bool.and_eq_true, beq_iff_eq, List.all_eq_true]
  exact ⟨⟨⟨⟨⟨trivial, h.1⟩, decide_eq_true h.2.1⟩, decide_eq_true h.2.2.1⟩, decide_eq_true h.2.2.2.1⟩,
    fun e he => ⟨decide_eq_true (h.2.2.2.2 e he), charter_sums e he⟩⟩

theorem charter_verifies : imgCheck 0 0 0 (signedBlock 0 0 charterBody) = 0 :=
  block_passes (by decide +kernel) (by decide +kernel) rfl (by decide +kernel) (Nat.zero_le _) rfl

theorem good_image {p : Nat} (h : p < 9) : goodEnv.images.getD p emptySig = block (procClass p) := by
  have h' : p < 17 := by omega
  simp [goodEnv, List.getD, h']

theorem units_pass : UnitsPass startable goodEnv := ⟨by decide +kernel, by decide +kernel, by decide +kernel, by decide +kernel⟩

theorem proc_class (p : Nat) (h : p < 9) : procClass p < 11 :=
  (by decide : ∀ p : Fin 9, procClass p < 11) ⟨p, h⟩

theorem starts {s : State} (hn : s.nor = startable.nor) (hr : ∀ c, c < 11 → s.rd F.TRS_COUNTER_VALUE 0 c = 0) :
    StartPasses s goodEnv := by
  have hc := charter_checks
  have hb : s.nor.charter.body = charterBody := by rw [hn]; rfl
  have hf : ∀ c, c < 11 → startFloor s c = 0 := by
    intro c h; simp [startFloor, hb, hr c h, hc.2.2.2.1 c h]
  refine ⟨⟨by rw [hn]; exact hc.1, ?_, ?_, by rw [hb]; exact hc.2.1, rfl⟩, ?_, ?_⟩
  · rw [hf 0 (by decide), hb, hc.2.2.1, hn]; exact charter_verifies
  · rw [hf 0 (by decide)]; exact Nat.zero_le _
  · have h := units_pass
    simp only [UnitsPass, startRetired, startLog, hn] at h ⊢
    exact h
  · have hroot : min 3 (field (charterBytes s.nor.charter.body 6) 0 1) = 0 := by rw [hb, hc.2.2.1]; rfl
    refine ⟨?_, ?_, rfl, ?_, by decide +kernel⟩
    · rw [hroot]; exact block_ok 1 _ (by decide) (hf 1 (by decide))
    · rw [hroot]; exact block_ok 2 _ (by decide) (hf 2 (by decide))
    · intro p hp
      have hp' := proc_class p hp
      rw [hroot, good_image hp]; exact block_ok _ _ hp' (hf _ hp')

/-- A warm reset of source 5 is due on such a module. -/
def resettable : State := { startable with boot := { startable.boot with resetReq := some 5, phase := .ready } }

theorem startable_passes : StartPasses startable goodEnv ∧ StartPasses resettable goodEnv :=
  ⟨starts rfl (by decide +kernel), starts rfl (by decide +kernel)⟩

theorem startable_deaf : SystemFails startable deafEnv :=
  ⟨startable_passes.1.1, startable_passes.1.2.1, startable_passes.1.2.2.1, .inr rfl⟩

/-- Reset has no charter: the start stops at once with cause 1 in step 2. -/
theorem wit_StartsAndWarmResets : StartPasses startable goodEnv ∧ startable.boot.phase = .railsUp ∧
    SystemFails startable deafEnv ∧ startable.nor.osFails < 2 ∧ StartPasses resettable goodEnv ∧ resettable.boot.resetReq = some 5 ∧
    resettable.pow.mainRails = true ∧ resettable.boot.dump = none :=
  ⟨startable_passes.1, rfl, startable_deaf, by decide, startable_passes.2, rfl, rfl, rfl⟩

theorem wit_StartsThatStop : State.reset.boot.phase = .railsUp ∧ charterReadable State.reset.nor.charter = false ∧
    (match (State.reset.startReset 0).startSteps env with | .error (_, c, n) => c == 1 && n == 2 | .ok _ => false) = true ∧
    { ready.boot with resetReq := some 5 }.resetReq = some 5 ∧ ready.pow.mainRails = true ∧
    (ready.st F.GLB_FW_STATE 3 0 7).fwState 7 = 3 ∧ ready.fwState 7 ≠ 3 ∧ ready.boot.phase ≠ .railsUp ∧
    bare.fwAlive 7 = false ∧ ready.dbk.frozenAt = none ∧ ready.exq = [] := by decide +kernel

/-- An armed watchdog of 100 ms at its time. -/
def watched : State := { (ready.st F.GPC_WDOG_TIMEOUT_MS 100).st F.TRS_STATUS_ID_READY 1 with clk := ⟨2500000, true, 0, 0⟩ }

theorem wit_ResetsAreRequestedOnce : CanWrite ready (.hart 0) 0 F.GLB_RESET_KEY.key ∧
    CanWrite ready (.hart 0) 10 F.GPC_WDOG_KICK_KICK.key ∧ CanWrite ready (.hart 0) 10 F.GPC_WDOG_TIMEOUT_MS.key ∧
    CanWrite ready (.hart 0) 10 F.GPC_CLOCK_TARGET_MHZ.key ∧ watched.running = true ∧
    watched.rd F.TRS_STATUS_ID_READY = 1 ∧ watched.up = true ∧ 0 < watched.rd F.GPC_WDOG_TIMEOUT_MS ∧
    watched.edge.wdogFrom + 25000 * watched.rd F.GPC_WDOG_TIMEOUT_MS ≤ watched.clk.now ∧ ready.boot.resetReq = none :=
  ⟨can_of (by decide +kernel), can_of (by decide +kernel), can_of (by decide +kernel), can_of (by decide +kernel),
    by decide +kernel⟩

/-- After start step 13 with no processor loaded, and with the seed. -/
def stepped : State := (bare.st F.GLB_STATE_STEP 13).st F.TRS_STATUS_SEED_OK 1

theorem wit_ImagesAreVerifiedBeforeTheyRun : stepped.running = true ∧ 7 ≤ stepped.rd F.GLB_STATE_STEP ∧
    stepped.rd F.GLB_FW_STATE 0 16 = 0 ∧ (stepped.st F.GLB_FW_STATE 6 0 16).rd F.GLB_FW_STATE 0 16 = 6 ∧
    ready.rd F.GLB_FW_STATE 0 3 = 2 ∧ stepped.up = true ∧ stepped.rd F.TRS_STATUS_SEED_OK = 1 ∧
    imgCheck 9 (stepped.rd F.TRS_STATUS_ROOT_MIN) (stepped.floor 9) (block 9) = 0 ∧
    imgCheck 9 (stepped.rd F.TRS_STATUS_ROOT_MIN) (stepped.floor 9) (block 3) ≠ 0 := by
  have h : stepped.rd F.TRS_STATUS_ROOT_MIN = 0 ∧ stepped.floor 9 = 0 ∧ sigForm 9 (block 3) = true ∧ sigCls (block 3) = 3 := by
    decide +kernel
  refine ⟨by decide +kernel, by decide +kernel, by decide +kernel, by decide +kernel, by decide +kernel, by decide +kernel,
    by decide +kernel, ?_, ?_⟩
  · rw [h.1]; exact block_ok 9 _ (by decide) h.2.1
  · simp [imgCheck, h]

/-! ### Warrants -/

/-- One 2 MiB page of fast tier for account 1 over the 64 channels of die 0's first four groups, tables filled evenly. -/
def mapped : State :=
  let s := (ready.st F.MEM_STATUS_PRESENT 15).st F.STR_GLOBAL_N 64
  { s with ms := { s.ms with filled := true, runs := [(0, ⟨0, 0, 1, 1, true, true, false, 0⟩)] } }

/-- Queue 0 announces the slot at 0x10000, whose first bytes are given. -/
def asked (l : List Nat) : State :=
  (mapped.setQueue 0 { aQueue with subTail := 1, q := 256 }).accWrite 1 0x10000 (l.map (BitVec.ofNat 8))

theorem wit_RingIndicesFollowTheirRegisters : CanWrite ready (.hart 0) 1 F.WRT_DOORBELL_QUEUE.key ∧
    CanWrite ready (.hart 0) 1 F.WRT_CPL_ACK_QUEUE.key ∧ ready.queue 255 = none ∧
    (ready.setQueue 0 { aQueue with due := [List.replicate 32 1#8], cplTail := 15 }).queue 0 =
      some { aQueue with due := [List.replicate 32 1#8], cplTail := 15 } ∧ 0 < aQueue.subSlots ∧ 15 < aQueue.cplSlots ∧
    min [List.replicate 32 1#8].length (16 - 1 - (15 + 16 - 1) % 16) = 1 ∧
    min [List.replicate 32 1#8].length (16 - 1 - (15 + 16 - 0) % 16) = 0 :=
  ⟨can_of (by decide +kernel), can_of (by decide +kernel), by decide +kernel⟩

/-- The slot of a queue without memory behind it, a full list of batches, no session, service state. -/
theorem wit_WarrantsAreAdmittedOrRefusedInOrder_refusals :
    let q := { aQueue with subTail := 1 }
    let s := ready.setQueue 0 q
    s.up = true ∧ s.queue 0 = some q ∧ 0 < q.subSlots ∧ q.subHead ≠ q.subTail ∧ (∀ m ∈ s.moves, 0 ∉ m.drop) ∧ q.due = [] ∧
      q.room = true ∧ s.running = true ∧ s.boot.phase ≠ .unattended ∧ q.batches.length < 64 ∧
      (s.accRead [] q.account (q.subVa + 1024 * q.subHead) 1024).fault ≠ none ∧
      64 ≤ { q with batches := List.replicate 64 noBatch }.batches.length := by decide +kernel

/-- A descriptor of one phase with counts of zero is admitted; one of no phase is not well formed. -/
theorem wit_WarrantsAreAdmittedOrRefusedInOrder :
    let s := asked [1, 0, 1, 0, 7]
    let q := { aQueue with subTail := 1, q := 256 }
    let r := s.accRead [] 1 0x10000 1024
    s.up = true ∧ s.queue 0 = some q ∧ r.fault = none ∧ r.unc = false ∧ r.lost = false := by decide +kernel

theorem wit_WarrantsAreAdmittedOrRefusedInOrder_admits :
    let s := asked [1, 0, 1, 0, 7]
    let q := { aQueue with subTail := 1, q := 256 }
    let d := (s.accRead [] 1 0x10000 1024).bytes
    descOk q d = true ∧ (∀ p ∈ descPhases d, p.held (s.rates q s.setPoint) q (s.queueEngines q) = true) ∧ s.setBasisOf d = true ∧
      s.descMapped 1 d = true ∧ bound (s.rates q s.setPoint) (descPhases d) ≤ s.rd F.WRT_CTRL_MAXBOUND_MS * 1000 := by decide +kernel

/-- A second phase that names a vault rate, of which the queue has none; a queue's descriptor of no phase. -/
theorem wit_WarrantsAreAdmittedOrRefusedInOrder_reasons :
    descOk aQueue ((asked [1, 0, 0, 0, 7]).accRead [] 1 0x10000 1024).bytes = false ∧
    PhaseW.held ⟨0, 0, 1, 0, 0⟩ (ready.rates aQueue 60) aQueue 0 = false ∧
    ready.descMapped 1 ([1, 0, 1, 0, 7] ++ List.replicate 59 0 ++ [1, 0]) = false ∧
    ready.rd F.WRT_CTRL_MAXBOUND_MS * 1000 < bound (ready.rates aQueue 60) [⟨2 ^ 47, 0, 0, 0, 0⟩] := by decide +kernel

/-- A batch on core 0, first in queue 0, that waits for a collective; core 0 is present. -/
def startsQ (b : Batch) : State :=
  (mapped.st F.SEQ_PRESENT_MASK 1).setQueue 0 { aQueue with cores := 1, batches := [b] }

theorem wit_BatchesStartTheirCores :
    let b := { noBatch with started := false, begun := false }
    let s := startsQ b
    s.running = true ∧ s.queue 0 = some { aQueue with cores := 1, batches := [b] } ∧ 0 < aQueue.subSlots ∧
      (∀ d ∈ s.queueDies { aQueue with cores := 1, batches := [b] }, s.fwState d = 2) ∧
      b.tags = [] ∧ b.noSeq = false ∧ (b.progVa = 0 ∨ b.progBytes = 0) ∧
      { b with tags := [9] }.tags = [9] ∧ s.fab.doneTags = [] ∧
      (s.accRead [] 1 0x1000 64).fault = none ∧ (s.accRead [] 1 0x1000 64).lost = false ∧
      (s.accRead [] 1 0x200000 64).fault ≠ none := by decide +kernel

/-- Nothing bound, nothing waiting, and a first batch that runs already; one that has its orders and waits for a tag. -/
theorem wit_BatchesStartTheirCores_waits :
    (startsQ noBatch).queue 9 = none ∧ ready.queue 255 = none ∧
    (startsQ { noBatch with started := true, begun := true }).queue 0 =
      some { aQueue with cores := 1, batches := [{ noBatch with started := true, begun := true }] } ∧
    ({ noBatch with started := true, begun := false, tags := [9] }).started = true ∧
    (1, 9) ∉ (startsQ noBatch).fab.doneTags := by decide +kernel

/-- A finished batch in time and one past its limit; one with a solve order that has no status yet. -/
theorem wit_BatchesCompleteWithTheFirstStatus :
    let b := { noBatch with deadline := 0 }
    let s := startsQ b
    let late := { s with clk := ⟨1, true, 0, 1⟩ }
    let waits := { b with exq := [⟨[], true, none⟩] }
    s.running = true ∧ s.queue 0 = some { aQueue with cores := 1, batches := [b] } ∧
      [b].findIdx? (·.started) = some 0 ∧ b.running = [] ∧ s.moves = [] ∧ b.begun = true ∧
      (∀ o ∈ b.subs, o.status ≠ none) ∧ aQueue.due = [] ∧ aQueue.room = true ∧ ¬ b.deadline + b.waited < s.clk.now ∧
      b.deadline + b.waited < late.clk.now ∧ firstStatus b.statuses = 0 ∧ statusRank 0x02 ≤ statusRank 0 ∧
      ¬ statusRank 0x02 ≤ statusRank 0x20 ∧ (∃ o ∈ waits.subs, o.status = none) := by decide +kernel

/-! ### Orders and records -/

/-- Engine 0 of core 0 with a queue; the loader with another. -/
def eng (q l : List Order) (bad : Bool) : State := (ready.setEngine 0 ⟨q, bad, 0, 0⟩).setLoader 0 l

/-- An array order of zeros but its opcode, a tail order, a transfer; the order words are legal in what is checked here. -/
def arr : Order := ord 5 1 0
def tail_ : Order := ord 6 2 0
def xfer : Order := ord 7 0 0

theorem wit_OrdersStartOnTheirTurn :
    OnTurn (eng [{ tail_ with finished := true }, arr] [] false) 0 0 (fun x => !x.isTail) [{ tail_ with finished := true }] [] arr ∧
    OnTurn (eng [arr, tail_] [] false) 0 0 Order.isTail [arr] [] tail_ ∧
    OnTurn (eng [] [xfer] false) 0 32 (fun _ => true) [] [] xfer ∧ arr.reason = 0 ∧ { arr with reason := 3 }.reason ≠ 0 ∧
    ((eng [arr] [] false).engine 0).poisoned = false ∧ ((eng [arr] [] true).engine 0).poisoned = true ∧
    (eng [arr] [] false).noHazard 0 0 arr = true ∧ (eng [tail_] [] false).noHazard 0 0 tail_ = true ∧
    (eng [] [xfer] false).noHazard 0 32 xfer = true :=
  by unfold OnTurn; decide +kernel

/-- What the two kinds read, without poison and with. -/
theorem wit_OrdersStartOnTheirTurn_reads :
    let s := eng [arr] [] false
    let f := arrF arr.word
    let k := (s.arrClass f).getD .fp32
    let p := { s with mem := { s.mem with tsPoison := [0] } }
    (∀ p ∈ f.reads k, s.tsPois 0 p.1 p.2 = false) ∧ (∀ p ∈ (tailF tail_.word).reads, s.tsPois 0 p.1 p.2 = false) ∧
      (f.reads k ≠ [] → ∃ q ∈ f.reads k, p.tsPois 0 q.1 q.2 = true) ∧ xfer.ldF.out = false ∧ { xfer with w0 := 1 }.ldF.out = true := by decide +kernel

def running (o : Order) : Order := { o with running := true, res := some (noResult 0 0 9) }

theorem wit_OrdersDeliverWhenTheyComplete :
    IsRunning (eng [running arr] [running xfer] false) 0 0 (fun x => !x.isTail) [] [] (running arr) ∧
    IsRunning (eng [running tail_] [] false) 0 0 Order.isTail [] [] (running tail_) ∧
    IsRunning (eng [] [running xfer] false) 0 32 (fun _ => true) [] [] (running xfer) ∧
    (running arr).res = some (noResult 0 0 9) ∧ ((eng [] [] false).st F.ENG_PRESENT_MASK 1).engPresent 0 0 = true ∧
    (eng [] [] false).engFenced 0 0 = false ∧ (running arr).finished = false ∧
    (∀ x ∈ (eng [arr] [] false).queueOf 0 0, x.running = false) :=
  by unfold IsRunning; decide +kernel

/-- A batch past its deadline; bytes for the fast tier whose group is fenced meanwhile; an engine poisoned meanwhile; a
transfer into the share of a chip whose link retrains. -/
theorem wit_OrdersDeliverWhenTheyComplete_meanwhile :
    let late := { startsQ { noBatch with running := [0] } with clk := ⟨1, true, 0, 1⟩ }
    let w : Wr := ⟨2, 0x100, List.replicate 32 1#8, []⟩
    let shared := { mapped with ms := { mapped.ms with runs := [(0, ⟨0, 0x800000, 1, 1, true, true, false, 0⟩)] } }
    late.runBatch (late.coreQueue 0) = some { noBatch with running := [0] } ∧ noBatch.deadline + noBatch.waited < late.clk.now ∧
    (noResult 0 0 9).status < 2 ∧ mapped.deliverStatus 1 [w] = 0 ∧
    (mapped.st F.MEM_STATUS_FENCED 0xFF).deliverStatus 1 [w] = 0x20 ∧ statusRank 0x20 < statusRank 0 ∧
    ((eng [running arr] [] true).engine 0).poisoned = true ∧ (shared.st F.PCI_PORT_STATE 3).accWaits 1 0x100 64 = true ∧
    (shared.st F.PCI_PORT_STATE 2).accWaits 1 0x100 64 = false := by decide +kernel

def ended (o : Order) : Order := { o with finished := true, res := some (noResult 0 0 9) }

/-- A finished transfer at the head of the loader alone; a ring with no free slot. -/
theorem wit_CompletionRecordsEnterTheRing :
    let s := eng [arr] [ended xfer] false
    s.running = true ∧ (0 + 1) % 256 ≠ (s.csr 0 0x012).toNat % 256 ∧ (s.csr 0 0x011).toNat = 0 ∧
      s.queueOf 0 32 = [ended xfer] ∧ (ended xfer).finished = true ∧ (ended xfer).res = some (noResult 0 0 9) ∧
      (∀ x, x < 32 → ∀ o ∈ (s.queueOf 0 x).head?, o.finished = false) ∧
      isPoisoned s.mem.csPoison (csKey 0 0) 32 = false ∧ csKey 0 0 % 8 = 0 ∧
      (0 + 1) % 256 = ((s.setCsr 0 0x012 1).csr 0 0x012).toNat % 256 ∧
      (∀ src, src ≤ 32 → ∀ o ∈ ((eng [] [] false).queueOf 0 src).head?, o.finished = false) := by decide +kernel

/-- Core 5 of die 0 and its engines present, engine 0 busy, 2 s after the reset; no host core is present there. -/
def busyCore : State :=
  { (((ready.st F.SEQ_PRESENT_MASK 32).st F.ENG_PRESENT_MASK (2 ^ 32 - 1) 0 5).setEngine (5 * 32)
      ⟨[{ arr with running := true }], false, 0, 0⟩).setSeqState 5 1 with clk := ⟨50000000, true, 0, 2000000⟩ }

theorem wit_EngineFaultsFenceTheirUnits : CanWrite busyCore (.hart 0) 17 F.ENG_FENCE_REQ_ENGINE.key ∧
    busyCore.running = true ∧ busyCore.nor.degrade.length < 1024 ∧
    busyCore.engPresent 5 0 = true ∧ busyCore.engFenced 5 0 = false ∧
    (∃ x ∈ (busyCore.engine (5 * 32)).queue, x.running = true) ∧
    (busyCore.engine (5 * 32)).stepAt + 25 * busyCore.rd F.ENG_CTRL_HANG_US (5 * 32 / 32 / 64) ≤ busyCore.clk.now ∧
    (∀ x ∈ (busyCore.engine (5 * 32 + 1)).queue, x.running = false) ∧ busyCore.coreFenced 5 = false ∧
    busyCore.corePresent 5 = true ∧ busyCore.seqState 5 = 1 ∧ (busyCore.core 5).held = false ∧
    (busyCore.core 5).retiredAt + 25 * busyCore.rd F.SEQ_CTRL_HANG_US (5 / 64) ≤ busyCore.clk.now ∧
    (∀ u, u < 16 → busyCore.corePresent (hostCore u) = true → busyCore.coreFenced (hostCore u) = false) ∧
    (∀ u, u < 16 → hostCore u ≠ 5) ∧ bit (busyCore.rd F.SEQ_CLUSTER_FENCE_MASK 0) 1 = false ∧
    (∀ u, u < 16 → hostCore u / 8 ≠ 0 * 8 + 1) ∧ busyCore.engPresent 6 0 = false :=
  ⟨can_of (by decide +kernel), by decide +kernel⟩

/-! ### Memory, steering and Lomef links -/

/-- Dies' first four groups present with scrubbing and retraining on; device 0 reads 90 and is trained at 80. -/
def warm : State :=
  let s := ((mapped.st F.MEM_CTRL_RETRAIN_EN 1).st F.MEM_CTRL_SCRUB_EN 1).st F.MEM_STATUS_STEWARD_ABSENT 0
  (s.st F.MEM_TEMP_DEV0 90).st F.MEM_CH_STATE_TRAIN_TEMP 80

/-- Device 0 at row 2 since time 0; 100 ms later it has fallen to 93, 2 below the row's threshold of 95. -/
def cooling : State :=
  let s := (warm.setMult 0 0 0 2).setCapped 0 0 0 false
  { s with ms := { s.ms with coolSince := [(2, 1)] }, clk := ⟨2500000, true, 0, 0⟩ }

def downProc (p : Nat) : State :=
  let s := (ready.st F.GLB_FW_STATE 4 0 p).st F.MEM_STATUS_STEWARD_ABSENT 0
  { s.setProc p { s.proc p with downSince := some 0 } with clk := ⟨2500000, true, 0, 0⟩ }

theorem wit_RefreshFollowsTemperature : warm.up = true ∧ warm.groupPresent 0 0 = true ∧ warm.fwRuns 4 = true ∧
    warm.rd F.MEM_STATUS_STEWARD_ABSENT 0 = 0 ∧ cooling.multOf 0 0 0 = 2 ∧ cooling.cappedOf 0 0 0 = false ∧
    (93#8).toNat + 2 ≤ rowLimit 2 ∧ mget 0 cooling.ms.coolSince 2 = 1 ∧ 1 - 1 + 2500000 ≤ cooling.clk.now ∧
    (downProc 4).up = true ∧ (downProc 4).fwRuns 4 = false ∧ (downProc 4).rd F.MEM_STATUS_STEWARD_ABSENT = 0 ∧
    ((downProc 4).proc 4).downSince = some 0 ∧ 0 + 2500000 ≤ (downProc 4).clk.now ∧ warm.running = true ∧
    warm.ms.lastSlice = none ∧ warm.retrainDue 0 = true ∧ warm.rd F.GLB_FW_STATE 0 4 = 2 := by decide +kernel

/-- A hotter reading rises at once; one 2 below the threshold falls a row after 100 ms. -/
theorem test_refresh_rows : (nx (exec (.temperatureRead 0 96#8) warm)).multOf 0 0 0 = 2 ∧
    (nx (exec (.temperatureRead 0 93#8) cooling)).multOf 0 0 0 = 1 ∧
    (nx (exec (.temperatureRead 0 94#8) cooling)).multOf 0 0 0 = 2 := by decide +kernel

/-- Channel 0 with higher channels left, channel 63 the die's highest; a vault share in order. -/
theorem wit_ScrubsReadOneGrainAndMoveOn : warm.up = true ∧ warm.chanActive 0 = true ∧ warm.chanFenced 0 = false ∧
    warm.rd F.MEM_CTRL_SCRUB_EN = 1 ∧ (∃ c, c < 128 ∧ 0 < c ∧ warm.groupPresent 0 (c / 16) = true ∧
      warm.groupFenced 0 (c / 16) = false) ∧ warm.chanActive 63 = true ∧
    (¬ ∃ c, c < 128 ∧ 63 < c ∧ warm.groupPresent 0 (c / 16) = true ∧ warm.groupFenced 0 (c / 16) = false) ∧
    ((warm.st F.PCI_PORT_STATE 2 0 5).st F.LMF_CTRL_SCRUB_EN 1 5).rd F.PCI_PORT_STATE 0 5 = 2 ∧
    ((warm.st F.PCI_PORT_STATE 2 0 5).st F.LMF_CTRL_SCRUB_EN 1 5).rd F.LMF_CTRL_SCRUB_EN 5 = 1 ∧
    ((warm.st F.PCI_PORT_STATE 2 0 5).st F.LMF_CTRL_SCRUB_EN 1 5).fwRuns 14 = true := by decide +kernel

theorem wit_GroupFencesDiscardAndAreLogged : CanWrite mapped (.hart 0) 18 F.MEM_FENCE_REQ_GROUP.key ∧
    mapped.groupPresent 0 3 = true ∧ mapped.groupFenced 0 3 = false ∧ mapped.groupPresent 0 4 = false ∧
    mapped.nor.degrade.length < 1024 ∧ 48 * 2 ^ 32 < vaultBase ∧ 48 * 2 ^ 32 / 2 ^ 32 / 128 = 0 ∧
    48 * 2 ^ 32 / 2 ^ 32 % 128 / 16 = 3 := ⟨can_of (by decide +kernel), by decide +kernel⟩

/-- The last entry of a table with AUTOINC; an even fill; a table armed already; a locked field that would change. -/
def table : State :=
  let s := (mapped.st F.STR_TBL_INDEX_INDEX 8191).st F.STR_TBL_INDEX_AUTOINC 1
  s.st F.STR_LOCAL_N 64

theorem wit_SteeringTablesAreArmedWhenEven : CanWrite table (.hart 0) 19 F.STR_CTRL_ARMED.key ∧
    table.rd F.STR_TBL_INDEX_INDEX = 8191 ∧ table.rd F.STR_TBL_INDEX_AUTOINC = 1 ∧ table.rd F.STR_CTRL_ARMED = 0 ∧
    (table.st F.STR_CTRL_ARMED 1).rd F.STR_CTRL_ARMED = 1 ∧ table.rd F.STR_TBL_INDEX_SEL = 0 ∧
    (table.st F.STR_TBL_INDEX_SEL 1).rd F.STR_TBL_INDEX_SEL = 1 ∧ table.ctlRead (.hart 0) = true ∧
    reads (.hart 0) 19 = true ∧ (table.steerOk && table.localOk 0) = true ∧ table.boot.locked = true ∧
    (257#32).toNat / 256 % 128 ≠ table.rd F.STR_CTRL_RT_UNITS :=
  ⟨can_of (by decide +kernel), by decide +kernel⟩

/-- An even table of two channels, and one that a written entry made uneven. -/
def two : State := let s := ready.st F.STR_GLOBAL_N 2; { s with ms := { s.ms with filled := true, steer := [(0, 2)] } }

theorem wit_SteeringTablesAreArmedWhenEven_uneven : two.rd F.STR_CTRL_ARMED = 0 ∧ (two.steerOk && two.localOk 0) = false := by
  decide +kernel

/-- A run of page 1 for account 1 in the data registers of die 0. -/
def runs (vp pp n acct valid : Nat) : State :=
  ((((mapped.st F.STR_RUN_DATA0_VPAGE vp).st F.STR_RUN_DATA1_PPAGE pp).st F.STR_RUN_DATA2_COUNT n).st
    F.STR_RUN_DATA3_ACCOUNT acct).st F.STR_RUN_DATA3_VALID valid |>.st F.STR_RUN_INDEX_INDEX 1

/-- Reasons 1 to 7 of R279, each by a run that meets no earlier one; steered memory has 64 * 2,048 pages. -/
theorem wit_RunsAreWrittenOnlyWhenSound : CanWrite (runs 1 1 1 1 1) (.hart 0) 19 F.STR_RUN_CMD_CMD.key ∧
    ((runs 1 1 1 1 1).runRegs 0).valid = true ∧ ((runs 1 1 1 1 0).runRegs 0).valid = false ∧
    (runs 1 1 1 1 1).runReason 1 ((runs 1 1 1 1 1).runRegs 0) = 0 ∧
    (runs 1 1 0 1 1).runReason 1 ((runs 1 1 0 1 1).runRegs 0) = 1 ∧
    (runs 1 131071 2 1 1).runReason 1 ((runs 1 131071 2 1 1).runRegs 0) = 2 ∧
    (runs 1 0 1 1 1).runReason 1 ((runs 1 0 1 1 1).runRegs 0) = 3 ∧
    (runs 0 1 1 1 1).runReason 1 ((runs 0 1 1 1 1).runRegs 0) = 4 ∧
    (runs 0 1 1 2 1).runReason 1 ((runs 0 1 1 2 1).runRegs 0) = 0 ∧
    (runs 1 131071 1 1 1).runReason 1 ((runs 1 131071 1 1 1).runRegs 0) = 5 ∧
    (let s := (runs 1 1 1 1 1).st F.STR_RUN_DATA3_RT 1; s.runReason 1 (s.runRegs 0) = 6) ∧
    (runs 1 (sharePage 0) 1 1 1).runReason 1 ((runs 1 (sharePage 0) 1 1 1).runRegs 0) = 7 :=
  ⟨can_of (by decide +kernel), by decide +kernel⟩

/-- Chip 0 came up with 16 lanes, chip 3 with 8. -/
theorem wit_LomefLinksRetrainOrAreLost :
    let s := (ready.st F.PCI_PORT_STATE 3 0 0).st F.PCI_PORT_STATE 2 0 3
    let u := { s with boot := { s.boot with degraded := [(5, 0, 3)] } }
    u.up = true ∧ u.rd F.PCI_PORT_STATE 0 0 = 3 ∧ u.rd F.PCI_PORT_STATE 0 3 = 2 ∧ (5, 0, 3) ∈ u.boot.degraded ∧
      u.rd F.PCI_PORT_STATE 0 1 ≠ 3 ∧ u.rd F.PCI_PORT_STATE 0 1 ≠ 2 ∧ (info F.LMF_LINK_WIDTH.key).page = 32 ∧
      F.LMF_LINK_WIDTH.key ≠ F.LMF_STATUS_LOST.key ∧ 16 = 16 ∧ 100 ≤ 100 ∧ 8 ≠ 16 ∧ 100 < 101 := by decide +kernel

/-! ### Ledgers, Lomef orders and gates -/

/-- Account 1: share 0, escrow buffers at 0x1000 and 0x2000, posted word at 0x3000, four ledger records at 0, four layer
records at 0x1000, one rank. -/
def acct1 : Acct :=
  ⟨7, 0, 1, false, 1, 0, 0, 1, 0, 4, 0x1000, 4, 0x2000, 0, 0, [0x1000, 0x2000], [0x3000], [none, none, none, none]⟩

/-- Account 1 bound; share 0 up. -/
def bound1 : State := let s := mapped.st F.PCI_PORT_STATE 2 0 0; { s with accts := [(1, acct1)] }

def posted (p : Post) : State :=
  let s := (bound1.accWrite 1 68 [0x80#8]).accWrite 1 (0x1000 + 16 + 4) [0x80#8]
  { s with train := { s.train with posts := [p] } }

/-- A ledger post for record 0, a layer post for record 1, one out of range, one for a record that is not valid. -/
theorem wit_PostsMergeAndLayersReset :
    (posted ⟨0, 1, false, 0, 5, none⟩).running = true ∧ (posted ⟨0, 1, false, 0, 5, none⟩).fwRuns 0 = true ∧
    (posted ⟨0, 1, false, 0, 5, none⟩).keeper 0 = some 0 ∧ (posted ⟨0, 1, false, 0, 5, none⟩).acct 1 = some acct1 ∧
    ((posted ⟨0, 1, false, 0, 5, none⟩).recRead [] 1 0 128).ok = true ∧
    ledgerValid ((posted ⟨0, 1, false, 0, 5, none⟩).recRead [] 1 0 128).bytes = true ∧
    (posted ⟨1, 1, true, 1, 1, none⟩).keeper 1 = some 1 ∧
    ((posted ⟨1, 1, true, 1, 1, none⟩).recRead [] 1 0x1010 16).ok = true ∧
    layerValid ((posted ⟨1, 1, true, 1, 1, none⟩).recRead [] 1 0x1010 16).bytes = true ∧
    acct1.ledgerCount ≤ 4 ∧ (posted ⟨0, 1, false, 4, 0, none⟩).keeper 4 = some 0 ∧
    ledgerValid ((posted ⟨1, 1, false, 1, 0, none⟩).recRead [] 1 128 128).bytes = false ∧
    ((posted ⟨1, 1, false, 1, 0, none⟩).recRead [2] 1 128 128).ok = true := by decide +kernel

/-- Slot 0 of the ring holds a command of account 1 with the bytes given. -/
def asks (s : State) (op : Nat) (b : List Byte) : State :=
  let b := natLe 1 op ++ List.replicate 3 0 ++ natLe 2 1 ++ List.replicate 10 0 ++ b ++ List.replicate (48 - b.length) 0
  { s.devWrite 0x100000 b with sess := { s.sess with cmds := [(0, op, 1)] } }.st F.GLB_CMD_BASE_ADDR 0x100000

/-- LAYER_RESET of a valid layer record to rung 3, to rung 4, of a layer past the table, of an account not bound. -/
theorem wit_PostsMergeAndLayersReset_reset :
    let s := fun (layer rung : Nat) => asks (posted ⟨0, 1, false, 0, 5, none⟩) 0x09 (natLe 2 layer ++ natLe 1 rung)
    (∀ p ∈ [(1, 3), (1, 4), (4, 0)], (s p.1 p.2).running = true ∧ (s p.1 p.2).cmdAcct 0 0x09 = some 1 ∧
      field ((s p.1 p.2).cmdBytes 0) 16 2 = p.1 ∧ field ((s p.1 p.2).cmdBytes 0) 18 1 = p.2 ∧
      (s p.1 p.2).keeper p.1 ≠ none ∧ (s p.1 p.2).acct 1 = some acct1) ∧
    ((s 1 3).recRead [] 1 0x1010 16).ok = true ∧ layerValid ((s 1 3).recRead [] 1 0x1010 16).bytes = true ∧
    field ((s 1 3).recRead [] 1 0x1010 16).bytes 3 1 % 4 = 0 ∧
    (asks mapped 0x09 []).acct 1 = none ∧ bare.keeper 1 = none := by decide +kernel

/-- A tensor of one FP32 element: state at 0x10000, gradient at 0x80 of a buffer. -/
def tens (flags : Nat) : List Byte :=
  natLe 8 0x10000 ++ natLe 8 0x80 ++ natLe 4 1 ++ natLe 4 1 ++ [0#8, 1#8, BitVec.ofNat 8 flags, 0#8] ++ List.replicate 164 0#8

/-- An order of a kind over the tensor list at 0x4000, step 1, staging at 0x4000 of the account. -/
def lord (kind : Nat) : LOrder :=
  ⟨1, 0, natLe 1 kind ++ [0#8, 1#8, 0#8] ++ natLe 4 0 ++ natLe 8 1 ++ natLe 8 2 ++ natLe 8 0x4000 ++ natLe 8 0x4000 ++
    List.replicate 24 0#8, false, none, 0, 0, []⟩

def vault (l : List LOrder) (flags : Nat) : State :=
  let s := bound1.shareWrite 0 0x4000 (tens flags)
  { s with train := { s.train with lomef := [(0, l)] } }

/-- What makes an order sound. -/
def soundB (s : State) (o : LOrder) : Bool :=
  let v := s.lmfBusy 0 o
  let l := v.tensors [] 0 o
  let u := v.takeUnc o.account l.2.2
  s.rd F.PCI_PORT_STATE 0 0 == 2 && o.bad == none && l.2.1 == 0 && l.1.all (fun b => tensorBad (u.agreed 6) b == none)

/-- An ESCROW, an UPDATE and a watch refresh in order; a share retraining and one lost; an order of no kind. -/
theorem wit_LomefOrdersRunInShareOrder :
    (∀ k ∈ [1, 2, 3], (vault [lord k] 0).running = true ∧ mget [] (vault [lord k] 0).train.lomef 0 = [lord k] ∧
      (lord k).running = false ∧ (lord k).kind = k ∧ soundB (vault [lord k] 0) (lord k) = true) ∧
    ((vault [lord 1] 0).st F.PCI_PORT_STATE 3).rd F.PCI_PORT_STATE = 3 ∧
    ((vault [lord 1] 0).st F.PCI_PORT_STATE 4).shareUp 0 = false ∧ (lord 0).bad = some 0 ∧
    (vault [lord 3] 0).shareServed 0 = true ∧ (tensorOf 0 (tens 0)).watch = false ∧
    (tensorOf 0 (tens 16)).watch = true ∧ soundB (vault [lord 3] 16) (lord 3) = true := by decide +kernel

/-- Buffer 0x1000 holds an escrow of step 1 in a state; 0x2000 one of step 9 in another. -/
def escrowed (l : List LOrder) (a b : Nat) : State :=
  ((vault l 0).shareWrite 0 0x1000 (newHdr 1 a 1 0 0)).shareWrite 0 0x2000 (newHdr 9 b 1 0 0)

/-- A first buffer that is empty, one that must be kept, both kept; an unhealthy step; staging that reads. -/
theorem wit_LomefOrdersRunInShareOrder_escrow :
    let s := vault [lord 1] 0
    let u := (s.lmfBusy 0 (lord 1)).takeUnc 1 ((s.lmfBusy 0 (lord 1)).tensors [] 0 (lord 1)).2.2
    u.healthBase 1 1 = 0 ∧ u.acct 1 = some acct1 ∧ acct1.buffers 0 = [] ++ 0x1000 :: [0x2000] ∧
      hdrState (u.hdr 0 0x1000) = 0 ∧
      (u.accRead [] 1 (lord 1).staging (escExtent [tensorOf 0 (tens 0)]).2).fault = none ∧
      (u.accRead [] 1 (lord 1).staging (escExtent [tensorOf 0 (tens 0)]).2).status = 0 ∧
      escExtent [tensorOf 0 (tens 0)] = (0x80, 4) ∧
      (u.setHealth { u.stepHealth 1 1 with nanInf := true }).healthBase 1 1 ≠ 0 ∧
      (∀ off ∈ acct1.buffers 0, hdrState ((escrowed [lord 1] 2 3).hdr 0 off) = 2 ∨
        hdrState ((escrowed [lord 1] 2 3).hdr 0 off) = 3) ∧
      hdrState ((escrowed [lord 1] 3 0).hdr 0 0x1000) = 3 ∧ hdrState ((escrowed [lord 1] 3 0).hdr 0 0x2000) = 0 := by
  decide +kernel

/-- An update without an escrow, one whose escrow is not resolved yet, one that goes on. -/
theorem wit_LomefOrdersRunInShareOrder_update :
    (vault [lord 2] 0).updCase 0 (lord 2) = .stop 0x05 ∧ (escrowed [lord 2] 2 0).updCase 0 (lord 2) = .wait ∧
    (escrowed [lord 2] 3 0).updCase 0 (lord 2) = .go 0x1000 := by decide +kernel

/-- Running orders: with a status, on a lost share, an escrow complete, an update applied. -/
theorem wit_LomefOrdersRunInShareOrder_ends :
    let run := fun (o : LOrder) => { o with running := true, buffer := 0x1000 }
    let s := vault [run (lord 1)] 0
    let up := { run (lord 2) with sumsq := 1 }
    (run (lord 1)).running = true ∧ mget [] s.train.lomef 0 = [run (lord 1)] ∧ s.shareServed 0 = true ∧ s.shareUp 0 = true ∧
      (run (lord 1)).status = none ∧ { run (lord 1) with status := some 4 }.status = some 4 ∧ up.sumsq ≠ 0 ∧
      (s.st F.PCI_PORT_STATE 4).shareUp 0 = false ∧ (s.st F.GLB_FW_STATE 4 0 9).shareServed 0 = false ∧
      (vault [up] 0).acct up.account = some acct1 := by decide +kernel

/-- A tensor list that does not read, a field of the first tensor that breaks R311, escrow bytes past the share, a Groat
copy of a scale above R106. -/
theorem wit_LomefOrdersRunInShareOrder_stops :
    let s := fun (b : List Byte) => (vault [lord 2] 0).shareWrite 0 0x4000 b
    let bad := (tens 0).take 24 ++ [2#8] ++ (tens 0).drop 25
    ((s bad).tensors [] 0 (lord 2)).2.1 = 0 ∧ ((s bad).tensors [] 0 (lord 2)).1 = [bad] ∧
    tensorBad false bad ≠ none ∧
    ((vault [lord 2] 0).tensors [0x4000 / 8 + vaultBase / 8] 0 (lord 2)).2.1 ≠ 0 ∧
    escBad (2 ^ 40 - 0x80) [tensorOf 0 (tens 0)] = some 8 ∧ escBad 0x1000 [tensorOf 0 (tens 0)] = none := by decide +kernel

/-- A gate of account 1 for step 1, and the same in the exchange since time 0. -/
def aGate : Gate := ⟨1, 0, 1, 0, 0x7F800000, 0x7F800000, 100, 0x8000, 0x8100, none, 0, 0, none⟩
def entered : Gate := { aGate with enteredAt := some 0 }

def gated (g : Gate) : State :=
  let s := asks bound1 0x05 []
  { s with train := { s.train with gates := [g] }, clk := ⟨2500000, true, 0, 0⟩ }

theorem wit_GatesAreExchangedOnceAndResolved :
    (asks bound1 0x05 []).running = true ∧ (asks bound1 0x05 []).cmdAcct 0 0x05 = some 1 ∧
    (asks bound1 0x05 []).train.gates = [] ∧ (∃ g ∈ (gated aGate).train.gates, g.slot = 0) ∧
    (asks mapped 0x05 []).acct 1 = none ∧ (asks bound1 0x05 []).acct 1 ≠ none ∧ (gated aGate).gateOf 1 = some aGate ∧
    (gated aGate).acct 1 = some acct1 ∧ aGate.enteredAt = none ∧ (gated aGate).wrt.queues = [] ∧
    (∀ c ∈ acct1.shares, ((gated aGate).st F.LMF_STATUS_LOST 1).shareLost c = true) ∧
    (∀ h ∈ (gated aGate).train.gates, h.account = 1 → h.slot = 0 → h = aGate) ∧
    (∃ p ∈ ((gated aGate).setQueue 0 { aQueue with batches := [{ noBatch with step := some 1 }] }).wrt.queues,
      p.2.account = 1 ∧ ∃ b ∈ p.2.batches, b.step = some 1) ∧
    (gated entered).gateOf 1 = some entered ∧ (gated entered).keepersRun acct1 = true ∧ ((gated entered).st F.GLB_FW_STATE 3 0 2).keepersRun acct1 = false ∧ acct1.ring = [acct1.rank] ∧
    entered.enteredAt = some 0 ∧ 0 + 25000 * entered.timeoutMs ≤ (gated entered).clk.now ∧
    (∃ r ∈ { acct1 with ranks := 2 }.ring, r ≠ acct1.rank ∧ gateWordOf [] 1 r = none) ∧
    { acct1 with ledgerCount := 0, layerCount := 0 }.ledgerCount = 0 := by decide +kernel

/-- A forced resolution, one from rank 3 with an entry of the step, one with none. -/
theorem wit_GatesAreExchangedOnceAndResolved_resolve :
    let s := fun force => asks bound1 0x06 (natLe 8 1 ++ natLe 2 3 ++ natLe 1 force)
    (∀ f ∈ [0, 1], (s f).running = true ∧ (s f).cmdAcct 0 0x06 = some 1 ∧ (s f).acct 1 = some acct1 ∧
      field ((s f).cmdBytes 0) 16 8 = 1 ∧ field ((s f).cmdBytes 0) 24 2 = 3 ∧ field ((s f).cmdBytes 0) 26 1 % 2 = f) ∧
    3 ≠ acct1.rank ∧ field (natLe 8 1 ++ natLe 1 1) 0 8 = 1 ∧ field (natLe 8 1 ++ natLe 1 1) 8 1 = 1 ∧
    field (natLe 8 1 ++ natLe 1 3) 8 1 ≠ 1 := by decide +kernel

/-! ### Fabric -/

/-- Port 5 is up and in the set. -/
def fabric : State := (ready.st F.ETH_PORT_STATE 2 0 5).st F.ETH_PORT_IN_SET 1 0 5

/-- The fourth time within an hour; a port that retrains; a queue that still takes the last frame; a tally frame. -/
theorem wit_PortsTrainAndHostFramesPass : fabric.up = true ∧ fabric.portUp 5 = true ∧ fabric.portUp 4 = false ∧
    (fabric.within (mget [] fabric.fab.downs 5) (25000000 * 3600)).length < 3 ∧ fabric.fwState 5 ≠ 5 ∧
    3 ≤ ({ fabric with fab := { fabric.fab with downs := [(5, [0, 0, 0])] } }.within [0, 0, 0] (25000000 * 3600)).length ∧
    (fabric.st F.GLB_FW_STATE 5 0 5).fwState 5 = 5 ∧ (fabric.st F.ETH_PORT_STATE 3 0 5).portState 5 = 3 ∧
    fabric.fwRuns 5 = true ∧ fabric.nor.degrade.length < 1024 ∧
    fabric.ownFrame 5 (List.replicate 60 0#8) = false ∧
    ((fabric.st F.ETH_ENCAP_MODE 1).st F.ETH_TYPE_ETHERTYPE 0x88B5).ownFrame 5
      (List.replicate 12 0#8 ++ [0x88#8, 0xB5#8] ++ List.replicate 46 0#8) = true ∧
    mget 0 fabric.fab.hostBusy 5 ≤ fabric.clk.now ∧
    fabric.clk.now < mget 0 { fabric.fab with hostBusy := [(5, 1)] }.hostBusy 5 ∧ (List.replicate 60 0#8).length ≤ 9216 ∧
    9216 < (List.replicate 9217 0#8).length := by decide +kernel

/-- Account 1 as rank 0 of 4 under job 7, with peer 2 of generation 3, heard at time 0. -/
def acct4 : Acct := { acct1 with ranks := 4 }
def peer2 : Peer := ⟨1, 2, List.replicate 24 0#8 ++ natLe 4 3 ++ List.replicate 36 0#8, 0, 0, 0, 0⟩

def ranked : State :=
  let s := (bound1.st F.ETH_PORT_STATE 2 0 5).st F.ETH_PORT_IN_SET 1 0 5
  { s with accts := [(1, acct4)], fab := { s.fab with peers := [peer2] } }

/-- A packet of a type from rank 2 to rank 0: message 0, PSN, offset 0, payload, with its CRC (R344). -/
def packet (typ psn : Nat) (p : List Byte) : List Byte :=
  let h := natLe 1 (16 + typ) ++ natLe 1 0 ++ natLe 2 7 ++ natLe 2 2 ++ natLe 2 0 ++ natLe 2 3 ++ natLe 2 p.length ++ natLe 4 0 ++
    natLe 4 psn ++ natLe 4 0 ++ natLe 4 0
  h ++ natLe 4 (crc32c (h ++ p)).toNat ++ p

/-- A packet of each type; one too short, one of another rank, one of another generation; a PSN new and one seen. -/
theorem wit_TallyPacketsAreCheckedThenTaken :
    ranked.running = true ∧ ranked.portUp 5 = true ∧
    (∀ typ ∈ [1, 2, 3, 4, 5], TallyOk ranked typ (packet typ 0 [1#8, 2#8]) 1 acct4 peer2) ∧
    ¬ 32 ≤ (List.replicate 31 0#8).length ∧ ({ ranked with fab := { ranked.fab with peers := [] } }.peer 1 2) = none ∧
    (∃ p, ({ ranked with fab := { ranked.fab with peers := [{ peer2 with entry := [] }] } }.peer 1 2) = some p ∧
      p.gen % 65536 ≠ field (packet 1 0 []) 8 2) ∧
    psnNear 0 (field (packet 1 0 []) 16 4) = 0 ∧ (ranked.path 1 2 5).rxNext = 0 ∧
    psnNear 1 (field (packet 1 0 []) 16 4) < 1 ∧ ranked.fab.colls = [] ∧ ranked.fab.rx = [] ∧ ranked.fab.tx = [] ∧
    (ranked.path 1 2 5).rxUnacked < 15 ∧ ranked.acct 1 ≠ none ∧
    15 ≤ { ranked.path 1 2 5 with rxUnacked := 15 }.rxUnacked ∧ ranked.heldBack 1 2 0 = false := by
  unfold TallyOk; decide +kernel

/-- A message of two bytes under way from peer 2, to an address of account 1. -/
def coming : RxMsg := ⟨0, 1, 2, 0, 0, .va 0x9000, 2, [], 0, 0⟩

theorem wit_TallyPacketsAreCheckedThenTaken_messages :
    coming.complete = false ∧ coming.msg % 2 ^ 32 = field (packet 1 0 [1#8, 2#8]) 12 4 ∧
    field (packet 1 0 [1#8, 2#8]) 20 4 + ((packet 1 0 [1#8, 2#8]).length - 32) ≤ coming.len ∧
    coming.len < field (packet 1 0 [1#8, 2#8, 3#8]) 20 4 + ((packet 1 0 [1#8, 2#8, 3#8]).length - 32) ∧
    (⟨0, 1, 2, 0, [1#8], [5], [], 0⟩ : TxMsg).msg % 2 ^ 32 = field (packet 5 0 []) 12 4 ∧ F.ETH_RETX_COUNT.max ≥ 1 := by
  decide +kernel

/-- Timers before and at their time. -/
theorem wit_FabricTimersActWhenTheyExpire :
    let q := { newPath 1 2 5 0 with rxOldest := some 0, gaps := [(4, 0), (6, 24999900)], unacked := [⟨0, 0, 0, [1#8], 0⟩] }
    let s := { ranked with fab := { ranked.fab with paths := [q] }, clk := ⟨25000000, true, 0, 0⟩ }
    s.running = true ∧ s.path 1 2 5 = q ∧ q.rxOldest = some 0 ∧ 0 + 200 ≤ s.clk.now ∧ (∃ g ∈ q.gaps, g.2 + 400 ≤ s.clk.now) ∧
      (∃ g ∈ q.gaps, s.clk.now < g.2 + 400) ∧ (0 : Nat) < 200 ∧ q.unacked ≠ [] ∧ q.lastAck + 1250000 ≤ s.clk.now ∧ 0 + 5000 ≤ s.clk.now ∧
      { coming with got := [(0, [1#8])] }.got ≠ [] ∧ { coming with got := [(0, [1#8])] }.complete = false ∧
      coming.lastAt + 5000000 ≤ s.clk.now ∧ s.peer 1 2 = some peer2 ∧ peer2.lastHeard + 25000000 ≤ s.clk.now ∧
      ranked.clk.now < peer2.lastHeard + 25000000 ∧ 3 ≤ { coming with resends := 3 }.resends := by decide +kernel

/-- A collective that only sends to peer 2, silent for 1 s; one that peer 2 owes nothing. -/
theorem wit_FabricTimersActWhenTheyExpire_silence :
    let c : Coll := ⟨4, 1, 0, 0, 0, [], [0, 2], [], false, true, 0, false, [(2, [5])], [⟨2, 0, true, 0, 1⟩], [],
                     noResult 0 0 0, []⟩
    let s := { ranked with fab := { ranked.fab with colls := [c], tx := [⟨4, 1, 2, 0, [1#8], [5], [], 0⟩] },
                           clk := ⟨25000000, true, 0, 0⟩ }
    s.fab.colls = [] ++ c :: [] ∧ c.account = 1 ∧ (∃ l ∈ c.legs, l.peer = 2) ∧ s.peer 1 2 = some peer2 ∧
      peer2.lastHeard + 25000000 ≤ s.clk.now ∧ (∃ m ∈ s.fab.tx, m.account = 1 ∧ m.peer = 2 ∧ m.coll = c.id) ∧
      (∀ m ∈ s.fab.rx, m.account = 1 → m.peer = 2 → m.complete = false → m.resends < 3) := by decide +kernel

/-- A clearing order: opcode, book 0, FP32 in and out, granule 1, tag 9, source 0x9000, destination 0xA000, 4 elements. -/
def clrBytes (op tag : Nat) : List Byte :=
  natLe 1 op ++ natLe 1 0 ++ natLe 1 1 ++ natLe 1 1 ++ natLe 1 0 ++ natLe 1 0 ++ natLe 2 1 ++ natLe 4 tag ++ natLe 4 0 ++
    natLe 8 0x9000 ++ natLe 8 0xA000 ++ natLe 8 4 ++ List.replicate 24 0#8

/-- Account 1 alone in book 0; queue 0's running batch has one clearing order left. -/
def clearing (op : Nat) : State :=
  let s := { bound1 with accts := [(1, { acct1 with books := [some [0], none, none, none] })] }
  s.setQueue 0 { aQueue with cores := 1, batches := [{ noBatch with clr := [⟨clrBytes op 9, false, none⟩] }] }

/-- No collective under way: nothing wakes. -/
theorem idle_colls {s : State} (h : s.fab.colls = []) : s.wakeColls [] = s := by
  simp [State.wakeColls, State.advanceColls, h]

/-- A gather alone in its ring, a DROP, an order that no book serves, dispatchers that run and one that does not. -/
theorem wit_ClearingOrdersAreIssuedInOrder :
    (clearing 1).wakeColls [] = clearing 1 ∧
    (∀ op ∈ [1, 2, 3, 4, 5, 6], (clearing op).running = true ∧
      (clearing op).nextClr 0 = some (0, ⟨clrBytes op 9, false, none⟩) ∧ (clrF (clrBytes op 9)).op = op) ∧
    (∀ d ∈ (clearing 1).queueDies (((clearing 1).queue 0).getD aQueue), (clearing 1).fwRuns d = true) ∧
    (clearing 1).fab.colls = [] ∧ (clearing 1).clrReason 1 0 (clrBytes 1 9) = 0 ∧
    (clearing 1).clrReason 1 0 (clrBytes 0 9) = 1 ∧ (clearing 6).clrReason 1 0 (clrBytes 6 9) = 0 ∧
    bound1.clrReason 1 0 (clrBytes 1 9) = 2 ∧ (clearing 1).book 1 0 = some [(clearing 1).rankOf 1] ∧
    (clearing 6).readersLeft 0 1 { noBatch with admittedAt := 0 } = false ∧
    ((clearing 1).accRead [] 1 0x9000 16).unc = false ∧ ((clearing 1).accRead [] 1 0x9000 16).lost = false ∧
    ((clearing 1).accRead [] 1 0x9000 16).fresh = [] :=
  ⟨idle_colls (by decide +kernel), by decide +kernel⟩

/-- A collective of a ring of one with nothing to wait for; one that waits; a permute's last round. -/
def coll (op : Nat) : Coll := ⟨0, 1, 0, 0, 0, clrBytes op 9, [0], [], false, true, 0, false, [], [], [], noResult 0 0 0, []⟩

theorem wit_ClearingOrdersAreIssuedInOrder_collectives :
    let s := fun c => { clearing 1 with fab := { (clearing 1).fab with colls := [c] } }
    (coll 1).f.tag = (9#32).toNat ∧ (s (coll 1)).collDone (coll 1) = true ∧ (coll 1).f.sparse = false ∧
      (s { coll 1 with waiting := true }).collDone { coll 1 with waiting := true } = false ∧
      (s { coll 1 with waiting := true }).mayStart { coll 1 with waiting := true } = true ∧
      (coll 4).f.op = 4 ∧ (s (coll 4)).stageIn (coll 4) 0 = true ∧ (coll 4).stage ≠ 7 ∧ { coll 4 with stage := 7 }.stage = 7 := by
  decide +kernel

/-- A book of one rank at 0xB000, one of no rank, one at an address without memory, an account not bound. -/
theorem wit_ClearingOrdersAreIssuedInOrder_books :
    let s := asks (bound1.accWrite 1 0xB000 [1#8]) 0x04 (natLe 8 0 ++ natLe 8 0xB000)
    s.running = true ∧ s.cmdAcct 0 0x04 = some 1 ∧ field (s.cmdBytes 0) 16 1 ≤ 3 ∧ field (s.cmdBytes 0) 24 8 = 0xB000 ∧
      s.acct 1 = some acct1 ∧ (s.bookCheck 1 acct1 0 0xB000).1 = 0 ∧ (s.bookCheck 1 acct1 0 0xC000).1 = 2 ∧
      (s.bookCheck 1 acct1 0 0x40000000).1 = 4 ∧ (asks mapped 0x04 []).acct 1 = none := by decide +kernel

/-! ### Exchequer units -/

/-- Unit 0 of account 1 with its host core and engines; a page of real-time window of die 0 at 0x200000 of the account,
which holds a loop descriptor, a table of one variable and an empty program. -/
def solver : State :=
  let s := (((bound1.st F.GLB_FEATURES_AGREED 3).st F.SEQ_PRESENT_MASK (2 ^ 64 - 1)).st F.ENG_PRESENT_MASK (2 ^ 32 - 1) 0
    (hostCore 0)).st F.STR_CTRL_RT_UNITS 1
  let s := s.st F.STR_LOCAL_N 64
  let s := { s with accts := [(1, { acct1 with exq := 1 })],
                    ms := { s.ms with runs := s.ms.runs ++ [(1, (⟨1, windowPage 0, 1, 1, true, true, true, 0⟩ : Run))] } }
  let s := s.accWrite 1 0x200000 (natLe 8 0x200100 ++ natLe 8 0x200200 ++ natLe 8 0 ++ natLe 8 0 ++ natLe 8 0 ++
    natLe 4 100000 ++ natLe 4 1 ++ natLe 2 10 ++ [1#8, 0#8, 0#8, 1#8, 1#8, 0#8] ++ natLe 2 7 ++ natLe 2 0 ++ natLe 2 1)
  let s := s.accWrite 1 0x200100 (natLe 2 1 ++ natLe 2 0 ++ natLe 4 (2 ^ 24) ++ natLe 4 (2 ^ 24) ++ natLe 4 (2 ^ 24) ++
    natLe 4 (2 ^ 24))
  s.accWrite 1 0x200130 (natLe 4 128 ++ natLe 4 160 ++ natLe 4 164 ++ natLe 4 168 ++ natLe 4 168 ++ natLe 4 172 ++ natLe 4 172)

def admits (s : State) (u : Nat) (p : Loop → ExqTable → Bool) : Bool :=
  match s.admitLoop 1 u 0x200000 with
  | .ok (lp, tb, _, _) => p lp tb
  | .error _ => false

def fails (s : State) (u va r : Nat) : Bool :=
  match s.admitLoop 1 u va with
  | .ok _ => false
  | .error e => e == r

/-- A loop that starts, one whose descriptor has no page, one on a unit the account does not hold. -/
theorem wit_LoopsStartSwitchAndStop :
    let s := asks solver 0x0A (natLe 8 0x200000 ++ natLe 1 0)
    s.running = true ∧ s.cmdAcct 0 0x0A = some 1 ∧ field (s.cmdBytes 0) 16 8 = 0x200000 ∧ field (s.cmdBytes 0) 24 1 = 0 ∧
      s.fwState 8 ≠ 5 ∧ s.fwRuns 8 = true ∧ (s.st F.GLB_FW_STATE 5 0 8).fwState 8 = 5 ∧
      (s.st F.GLB_FW_STATE 3 0 8).fwRuns 8 = false ∧
      admits s 0 (fun lp tb => decide (tb.b0 lp.cap ≤ lp.period)) = true ∧ fails s 1 0x200000 8 = true ∧
      fails s 0 0x1000 5 = true := by decide +kernel

/-- A table of one variable, with or without a measurement. -/
def tableOf (y : Nat) (eps : Int) : ExqTable :=
  ⟨0x200100, 1, 0, y, 2 ^ 24, 2 ^ 24, 2 ^ 24, 2 ^ 24, eps, eps, 0, 2 ^ 14, 2 ^ 14, 0, 0, List.replicate 22 0, [0#8], [0], [], [0],
    [], [], [], fingerprint 1 0 [0#8]⟩

def loopOf (y release : Nat) (inVa : Nat) : Loop :=
  ⟨1, 0x200200, inVa, 0, 100000, 10, 1, 1, 5, 1, 1, 7, y, 1, [], 0, release, false⟩

/-- Unit 0 in a phase with a table, a problem, its factor and a loop released at a count. -/
def unitIn (ph : ExqPhase) (y : Nat) (eps : Int) (release inVa now : Nat) : State :=
  let t := tableOf y eps
  let e := { exqDef with loop := some (loopOf y release inVa), phase := ph, table := some t, cyc := some t,
                         prob := t.baseProblem, factor := some ⟨[[]], [2 ^ 24], [1], none, 0⟩, iter := t.zeroIter,
                         next := some t.baseProblem }
  let s := solver.setUnit 0 e
  { s.st F.ETH_PORT_STATE 2 0 5 with clk := ⟨now, true, 0, 0⟩ }

theorem wit_LoopsStartSwitchAndStop_running :
    let s := asks (unitIn .idle 0 0 0 0 0) 0x0C (natLe 8 0x200100 ++ natLe 1 0)
    s.cmdAcct 0 0x0C = some 1 ∧ s.loopOf 0 1 = true ∧ s.loopOf 1 1 = false ∧ (s.unit 0).loop = some (loopOf 0 0 0) ∧
      (s.unit 0).table = some (tableOf 0 0) ∧
      (match readTable (s.exqRead 1 (some 0)) 0x200100 0x200200 false 0 with
        | .ok tb => tb.n == 1 && tb.m == 0 | .error _ => false) = true ∧
      (match readTable (s.exqRead 1 (some 0)) 0x1000 0x200200 false 0 with | .ok _ => false | .error r => r == 5) = true ∧
      CanWrite s (.hart 0) 21 F.EXQ_STOP_STOP.key ∧ CanWrite s (.hart 0) 21 F.EXQ_SWITCH_VA_VA.key :=
  ⟨by decide +kernel, by decide +kernel, by decide +kernel, by decide +kernel, by decide +kernel, by decide +kernel,
    by decide +kernel, can_of (by decide +kernel), can_of (by decide +kernel)⟩

/-- A fragment of the one element, cycle `c`, stream 7, with its CRC (R399). -/
def fragment (c : Nat) : List Byte :=
  let b := [1#8, 0#8] ++ natLe 2 7 ++ natLe 4 c ++ [0#8, 1#8] ++ natLe 2 0 ++ natLe 2 1 ++ natLe 2 0 ++ natLe 4 5
  b ++ natLe 4 (crc32c b).toNat

/-- A release before and at its count, with a measurement and without; fragments new, old and of no stream. -/
theorem wit_CyclesRunToTheirDeadline :
    (unitIn .idle 0 0 5 0 5).running = true ∧ ((unitIn .idle 0 0 5 0 5).unit 0).loop = some (loopOf 0 5 0) ∧
    (loopOf 0 5 0).release ≤ (unitIn .idle 0 0 5 0 5).clk.now ∧ (unitIn .idle 0 0 5 0 4).clk.now < (loopOf 0 5 0).release ∧
    ((unitIn .idle 1 0 5 0 5).unit 0).bursts = [] ∧ ((unitIn .idle 1 0 5 0 5).unit 0).phase = .idle ∧ (loopOf 1 5 0).yLen ≠ 0 ∧
    ((unitIn .rebuilding 1 0 5 0 5).unit 0).phase = .rebuilding ∧
    fragOk (loopOf 1 0 0) (fragment 3) = true ∧ fragOk (loopOf 1 0 0) [] = false ∧
    newer (field (fragment 3) 4 4) 2 = true ∧ newer (field (fragment 3) 4 4) 3 = false ∧
    (unitIn .waitInput 1 0 0 0 0).portUp 5 = true ∧ (unitIn .waitInput 1 0 0 0 0).xrd F.EXQ_PLANT_C_LAST 0 = 0 ∧
    (0 : Nat) ≤ ((unitIn .waitInput 1 0 0 0 0).unit 0).cutoffAt (loopOf 1 0 0) ∧
    ((unitIn .waitInput 1 0 0 0 100000).unit 0).cutoffAt (loopOf 1 0 0) ≤ 100000 := by decide +kernel

/-- An input ring at 0x204000 of the window that holds the fragment of cycle 1. -/
theorem wit_CyclesRunToTheirDeadline_ring :
    let s := (unitIn .waitInput 1 0 0 0x204000 0).accWrite 1 0x204000 (fragment 1)
    (s.unit 0).phase = .waitInput ∧ (loopOf 1 0 0x204000).inVa ≠ 0 ∧
      (match s.exqRead 1 (some 0) 0x204000 64 with
        | .ok b => fragOk (loopOf 1 0 0x204000) b && newer (field b 4 4) 0 | .error _ => false) = true ∧
      (match (unitIn .waitInput 1 0 0 0x1000 0).exqRead 1 (some 0) 0x1000 64 with | .ok _ => false | .error _ => true) = true := by
  decide +kernel

/-- An iteration that converges, one that goes on, one at the cap; each phase in time and past its deadline. -/
theorem wit_CyclesRunToTheirDeadline_phases :
    (∀ ph ∈ [ExqPhase.assembling, .factoring, .iterating], (unitIn ph 0 0 0 0 0).running = true ∧
      ((unitIn ph 0 0 0 0 0).unit 0).phase = ph ∧ ((unitIn ph 0 0 0 0 0).unit 0).cyc = some (tableOf 0 0) ∧
      ((unitIn ph 0 0 0 0 0).unit 0).busy = true ∧ ((unitIn ph 0 0 0 0 0).unit 0).order = none ∧
      ((unitIn ph 0 0 0 0 0).unit 0).uncAt = none ∧ (unitIn ph 0 0 0 0 0).exqFenced 0 = false ∧
      ((unitIn ph 0 0 0 0 0).unit 0).next = some (tableOf 0 0).baseProblem) ∧
    (tableOf 0 0).hasSetm = false ∧ ((unitIn .assembling 0 0 0 0 0).unit 0).cycNew = false ∧
    (loopOf 0 0 0).release + (loopOf 0 0 0).period ≤ 100000 ∧
    (let r := fun eps k => (iterStep (tableOf 0 eps) (tableOf 0 eps).baseProblem ⟨[[]], [2 ^ 24], [1], none, 0⟩ k 10 1
        (tableOf 0 eps).zeroIter 0 0).res
     r (2 ^ 31 - 1) 1 = .done ∧ r (-1) 1 = .more ∧ r (-1) 10 = .cap) := by decide +kernel

/-- A solve order of unit 0 for queue 0 that reads, one of a table without a page; an order that runs. -/
def solveBytes (op va : Nat) : List Byte :=
  [BitVec.ofNat 8 op, 0#8] ++ natLe 2 10 ++ [1#8, 0#8] ++ natLe 2 0 ++ natLe 8 va ++ natLe 8 0x200200 ++ List.replicate 40 0#8

def ordered (b : List Byte) (o : Option ExqOrder) : State :=
  (solver.setQueue 0 { aQueue with exq := 1 }).setUnit 0 { exqDef with orders := [(0, 0, b)], order := o }

theorem wit_SolveOrdersRunAndDeliver :
    (ordered (solveBytes 1 0x200100) none).running = true ∧
    (ordered (solveBytes 1 0x200100) none).queue 0 = some { aQueue with exq := 1 } ∧
    ((ordered (solveBytes 1 0x200100) none).unit 0).orders = [(0, 0, solveBytes 1 0x200100)] ∧
    ((ordered (solveBytes 1 0x200100) none).unit 0).order = none ∧
    (∀ op ∈ [1, 2], field (solveBytes op 0) 0 1 = op ∧ field (solveBytes op 0) 1 1 % 2 = 0 ∧
      (match (ordered (solveBytes op 0x200100) none).orderRead 0 1 0 (solveBytes op 0x200100) with
        | .ok (tb, y, sat, none) => tb.n == 1 && y.isEmpty && sat == 0 | _ => false) = true ∧
      (match (ordered (solveBytes op 0x40000000) none).orderRead 0 1 0 (solveBytes op 0x40000000) with
        | .error r => r == 5 | _ => false) = true) ∧
    ((ordered [] (some ⟨0, 0, 1, 0, [(0x9000, [1#8])], (0, 0, 0)⟩)).unit 0).order =
      some ⟨0, 0, 1, 0, [(0x9000, [1#8])], (0, 0, 0)⟩ ∧
    (solver.accWriteStatus 1 0x9000 1) = 0 ∧ (solver.accWriteStatus 1 0x40000000 1) = 4 := by decide +kernel

/-- Words of a unit's store: no uncorrectable one yet, one 9 s ago, a fenced unit, no table; a slot of the ring told once. -/
theorem wit_CyclesRunToTheirDeadline_words :
    let s := unitIn .iterating 1 0 0 0 250000000
    let before := { s.unit 0 with uncAt := some 25000000, ringSeen := [(1, 4)] }
    let idle := unitIn .idle 1 0 0 0 0
    (s.unit 0).table = some (tableOf 1 0) ∧ s.exqFenced 0 = false ∧ (s.unit 0).order = none ∧ (s.unit 0).uncAt = none ∧
      (s.unit 0).phase ≠ .idle ∧ (s.unit 0).phase ≠ .rebuilding ∧ before.uncAt = some 25000000 ∧
      s.clk.now < 25000000 + 250000000 ∧ (idle.unit 0).phase = .idle ∧ (s.setUnit 0 exqDef).exqFenced 0 = false ∧
      ((s.setUnit 0 exqDef).unit 0).table = none ∧ mget 0 before.ringSeen 1 = field (fragment 3) 4 4 + 1 ∧
      mget 0 (s.unit 0).ringSeen 1 ≠ field (fragment 3) 4 4 + 1 ∧
      (s.unit 0).progressAt + 25 * s.rd F.EXQ_CTRL_HANG_US (0 / 4) ≤ s.clk.now ∧ (s.unit 0).busy = true := by decide +kernel

/-- A running order and an uncorrectable word with no earlier one; a block with nowhere to go. -/
theorem wit_SolveOrdersRunAndDeliver_words :
    let s := (ordered [] none).setUnit 0 { exqDef with table := some (tableOf 0 0),
                                                       order := some ⟨0, 0, 1, 0, [(0x9000, [1#8])], (0, 0, 0)⟩ }
    (s.unit 0).order = some ⟨0, 0, 1, 0, [(0x9000, [1#8])], (0, 0, 0)⟩ ∧ (s.unit 0).table = some (tableOf 0 0) ∧
      s.exqFenced 0 = false ∧ (s.unit 0).uncAt = none ∧ (s.unit 0).phase ≠ .rebuilding ∧
      { exqDef with phase := .rebuilding }.phase = .rebuilding := by decide +kernel

/-! ### Tokens -/

/-- The identity keys of a module and its device identifier. -/
def idKeys : IdKeys := ⟨[], [], List.replicate 384 1#8, List.replicate 48 2#8, List.replicate 16 7#8⟩

/-- The header of a token: action 1 under key 0, for that device, with nonce 5. -/
def tokenBytes : List Byte :=
  tokenMagic ++ [1#8, 0#8, 0#8, 0#8] ++ idKeys.deviceId ++ natLe 16 5 ++ List.replicate 24 0#8

/-- A charter whose one directory entry names 512 bytes of operator keys: key 0 may do anything. -/
def keysBody : List Byte :=
  natLe 4 1 ++ natLe 4 592 ++ natLe 4 0 ++ natLe 4 1 ++ List.replicate 48 0#8 ++ natLe 2 8 ++ natLe 2 0 ++ natLe 4 80 ++
    natLe 4 512 ++ natLe 4 0 ++ [0#8, 7#8] ++ List.replicate 14 0#8 ++ List.replicate 384 3#8 ++ List.replicate 48 4#8 ++
    List.replicate 64 0#8

/-- The command names the token at 0x100; its nonce is live. -/
def tokened : State :=
  let s := (asks bound1 0x0E (natLe 8 0x100 ++ natLe 4 16672)).devWrite 0x100 tokenBytes
  { s with boot := { s.boot with charter := keysBody }, dbk := { s.dbk with nonce := some (5, 0) },
           trust := { s.trust with keys := some idKeys } }

/-- The token's signatures under key 0, over the bytes given. -/
def signedTok (m : List Byte) : TokenSigs := ⟨⟨.rsa, tokened.keyRsa 0, m⟩, ⟨.slhS, tokened.keySlh 0, m⟩⟩

/-- A token for this module that lies in memory and passes every check. -/
theorem wit_TokensAttestationAndTheEdgeAnswer_accepted :
    CmdReady tokened 0 0x0E 1 (tokened.cmdBytes 0) ∧ tokenBytes.length ≤ 64 ∧ field (tokened.cmdBytes 0) 16 8 = 0x100 ∧
    (tokened.devRead [] 0x100 64).bytes = tokenBytes ∧
    tokened.tokenReason tokenBytes (field (tokened.cmdBytes 0) 24 4) (signedTok tokenBytes) = 0 :=
  ⟨⟨.inl (by decide +kernel), by decide +kernel, rfl⟩, by decide +kernel⟩

/-- Each reason of R499: a length, a key that is not there, another module, an old nonce, each signature, a dump under way. -/
theorem wit_TokensAttestationAndTheEdgeAnswer_refused :
    let h := tokenBytes
    let why := fun (s : State) (h : List Byte) g => s.tokenReason h 16672 g
    tokened.tokenReason h 0 (signedTok h) = 1 ∧ why tokened (h.set 5 9#8) (signedTok h) = 2 ∧
    why tokened (h.set 8 9#8) (signedTok h) = 3 ∧ why tokened (h.set 24 9#8) (signedTok h) = 4 ∧
    why tokened h (signedTok []) = 5 ∧ why tokened h { signedTok h with slh := noSig } = 6 ∧
    why { tokened with boot := { tokened.boot with phase := .fatal } } h (signedTok h) = 7 := by decide +kernel

/-! ### Processors, sessions, accounts -/

/-- Processor 3 with two crashes in the last minute; processor 7 restarting; processor 5 to update. -/
theorem wit_ProcessorsRestartUpdateAndFail :
    ready.up = true ∧ ready.fwState 3 = 2 ∧ (ready.proc 3).upd = none ∧
    (ready.clk.now :: ready.within (ready.proc 3).crashTimes 1500000000).length < 3 ∧ ready.wrt.restarts = [] ∧
    (let s := ready.setProc 3 { ready.proc 3 with crashTimes := [0, 0] }
     3 ≤ (s.clk.now :: s.within (s.proc 3).crashTimes 1500000000).length) ∧
    (ready.st F.GLB_FW_STATE 3 0 7).fwState 7 = 3 ∧ (ready.st F.GLB_FW_STATE 4 0 7).fwState 7 = 4 ∧
    (ready.st F.GLB_FW_STATE 1 0 7).fwState 7 ≠ 2 ∧ 40000 ≤ 40000 ∧ 40000 < 40001 ∧
    ((downProc 4).proc 4).downSince = some 0 ∧ 0 + 1000000 ≤ (downProc 4).clk.now ∧ (downProc 4).fwState 4 = 4 ∧
    ready.boot.heldFatal = none ∧ { ready.boot with phase := .fatal }.phase = .fatal ∧ off.up = false := by decide +kernel

/-- An update with a sound image passes the checks that come after the image's, if they hold. -/
theorem update_ok {s : State} {p cls : Nat} (h : s.restartWindow = false ∧ handoffClass p = false ∧
    s.rd F.TRS_STATUS_ROOT_MIN = 0 ∧ procClass p = cls ∧ cls < 11 ∧ s.floor cls = 0 ∧ ¬ p < 4 ∧
    (17 ≤ p || !s.fwAlive p) = false ∧ (List.range 17).any (fun q => (s.proc q).upd.isSome) = false) :
    s.updateReason p (block cls) = 0 := by
  obtain ⟨h1, h2, h3, h4, h5, h6, h7, h8, h9⟩ := h
  have hb := block_ok cls _ h5 h6
  simp only [State.updateReason, h1, h2, h3, h4, hb, h7, h8, h9, Bool.false_and, Bool.false_eq_true, if_false, ne_eq,
    not_true_eq_false, false_and]

/-- An update of processor 5 that is accepted and one that names no processor; offers of two major versions. -/
theorem wit_ProcessorsRestartUpdateAndFail_commands :
    let s := fun p => asks bound1 0x0D (natLe 1 p)
    (∀ p ∈ [5, 17], (s p).running = true ∧ (s p).cmdAcct 0 0x0D = some 1 ∧ field ((s p).cmdBytes 0) 16 1 = p) ∧
    (asks bound1 0x10 []).cmdAcct 0 0x10 = some 1 ∧
    field ((asks bound1 0x10 []).cmdBytes 0) 48 4 / 2 ^ 24 = (asks bound1 0x10 []).rd F.GLB_FW_VERSION / 2 ^ 24 ∧
    field ((asks bound1 0x10 (List.replicate 35 0#8 ++ [9#8])).cmdBytes 0) 48 4 / 2 ^ 24 = 9 := by decide +kernel

theorem wit_ProcessorsRestartUpdateAndFail_reasons :
    let s := fun p => asks bound1 0x0D (natLe 1 p)
    (s 5).updateReason 5 (block 5) = 0 ∧ (s 5).updateReason 5 emptySig = 3 ∧ sigForm 5 emptySig = false ∧
    ((s 5).setProc 2 { (s 5).proc 2 with upd := some sig }).updateReason 5 sig = 3 ∧
    ({ s 5 with wrt := { (s 5).wrt with restarts := [0] } }).updateReason 5 sig = 1 ∧
    (17 ≤ 5 || !(((s 5).st F.GLB_FW_STATE 5 0 5).fwAlive 5)) = true :=
  ⟨update_ok (by decide +kernel), by decide +kernel⟩

/-- The recorder restarts under a halt whose warm reset waits; a hand-off record in order and one that is not. -/
theorem wit_ProcessorsRestartUpdateAndFail_recorder :
    let s := ready.st F.GLB_FW_STATE 3 0 7
    let h := { s with boot := { s.boot with phase := .halted, resetReq := some 3 } }
    let o : Handoff := ⟨1, 4, 0, [], crc32c []⟩
    h.boot.phase = .halted ∧ h.boot.resetReq ≠ none ∧ h.fwState 7 = 3 ∧ h.up = false ∧ o.crc = crc32c o.body ∧
      { o with body := [1#8] }.crc ≠ crc32c { o with body := [1#8] }.body ∧ h.boot.heldFatal = none := by decide +kernel

/-- ATTACH with no token, in service, and of a session; heartbeats of both kinds; a lapse and an expiry. -/
theorem wit_SessionsAndAccountsMove :
    let s := asks bound1 0x01 []
    let t := { s with sess := { s.sess with token := some 77, heldAccts := [(1, 0)] }, clk := ⟨50000000, true, 0, 0⟩ }
    let v := asks bound1 0x01 (natLe 16 77)
    let late := { t with sess := { t.sess with lapsedAt := some 0 }, clk := ⟨15000000000, true, 0, 0⟩ }
    s.cmdAcct 0 1 = some 1 ∧ s.running = true ∧ BitVec.ofNat 128 (field (s.cmdBytes 0) 16 16) = 0 ∧
      BitVec.ofNat 128 (field (v.cmdBytes 0) 16 16) = 77 ∧ v.moves = [] ∧ s.ctlWrite (.hart 0) = true ∧ s.attached = false ∧
      t.attached = true ∧ t.boot.phase = .ready ∧ t.sess.lastBeat + 50000000 ≤ t.clk.now ∧
      (t.accts.map (·.1)).filter (fun a => a != 0 && !(({ t.sess with heldAccts := [] } : Session).heldAccts.map (·.1)).contains a) =
        [1] ∧ late.sess.token ≠ none ∧ late.sess.lapsedAt = some 0 ∧ 0 + 15000000000 ≤ late.clk.now ∧
      (late.sess.heldAccts.filter (fun p => decide (p.2 + 15000000000 ≤ late.clk.now) && (late.moveOf p.1).isNone)).map (·.1) =
        [1] ∧ off.ctlWrite (.hart 0) = false := by decide +kernel

/-- Core 0 present, no account bound but what is said; the descriptor of account 2 at device address 0x101000: core 0, no
queue. -/
def binds (op mode : Nat) (l : SMap Acct) : State :=
  let s := (mapped.st F.SEQ_PRESENT_MASK 1).st F.GLB_FEATURES_AGREED 32
  let s := ({ s with accts := l }).devWrite 0x101000 ([1#8] ++ List.replicate 15 0#8 ++ [1#8])
  let b := natLe 1 op ++ List.replicate 3 0 ++ natLe 2 2 ++ List.replicate 10 0 ++ natLe 8 0x101000 ++ natLe 1 mode ++ List.replicate 39 0
  let s := s.devWrite 0x100000 b
  { s with sess := { s.sess with cmds := [(0, op, 2)] } }.st F.GLB_CMD_BASE_ADDR 0x100000

/-- A BIND that begins; one of a core that another account keeps, one of a core that another is giving up. -/
theorem wit_SessionsAndAccountsMove_bind :
    let s := binds 2 0 []
    let taken := binds 2 0 [(1, acct1)]
    let freed := { taken with moves := [⟨1, none, none, [], [], [0], some 0, [], none, false⟩] }
    let p := fun (s : State) => s.plan 2 (s.devRead [] 0x101000 512)
    s.running = true ∧ s.cmdAcct 0 2 = some 2 ∧ field (s.cmdBytes 0) 16 8 = 0x101000 ∧ field (s.cmdBytes 0) 24 1 % 2 = 0 ∧
      s.moveOf 2 = none ∧ s.moves = [] ∧ (p s).reason = 0 ∧ (p taken).reason = 2 ∧ (p freed).reason = 0 ∧
      (∃ o ∈ freed.otherAccts 2, (freed.heldNow o).meets ((p freed).acct.held []) = true) ∧
      coresMoved (s.heldNow 2) ((p s).acct.held []) = [0] ∧ (p (s.st F.GLB_FEATURES_AGREED 0)).reason = 7 := by decide +kernel

theorem wit_SessionsAndAccountsMove_unbind :
    let s := binds 3 0 [(2, { acct1 with lomef := 0, exq := 0 })]
    s.cmdAcct 0 3 = some 2 ∧ s.acct 2 ≠ none ∧ field (s.cmdBytes 0) 24 1 % 2 = 0 ∧ s.sess.heldAccts = [] ∧
      maskBits 16 (s.heldNow 2).exq = [] ∧ coresMoved (s.heldNow 2) Held.none = [0] ∧ (binds 3 0 []).acct 2 = none := by
  decide +kernel

/-- A core moves, its dispatcher running, and one that is not of the move; entries of the ring announced one at a time. -/
theorem wit_SessionsAndAccountsMove_cores :
    let m : Move := ⟨1, none, none, [], [], [0], some 0, [], none, false⟩
    let s := { binds 2 0 [(1, acct1)] with moves := [m] }
    let r := s.st F.GLB_CMD_SLOTS_SLOTS 16
    s.running = true ∧ m.account < 64 ∧ 0 ∈ m.cores ∧ 1 ∉ m.cores ∧ m.since ≠ none ∧ s.fwState 0 = 2 ∧
      CanWrite r (.hart 0) 0 F.GLB_CMD_TAIL_INDEX.key ∧ r.cmdSlots = 16 ∧ r.rd F.GLB_CMD_TAIL_INDEX = 0 ∧
      ((1#32).toNat % 1024 % 16 + 16 - 0) % 16 = 1 ∧ cmdWellFormed (r.cmdBytes 0) = true ∧ r.attached = false ∧
      cmdWellFormed [5#8, 0#8, 0#8, 0#8, 64#8] = false := by unfold CanWrite; decide +kernel

/-! ### The recorder, tokens, the edge, the meter -/

/-- The steward runs; a freeze and a nonce whose times have passed; a flood limit that is reached. -/
theorem wit_RecordsAreHeldPersistedAndRead :
    let s := { ready with clk := ⟨7500000000, true, 0, 9⟩ }
    let f := { s with dbk := { s.dbk with frozenAt := some 0, nonce := some (5, 0) } }
    s.ctlAlive = true ∧ (0x0061#16).toNat ∈ codeList ∧ (0xFFFF#16).toNat ∉ codeList ∧ off.ctlAlive = false ∧
      (s.floodWin 0x0061).admits 0x0061 = true ∧ FloodWin.admits ⟨0x3005, 0, 1000000, 0⟩ 0x3005 = false ∧ s.dbk.frozenAt = none ∧ s.dbk.staging.length < 4096 ∧
      (codeInfo 0x0061).1 % 4 ≠ 3 ∧ f.dbk.holding.length < 256 ∧ f.fwRuns 7 = true ∧ bare.fwRuns 7 = false ∧
      0 + 250000000 ≤ f.clk.now ∧ s.ctlWrite (.hart 0) = true ∧ s.ctlRead (.hart 0) = true ∧ reads (.hart 0) 3 = true ∧
      CanWrite s (.hart 0) 3 F.DBK_CLEAR_NONCE.key ∧ CanWrite s (.hart 0) 5 F.TRS_NONCE_CTRL_NEW.key ∧
      CanWrite s (.hart 0) 4 F.DMP_CTRL_KEEP.key ∧ s.rd F.DMP_STATUS_WRITING ≠ 1 ∧
      (f.st F.DMP_STATUS_WRITING 1).rd F.DMP_STATUS_WRITING = 1 := by unfold CanWrite; decide +kernel

theorem wit_RecordsAreHeldPersistedAndRead_commands :
    let f := fun on => asks bound1 7 (natLe 1 on)
    (∀ on ∈ [0, 1], (f on).running = true ∧ (f on).cmdAcct 0 7 = some 1 ∧ field ((f on).cmdBytes 0) 16 1 % 2 = on) ∧
    (asks bound1 8 []).cmdAcct 0 8 = some 1 ∧ (asks bound1 8 []).fwRuns 7 = true ∧
    field ((asks bound1 8 []).cmdBytes 0) 24 1 % 2 = 0 ∧ 9000000000 ≤ (9000000000 : Nat) ∧
    ({ bound1 with clk := ⟨9000000000, true, 0, 9⟩ }).dbk.opsecPersistAt + 9000000000 ≤ 9000000000 := by decide +kernel

def served : State := { ready with boot := { ready.boot with phase := .service } }

/-- A datagram of the responder: operation, address, value, fragment, with its CRC (R542). -/
def datagram (op a v : Nat) (f : List Byte) : List Byte :=
  let h := svcMagic ++ natLe 1 op ++ List.replicate 3 0#8 ++ natLe 8 a ++ natLe 4 v
  h ++ natLe 4 (crc32c (h ++ f)).toNat ++ f

/-- A charter of one directory entry of 8 bytes, with the CRC of its section. -/
def charter : CharterImage :=
  ⟨true, natLe 4 1 ++ natLe 4 88 ++ natLe 4 0 ++ natLe 4 1 ++ List.replicate 48 0#8 ++ natLe 2 3 ++ natLe 2 0 ++ natLe 4 80 ++
    natLe 4 8 ++ natLe 4 (crc32c (List.replicate 8 0#8)).toNat ++ List.replicate 8 0#8, block 0⟩

theorem wit_TokensAttestationAndTheEdgeAnswer :
    64 < (List.replicate 65 0#8).length ∧ tokened.tokenReason [] 16672 (signedTok []) = 1 ∧ ready.running = true ∧
    served.boot.phase = .service ∧ (served.st F.GPC_HARTS_ONLINE 1).rd F.GPC_HARTS_ONLINE ≠ 0 ∧ off.up = false ∧
    charterReadable charter = true ∧
    ready.floor 0 ≤ field charter.body 8 4 ∧ (ready.st F.TRS_STATUS_ID_READY 1).rd F.TRS_STATUS_ID_READY = 1 ∧
    charterReadable { charter with readable := false } = false ∧ ready.boot.phase ≠ .service := by decide +kernel

/-- A charter that passes every check, and one whose signature block is none. -/
theorem wit_TokensAttestationAndTheEdgeAnswer_charter :
    let img := startable.nor.charter
    charterReadable img = true ∧ ready.rd F.TRS_STATUS_ROOT_MIN = 0 ∧ ready.floor 0 = 0 ∧
    imgCheck 0 0 0 { img.sig with body := img.body } = 0 ∧ imgCheck 0 0 0 sig = 1 :=
  ⟨charter_checks.1, by decide +kernel, by decide +kernel, charter_verifies, by decide +kernel⟩

/-- A read of GLB_STATE, a write of GLB_RESET, fragments in the middle, at the end and beyond; a datagram of no magic. -/
theorem wit_TokensAttestationAndTheEdgeAnswer_service :
    (∀ p ∈ [(1, (addrOf F.GLB_STATE_STATE.key 0 0).toNat, 0), (2, (addrOf F.GLB_RESET_KEY.key 0 0).toNat, 5)],
      svcReadable (datagram p.1 p.2.1 p.2.2 []) = true ∧ svcOp (datagram p.1 p.2.1 p.2.2 []) = p.1 ∧
      svcAddr (datagram p.1 p.2.1 p.2.2 []) = p.2.1 ∧ (datagram p.1 p.2.1 p.2.2 []).length = 24) ∧
    svcReads (addrOf F.GLB_STATE_STATE.key 0 0).toNat = true ∧ svcWrites (addrOf F.GLB_RESET_KEY.key 0 0).toNat = true ∧
    svcWrites (addrOf F.GLB_STATE_STATE.key 0 0).toNat = false ∧ svcReadable [] = false ∧
    (∀ v ∈ [0, 16670, 16671], svcReadable (datagram 3 0 v [1#8]) = true ∧ svcOp (datagram 3 0 v [1#8]) = 3 ∧
      svcValue (datagram 3 0 v [1#8]) = v ∧ (datagram 3 0 v [1#8]).drop 24 = [1#8]) ∧ 16671 + 1 = 16672 ∧ 16672 < 16672 + 1 := by
  decide +kernel

theorem wit_TokensAttestationAndTheEdgeAnswer_links : ready.ctlAlive = true ∧
    (ready.st F.MGT_LINK_STATE 2).rd F.MGT_LINK_STATE = 2 ∧ (ready.st F.MGT_LINK_STATE 0).rd F.MGT_LINK_STATE ≠ 2 ∧
    ready.rd F.MGT_SLOT_DEBUG = 0 ∧ (ready.st F.MGT_SLOT_DEBUG 1).rd F.MGT_SLOT_DEBUG = 1 := by decide +kernel

/-! ### The meter -/

/-- The unit runs with its link, at the end of an hour of meter time. -/
def meter : State :=
  { ready with asz := { ready.asz with supplied := true, running := true, lost := false, msec := 3600, coverOpen := true } }

/-- The examples of R510: 3.0 A at 54 V registers 162 W; below 0.10 A nothing is registered. -/
theorem test_energy_sample :
    (nx (exec (.energySample 54000000 3000000) meter)).asz.eRem + 14400000000000 * (nx (exec (.energySample 54000000 3000000) meter)).asz.euwh =
      54000000 * 3000000 ∧
    (nx (exec (.energySample 54000000 99999) meter)).asz.eRem = 0 := by decide +kernel

theorem wit_TheMeterRegistersAndIsDivided :
    let a := meter.asz
    let m := fun n => { a with msec := n }
    a.running = true ∧ a.lost = false ∧ { a with running := false }.running = false ∧ (-7200000000000 : Int) ≤ a.eRem ∧
      (-7200000000000 : Int) ≤ a.rRem ∧ a.samples + 1 < 4000 ∧ 4000 ≤ { a with samples := 3999 }.samples + 1 ∧
      a.msec % a.d = 0 ∧ (m 3599).msec % a.d ≠ 0 ∧ ((m 3599).msec + 1) % a.d = 0 ∧ (a.msec + 1) % a.d ≠ 0 ∧ a.resetPend = [] ∧
      (m 3600).euwh < a.nvEuwh + 1000000 ∧ a.nvEuwh + 1000000 ≤ { a with euwh := a.nvEuwh + 1000000 }.euwh ∧
      meter.running = true ∧ (asks meter 0x0F []).sess.cmds = [(0, 0x0F, 1)] ∧ (asks bound1 0x0F []).cmdAcct 0 0x0F = some 1 ∧
      a.supplied = true ∧ { a with supplied := false }.supplied = false ∧ { a with shareBase := some 0 }.shareBase = some 0 ∧
      meter.up = true ∧ meter.fwAlive 6 = true ∧ ([(1, 10), (2, 20)].map (·.1)).Nodup ∧
      (∀ e ∈ [(1, 10), (2, 20)], e.1 < 64) ∧ { a with lastReset := some 3590 }.lastReset = some 3590 ∧ 3600 < 3590 + 60 := by
  decide +kernel

theorem wit_ReadingsAreMadeFetchedAndShown :
    let a := meter.asz
    let r : Reading := { serial := 7, rsa := noSig, slh := noSig, seq := 1, msec := 0, energyWh := 0, maxDemand := 0,
                         maxDemandAt := 0, resets := 0, d := 900, flags := 0, legal := 0, swVersion := 0, swDigest := 0,
                         rWh := 0 }
    let s := { meter with asz := { a with readings := [r] }, clk := ⟨2500000, true, 0, 0⟩ }
    a.running = true ∧ a.coverOpen = true ∧ a.legalLog.length < 1000 ∧ (64001#32).toNat > 64000 ∧ (64000#32).toNat ≤ 64000 ∧
      { a with ruwh := a.revHour.2 + 1000001 }.ruwh > a.revHour.2 + 1000000 ∧ a.ruwh ≤ a.revHour.2 + 1000000 ∧
      (a.msec % a.interval = 0 ∨ a.msec % a.d = 0) ∧ a.madeAt ≠ some a.msec ∧ a.msec ≠ 0 ∧
      { a with requested := true }.requested = true ∧ a.lastRequest ≠ some a.msec ∧
      CanWrite meter (.hart 0) 6 F.ASZ_CMD_CMD.key ∧ meter.up = true ∧ s.asz.lastFrame + 2500000 ≤ s.clk.now ∧
      s.asz.readings = [r] ∧ a.readings = [] ∧ meter.rd F.ASZ_STATUS_LOG_CLOSED ≠ 1 := by unfold CanWrite; decide +kernel

/-- A reading that the unit's certificate verifies, and one it does not. -/
theorem wit_ReadingsAreMadeFetchedAndShown_signed (r : Reading) :
    let b := meter.asz.certBody
    let good : Reading := { r with rsa := ⟨.rsa, slice b 32 384, r.body⟩, slh := ⟨.slhF, slice b 416 48, r.body⟩ }
    good.rsa = ⟨.rsa, slice b 32 384, good.body⟩ ∧ good.slh = ⟨.slhF, slice b 416 48, good.body⟩ ∧
      noSig ≠ ⟨.slhF, slice b 416 48, r.body⟩ := ⟨rfl, rfl, by simp [noSig]⟩

theorem wit_EveryCommandCompletesAndKeepsTheStores : Memory.wf seqEnd.mem = true ∧ seqBatch.queueWf = true ∧
    (∀ c rest, { ready with pending := [.recordPersist] }.pending = c :: rest → c.wf = true) :=
  ⟨by decide +kernel, by decide +kernel, fun c rest h => by injection h with h; rw [← h]; rfl⟩

end Sys2Proof.Tests
end

/-! Control space (00_scope.md R13 to R21, 17_control_space_map.md R555 to R570): the register table, where an access falls,
what a write stores, the halves of a register; then the statements of 00_scope.md. -/

namespace Sys2Proof.Machine

variable {s t : State} {p q : Requester}

/-! ### The register table -/

/-- Registers of the table lie 1,024 keys and whole words apart. -/
theorem regTable_place : ∀ r ∈ regTable, r.key % 1024 = 0 ∧ r.cnt ≤ 128 ∧ r.off % 4 = 0 ∧ r.stride % 4 = 0 := by
  decide +kernel

/-- The fields of a register lie in it, and so do the ends of their clamp ranges (R16). -/
theorem regTable_fields : ∀ r ∈ regTable, ∀ f ∈ r.flds, f.fld.key = r.key ∧ f.fld.ok = true ∧
    ∀ b ∈ f.range, b.1 ≤ b.2 ∧ b.2 ≤ f.fld.max := by
  decide +kernel

/-- No two fields of a register share a bit. -/
theorem regTable_apart : ∀ r ∈ regTable,
    r.flds.Pairwise (fun f g => f.fld.hi < g.fld.lo ∨ g.fld.hi < f.fld.lo) := by
  decide +kernel

/-- `regReset` is the Reset column (R18). -/
theorem regTable_reset : ∀ r ∈ regTable, ∀ f ∈ r.flds,
    bits (regReset r.key).toNat f.fld.hi f.fld.lo = f.reset := by
  decide +kernel

/-- No register with a locked field is one of the recorder's. -/
theorem regTable_lck_ne_dbkKeys : ∀ r ∈ regTable, ∀ f ∈ r.flds, f.acc = .lck →
    ∀ k ∈ dbkKeys, k / 1024 ≠ r.key / 1024 := by
  decide +kernel

/-- A 64-bit register is none of those whose read does more than answer (R471). -/
theorem regTable_read_of_w64 : ∀ r ∈ regTable, r.w64 = true →
    r.key ≠ F.STR_TBL_DATA_LOGICAL.key ∧ r.key ≠ F.DBK_WINDOW_WORD.key := by
  decide +kernel

/-- An element's key tells its register. -/
theorem regKey_div {r : RegInfo} (hr : r ∈ regTable) {inst idx : Nat} (hi : inst < 8) (hx : idx < 128) :
    regKey r.key inst idx / 1024 = r.key / 1024 := by
  have := (regTable_place r hr).1
  unfold regKey; omega

/-- Every element of a register has the register's Reset column. -/
theorem regReset_regKey {r : RegInfo} (hr : r ∈ regTable) {inst idx : Nat} (hi : inst < 8) (hx : idx < 128) :
    regReset (regKey r.key inst idx) = regReset r.key := by
  unfold regReset; rw [regKey_div hr hi hx]

/-! ### Where an access falls -/

/-- An address that `pageOf` places is its page's first address and the offset. -/
theorem pageOf_some {a page inst off : Nat} (ha : 0x3F0000000000 ≤ a) (h : pageOf a = some (page, inst, off)) :
    a = pageBase page inst + off ∧ inst < 8 := by
  simp only [pageOf] at h
  split at h
  · cases h
    rw [pageBase, if_pos (by omega)]; omega
  split at h
  · cases h
    rw [pageBase, if_neg (by decide), if_neg (by decide)]; omega
  split at h
  · split at h
    · cases h
      rw [pageBase, if_neg (by omega), if_pos (by omega)]; omega
    · cases h
  · cases h

theorem pageBase_aligned (page inst : Nat) : pageBase page inst % 4 = 0 := by
  unfold pageBase; split
  · omega
  · split <;> omega

/-- What `regAt` finds is a register of the table on that page, with the offset within the element. -/
theorem regAt_some {page off idx : Nat} {r : RegInfo} (h : regAt page off = some (r, idx)) :
    r ∈ regTable ∧ r.page = page ∧ idx < r.cnt ∧ r.off + idx * r.stride ≤ off ∧
      off < r.off + idx * r.stride + r.width := by
  obtain ⟨r', hr, h⟩ := List.exists_of_findSome?_eq_some h
  obtain ⟨i, hi, h⟩ := Option.map_eq_some_iff.mp h
  cases h
  simp only [List.mem_filter, beq_iff_eq] at hr
  have hm := List.mem_of_find?_eq_some hi
  have hp := List.find?_some hi
  simp only [List.mem_range, decide_eq_true_eq] at hm hp
  exact ⟨hr.1, hr.2, hm, hp⟩

theorem target32_whole {page inst off i idx : Nat} {r : RegInfo} (h : target32 page inst off = .whole r i idx) :
    regAt page off = some (r, idx) ∧ i = inst ∧ r.w64 = false := by
  simp only [target32] at h
  split at h
  · cases h
  · split at h
    · rename_i hw; cases h; exact ⟨‹_›, rfl, by simpa using hw⟩
    · split at h <;> cases h

theorem target32_lower {page inst off i idx : Nat} {r : RegInfo} (h : target32 page inst off = .lower r i idx) :
    regAt page off = some (r, idx) ∧ i = inst ∧ r.w64 = true ∧ off = r.off + idx * r.stride := by
  simp only [target32] at h
  split at h
  · cases h
  · split at h
    · cases h
    · rename_i hw
      split at h
      · cases h; exact ⟨‹_›, rfl, by simpa using hw, ‹_›⟩
      · cases h

/-- A 64-bit access that reaches a register reaches the one whose lower half lies at its address. -/
theorem target_whole {a w inst idx : Nat} {r : RegInfo} (h : target a w = .whole r inst idx) :
    r ∈ regTable ∧ a = r.addr inst idx ∧ inst < 8 ∧ idx < r.cnt := by
  unfold target at h
  split at h
  · cases h
  split at h
  · cases h
  rename_i ha hw
  split at h
  · cases h
  rename_i page i off hp
  obtain ⟨ha', hi⟩ := pageOf_some (by omega) hp
  suffices ∃ (hr : regAt page off = some (r, idx)), inst = i ∧ off = r.off + idx * r.stride by
    obtain ⟨hr, rfl, ho⟩ := this
    obtain ⟨hmem, rfl, hidx, -⟩ := regAt_some hr
    exact ⟨hmem, by rw [ha', ho, RegInfo.addr, Nat.add_assoc], hi, hidx⟩
  split at h
  · rename_i hw4; subst hw4
    obtain ⟨hr, rfl, h64⟩ := target32_whole h
    obtain ⟨hmem, rfl, -, hlo, hlt⟩ := regAt_some hr
    obtain ⟨-, -, hoff, hstr⟩ := regTable_place r hmem
    have hbase : pageBase r.page inst % 4 = 0 := pageBase_aligned _ _
    have hmul : idx * r.stride % 4 = 0 := by rw [Nat.mul_mod, hstr, Nat.mul_zero, Nat.zero_mod]
    simp only [RegInfo.width, h64, Bool.false_eq_true, if_false] at hlt
    exact ⟨hr, rfl, by omega⟩
  · split at h
    · cases h
      obtain ⟨hr, rfl, -, ho⟩ := target32_lower ‹_›
      exact ⟨hr, rfl, ho⟩
    · cases h
    · cases h

/-- A half of a register that an access reaches is one of a 64-bit register of the table. -/
theorem target_lower {a w inst idx : Nat} {r : RegInfo} (h : target a w = .lower r inst idx) :
    r ∈ regTable ∧ r.w64 = true := by
  unfold target at h
  split at h
  · cases h
  split at h
  · cases h
  split at h
  · cases h
  split at h
  · obtain ⟨hr, -, h64, -⟩ := target32_lower h
    exact ⟨(regAt_some hr).1, h64⟩
  · split at h <;> cases h

/-! ### What a write stores -/

theorem bits_le_max (v : Nat) (f : Field) : bits v f.hi f.lo ≤ f.max :=
  Nat.le_sub_one_of_lt (Nat.mod_lt _ (Nat.two_pow_pos _))

theorem clampNat_le {lo hi v : Nat} (h : lo ≤ hi) : clampNat lo hi v ≤ hi := by
  unfold clampNat; split <;> [exact h; (split <;> omega)]

/-- What a write leaves in a field fits the field. -/
theorem FieldInfo.after_le_max (f : FieldInfo) (locked : Bool) (old v : Nat)
    (hr : ∀ b ∈ f.range, b.1 ≤ b.2 ∧ b.2 ≤ f.fld.max) (ho : old ≤ f.fld.max) :
    f.after locked old v ≤ f.fld.max := by
  have hc : (match f.range with
      | some (lo, hi) => clampNat lo hi (bits v f.fld.hi f.fld.lo)
      | none => bits v f.fld.hi f.fld.lo) ≤ f.fld.max := by
    split
    · rename_i lo hi he
      obtain ⟨h₁, h₂⟩ := hr (lo, hi) he
      exact (clampNat_le h₁).trans h₂
    · exact bits_le_max v f.fld
  unfold FieldInfo.after
  cases f.acc with
  | ro | wo => exact ho
  | rw => exact hc
  | w1c => exact (Nat.sub_le _ _).trans ho
  | lck => dsimp only; split <;> [exact ho; exact hc]

/-- Fields put in a word leave the bits of a field that lies apart from them. -/
theorem bits_foldl_putField_apart (g : FieldInfo → Nat) (f : Field) (hf : f.lo ≤ f.hi) (l : List FieldInfo) (w : W64)
    (hok : ∀ e ∈ l, e.fld.ok = true) (hap : ∀ e ∈ l, f.hi < e.fld.lo ∨ e.fld.hi < f.lo) :
    bits (l.foldl (fun w e => putField w e.fld (g e)) w).toNat f.hi f.lo = bits w.toNat f.hi f.lo := by
  induction l generalizing w with
  | nil => rfl
  | cons e t ih =>
    simp only [List.forall_mem_cons] at hok hap
    rw [List.foldl_cons, ih _ hok.2 hap.2, bits_putField_other _ _ _ _ hok.1 hap.1 hf]

/-- Of fields that lie apart, put in a word one after the other, each holds what was put in it. -/
theorem bits_foldl_putField (g : FieldInfo → Nat) (l : List FieldInfo) (w : W64) (hok : ∀ e ∈ l, e.fld.ok = true)
    (hap : l.Pairwise (fun f g => f.fld.hi < g.fld.lo ∨ g.fld.hi < f.fld.lo)) {f : FieldInfo} (hf : f ∈ l)
    (hg : g f ≤ f.fld.max) :
    bits (l.foldl (fun w e => putField w e.fld (g e)) w).toNat f.fld.hi f.fld.lo = g f := by
  induction l generalizing w with
  | nil => cases hf
  | cons e t ih =>
    rw [List.forall_mem_cons] at hok
    rw [List.pairwise_cons] at hap
    rw [List.foldl_cons]
    rcases List.mem_cons.mp hf with rfl | hf
    · have hok' := hok.1
      simp only [Field.ok, decide_eq_true_eq] at hok'
      have hlt : g f < 2 ^ (f.fld.hi + 1 - f.fld.lo) := by
        have := Nat.two_pow_pos (f.fld.hi + 1 - f.fld.lo)
        simp only [Field.max] at hg; omega
      rw [bits_foldl_putField_apart g f.fld hok'.1 t _ hok.2 hap.1, bits_putField_same _ _ _ hok.1, Nat.mod_eq_of_lt hlt]
    · exact ih _ hok.2 hap.2 hf

/-- Each field of a register of the table takes what its access code leaves of the written word. -/
theorem RegInfo.bits_store {r : RegInfo} (hr : r ∈ regTable) {f : FieldInfo} (hf : f ∈ r.flds) (locked : Bool) (old : W64)
    (v : Nat) : bits (r.store locked old v).toNat f.fld.hi f.fld.lo =
      f.after locked (bits old.toNat f.fld.hi f.fld.lo) v :=
  bits_foldl_putField (fun f => f.after locked (bits old.toNat f.fld.hi f.fld.lo) v) r.flds old
    (fun e he => (regTable_fields r hr e he).2.1) (regTable_apart r hr) hf
    (f.after_le_max _ _ _ (regTable_fields r hr f hf).2.2 (bits_le_max _ _))

/-- `lockHit` by the fields as the state reads them. -/
theorem lockHit_iff {r : RegInfo} (hr : r ∈ regTable) {s : State} {inst idx v : Nat} :
    r.lockHit (s.reg (regKey r.key inst idx)) v = true ↔
      ∃ f ∈ r.flds, f.acc = .lck ∧ bits v f.fld.hi f.fld.lo ≠ s.rd f.fld inst idx := by
  simp only [RegInfo.lockHit, List.any_eq_true, Bool.and_eq_true, beq_iff_eq, bne_iff_ne]
  refine exists_congr fun f => and_congr_right fun hf => ?_
  rw [State.rd, (regTable_fields r hr f hf).1]

/-- A locked register of the table is none of the recorder's counters. -/
theorem regKey_notin_dbkKeys_of_lockHit {r : RegInfo} (hr : r ∈ regTable) {v inst idx : Nat}
    (h : r.lockHit (s.reg (regKey r.key inst idx)) v = true) (hi : inst < 8) (hx : idx < r.cnt) :
    regKey r.key inst idx ∉ dbkKeys := by
  obtain ⟨f, hf, hl, -⟩ := (lockHit_iff hr).mp h
  exact fun hk => regTable_lck_ne_dbkKeys r hr f hf hl _ hk
    (regKey_div hr hi (hx.trans_le (regTable_place r hr).2.1))

/-- `storeReg` leaves each field as its access code says. -/
theorem rd_storeReg {r : RegInfo} (hr : r ∈ regTable) {f : FieldInfo} (hf : f ∈ r.flds) {inst idx : Nat} (v : Nat)
    (hi : inst < 8) (hx : idx < r.cnt) :
    (s.storeReg r inst idx v).rd f.fld inst idx = f.after s.boot.locked (s.rd f.fld inst idx) v := by
  have hset : bits ((s.setReg (regKey r.key inst idx) (r.store s.boot.locked (s.reg (regKey r.key inst idx)) v)).reg
      (regKey r.key inst idx)).toNat f.fld.hi f.fld.lo =
      f.after s.boot.locked (bits (s.reg (regKey r.key inst idx)).toNat f.fld.hi f.fld.lo) v := by
    rw [reg_setReg_same, RegInfo.bits_store hr hf]
  simp only [State.rd, State.storeReg, (regTable_fields r hr f hf).1]
  split
  · rename_i hh
    rw [Bool.and_eq_true] at hh
    rw [note_regs _ _ _ _ _ (regKey_notin_dbkKeys_of_lockHit hr hh.2 hi hx), hset]
  · exact hset

/-- `storeReg` changes the register written and at most the recorder's counters. -/
theorem storeReg_regs (r : RegInfo) (inst idx v : Nat) :
    RegsBut s (s.storeReg r inst idx v) (regKey r.key inst idx :: dbkKeys) := by
  have h := regsBut_setReg s (regKey r.key inst idx) (r.store s.boot.locked (s.reg (regKey r.key inst idx)) v)
    (l := regKey r.key inst idx :: dbkKeys) List.mem_cons_self
  unfold State.storeReg
  dsimp only
  split
  · exact h.step ((note_regs _ _ _ _).mono fun _ => List.mem_cons_of_mem _)
  · exact h

@[simp] theorem storeReg_bus (r : RegInfo) (inst idx v : Nat) : (s.storeReg r inst idx v).bus = s.bus := by
  unfold State.storeReg; dsimp only; split <;> simp

theorem storeReg_frame (r : RegInfo) (inst idx v : Nat) :
    s.storeReg r inst idx v =
      { s with regs := (s.storeReg r inst idx v).regs, dbk := (s.storeReg r inst idx v).dbk } := by
  unfold State.storeReg
  dsimp only
  split
  · exact frame_regs_dbk
  · rfl

/-- The recorder after `storeReg`: code 0x0011 when a locked field would have changed (R21). -/
theorem storeReg_dbk {r : RegInfo} (hr : r ∈ regTable) (inst idx v : Nat) : (s.storeReg r inst idx v).dbk =
    if s.boot.locked = true ∧ ∃ f ∈ r.flds, f.acc = .lck ∧ bits v f.fld.hi f.fld.lo ≠ s.rd f.fld inst idx
    then (s.note 0x0011 (r.addr inst idx % 2 ^ 32) (r.addr inst idx / 2 ^ 32) (v % 2 ^ 32)).dbk else s.dbk := by
  simp only [State.storeReg, apply_ite State.dbk]
  refine if_congr ?_ (note_dbk _ _ _ _ ⟨rfl, ⟨rfl, rfl, rfl⟩, rfl⟩) rfl
  rw [Bool.and_eq_true, lockHit_iff hr]

/-- A register whose write does no more than store is stored. -/
theorem writeReg_of_notin_actKeys {r : RegInfo} (h : r.key ∉ actKeys) (inst idx v : Nat) :
    s.writeReg r inst idx v = s.storeReg r inst idx v := by
  simp only [actKeys, List.mem_cons, List.not_mem_nil, or_false, not_or] at h
  simp only [State.writeReg, h, false_and, if_false]

/-! ### Held and latched halves, answers -/

theorem heldHalf_dropAllHeld_same (s : State) (q : Requester) (k : Nat) : (s.dropAllHeld q).heldHalf q k = none := by
  simp only [State.heldHalf, State.dropAllHeld, Option.map_eq_none_iff, List.find?_eq_none, List.mem_filter]
  rintro e ⟨-, he⟩ h
  simp_all

theorem heldHalf_dropAllHeld_ne (s : State) (h : p ≠ q) (k : Nat) : (s.dropAllHeld q).heldHalf p k = s.heldHalf p k := by
  simp only [State.heldHalf, State.dropAllHeld, List.find?_filter]
  congr 2
  funext e
  rw [Bool.eq_iff_iff]
  simp +contextual [h]

/-- The bus after the requester's held half is discarded, with nothing else of it changed. -/
theorem noHeld_of_bus (h : t.bus = (s.dropAllHeld q).bus) : NoHeld s t q := by
  have hh : ∀ p k, t.heldHalf p k = (s.dropAllHeld q).heldHalf p k := fun p k => by simp only [State.heldHalf, h]
  exact ⟨by rw [h]; rfl, fun k => by rw [hh, heldHalf_dropAllHeld_same],
    fun p k hp => by rw [hh, heldHalf_dropAllHeld_ne s hp]⟩

/-- The half that a requester's write of bits 31:0 leaves held. -/
def State.hold (s : State) (q : Requester) (key : Nat) (x : W32) : State :=
  { s with bus := { s.bus with held := (q, key, x) :: s.bus.held } }

theorem heldHalf_hold_same (s : State) (q : Requester) (k : Nat) (x : W32) : (s.hold q k x).heldHalf q k = some x := by
  simp [State.heldHalf, State.hold]

theorem heldHalf_hold_ne (s : State) (q : Requester) (k : Nat) (x : W32) {p : Requester} {j : Nat} (h : p ≠ q ∨ j ≠ k) :
    (s.hold q k x).heldHalf p j = s.heldHalf p j := by
  have hc : (q == p && k == j) = false := by
    rw [Bool.and_eq_false_iff, beq_eq_false_iff_ne, beq_eq_false_iff_ne]
    exact h.imp Ne.symm Ne.symm
  simp only [State.heldHalf, State.hold, List.find?_cons, hc]

/-- Discarding a half just held leaves what discarding before it left. -/
theorem dropAllHeld_hold (s : State) (q : Requester) (k : Nat) (x : W32) :
    ((s.dropAllHeld q).hold q k x).dropAllHeld q = s.dropAllHeld q := by
  simp [State.hold, State.dropAllHeld]

theorem latched_setLatch (s : State) (q : Requester) (k : Nat) (v : Option W32) : (s.setLatch q k v).latched q k = v := by
  cases v with
  | some x => simp [State.latched, State.setLatch]
  | none =>
    simp only [State.latched, State.setLatch, Option.map_eq_none_iff, List.find?_eq_none, List.mem_filter]
    rintro e ⟨-, he⟩ h
    simp_all

@[simp] theorem latched_answer (s : State) (q p : Requester) (v : W64) (k : Nat) :
    (s.answer q v).latched p k = s.latched p k := rfl

@[simp] theorem latched_dropHeld (s : State) (q p : Requester) (j k : Nat) :
    (s.dropHeld q j).latched p k = s.latched p k := rfl

/-- A requester's answer is what it was answered last. -/
theorem rdata_answer (s : State) (q : Requester) (v : W64) :
    (s.answer q v).bus.rdata.find? (fun e => e.1 == q) = some (q, v) := by
  simp [State.answer]

/-- A record written once the requester's held half is discarded. -/
theorem oneRecord_note_dropAllHeld (s : State) (q : Requester) (c p0 p1 p2 : Nat) :
    OneRecord { s with bus := ((s.dropAllHeld q).note c p0 p1 p2).bus } ((s.dropAllHeld q).note c p0 p1 p2) [] c p0 p1 p2 := by
  rw [note_bus]
  exact oneRecord_of (onlyRegs_refl (s.dropAllHeld q) [])

/-- An answer changes nothing beside the bus. -/
theorem OneRecord.answer {keys : List Nat} {c p0 p1 p2 : Nat} (h : OneRecord s t keys c p0 p1 p2) (q : Requester) (v : W64) :
    OneRecord { s with bus := (t.answer q v).bus } (t.answer q v) keys c p0 p1 p2 := by
  obtain ⟨ht, hregs, hdbk⟩ := h
  refine ⟨?_, (hregs.congr rfl).congr_left rfl, hdbk.trans (note_dbk _ _ _ _ ⟨rfl, ⟨rfl, rfl, rfl⟩, rfl⟩)⟩
  generalize t.regs = regs, t.dbk = dbk at ht
  subst ht
  rfl

/-! ### Writes and reads by their target -/

theorem busWrite_wrong {a w v : Nat} (h : target a w = .wrong) :
    s.busWrite q a w v = (s.dropAllHeld q).wrongSize a w := by
  simp only [State.busWrite, h]

theorem busWrite_unassigned {a w v : Nat} (h : target a w = .unassigned) :
    s.busWrite q a w v = (s.dropAllHeld q).noRange a true := by
  simp only [State.busWrite, h]

theorem busRead_wrong {a w : Nat} (h : target a w = .wrong) :
    s.busRead q a w = ((s.dropAllHeld q).wrongSize a w).answer q 0 := by
  simp only [State.busRead, h]

theorem busRead_unassigned {a w : Nat} (h : target a w = .unassigned) :
    s.busRead q a w = ((s.dropAllHeld q).noRange a false).answer q 0 := by
  simp only [State.busRead, h]

/-- A read of a whole register that does no more than answer. -/
theorem busRead_whole {a w inst idx : Nat} {r : RegInfo} (h : target a w = .whole r inst idx)
    (hr : reads q r.page = true) (hk : r.key ≠ F.STR_TBL_DATA_LOGICAL.key ∧ r.key ≠ F.DBK_WINDOW_WORD.key) :
    s.busRead q a w = (s.dropHeld q (regKey r.key inst idx)).answer q (s.readReg r inst idx) := by
  simp only [State.busRead, h, hr, if_true, State.readWhole, hk, if_false]; rfl

theorem busWrite_whole {a w v inst idx : Nat} {r : RegInfo} (h : target a w = .whole r inst idx)
    (hw : writes q r.page r.key = true) : s.busWrite q a w v =
      if s.windowOpen r inst then (s.dropAllHeld q).writeReg r inst idx v else s.dropAllHeld q := by
  simp only [State.busWrite, h, hw, Bool.true_and]; rfl

theorem busWrite_lower {a w v inst idx : Nat} {r : RegInfo} (h : target a w = .lower r inst idx)
    (hw : writes q r.page r.key = true) :
    s.busWrite q a w v = (s.dropAllHeld q).hold q (regKey r.key inst idx) (BitVec.ofNat 32 v) := by
  simp only [State.busWrite, h, hw, if_true]; rfl

theorem busWrite_upper_held {a w v inst idx : Nat} {r : RegInfo} {x : W32} (h : target a w = .upper r inst idx)
    (hx : s.heldHalf q (regKey r.key inst idx) = some x) : s.busWrite q a w v =
      if s.windowOpen r inst then (s.dropAllHeld q).writeReg r inst idx (x.toNat + v % 2 ^ 32 * 2 ^ 32)
      else s.dropAllHeld q := by
  simp only [State.busWrite, h, hx]; rfl

theorem busWrite_upper_none {a w v inst idx : Nat} {r : RegInfo} (h : target a w = .upper r inst idx)
    (hx : s.heldHalf q (regKey r.key inst idx) = none) :
    s.busWrite q a w v = (s.dropAllHeld q).wrongSize a w := by
  simp only [State.busWrite, h, hx]

theorem readReg_dropHeld (s : State) (q : Requester) (k : Nat) (r : RegInfo) (inst idx : Nat) :
    (s.dropHeld q k).readReg r inst idx = s.readReg r inst idx := rfl

/-- What a read of one half answers and leaves latched. -/
def State.halfRead (s : State) (q : Requester) (key : Nat) (answer : W32) (latch : Option W32) : State :=
  ((s.dropHeld q key).setLatch q key latch).answer q (answer.setWidth 64)

theorem halfRead_frame {s u : State} (h : u = { s with bus := u.bus }) (q : Requester) (k : Nat) (x : W32)
    (l : Option W32) : u.halfRead q k x l = { s with bus := (u.halfRead q k x l).bus } := by
  generalize u.bus = b at h
  subst h
  rfl

theorem rdata_halfRead (s : State) (q : Requester) (k : Nat) (x : W32) (l : Option W32) :
    (s.halfRead q k x l).bus.rdata.find? (fun e => e.1 == q) = some (q, x.setWidth 64) := rdata_answer _ _ _

theorem latched_halfRead (s : State) (q : Requester) (k : Nat) (x : W32) (l : Option W32) :
    (s.halfRead q k x l).latched q k = l := by
  rw [State.halfRead, latched_answer, latched_setLatch]

theorem busRead_lower {a w inst idx : Nat} {r : RegInfo} (h : target a w = .lower r inst idx)
    (hr : reads q r.page = true) : s.busRead q a w =
      s.halfRead q (regKey r.key inst idx) ((s.readReg r inst idx).setWidth 32)
        (some ((s.readReg r inst idx).extractLsb' 32 32)) := by
  have hlo : BitVec.ofNat 64 ((s.readReg r inst idx).toNat % 2 ^ 32) = ((s.readReg r inst idx).setWidth 32).setWidth 64 := by
    bv_omega
  have hhi : BitVec.ofNat 32 ((s.readReg r inst idx).toNat / 2 ^ 32) = (s.readReg r inst idx).extractLsb' 32 32 := by
    simp [BitVec.extractLsb', Nat.shiftRight_eq_div_pow]
  simp only [State.busRead, h, hr, Bool.not_true, Bool.false_eq_true, if_false, readReg_dropHeld, hlo, hhi]
  rfl

theorem busRead_upper {a w inst idx : Nat} {r : RegInfo} (h : target a w = .upper r inst idx)
    (hr : reads q r.page = true) : s.busRead q a w =
      s.halfRead q (regKey r.key inst idx)
        ((s.latched q (regKey r.key inst idx)).getD ((s.readReg r inst idx).extractLsb' 32 32)) none := by
  simp only [State.busRead, h, hr, Bool.not_true, Bool.false_eq_true, if_false, readReg_dropHeld, latched_dropHeld]
  cases s.latched q (regKey r.key inst idx) with
  | some x => simp only [Option.getD_some, BitVec.ofNat_toNat]; rfl
  | none =>
    have hhi : BitVec.ofNat 64 ((s.readReg r inst idx).toNat / 2 ^ 32) =
        ((s.readReg r inst idx).extractLsb' 32 32).setWidth 64 := by
      apply BitVec.eq_of_toNat_eq
      have := (s.readReg r inst idx).isLt
      simp only [BitVec.extractLsb', Nat.shiftRight_eq_div_pow, BitVec.toNat_ofNat, BitVec.toNat_setWidth]
      omega
    simp only [hhi, Option.getD_none]; rfl

/-! ### Half accesses -/

/-- A write that the requester may make. -/
theorem exec_registerWrite (hctl : s.ctlWrite q = true) (a : Addr) (w : Nat) (v : W64) :
    exec (.registerWrite q a w v) s = .next (s.busWrite q a.toNat w v.toNat) :=
  congrArg Host.Outcome.next (if_pos hctl)

/-- A 32-bit read of a half of a register. -/
theorem exec_halfRegisterRead (hctl : s.ctlRead q = true) {a : Addr} {r : RegInfo} {inst idx : Nat}
    (ha : target a.toNat 4 = .lower r inst idx ∨ target a.toNat 4 = .upper r inst idx) :
    exec (.halfRegisterRead q a) s = .next (s.busRead q a.toNat 4) := by
  change execHalfRegisterRead q a s = _
  rcases ha with h | h <;> simp only [execHalfRegisterRead, h, hctl, if_true]

/-- A write of bits 63:32 after one of bits 31:0 leaves what one 64-bit write leaves. -/
theorem busWrite_upper_after_hold {a b inst idx : Nat} {r : RegInfo} (ha : target a 4 = .upper r inst idx)
    (hb : target b 8 = .whole r inst idx) (hw : writes q r.page r.key = true) (x y : W32) :
    ((s.dropAllHeld q).hold q (regKey r.key inst idx) x).busWrite q a 4 (y.setWidth 64).toNat =
      s.busWrite q b 8 (y ++ x).toNat := by
  have hv : (y ++ x).toNat = x.toNat + (y.setWidth 64).toNat % 2 ^ 32 * 2 ^ 32 := by
    rw [BitVec.toNat_append, ← Nat.shiftLeft_add_eq_or_of_lt x.isLt, Nat.shiftLeft_eq]
    bv_omega
  rw [busWrite_upper_held ha (heldHalf_hold_same _ _ _ _), busWrite_whole hb hw, dropAllHeld_hold, hv]
  rfl

/-- The write of bits 31:0 holds them for that requester alone; the write of bits 63:32 next is one 64-bit write. -/
theorem halfWrite_holds {lo hi : Addr} {x y : W32} {r : RegInfo} {inst idx : Nat}
    (hlo : target lo.toNat 4 = .lower r inst idx) (hhi : target hi.toNat 4 = .upper r inst idx)
    (hcan : CanWrite s q r.page r.key) :
    ∃ u, exec (.registerWrite q lo 4 (x.setWidth 64)) s = .next u ∧ u = { s with bus := u.bus } ∧
        u.heldHalf q (regKey r.key inst idx) = some x ∧ (∀ k, k ≠ regKey r.key inst idx → u.heldHalf q k = none) ∧
        (∀ p k, p ≠ q → u.heldHalf p k = s.heldHalf p k) ∧
        ∃ t, exec (.registerWrite q hi 4 (y.setWidth 64)) u = .next t ∧
          (target lo.toNat 8 = .whole r inst idx → exec (.registerWrite q lo 8 (y ++ x)) s = .next t) := by
  obtain ⟨hctl, hwr⟩ := hcan
  have hx : BitVec.ofNat 32 (x.setWidth 64).toNat = x := by bv_omega
  have hctl' : ((s.dropAllHeld q).hold q (regKey r.key inst idx) x).ctlWrite q = true := hctl
  refine ⟨(s.dropAllHeld q).hold q (regKey r.key inst idx) x, ?_, rfl, heldHalf_hold_same _ _ _ _, fun k hk => ?_,
    fun p k hp => ?_, _, exec_registerWrite hctl' _ _ _, fun hwhole => ?_⟩
  · rw [exec_registerWrite hctl, busWrite_lower hlo hwr, hx]
  · rw [heldHalf_hold_ne _ _ _ _ (.inr hk), heldHalf_dropAllHeld_same]
  · rw [heldHalf_hold_ne _ _ _ _ (.inl hp), heldHalf_dropAllHeld_ne s hp]
  · rw [exec_registerWrite hctl, busWrite_upper_after_hold hhi hwhole hwr]

theorem exec_halfRegisterRead_lower {a : Addr} {r : RegInfo} {inst idx : Nat} (hctl : s.ctlRead q = true)
    (ha : target a.toNat 4 = .lower r inst idx) (hr : reads q r.page = true) :
    exec (.halfRegisterRead q a) s = .next (s.halfRead q (regKey r.key inst idx) ((s.readReg r inst idx).setWidth 32)
      (some ((s.readReg r inst idx).extractLsb' 32 32))) := by
  rw [exec_halfRegisterRead hctl (.inl ha), busRead_lower ha hr]

theorem exec_halfRegisterRead_upper {a : Addr} {r : RegInfo} {inst idx : Nat} (hctl : s.ctlRead q = true)
    (ha : target a.toNat 4 = .upper r inst idx) (hr : reads q r.page = true) :
    exec (.halfRegisterRead q a) s = .next (s.halfRead q (regKey r.key inst idx)
      ((s.latched q (regKey r.key inst idx)).getD ((s.readReg r inst idx).extractLsb' 32 32)) none) := by
  rw [exec_halfRegisterRead hctl (.inr ha), busRead_upper ha hr]

/-! ### Bad accesses -/

/-- What a bad access leaves: no half held, its record, zero for a read (R19, R558). -/
def State.badAccess (s : State) (q : Requester) (write : Bool) (c p0 p1 p2 : Nat) : State :=
  let t := (s.dropAllHeld q).note c p0 p1 p2
  if write then t else t.answer q 0

theorem rdata_badAccess (s : State) (q : Requester) (c p0 p1 p2 : Nat) :
    (s.badAccess q false c p0 p1 p2).bus.rdata.find? (fun e => e.1 == q) = some (q, 0) := rdata_answer _ _ _

theorem oneRecord_badAccess (s : State) (q : Requester) (write : Bool) (c p0 p1 p2 : Nat) :
    OneRecord { s with bus := (s.badAccess q write c p0 p1 p2).bus } (s.badAccess q write c p0 p1 p2) [] c p0 p1 p2 := by
  cases write with
  | true => exact oneRecord_note_dropAllHeld s q c p0 p1 p2
  | false => exact (oneRecord_note_dropAllHeld s q c p0 p1 p2).answer q 0

theorem exec_wrongSizeAccess {a : Addr} {w : Nat} {write : Bool} (ht : target a.toNat w = .wrong)
    (hctl : (if write then s.ctlWrite q else s.ctlRead q) = true) : exec (.wrongSizeAccess q a w write) s =
      .next (s.badAccess q write 0x0010 (a.toNat % 2 ^ 32) (a.toNat / 2 ^ 32) w) := by
  change execWrongSizeAccess q a w write s = _
  cases write with
  | true =>
    rw [if_pos rfl] at hctl
    simp only [execWrongSizeAccess, State.badAccess, State.wrongSize, ht, hctl, busWrite_wrong ht, if_true]
  | false =>
    rw [if_neg Bool.false_ne_true] at hctl
    simp only [execWrongSizeAccess, State.badAccess, State.wrongSize, ht, hctl, busRead_wrong ht, if_true,
      Bool.false_eq_true, if_false]

theorem exec_unassignedRangeAccess {a : Addr} {w : Nat} {write : Bool} (ht : target a.toNat w = .unassigned)
    (hctl : (if write then s.ctlWrite q else s.ctlRead q) = true) : exec (.unassignedRangeAccess q a w write) s =
      .next (s.badAccess q write 0x0012 (a.toNat % 2 ^ 32) (a.toNat / 2 ^ 32) (if write then 2 else 1)) := by
  change execUnassignedRangeAccess q a w write s = _
  cases write with
  | true =>
    rw [if_pos rfl] at hctl
    simp only [execUnassignedRangeAccess, State.badAccess, State.noRange, ht, hctl, busWrite_unassigned ht, if_true]
  | false =>
    rw [if_neg Bool.false_ne_true] at hctl
    simp only [execUnassignedRangeAccess, State.badAccess, State.noRange, ht, hctl, busRead_unassigned ht, if_true,
      Bool.false_eq_true, if_false]

/-! ### Accesses of general-purpose cores -/

/-- A vault address lies in a range of the address map (R275). -/
theorem place_vault {a : Nat} (h₁ : 0x100000000000 ≤ a) (h₂ : a < 0x180000000000) : s.place a ≠ .none := by
  unfold State.place
  rw [if_neg (by omega)]
  split
  · nofun
  · rw [if_neg (by omega), if_pos ⟨h₁, h₂⟩]; nofun

theorem exec_gpcDeviceAccessFault_frame (h : Fin 32) (a : Addr) (write : Bool) :
    ∃ t, exec (.gpcDeviceAccessFault h a write) s = .next t ∧ t = { s with bus := t.bus } := by
  refine ⟨_, rfl, ?_⟩
  dsimp only
  split
  · rfl
  · split
    · split <;> rfl
    · split <;> rfl

/-- An access outside the address map, or to a share with GPC_VAULT not agreed, is a fault of the hart (R276, R436). -/
theorem exec_gpcDeviceAccessFault_fault (halive : s.ctlAlive = true) (h : Fin 32) (a : Addr) (write : Bool)
    (hf : s.place a.toNat = .none ∨
      (0x100000000000 ≤ a.toNat ∧ a.toNat < 0x180000000000 ∧ bit (s.rd F.GLB_FEATURES_AGREED) 9 = false)) :
    exec (.gpcDeviceAccessFault h a write) s =
      let u := { s with bus := { s.bus with fault := (h.val, a) :: s.bus.fault } }
      .next (if write then u else u.answer (.hart h) 0) := by
  have hc : (s.place a.toNat == .none || (decide (0x100000000000 ≤ a.toNat ∧ a.toNat < 0x180000000000) &&
      !bit (s.rd F.GLB_FEATURES_AGREED) 9)) = true := by
    simpa [and_assoc] using hf
  change execGpcDeviceAccessFault h a write s = _
  simp only [execGpcDeviceAccessFault, halive, hc, Bool.not_true, Bool.false_eq_true, if_false, if_true]

/-- An access to a share that is down answers LINK_LOST (R276). -/
theorem exec_gpcDeviceAccessFault_linkLost (halive : s.ctlAlive = true) (h : Fin 32) {a : Addr} (write : Bool)
    (h₁ : 0x100000000000 ≤ a.toNat) (h₂ : a.toNat < 0x180000000000) (hb : bit (s.rd F.GLB_FEATURES_AGREED) 9 = true)
    (hd : s.shareUp ((a.toNat - 0x100000000000) / 2 ^ 40) = false) :
    exec (.gpcDeviceAccessFault h a write) s =
      .next { s with bus := { s.bus with linkLost := (h.val, a) :: s.bus.linkLost } } := by
  have hp : (s.place a.toNat == .none) = false := beq_eq_false_iff_ne.mpr (place_vault h₁ h₂)
  have hs : decide (0x100000000000 ≤ a.toNat ∧ a.toNat < 0x180000000000) = true := decide_eq_true ⟨h₁, h₂⟩
  change execGpcDeviceAccessFault h a write s = _
  simp only [execGpcDeviceAccessFault, halive, hp, hs, hb, hd, Bool.not_true, Bool.not_false, Bool.and_false,
    Bool.and_true, Bool.or_false, Bool.false_eq_true, if_false, if_true]

/-! ### The statements of 00_scope.md -/

/-- Settles O16: a register nothing has written reads `regReset`, which is the Reset column of every element. -/
theorem resetIsTheResetColumn : Obligations.ResetIsTheResetColumn := by
  unfold Obligations.ResetIsTheResetColumn
  have hcol : ∀ r ∈ regTable, ∀ f ∈ r.flds, ∀ inst < 8, ∀ idx < 128, State.reset.rd f.fld inst idx = f.reset := by
    intro r hr f hf inst hi idx hx
    have hreg : State.reset.reg (regKey r.key inst idx) = regReset r.key := regReset_regKey hr hi hx
    rw [State.rd, (regTable_fields r hr f hf).1, hreg, regTable_reset r hr f hf]
  exact ⟨rfl, hcol, rfl, rfl, rfl, fun _ => ⟨rfl, rfl, rfl⟩, rfl, rfl, rfl, reset_memory_wf, rfl, rfl, rfl, rfl,
    fun _ => rfl, fun _ => rfl, rfl, rfl, rfl⟩

/-- Settles O17: the write is `storeReg` at the register's address, which leaves each field as its access code says. -/
theorem registerWritesFollowTheAccessCode : Obligations.RegisterWritesFollowTheAccessCode := by
  unfold Obligations.RegisterWritesFollowTheAccessCode
  intro s q a w v r inst idx ht hact hcan hup
  obtain ⟨hctl, hwr⟩ := hcan
  obtain ⟨hmem, ha, hi, hx⟩ := target_whole ht
  have hopen : s.windowOpen r inst = true := by
    simp only [State.windowOpen, Bool.or_eq_true, bne_iff_ne]
    exact or_iff_not_imp_left.mpr fun h => hup (not_not.mp h)
  let u := s.dropAllHeld q
  have hexec : exec (.registerWrite q a w v) s = .next (u.storeReg r inst idx v.toNat) := by
    rw [exec_registerWrite hctl, busWrite_whole ht hwr, hopen, if_pos rfl, writeReg_of_notin_actKeys hact]
  refine ⟨_, hexec, ?_, ?_, noHeld_of_bus (storeReg_bus r inst idx v.toNat),
    (storeReg_regs r inst idx v.toNat).congr_left rfl, ?_⟩
  · intro f hf
    rw [rd_storeReg hmem hf v.toNat hi hx]
    rfl
  · rw [storeReg_frame]; rfl
  · rw [storeReg_dbk hmem, ha]
    exact if_congr Iff.rfl (note_dbk _ _ _ _ ⟨rfl, ⟨rfl, rfl, rfl⟩, rfl⟩) rfl

/-- Settles O18: the write of bits 31:0 only holds them, so the write of bits 63:32 meets the state that a 64-bit write
meets; a read of bits 31:0 latches what the next read of bits 63:32 answers. -/
theorem halfRegisterAccesses : Obligations.HalfRegisterAccesses := by
  unfold Obligations.HalfRegisterAccesses
  intro s q lo hi x y r inst idx hlo hhi
  refine ⟨fun hcan => ⟨halfWrite_holds hlo hhi hcan, fun hnone => ⟨_, exec_registerWrite hcan.1 _ _ _, ?_⟩⟩, ?_⟩
  · rw [busWrite_upper_none hhi hnone, State.wrongSize]
    exact ⟨oneRecord_note_dropAllHeld s q _ _ _ _, noHeld_of_bus (note_bus _ _ _ _ _)⟩
  · intro hctl hrd v key answers
    have hanswers : ∀ u x l, u = { s with bus := State.bus u } → answers (u.halfRead q key x l) x := fun u x l hu =>
      ⟨halfRead_frame hu q key x l, rdata_halfRead _ _ _ _ _⟩
    have hupper := exec_halfRegisterRead_upper hctl hhi hrd
    refine ⟨⟨_, exec_halfRegisterRead_lower hctl hlo hrd, hanswers s _ _ rfl, latched_halfRead _ _ _ _ _, ?_⟩, fun hl => ?_,
      fun x hl => ?_, fun hwhole => ⟨_, rfl, ?_⟩⟩
    · let u := s.halfRead q key (v.setWidth 32) (some (v.extractLsb' 32 32))
      have hctl' : u.ctlRead q = true := hctl
      refine ⟨_, exec_halfRegisterRead_upper hctl' hhi hrd, ?_, latched_halfRead _ _ _ _ _⟩
      rw [latched_halfRead, Option.getD_some]
      exact hanswers u _ _ rfl
    · rw [hl, Option.getD_none] at hupper
      exact ⟨_, hupper, hanswers s _ _ rfl⟩
    · rw [hl, Option.getD_some] at hupper
      exact ⟨_, hupper, hanswers s _ _ rfl⟩
    · rw [busRead_whole hwhole hrd (regTable_read_of_w64 r (target_lower hlo).1 (target_lower hlo).2)]
      exact ⟨rfl, rdata_answer _ _ _⟩

/-- Settles O19: such an access notes its record and answers zero; a device fault is one entry on the bus. -/
theorem badAccessesAreRecorded : Obligations.BadAccessesAreRecorded := by
  unfold Obligations.BadAccessesAreRecorded
  intro s q a w write hctl zero
  refine ⟨fun ht => ⟨_, exec_wrongSizeAccess ht hctl, ?_, oneRecord_badAccess _ _ _ _ _ _ _⟩,
    fun ht => ⟨_, exec_unassignedRangeAccess ht hctl, ?_, oneRecord_badAccess _ _ _ _ _ _ _⟩, fun h halive => ?_⟩
  · rintro rfl; exact rdata_badAccess _ _ _ _ _ _
  · rintro rfl; exact rdata_badAccess _ _ _ _ _ _
  · obtain ⟨t, ht, hbus⟩ := exec_gpcDeviceAccessFault_frame (s := s) h a write
    refine ⟨t, ht, hbus, fun hf => ?_, fun h₁ h₂ hb hd => ?_⟩
    · obtain rfl := Host.Outcome.next.inj (ht.symm.trans (exec_gpcDeviceAccessFault_fault halive h a write hf))
      cases write with
      | true => exact ⟨rfl, rfl, nofun⟩
      | false => exact ⟨rfl, rfl, fun _ => rdata_answer _ _ _⟩
    · obtain rfl := Host.Outcome.next.inj (ht.symm.trans (exec_gpcDeviceAccessFault_linkLost halive h write h₁ h₂ hb hd))
      exact ⟨rfl, rfl⟩

end Sys2Proof.Machine

/-! Fences of PHY groups (01_module_overview.md R45, 08_memory_tiers.md R289) and the degrade log
(12_start_firmware_accounts.md R427): what a retirement found in service leaves; then the statement of
01_module_overview.md. -/

namespace Sys2Proof.Machine

variable {s t : State} {q : Requester}

/-! ### Bits of a mask field -/

theorem bit_add_two_pow {v i : Nat} (h : bit v i = false) : bit (v + 2 ^ i) i = true := by
  simp only [bit, decide_eq_false_iff_not, decide_eq_true_eq, Nat.add_div_right _ (Nat.two_pow_pos i)] at h ⊢
  omega

/-- Setting a bit that is clear carries into no higher bit. -/
theorem add_two_pow_lt_of_bit_false {v i n : Nat} (hi : i < n) (hv : v < 2 ^ n) (h : bit v i = false) :
    v + 2 ^ i < 2 ^ n := by
  obtain ⟨k, rfl⟩ := Nat.exists_eq_add_of_lt hi
  have hpow : 2 ^ (i + k + 1) = 2 * 2 ^ k * 2 ^ i := by ring
  simp only [bit, decide_eq_false_iff_not] at h
  rw [hpow, ← Nat.div_lt_iff_lt_mul (Nat.two_pow_pos i)] at hv ⊢
  rw [Nat.add_div_right _ (Nat.two_pow_pos i)]
  omega

theorem rd_lt (s : State) (f : Field) (i x : Nat) : s.rd f i x < 2 ^ (f.hi + 1 - f.lo) :=
  Nat.mod_lt _ (Nat.two_pow_pos _)

theorem setBit_of_clear {f : Field} {b i x : Nat} (hb : bit (s.rd f i x) b = false) :
    s.setBit f b i x = s.st f (s.rd f i x + 2 ^ b) i x := by
  simp only [State.setBit, hb, Bool.false_eq_true, if_false]

/-- A bit of a field that was clear is set, every other bit kept. -/
theorem rd_setBit_of_clear {f : Field} (hf : f.ok = true) {b i x : Nat} (hb : bit (s.rd f i x) b = false)
    (hlt : b < f.hi + 1 - f.lo) : (s.setBit f b i x).rd f i x = s.rd f i x + 2 ^ b := by
  rw [setBit_of_clear hb, rd_st_same _ _ _ _ _ hf,
    Nat.mod_eq_of_lt (add_two_pow_lt_of_bit_false hlt (rd_lt s f i x) hb)]

theorem regsBut_setBit (s : State) (f : Field) (b i x : Nat) {l : List Nat} (hk : regKey f.key i x ∈ l) :
    RegsBut s (s.setBit f b i x) l := by
  simp only [State.setBit]
  split
  · exact RegsBut.refl _ _
  · exact regsBut_st _ _ _ _ _ hk

/-! ### The degrade log -/

/-- The recorder's registers lie above GLB_DEGRADE. -/
theorem degrade_lt_dbkKeys : ∀ k ∈ dbkKeys, F.GLB_DEGRADE_LOG.key < k := by decide

/-- A record leaves every register below the recorder's. -/
theorem rd_note (c p0 p1 p2 : Nat) {f : Field} {i x : Nat} (h : regKey f.key i x ≤ F.GLB_DEGRADE_LOG.key) :
    (s.note c p0 p1 p2).rd f i x = s.rd f i x :=
  (note_regs c p0 p1 p2).rd f i x fun hk => Nat.not_lt.mpr h (degrade_lt_dbkKeys _ hk)

theorem sameRec_of_regsFrame (h : t = { s with regs := t.regs }) : SameRec t s := by
  generalize t.regs = r at h
  subst h
  exact ⟨rfl, ⟨rfl, rfl, rfl⟩, rfl⟩

/-- The recorder after two records rests on what it rests on after one. -/
theorem SameRec.note (h : SameRec s t) (c p0 p1 p2 : Nat) : SameRec (s.note c p0 p1 p2) (t.note c p0 p1 p2) :=
  ⟨note_dbk c p0 p1 p2 h, by simpa using h.2.1, by simpa using h.2.2⟩

/-- The entry that logs a retirement, under the sequence number above every one used and the module's MAC (R427). -/
def State.degradeEntry (s : State) (kind die unit code : Nat) : DegradeEntry :=
  let e : DegradeEntry := { kind, die, unit, code := BitVec.ofNat 16 code, power := s.nor.power, opsec := s.clk.opsec,
                            seq := max (degradeTop s.nor.degrade) s.nor.degradeCtr + 1 }
  { e with mac := s.degradeMac e }

theorem degradeEntry_congr (hnor : t.nor = s.nor) (hclk : t.clk = s.clk) (htrust : t.trust = s.trust)
    (k d u c : Nat) : t.degradeEntry k d u c = s.degradeEntry k d u c := by
  simp only [State.degradeEntry, State.degradeMac, hnor, hclk, htrust]

/-- An entry at the end of the degrade log, its number in the counter. -/
def State.logDegrade (s : State) (e : DegradeEntry) : State :=
  { s with nor := { s.nor with degrade := s.nor.degrade ++ [e], degradeCtr := e.seq } }

theorem degradeCtr_lt_degradeEntry_seq (s : State) (k d u c : Nat) : s.nor.degradeCtr < (s.degradeEntry k d u c).seq :=
  Nat.lt_succ_of_le (Nat.le_max_right _ _)

theorem degradeAdd_of_room (h : s.nor.degrade.length < 1024) (k d u c : Nat) : s.degradeAdd k d u c =
    ((s.needRestart.logDegrade (s.degradeEntry k d u c)).inc F.GLB_DEGRADE_LOG 1).note 0x0040 k u c :=
  if_neg (Nat.not_le.mpr h)

/-- A retirement found in service changes registers, the recorder and the degrade log. -/
theorem degradeAdd_frame (s : State) (k d u c : Nat) : s.degradeAdd k d u c =
    { s with regs := (s.degradeAdd k d u c).regs, dbk := (s.degradeAdd k d u c).dbk
             nor := (s.degradeAdd k d u c).nor } := by
  apply State.ext <;> simp

theorem degradeAdd_nor (h : s.nor.degrade.length < 1024) (k d u c : Nat) :
    (s.degradeAdd k d u c).nor = (s.logDegrade (s.degradeEntry k d u c)).nor := by
  rw [degradeAdd_of_room h, note_nor, inc_nor]; rfl

theorem degradeAdd_dbk (h : s.nor.degrade.length < 1024) (k d u c : Nat) :
    (s.degradeAdd k d u c).dbk = (s.note 0x0040 k u c).dbk := by
  rw [degradeAdd_of_room h]
  exact note_dbk _ _ _ _ ⟨rfl, ⟨rfl, rfl, rfl⟩, rfl⟩

/-- A retirement found in service asks for a restart (R45). -/
theorem rd_degradeAdd_restartNeeded (h : s.nor.degrade.length < 1024) (k d u c : Nat) :
    (s.degradeAdd k d u c).rd F.GLB_STATE_RESTART_NEEDED = 1 := by
  rw [degradeAdd_of_room h, rd_note _ _ _ _ (by decide), State.inc, rd_st_ne _ _ _ _ _ _ _ _ (by decide)]
  exact rd_st_same s F.GLB_STATE_RESTART_NEEDED 1 0 0 rfl

/-- Logging a retirement leaves every register below the hub's. -/
theorem rd_degradeAdd (h : s.nor.degrade.length < 1024) (k d u c : Nat) {f : Field} {i x : Nat}
    (hk : regKey f.key i x < F.GLB_STATE_RESTART_NEEDED.key) : (s.degradeAdd k d u c).rd f i x = s.rd f i x := by
  have hlog : regKey f.key i x < F.GLB_DEGRADE_LOG.key := hk.trans (by decide)
  rw [degradeAdd_of_room h, rd_note _ _ _ _ hlog.le, State.inc, rd_st_ne _ _ _ _ _ _ _ _ hlog.ne]
  exact rd_st_ne s F.GLB_STATE_RESTART_NEEDED f 1 0 0 i x hk.ne

/-! ### The registers of a fenced group -/

theorem regsFrame_trans {u : State} (h : t = { s with regs := t.regs }) (h' : u = { t with regs := u.regs }) :
    u = { s with regs := u.regs } := by
  generalize t.regs = r at h
  subst h
  exact h'

theorem fullRate_frame (s : State) (d : Nat) : s.fullRate d = { s with regs := (s.fullRate d).regs } := rfl

/-- State 4 in these channels of a PHY group. -/
def State.fenceChannels (s : State) (d g : Nat) (l : List Nat) : State :=
  l.foldl (fun s c => s.st F.MEM_CH_STATE_STATE 4 d (16 * g + c)) s

theorem fenceChannels_frame (s : State) (d g : Nat) (l : List Nat) :
    s.fenceChannels d g l = { s with regs := (s.fenceChannels d g l).regs } := by
  induction l generalizing s with
  | nil => rfl
  | cons c l ih => exact ih (s.st F.MEM_CH_STATE_STATE 4 d (16 * g + c))

theorem rd_fenceChannels_ne (s : State) (d g : Nat) (l : List Nat) {f : Field} {i x : Nat}
    (h : regKey f.key i x < F.MEM_CH_STATE_STATE.key) : (s.fenceChannels d g l).rd f i x = s.rd f i x := by
  induction l generalizing s with
  | nil => rfl
  | cons c l ih =>
    refine (ih _).trans (rd_st_ne _ _ _ _ _ _ _ _ (Nat.ne_of_lt (h.trans_le ?_)))
    unfold regKey; omega

theorem rd_fenceChannels (s : State) (d g : Nat) (l : List Nat) (c : Nat) :
    (s.fenceChannels d g l).rd F.MEM_CH_STATE_STATE d c =
      if ∃ j ∈ l, c = 16 * g + j then 4 else s.rd F.MEM_CH_STATE_STATE d c := by
  induction l generalizing s with
  | nil => simp [State.fenceChannels]
  | cons j l ih =>
    refine (ih (s.st F.MEM_CH_STATE_STATE 4 d (16 * g + j))).trans ?_
    by_cases hj : c = 16 * g + j
    · subst hj
      rw [rd_st_same _ _ _ _ _ rfl, if_pos (⟨j, List.mem_cons_self, rfl⟩ : ∃ i ∈ j :: l, 16 * g + j = 16 * g + i)]
      exact ite_self 4
    · rw [rd_st_ne _ _ _ _ _ _ _ _ (by unfold regKey; omega)]
      simp only [List.mem_cons, exists_eq_or_imp, hj, false_or]

/-- The registers of a group that is fenced: its bit, the state of its 16 channels, FULL_RATE of the die (R289). -/
def State.fenceMarks (s : State) (d g : Nat) : State :=
  ((s.setBit F.MEM_STATUS_FENCED g d 0).fenceChannels d g (List.range 16)).fullRate d

theorem fenceMarks_frame (s : State) (d g : Nat) : s.fenceMarks d g = { s with regs := (s.fenceMarks d g).regs } := by
  have hbit : s.setBit F.MEM_STATUS_FENCED g d 0 = { s with regs := (s.setBit F.MEM_STATUS_FENCED g d 0).regs } :=
    frame_regs
  exact regsFrame_trans (regsFrame_trans hbit (fenceChannels_frame _ d g (List.range 16))) (fullRate_frame _ d)

theorem rd_fenceMarks_fenced {d g : Nat} (hd : d < 4) (hg : g < 8) (hfen : s.groupFenced d g = false) :
    (s.fenceMarks d g).rd F.MEM_STATUS_FENCED d = s.rd F.MEM_STATUS_FENCED d + 2 ^ g := by
  have hkey : regKey F.MEM_STATUS_FENCED.key d 0 < F.MEM_CH_STATE_STATE.key := by
    simp only [regKey, F.MEM_STATUS_FENCED, F.MEM_CH_STATE_STATE]; omega
  calc (s.fenceMarks d g).rd F.MEM_STATUS_FENCED d
      = ((s.setBit F.MEM_STATUS_FENCED g d 0).fenceChannels d g (List.range 16)).rd F.MEM_STATUS_FENCED d :=
        rd_st_other _ F.MEM_STATUS_FULL_RATE _ _ _ _ rfl rfl (.inr (by decide)) (by decide)
    _ = (s.setBit F.MEM_STATUS_FENCED g d 0).rd F.MEM_STATUS_FENCED d := rd_fenceChannels_ne _ _ _ _ hkey
    _ = s.rd F.MEM_STATUS_FENCED d + 2 ^ g := rd_setBit_of_clear rfl hfen hg

theorem rd_fenceMarks_state (s : State) (d g c : Nat) : (s.fenceMarks d g).rd F.MEM_CH_STATE_STATE d c =
    if c / 16 = g then 4 else s.rd F.MEM_CH_STATE_STATE d c := by
  have hkey : regKey F.MEM_CH_STATE_STATE.key d c ≠ regKey F.MEM_STATUS_FENCED.key d 0 := by
    simp only [regKey, F.MEM_STATUS_FENCED, F.MEM_CH_STATE_STATE]; omega
  have hmem : (∃ j ∈ List.range 16, c = 16 * g + j) ↔ c / 16 = g := by
    simp only [List.mem_range]
    exact ⟨fun ⟨j, hj, hc⟩ => by omega, fun h => ⟨c % 16, by omega, by omega⟩⟩
  calc (s.fenceMarks d g).rd F.MEM_CH_STATE_STATE d c
      = ((s.setBit F.MEM_STATUS_FENCED g d 0).fenceChannels d g (List.range 16)).rd F.MEM_CH_STATE_STATE d c :=
        rd_st_ne _ F.MEM_STATUS_FULL_RATE _ _ _ _ _ _ hkey
    _ = if c / 16 = g then 4 else (s.setBit F.MEM_STATUS_FENCED g d 0).rd F.MEM_CH_STATE_STATE d c := by
        rw [rd_fenceChannels]; exact if_congr hmem rfl rfl
    _ = if c / 16 = g then 4 else s.rd F.MEM_CH_STATE_STATE d c := by
        rw [(regsBut_setBit s F.MEM_STATUS_FENCED g d 0 (List.mem_singleton.mpr rfl)).rd F.MEM_CH_STATE_STATE d c
          (mt List.mem_singleton.mp hkey)]

/-! ### The fence of a group -/

theorem fenceGroup_of_idle {d g : Nat} (h : s.groupPresent d g = false ∨ s.groupFenced d g = true) (cause : Nat) :
    s.fenceGroup d g cause = s :=
  if_pos (by rcases h with h | h <;> simp [h])

theorem fenceGroup_of_live {d g : Nat} (hpre : s.groupPresent d g = true) (hfen : s.groupFenced d g = false)
    (cause : Nat) : s.fenceGroup d g cause = ((s.fenceMarks d g).note 0x3006 d g cause).degradeAdd 3 d g 0x3006 :=
  if_neg (by simp [hpre, hfen])

/-- Until it is logged, a fence changes registers and the recorder only. -/
theorem note_fenceMarks_frame (s : State) (d g cause : Nat) : (s.fenceMarks d g).note 0x3006 d g cause =
    { s with regs := ((s.fenceMarks d g).note 0x3006 d g cause).regs
             dbk := ((s.fenceMarks d g).note 0x3006 d g cause).dbk } := by
  have h := fenceMarks_frame s d g
  generalize s.fenceMarks d g = u at h
  generalize u.regs = r at h
  subst h
  exact frame_regs_dbk

/-- A place of a fenced group takes no write (R289). -/
theorem wrKey_of_groupFenced {key : Nat} (hkey : key < vaultBase)
    (hfen : s.groupFenced (key / 2 ^ 32 / 128) (key / 2 ^ 32 % 128 / 16) = true) (b : List Byte) : s.wrKey key b = s := by
  have hchip : vaultChip key = none := if_neg (Nat.not_le.mpr hkey)
  have hkf : s.keyFenced key = true := by rw [State.keyFenced, hchip]; exact hfen
  rw [State.wrKey, hkf, Bool.or_true, if_pos rfl]

/-- A fence changes registers, the recorder and the degrade log: no byte, no core and no queue. -/
theorem fenceGroup_frame (s : State) (d g cause : Nat) : s.fenceGroup d g cause =
    { s with regs := (s.fenceGroup d g cause).regs, dbk := (s.fenceGroup d g cause).dbk
             nor := (s.fenceGroup d g cause).nor } := by
  by_cases hidle : s.groupPresent d g = false ∨ s.groupFenced d g = true
  · rw [fenceGroup_of_idle hidle]
  · obtain ⟨hpre, hfen⟩ := not_or.mp hidle
    rw [fenceGroup_of_live (Bool.eq_true_of_not_eq_false hpre) (Bool.eq_false_of_not_eq_true hfen)]
    have hm := note_fenceMarks_frame s d g cause
    generalize (s.fenceMarks d g).note 0x3006 d g cause = m at hm
    have hlog := degradeAdd_frame m 3 d g 0x3006
    generalize m.regs = regs, m.dbk = dbk at hm
    subst hm
    exact hlog

section
variable {d g : Nat} (hpre : s.groupPresent d g = true) (hfen : s.groupFenced d g = false)
  (hroom : s.nor.degrade.length < 1024) (cause : Nat)
include hpre hfen hroom

theorem fenceGroup_nor : (s.fenceGroup d g cause).nor = (s.logDegrade (s.degradeEntry 3 d g 0x3006)).nor := by
  have hm := note_fenceMarks_frame s d g cause
  rw [fenceGroup_of_live hpre hfen]
  generalize (s.fenceMarks d g).note 0x3006 d g cause = m at hm
  have hnor : m.nor = s.nor := by rw [hm]
  have hentry : m.degradeEntry 3 d g 0x3006 = s.degradeEntry 3 d g 0x3006 :=
    degradeEntry_congr hnor (by rw [hm]) (by rw [hm]) ..
  rw [degradeAdd_nor (by rw [hnor]; exact hroom), hentry, State.logDegrade, hnor, State.logDegrade]

theorem fenceGroup_dbk :
    (s.fenceGroup d g cause).dbk = ((s.note 0x3006 d g cause).note 0x0040 3 g 0x3006).dbk := by
  have hmarks : SameRec (s.fenceMarks d g) s := sameRec_of_regsFrame (fenceMarks_frame s d g)
  have hroom' : ((s.fenceMarks d g).note 0x3006 d g cause).nor.degrade.length < 1024 := by
    rw [note_fenceMarks_frame]; exact hroom
  rw [fenceGroup_of_live hpre hfen, degradeAdd_dbk hroom']
  exact note_dbk 0x0040 3 g 0x3006 (hmarks.note 0x3006 d g cause)

theorem rd_fenceGroup_restartNeeded : (s.fenceGroup d g cause).rd F.GLB_STATE_RESTART_NEEDED = 1 := by
  rw [fenceGroup_of_live hpre hfen]
  exact rd_degradeAdd_restartNeeded (by rw [note_fenceMarks_frame]; exact hroom) ..

/-- Below the hub's registers a fence leaves what its marks leave. -/
theorem rd_fenceGroup {f : Field} {i x : Nat} (hk : regKey f.key i x < F.GLB_STATE_RESTART_NEEDED.key) :
    (s.fenceGroup d g cause).rd f i x = (s.fenceMarks d g).rd f i x := by
  rw [fenceGroup_of_live hpre hfen, rd_degradeAdd (by rw [note_fenceMarks_frame]; exact hroom) _ _ _ _ hk]
  exact rd_note _ _ _ _ (hk.le.trans (by decide))

theorem rd_fenceGroup_fenced (hd : d < 4) (hg : g < 8) :
    (s.fenceGroup d g cause).rd F.MEM_STATUS_FENCED d = s.rd F.MEM_STATUS_FENCED d + 2 ^ g := by
  rw [rd_fenceGroup hpre hfen hroom, rd_fenceMarks_fenced hd hg hfen]
  simp only [regKey, F.MEM_STATUS_FENCED, F.GLB_STATE_RESTART_NEEDED]; omega

theorem rd_fenceGroup_state (hd : d < 4) {c : Nat} (hc : c < 128) :
    (s.fenceGroup d g cause).rd F.MEM_CH_STATE_STATE d c = if c / 16 = g then 4 else s.rd F.MEM_CH_STATE_STATE d c := by
  rw [rd_fenceGroup hpre hfen hroom, rd_fenceMarks_state]
  simp only [regKey, F.MEM_CH_STATE_STATE, F.GLB_STATE_RESTART_NEEDED]; omega

theorem groupFenced_fenceGroup (hd : d < 4) (hg : g < 8) : (s.fenceGroup d g cause).groupFenced d g = true := by
  rw [State.groupFenced, rd_fenceGroup_fenced hpre hfen hroom cause hd hg]
  exact bit_add_two_pow hfen

end

theorem exec_memFenceReq {die : Fin 4} {v : W32} (hcan : CanWrite s q 18 F.MEM_FENCE_REQ_GROUP.key) :
    exec (.memFenceReq q die v) s = .next ((s.dropAllHeld q).fenceGroup die (v.toNat % 8) 4) := by
  obtain ⟨hctl, hwr⟩ := hcan
  change execMemFenceReq q die v s = _
  simp only [execMemFenceReq, State.rowWrite, hctl, hwr, Bool.and_self, if_true, State.memFenceReq]

/-! ### The statement of 01_module_overview.md -/

/-- Settles O40: a fence of a live group is its marks in the registers, code 0x3006 and an entry of the degrade log; the
fence bit is what a write to a place of the group meets. -/
theorem groupFencesDiscardAndAreLogged : Obligations.GroupFencesDiscardAndAreLogged := by
  unfold Obligations.GroupFencesDiscardAndAreLogged
  intro s q die v hcan g
  have hd : die.val < 4 := die.isLt
  have hg : g < 8 := Nat.mod_lt _ (by decide)
  let u := s.dropAllHeld q
  have hexec : exec (.memFenceReq q die v) s = .next (u.fenceGroup die g 4) := exec_memFenceReq hcan
  refine ⟨fun hidle => ?_, fun hpre hfen hroom => ?_⟩
  · have hu : u.fenceGroup die g 4 = u := fenceGroup_of_idle (s := u) hidle 4
    exact ⟨u, hu ▸ hexec, rfl, noHeld_of_bus rfl⟩
  · replace hpre : u.groupPresent die g = true := hpre
    replace hfen : u.groupFenced die g = false := hfen
    replace hroom : u.nor.degrade.length < 1024 := hroom
    have hnor := fenceGroup_nor hpre hfen hroom 4
    have hrec : SameRec u s := ⟨rfl, ⟨rfl, rfl, rfl⟩, rfl⟩
    refine ⟨u.fenceGroup die g 4, u.degradeEntry 3 die g 0x3006, hexec, noHeld_of_bus ?_, fenceGroup_mem .., ?_, ?_,
      rd_fenceGroup_fenced hpre hfen hroom 4 hd hg, rd_fenceGroup_restartNeeded hpre hfen hroom 4, ?_,
      fun c hc => rd_fenceGroup_state hpre hfen hroom 4 hd hc, ?_, rfl, rfl, rfl, rfl, ?_, ?_,
      fun key b hkey hdie hgrp => ?_⟩
    · rw [fenceGroup_frame]
    · rw [fenceGroup_frame]; rfl
    · rw [fenceGroup_frame]; rfl
    · rw [fenceGroup_dbk hpre hfen hroom]
      exact note_dbk 0x0040 3 g 0x3006 (hrec.note 0x3006 die g 4)
    · rw [hnor]; rfl
    · rw [hnor]; rfl
    · rw [hnor]; exact degradeCtr_lt_degradeEntry_seq u 3 die g 0x3006
    · refine wrKey_of_groupFenced hkey ?_ b
      rw [hdie, hgrp]
      exact groupFenced_fenceGroup hpre hfen hroom 4 hd hg

end Sys2Proof.Machine

/-! Scalar instructions of a sequencer (05_engines_and_sequencers.md R181 to R185): immediate operations, jumps, the ALU
table and binary64 operations; first, that a step runs the command at the front of the queue. -/

namespace Sys2Proof.Machine

variable {s : State} {c : Nat}

/-! ### The front command -/

theorem step_of_pending {i : Instr} {rest : List Instr} (h : s.pending = i :: rest) :
    step s = exec i { s with pending := rest } := by
  simp only [step, h]

/-- Settles O1: both halves are the second equation of `step`. -/
theorem stepRunsTheFrontCommand : Obligations.StepRunsTheFrontCommand :=
  fun _ _ _ => ⟨step_of_pending, step_of_pending rfl⟩

/-! ### An instruction that yields a scalar value or is illegal -/

theorem scalarOpt_some (rd : BitVec 5) {o : Option W64} {v : W64} (h : o = some v) :
    SeqWrites s (s.scalarOpt c rd o) c rd v (s.pc c + 4) := by
  subst h
  exact scalarOp_spec rd v

theorem programFault_aborts (h : SeqReady s c) {k : Nat} (hk : k ≠ 4) : SeqFaults s (s.programFault c k) c 4 := by
  have := programFault_spec h.fault k
  rwa [if_neg hk] at this

theorem scalarOpt_none (h : SeqReady s c) (rd : BitVec 5) {o : Option W64} (ho : o = none) :
    SeqFaults s (s.scalarOpt c rd o) c 4 := by
  subst ho
  exact programFault_aborts h (by decide)

/-! ### Immediate operations and jumps -/

theorem boolW_of_iff {b : Bool} {p : Prop} [Decidable p] (h : b = true ↔ p) : boolW b = if p then 1 else 0 := by
  simp only [boolW, h]

theorem boolW_slt (a b : W64) : boolW (a.slt b) = if a.toInt < b.toInt then 1 else 0 := boolW_of_iff BitVec.slt_iff_toInt_lt

theorem toInt_sext16 (imm : BitVec 16) : (sext16 imm).toInt = imm.toInt :=
  BitVec.toInt_signExtend_of_le (by decide)

theorem and_not_three (a : W64) : a &&& ~~~3#64 = BitVec.ofNat 64 (a.toNat / 4 * 4) := by
  have hmask : ~~~3#64 = BitVec.allOnes 64 <<< 2 := by decide
  have hshift : a &&& ~~~3#64 = (a >>> 2) <<< 2 := by
    ext i hi
    rw [hmask, BitVec.getElem_and, BitVec.getElem_shiftLeft, BitVec.getElem_shiftLeft, BitVec.getElem_allOnes]
    by_cases h2 : i < 2
    · simp [h2]
    · have h2i : 2 + (i - 2) = i := by omega
      simp [h2, h2i, BitVec.getLsbD_eq_getElem hi]
  rw [hshift]
  apply BitVec.eq_of_toNat_eq
  simp [Nat.shiftRight_eq_div_pow, Nat.shiftLeft_eq]

theorem brTest_iff (k : BrKind) (a b : W64) : brTest k a b = true ↔ (match k with
    | .beq => a.toNat = b.toNat
    | .bne => a.toNat ≠ b.toNat
    | .blt => a.toInt < b.toInt
    | .bge => b.toInt ≤ a.toInt
    | .bltu => a.toNat < b.toNat
    | .bgeu => b.toNat ≤ a.toNat) := by
  cases k <;> simp [brTest, BitVec.toNat_inj, BitVec.slt_iff_toInt_lt, BitVec.sle_iff_toInt_le, BitVec.ult_iff_lt, BitVec.ule_iff_le, BitVec.lt_def, BitVec.le_def]

/-- Settles O3: each instruction is the scalar operation or the jump whose effect is known. -/
theorem scalarImmediatesAndJumps : Obligations.ScalarImmediatesAndJumps := by
  unfold Obligations.ScalarImmediatesAndJumps
  intro s c rd ra rb imm off k h a b holds
  refine ⟨instr_completes h (scalarOp_spec ..), instr_completes h (scalarOp_spec ..), instr_completes h (scalarOp_spec ..),
    instr_completes h (scalarOp_spec ..), instr_completes h ?_, instr_completes h (scalarOp_spec ..),
    instr_completes h ⟨fun hk => scalarOpt_some _ (by simp only [shiOp, hk]),
      fun hk => scalarOpt_some _ (by simp only [shiOp, hk]), fun hk => scalarOpt_some _ (by simp only [shiOp, hk]),
      fun hk => scalarOpt_none h _ (by simp only [shiOp, hk])⟩,
    instr_completes h ⟨fun hk => ?_, fun hk => ?_⟩, instr_completes h (jump_spec ..), instr_completes h ?_⟩
  · rw [← toInt_sext16, ← boolW_slt]
    exact scalarOp_spec ..
  · rw [if_pos ((brTest_iff k a b).mpr hk)]
    exact jump_only_spec _
  · rw [if_neg (mt (brTest_iff k a b).mp hk)]
    exact retire_spec
  · rw [← and_not_three]
    exact jump_spec ..

/-! ### The ALU table (R184) -/

theorem ofInt_add_toInt (a b : W64) : BitVec.ofInt 64 (a.toInt + b.toInt) = a + b := by
  apply BitVec.eq_of_toInt_eq; simp [BitVec.toInt_add]

theorem ofInt_sub_toInt (a b : W64) : BitVec.ofInt 64 (a.toInt - b.toInt) = a - b := by
  apply BitVec.eq_of_toInt_eq; simp [BitVec.toInt_sub]

theorem ofInt_mul_toInt (a b : W64) : BitVec.ofInt 64 (a.toInt * b.toInt) = a * b := by
  apply BitVec.eq_of_toInt_eq; simp [BitVec.toInt_mul]

theorem ofNat_div_toNat (a b : W64) : BitVec.ofNat 64 (a.toNat / b.toNat) = a / b := by
  rw [← BitVec.toNat_udiv, BitVec.ofNat_toNat, BitVec.setWidth_eq]

theorem ofNat_mod_toNat (a b : W64) : BitVec.ofNat 64 (a.toNat % b.toNat) = a % b := by
  rw [← BitVec.toNat_umod, BitVec.ofNat_toNat, BitVec.setWidth_eq]

theorem boolW_ult (a b : W64) : boolW (a.ult b) = if a.toNat < b.toNat then 1 else 0 :=
  boolW_of_iff (BitVec.ult_iff_lt.trans BitVec.lt_def)

/-- The smaller or larger of two words, picked by a comparison that agrees with an order of numbers. -/
theorem ite_slt_eq_min (a b : W64) : (if b.slt a then b else a) = BitVec.ofInt 64 (min a.toInt b.toInt) := by
  simp only [BitVec.slt_iff_toInt_lt]
  split
  · rw [min_eq_right (by omega), BitVec.ofInt_toInt]
  · rw [min_eq_left (by omega), BitVec.ofInt_toInt]

theorem ite_slt_eq_max (a b : W64) : (if a.slt b then b else a) = BitVec.ofInt 64 (max a.toInt b.toInt) := by
  simp only [BitVec.slt_iff_toInt_lt]
  split
  · rw [max_eq_right (by omega), BitVec.ofInt_toInt]
  · rw [max_eq_left (by omega), BitVec.ofInt_toInt]

theorem ite_ult_eq_min (a b : W64) : (if b.ult a then b else a) = BitVec.ofNat 64 (min a.toNat b.toNat) := by
  simp only [BitVec.ult_iff_lt, BitVec.lt_def]
  split
  · rw [min_eq_right (by omega), BitVec.ofNat_toNat, BitVec.setWidth_eq]
  · rw [min_eq_left (by omega), BitVec.ofNat_toNat, BitVec.setWidth_eq]

theorem ite_ult_eq_max (a b : W64) : (if a.ult b then b else a) = BitVec.ofNat 64 (max a.toNat b.toNat) := by
  simp only [BitVec.ult_iff_lt, BitVec.lt_def]
  split
  · rw [max_eq_right (by omega), BitVec.ofNat_toNat, BitVec.setWidth_eq]
  · rw [max_eq_left (by omega), BitVec.ofNat_toNat, BitVec.setWidth_eq]

theorem clz64_zero : clz64 0 = 64 := rfl

/-- The leading one of a word at place `k` has 63 - k zeros above it. -/
theorem clz64_of_div_eq_one {a : W64} {k : Nat} (h : a.toNat / 2 ^ k = 1) : clz64 a = BitVec.ofNat 64 (63 - k) := by
  have hlo : 2 ^ k ≤ a.toNat := by
    by_contra hlt
    rw [Nat.div_eq_of_lt (by omega)] at h
    exact absurd h (by decide)
  have hhi : a.toNat < 2 ^ (k + 1) := by
    have := Nat.lt_mul_div_succ a.toNat (Nat.two_pow_pos k)
    rw [h] at this
    omega
  have hne : a.toNat ≠ 0 := by have := Nat.two_pow_pos k; omega
  have ha : a ≠ 0 := by rintro rfl; exact hne rfl
  rw [clz64, if_neg ha, (Nat.log2_eq_iff hne).mpr ⟨hlo, hhi⟩]

theorem popcount_eq_length_filter (n v : Nat) :
    popcount n v = ((List.range n).filter (fun i => v.testBit i)).length := by
  have hfold : ∀ (l : List Nat) (k : Nat), l.foldl (fun c i => c + v / 2 ^ i % 2) k =
      k + (l.filter (fun i => v.testBit i)).length := by
    intro l
    induction l with
    | nil => intro k; rfl
    | cons i l ih =>
      intro k
      rw [List.foldl_cons, ih, List.filter_cons, Nat.testBit_eq_decide_div_mod_eq]
      have := Nat.mod_lt (v / 2 ^ i) (by decide : 2 > 0)
      by_cases hbit : v / 2 ^ i % 2 = 1
      · simp [hbit]; omega
      · simp [hbit]; omega
  rw [popcount, hfold, Nat.zero_add]

theorem aluOp_unlisted {func : BitVec 11} (h : ¬ (func.toNat ≤ 0x00D ∨ (0x010 ≤ func.toNat ∧ func.toNat ≤ 0x012) ∨
    (0x014 ≤ func.toNat ∧ func.toNat ≤ 0x017) ∨ func = 0x020 ∨ func = 0x021)) (a b : W64) : aluOp func a b = none := by
  simp only [← BitVec.toNat_inj] at h
  unfold aluOp
  split
  case h_24 => rfl
  all_goals simp_all

variable {core : Fin 256} {rd ra rb : BitVec 5}

theorem alu_gives (h : SeqReady s core) {func : BitVec 11} {v : W64}
    (hv : aluOp func (s.sreg core ra) (s.sreg core rb) = some v) :
    ∃ t, exec (.alu core rd ra rb func) s = .next t ∧ SeqWrites s t core rd v (s.pc core + 4) :=
  instr_completes h (scalarOpt_some rd hv)

/-- Settles O4: the value of each func code, by the table. -/
theorem sequencerAluTable : Obligations.SequencerAluTable := by
  unfold Obligations.SequencerAluTable
  intro s c rd ra rb h a b n gives
  have row : ∀ {func v}, aluOp func a b = some v → gives func v := fun hv => alu_gives h hv
  refine ⟨row (congrArg some (ofInt_add_toInt a b).symm), row (congrArg some (ofInt_sub_toInt a b).symm), row rfl, row rfl,
    row rfl, row rfl, row rfl, row rfl, row (congrArg some (boolW_slt a b)), row (congrArg some (boolW_ult a b)),
    row (congrArg some (ite_slt_eq_min a b)), row (congrArg some (ite_slt_eq_max a b)),
    row (congrArg some (ite_ult_eq_min a b)), row (congrArg some (ite_ult_eq_max a b)),
    row (congrArg some (ofInt_mul_toInt a b).symm), row rfl, row rfl, fun hb => ?_, fun hb => ?_, fun ha hb => ?_,
    fun ha => row (congrArg (fun x => some (clz64 x)) ha), fun k _ hk => row (congrArg some (clz64_of_div_eq_one hk)),
    row ?_, fun func hf => instr_completes h (scalarOpt_none h rd (aluOp_unlisted hf a b))⟩
  · exact ⟨row (congrArg some (if_neg hb)), row (congrArg some ((if_neg hb).trans (ofNat_div_toNat a b).symm)),
      row (congrArg some (if_neg hb)), row (congrArg some ((if_neg hb).trans (ofNat_mod_toNat a b).symm))⟩
  · exact ⟨row (congrArg some (if_pos hb)), row (congrArg some (if_pos hb)), row (congrArg some (if_pos hb)),
      row (congrArg some (if_pos hb))⟩
  · have hb0 : b ≠ 0 := fun h0 => by rw [h0] at hb; exact absurd hb (by decide)
    have hneg : BitVec.ofInt 64 (a.toInt.tdiv b.toInt) = a := by
      apply BitVec.eq_of_toInt_eq
      rw [ha, hb]
      rfl
    have hrem : BitVec.ofInt 64 (a.toInt.tmod b.toInt) = 0 := by
      rw [ha, hb]
      rfl
    exact ⟨row (congrArg some ((if_neg hb0).trans hneg)), row (congrArg some ((if_neg hb0).trans hrem))⟩
  · exact congrArg (fun x => some (BitVec.ofNat 64 x)) (popcount_eq_length_filter 64 a.toNat)

/-! ### Binary64 operations (R185) -/

theorem fopOp_unlisted {func : BitVec 11} (h : func.toNat / 8 ∉ [0x00, 0x01, 0x02, 0x03, 0x04, 0x05, 0x06, 0x08, 0x09, 0x0A,
    0x10, 0x11, 0x12, 0x13]) (a b : W64) : fopOp func a b = none := by
  unfold fopOp
  split
  case h_15 => rfl
  all_goals simp_all

theorem fmaOp_unlisted {k rnd : Nat} (h : 3 ≤ k) (a b c : W64) : fmaOp k rnd a b c = none := by
  obtain ⟨k, rfl⟩ := Nat.exists_eq_add_of_le' h
  rfl

theorem toNat_div_append (op : BitVec 8) (rnd : BitVec 3) : (op ++ rnd).toNat / 8 = op.toNat := by
  have := rnd.isLt
  rw [BitVec.toNat_append, Nat.shiftLeft_eq, Nat.mul_comm, ← Nat.two_pow_add_eq_or_of_lt (by omega)]
  omega

/-- FOP with an operation code and a rounding code in its func field. -/
theorem fop_gives (h : SeqReady s core) {op : Nat} {rnd : BitVec 3} {v : W64} (hop : op < 256)
    (hv : ∀ func : BitVec 11, func.toNat % 8 = rnd.toNat → func.toNat / 8 = op →
      fopOp func (s.sreg core ra) (s.sreg core rb) = some v) :
    ∃ t, exec (.fop core rd ra rb (BitVec.ofNat 11 (op * 8 + rnd.toNat))) s = .next t ∧
      SeqWrites s t core rd v (s.pc core + 4) := by
  have hfunc : (BitVec.ofNat 11 (op * 8 + rnd.toNat)).toNat = op * 8 + rnd.toNat := by
    rw [BitVec.toNat_ofNat]; omega
  have hlt := rnd.isLt
  exact instr_completes h (scalarOpt_some rd (hv _ (by omega) (by omega)))

theorem fma_gives (h : SeqReady s core) {rc : BitVec 5} {rnd k : BitVec 3} {v : W64}
    (hv : fmaOp k.toNat rnd.toNat (s.sreg core ra) (s.sreg core rb) (s.sreg core rc) = some v) :
    ∃ t, exec (.fma core rd ra rb rc rnd k) s = .next t ∧ SeqWrites s t core rd v (s.pc core + 4) :=
  instr_completes h (scalarOpt_some rd hv)

theorem intConv_of_isNan {x : FV} (h : x.isNan = true) (w : Nat) (rm : Rm) : (intConv w rm x).1 = 0 := by
  cases x with
  | nan => rfl
  | inf neg => exact absurd h Bool.false_ne_true
  | fin neg num den => exact absurd h Bool.false_ne_true

/-- Settles O5: the value of each operation and variant, by the tables. -/
theorem sequencerFloatCompletes : Obligations.SequencerFloatCompletes := by
  unfold Obligations.SequencerFloatCompletes
  intro s c rd ra rb rc rnd h x y z rm round fop fma
  have row : ∀ {op v}, op < 256 → (∀ func : BitVec 11, func.toNat % 8 = rnd.toNat → func.toNat / 8 = op →
      fopOp func (s.sreg c ra) (s.sreg c rb) = some v) → fop op v := fun hop hv => fop_gives h hop hv
  have toInt : fop 0x11 (BitVec.ofInt 64 (intConv 64 rm x).1) :=
    row (by decide) (fun _ hm hd => by simp only [fopOp, hm, hd]; rfl)
  refine ⟨row (by decide) ?_, row (by decide) ?_, row (by decide) ?_, row (by decide) ?_, row (by decide) ?_,
    row (by decide) ?_, row (by decide) ?_, row (by decide) ?_, row (by decide) ?_, row (by decide) ?_, row (by decide) ?_,
    toInt, fun hn => ?_, row (by decide) ?_, row (by decide) ?_, fma_gives h rfl, fma_gives h rfl, fma_gives h rfl,
    fun k hk => instr_completes h (scalarOpt_none h rd (fmaOp_unlisted hk _ _ _)),
    fun op hop => instr_completes h (scalarOpt_none h rd (fopOp_unlisted (by rwa [toNat_div_append]) _ _))⟩
  case refine_12 =>
    rwa [intConv_of_isNan hn] at toInt
  case refine_10 =>
    intro func _ hd
    simp only [fopOp, hd]
    exact congrArg some (boolW_of_iff Bool.or_eq_true_iff)
  all_goals
    intro func hm hd
    simp only [fopOp, hm, hd]
    rfl

end Sys2Proof.Machine

/-! CSRs of a core (05_engines_and_sequencers.md R187, 07_narrow_training_numerics.md R239 to R253): what a read and a write of
one leave, posts of programs. -/

namespace Sys2Proof.Machine

variable {s t : State} {c : Nat}

/-! ### CSRs as state -/

theorem csr_of_csrs (h : t.cpu.csrs = s.cpu.csrs) (d n : Nat) : t.csr d n = s.csr d n := by simp only [State.csr, h]

theorem csr_setCsr (n : Nat) (v : W64) (d k : Nat) :
    (s.setCsr c n v).csr d k = if d * 4096 + k = c * 4096 + n then v else s.csr d k :=
  mget_mset 0 s.cpu.csrs (c * 4096 + n) (d * 4096 + k) v

/-- What retiring leaves: the PC moved on, SEQ_STATE running, memory, CSRs and scalar registers as they were. -/
theorem retire_leaves : (s.retire c).pc c = s.pc c + 4 ∧ (s.retire c).seqState c = 1 ∧
    (s.retire c).cpu.csrs = s.cpu.csrs ∧ (s.retire c).cpu.sregs = s.cpu.sregs := by
  obtain ⟨hframe, -, hcore, hstate, hsreg⟩ := retire_spec (s := s) (c := c)
  refine ⟨congrArg Core.pc hcore, hstate, ?_, ?_⟩
  · rw [hframe]
  · simp [State.retire, State.setPc, State.setCore]

/-- A CSR is written and the instruction retires, from a state `t` that has the core's PC, the CSRs and the scalar registers
of `s`. -/
theorem setCsr_retire (hpc : t.pc c = s.pc c) (hcsrs : t.cpu.csrs = s.cpu.csrs) (hsregs : t.cpu.sregs = s.cpu.sregs) (n : Nat)
    (v : W64) : ((t.setCsr c n v).retire c).pc c = s.pc c + 4 ∧ ((t.setCsr c n v).retire c).seqState c = 1 ∧
      (∀ d k, ((t.setCsr c n v).retire c).csr d k = if d * 4096 + k = c * 4096 + n then v else s.csr d k) ∧
      ∀ d r, ((t.setCsr c n v).retire c).sreg d r = s.sreg d r := by
  obtain ⟨hpc', hstate, hcsrs', hsregs'⟩ := retire_leaves (s := t.setCsr c n v) (c := c)
  refine ⟨hpc'.trans (congrArg (· + 4) hpc), hstate, fun d k => ?_, sreg_of_sregs (hsregs'.trans hsregs)⟩
  rw [csr_of_csrs hcsrs', csr_setCsr, csr_of_csrs hcsrs]

/-! ### The tables (R187, R239) -/

/-- A CSR number that a table lists. -/
def csrListed (n : Nat) : Prop := n ≤ 0x004 ∨ (0x010 ≤ n ∧ n ≤ 0x013) ∨ (0x020 ≤ n ∧ n ≤ 0x028) ∨ n = 0x030 ∨ n = 0x031 ∨
  (0x100 ≤ n ∧ n < 0x140 ∧ n % 16 < 8)

/-- A CSR number that the tables give as RW, COMPL_BASE apart. -/
def csrRw (n : Nat) : Prop := n = 0x012 ∨ n = 0x013 ∨ (0x022 ≤ n ∧ n ≤ 0x027) ∨ (0x100 ≤ n ∧ n < 0x140 ∧ n % 16 < 8)

/-- The width of the field of an RW CSR. -/
def csrWidth (n : Nat) : Nat :=
  if n = 0x012 then 8 else if n = 0x022 then 22 else if n = 0x023 then 1
  else if n < 0x100 then 32 else if n % 16 = 0 then 64 else if n % 16 = 1 then 24
  else if n % 16 = 2 ∨ n % 16 = 3 then 40 else if n % 16 = 7 then 34 else 32

/-- What a listed CSR reads. -/
def State.csrHolds (s : State) (c n : Nat) : W64 :=
  if n = 0 then BitVec.ofNat 64 c else if n = 1 then BitVec.ofNat 64 (s.coreAcct c)
  else if n = 2 then BitVec.ofNat 64 (s.coreQueue c) else if n = 3 then BitVec.ofNat 64 (s.engMask c)
  else if n = 4 then BitVec.ofNat 64 s.clk.now else if n = 0x030 ∨ n = 0x031 then 0
  else s.csr c n + if n = 0x023 ∧ s.vAsleep c = false then 2 else 0

theorem slotOf_eq_some {n : Nat} (h : 0x100 ≤ n ∧ n < 0x140 ∧ n % 16 < 8) : slotOf n = some ((n - 0x100) / 16, n % 16) :=
  if_pos h

theorem csrRead_vpwr : s.csrRead c 0x023 = some (s.csr c 0x023 + if s.vAsleep c then 0 else 2) := by
  simp only [State.csrRead]
  cases s.vAsleep c <;> rfl

theorem csrRead_slot {n : Nat} (h : 0x100 ≤ n ∧ n < 0x140 ∧ n % 16 < 8) : s.csrRead c n = some (s.csr c n) := by
  unfold State.csrRead
  split
  case h_21 => rw [slotOf_eq_some h]; rfl
  all_goals omega

/-- A CSR beyond TIME other than a write-only one and VPWR holds what is stored. -/
theorem csrHolds_stored {n : Nat} (h4 : 4 < n) (h30 : n ≠ 0x030) (h31 : n ≠ 0x031) (h23 : n ≠ 0x023) :
    s.csrHolds c n = s.csr c n := by
  have h0 : n ≠ 0 := by omega
  have h1 : n ≠ 1 := by omega
  have h2 : n ≠ 2 := by omega
  have h3 : n ≠ 3 := by omega
  have h4' : n ≠ 4 := by omega
  simp [State.csrHolds, h0, h1, h2, h3, h4', h30, h31, h23]

theorem csrRead_listed {n : Nat} (h : csrListed n) : s.csrRead c n = some (s.csrHolds c n) := by
  obtain h | ⟨hlo, hhi⟩ | ⟨hlo, hhi⟩ | rfl | rfl | h := h
  · interval_cases n <;> rfl
  · rw [csrHolds_stored (by omega) (by omega) (by omega) (by omega)]
    interval_cases n <;> rfl
  · by_cases h23 : n = 0x023
    · subst h23
      rw [csrRead_vpwr]
      simp only [State.csrHolds]
      cases s.vAsleep c <;> rfl
    · rw [csrHolds_stored (by omega) (by omega) (by omega) h23]
      have : n ≤ 0x022 ∨ 0x024 ≤ n := by omega
      obtain h | h := this <;> interval_cases n <;> rfl
  · rfl
  · rfl
  · rw [csrRead_slot h, csrHolds_stored (by omega) (by omega) (by omega) (by omega)]

theorem csrRead_unlisted {n : Nat} (h : ¬ csrListed n) : s.csrRead c n = none := by
  simp only [csrListed, not_or] at h
  unfold State.csrRead
  split
  case h_21 => rw [slotOf, if_neg h.2.2.2.2.2]; rfl
  all_goals omega

theorem csrMask_unlisted {n : Nat} (h : ¬ csrListed n) (v : W64) : csrMask n v = none := by
  simp only [csrListed, not_or] at h
  unfold csrMask
  split
  case h_10 => rw [slotOf, if_neg h.2.2.2.2.2]
  all_goals omega

theorem csrMask_rw {n : Nat} (h : csrRw n) (v : W64) : csrMask n v = some (BitVec.ofNat 64 (v.toNat % 2 ^ csrWidth n)) := by
  obtain rfl | rfl | ⟨hlo, hhi⟩ | h := h
  · rfl
  · rfl
  · interval_cases n <;> rfl
  · unfold csrMask
    split
    case h_10 =>
      rw [slotOf_eq_some h]
      obtain ⟨hlo, hhi, hf⟩ := h
      have : n % 16 = 0 ∨ n % 16 = 1 ∨ n % 16 = 2 ∨ n % 16 = 3 ∨ n % 16 = 4 ∨ n % 16 = 5 ∨ n % 16 = 6 ∨ n % 16 = 7 := by omega
      have h12 : n ≠ 0x012 := by omega
      have h22 : n ≠ 0x022 := by omega
      have h23 : n ≠ 0x023 := by omega
      have h100 : ¬ n < 0x100 := by omega
      rcases this with hf | hf | hf | hf | hf | hf | hf | hf <;> simp [csrWidth, h12, h22, h23, h100, hf]
    all_goals omega

theorem csrRo_iff (n : Nat) : csrRo n = true ↔ n ≤ 0x004 ∨ n = 0x011 ∨ n = 0x020 ∨ n = 0x021 ∨ n = 0x028 := by
  simp only [csrRo, List.contains_iff_mem, List.mem_cons, List.not_mem_nil, or_false]
  omega

theorem csrRo_eq_false_iff (n : Nat) :
    csrRo n = false ↔ ¬ (n ≤ 0x004 ∨ n = 0x011 ∨ n = 0x020 ∨ n = 0x021 ∨ n = 0x028) := by
  rw [← Bool.not_eq_true, csrRo_iff]

/-! ### CSRW -/

theorem csrWrite_ro {n : Nat} (h : csrRo n = true) (v : W64) : s.csrWrite c n v = s.retire c := if_pos h

theorem csrWrite_masked {n : Nat} {v w : W64} (hro : csrRo n = false) (h30 : n ≠ 0x030) (h31 : n ≠ 0x031)
    (hw : csrMask n v = some w) :
    s.csrWrite c n v = ((if n = 0x023 then s.vSettle c else s).setCsr c n w).retire c := by
  simp only [State.csrWrite, hro, Bool.false_eq_true, h30, h31, if_false, hw]

theorem csrWrite_unlisted {n : Nat} (h : ¬ csrListed n) (v : W64) : s.csrWrite c n v = s.programFault c 1 := by
  have hmask := csrMask_unlisted h v
  simp only [csrListed] at h
  have hro : csrRo n = false := (csrRo_eq_false_iff n).mpr (by omega)
  have h30 : n ≠ 0x030 := by omega
  have h31 : n ≠ 0x031 := by omega
  simp only [State.csrWrite, hro, Bool.false_eq_true, h30, h31, if_false, hmask]

/-- A power-down that is due changes only the core's power state. -/
theorem vSettle_leaves : (s.vSettle c).pc c = s.pc c ∧ (s.vSettle c).cpu.csrs = s.cpu.csrs ∧
    (s.vSettle c).cpu.sregs = s.cpu.sregs ∧ (s.vSettle c).mem = s.mem := by
  unfold State.vSettle
  split
  · exact ⟨by simp only [State.pc, core_setCore_same], rfl, rfl, rfl⟩
  · exact ⟨rfl, rfl, rfl, rfl⟩

/-- What a CSRW of an RW CSR leaves. -/
theorem csrWrite_masked_leaves {n : Nat} {v w : W64} (hro : csrRo n = false) (h30 : n ≠ 0x030) (h31 : n ≠ 0x031)
    (hw : csrMask n v = some w) :
    (s.csrWrite c n v).pc c = s.pc c + 4 ∧ (s.csrWrite c n v).seqState c = 1 ∧ (s.csrWrite c n v).mem = s.mem ∧
      (∀ d k, (s.csrWrite c n v).csr d k = if d * 4096 + k = c * 4096 + n then w else s.csr d k) ∧
      ∀ d r, (s.csrWrite c n v).sreg d r = s.sreg d r := by
  rw [csrWrite_masked hro h30 h31 hw]
  obtain ⟨hpc, hcsrs, hsregs, hmem⟩ : (if n = 0x023 then s.vSettle c else s).pc c = s.pc c ∧
      (if n = 0x023 then s.vSettle c else s).cpu.csrs = s.cpu.csrs ∧
      (if n = 0x023 then s.vSettle c else s).cpu.sregs = s.cpu.sregs ∧
      (if n = 0x023 then s.vSettle c else s).mem = s.mem := by
    split
    · exact vSettle_leaves
    · exact ⟨rfl, rfl, rfl, rfl⟩
  obtain ⟨hpc', hstate, hcsr, hsreg⟩ := setCsr_retire hpc hcsrs hsregs n w
  exact ⟨hpc', hstate, (retire_mem _ _).trans hmem, hcsr, hsreg⟩

theorem csrRw_written {n : Nat} (h : csrRw n) (v : W64) :
    (s.csrWrite c n v).pc c = s.pc c + 4 ∧ (s.csrWrite c n v).seqState c = 1 ∧ (s.csrWrite c n v).mem = s.mem ∧
      (∀ d k, (s.csrWrite c n v).csr d k =
        if d * 4096 + k = c * 4096 + n then BitVec.ofNat 64 (v.toNat % 2 ^ csrWidth n) else s.csr d k) ∧
      ∀ d r, (s.csrWrite c n v).sreg d r = s.sreg d r := by
  have hmask := csrMask_rw h v
  simp only [csrRw] at h
  exact csrWrite_masked_leaves ((csrRo_eq_false_iff n).mpr (by omega)) (by omega) (by omega) hmask

/-! ### Posts (R241, R253) -/

theorem csrWrite_lpost (v : W64) : s.csrWrite c 0x030 v = (s.lpost c v).retire c := rfl
theorem csrWrite_wpost (v : W64) : s.csrWrite c 0x031 v = (s.wpost c v).retire c := rfl

theorem slotCsr_tensorId (slot : Nat) : slotCsr slot 1 = 0x101 + 16 * slot := by
  simp only [slotCsr]; omega

theorem slotCsr_capture (slot : Nat) : slotCsr slot 7 = 0x107 + 16 * slot := by
  simp only [slotCsr]; omega

/-- A post enters the queue of its keeper. -/
def State.queuePost (s : State) (p : Post) : State := { s with train := { s.train with posts := s.train.posts ++ [p] } }

/-- LPOST queues the slot's tensor identifier and capture for its keeper, and zeroes the capture. -/
theorem lpost_eq (v : W64) : s.lpost c v =
    let tid := (s.csr c (0x101 + 16 * (v.toNat % 4))).toNat % 2 ^ 24
    (s.queuePost ⟨tid % 4, s.coreAcct c, false, tid, s.csr c (0x107 + 16 * (v.toNat % 4)), some c⟩).setCsr c
      (0x107 + 16 * (v.toNat % 4)) 0 := by
  simp only [State.lpost, State.queuePost, slotCsr_tensorId, slotCsr_capture]

theorem wpost_posts (v : W64) : (s.wpost c v).train.posts = s.train.posts ++
    [⟨v.toNat % 4096 % 4, s.coreAcct c, true, v.toNat % 4096, BitVec.ofNat 64 (min (v.toNat / 4096 % 4) 2), some c⟩] := by
  have hmin : (if v.toNat / 4096 % 4 = 3 then 2 else v.toNat / 4096 % 4) = min (v.toNat / 4096 % 4) 2 := by
    split <;> omega
  simp only [State.wpost, hmin]

/-- Settles O7: the tables of reads and writes, then the two posts. -/
theorem sequencerCsrs : Obligations.SequencerCsrs := by
  unfold Obligations.SequencerCsrs
  intro s c rd ra h v tid layer listed holds width rw
  have read : ∀ n : BitVec 12, listed n.toNat → ∃ t, exec (.csrr c rd n) s = .next t ∧
      SeqWrites s t c rd (holds n.toNat) (s.pc c + 4) :=
    fun n hn => instr_completes h (scalarOpt_some rd (csrRead_listed hn))
  refine ⟨read, fun n hn => ?_, read 0x000 (.inl (by decide)), read 0x004 (.inl (by decide)), ?_, ?_,
    fun n hn => ⟨instr_completes h (scalarOpt_none h rd (csrRead_unlisted hn)), ?_⟩, fun n hn => ?_, ?_, ?_, ?_, ?_⟩
  · obtain ⟨hpc, -, hmem, hcsr, hsreg⟩ := csrRw_written (s := s) (c := c) hn v
    exact instr_completes h ⟨hpc, hmem, hcsr, hsreg⟩
  · exact instr_completes h (scalarOpt_some rd rfl)
  · exact instr_completes h (scalarOpt_some rd csrRead_vpwr)
  · exact instr_completes h (by rw [csrWrite_unlisted hn]; exact programFault_aborts h (by decide))
  · have hro : csrRo n.toNat = true := List.all_eq_true.mp (by decide : ([0x000, 0x001, 0x002, 0x003, 0x004, 0x011, 0x020,
      0x021, 0x028] : List (BitVec 12)).all (fun n => csrRo n.toNat) = true) n hn
    exact instr_completes h (by rw [csrWrite_ro hro]; exact retire_spec)
  · obtain ⟨hpc, hstate, hmem, hcsr, hsreg⟩ := csrWrite_masked_leaves (s := s) (c := c) (n := 0x010) (v := v)
      (by decide) (by decide) (by decide) rfl
    exact instr_completes h ⟨hpc, hstate, hmem, hcsr, hsreg⟩
  · obtain ⟨hpc, -, -, hcsr, -⟩ := csrRw_written (s := s) (c := c) (n := 0x012) (.inl rfl) v
    exact instr_completes h ⟨hpc, hcsr⟩
  · let p : Post := ⟨tid % 4, s.coreAcct c, false, tid, s.csr c (0x107 + 16 * (v.toNat % 4)), some c⟩
    obtain ⟨hpc, -, hcsr, -⟩ := setCsr_retire (s := s) (t := s.queuePost p) (c := c) rfl rfl rfl (0x107 + 16 * (v.toNat % 4)) 0
    refine instr_completes h ?_
    rw [csrWrite_lpost, lpost_eq]
    exact ⟨hpc, retire_mem .., congrArg Train.posts (retire_train ..), hcsr⟩
  · obtain ⟨hpc, -, hcsrs, -⟩ := retire_leaves (s := s.wpost c v) (c := c)
    refine instr_completes h ?_
    rw [csrWrite_wpost]
    exact ⟨hpc, retire_mem .., hcsrs, (congrArg Train.posts (retire_train ..)).trans (wpost_posts v)⟩

end Sys2Proof.Machine

/-! Loads and stores of the core store (05_engines_and_sequencers.md R180, R186, R191): the bytes of a store after a write, and
an uncorrectable word. -/

namespace Sys2Proof.Machine

variable {s t : State} {c : Nat}

/-! ### Bytes of a store -/

theorem natLe_length (n v : Nat) : (natLe n v).length = n := by
  induction n generalizing v with
  | zero => rfl
  | succ n ih => rw [natLe, List.length_cons, ih]

theorem getD_natLe {n i : Nat} (h : i < n) (v : Nat) : (natLe n v).getD i 0#8 = BitVec.ofNat 8 (v / 256 ^ i) := by
  induction n generalizing i v with
  | zero => omega
  | succ n ih =>
    cases i with
    | zero => simp [natLe]
    | succ i =>
      rw [natLe, List.getD_cons_succ, ih (by omega), Nat.div_div_eq_div_mul, Nat.pow_succ, Nat.mul_comm]

theorem getD_rdBytes (m : List Host.Cell) {n i : Nat} (h : i < n) (a : Nat) : (rdBytes m a n).getD i 0#8 = mget 0#8 m (a + i) := by
  induction n generalizing a i with
  | zero => omega
  | succ n ih =>
    cases i with
    | zero => rfl
    | succ i => rw [rdBytes, List.getD_cons_succ, ih (by omega)]; congr 1; omega

/-- The number that bytes of a store spell. -/
theorem leNat_rdBytes (m : List Host.Cell) (a n : Nat) : leNat (rdBytes m a n) =
    ((List.range n).map (fun i => (mget 0#8 m (a + i)).toNat * 256 ^ i)).sum := by
  induction n generalizing a with
  | zero => rfl
  | succ n ih =>
    rw [rdBytes, leNat, ih, List.range_succ_eq_map, List.map_cons, List.sum_cons, List.map_map, ← List.sum_map_mul_left]
    simp only [pow_zero, mul_one, Nat.add_zero, Function.comp_def, Nat.add_assoc, Nat.add_comm 1]
    congr 3
    funext i
    rw [Nat.pow_succ]
    ring

/-- A byte of a number written from bytes of a store is the store's. -/
theorem ofNat_leNat_div (l : List Byte) (i : Nat) : BitVec.ofNat 8 (leNat l / 256 ^ i) = l.getD i 0#8 := by
  induction l generalizing i with
  | nil => simp [leNat]
  | cons b l ih =>
    cases i with
    | zero =>
      apply BitVec.eq_of_toNat_eq
      have := b.isLt
      simp only [leNat, pow_zero, Nat.div_one, BitVec.toNat_ofNat, List.getD_cons_zero]
      omega
    | succ i =>
      have hdiv : (b.toNat + 256 * leNat l) / 256 = leNat l := by have := b.isLt; omega
      rw [leNat, Nat.pow_succ', ← Nat.div_div_eq_div_mul, hdiv, ih, List.getD_cons_succ]

theorem leNat_lt (l : List Byte) : leNat l < 256 ^ l.length := by
  induction l with
  | nil => decide
  | cons b l ih =>
    have := b.isLt
    rw [leNat, List.length_cons, Nat.pow_succ]
    omega

/-- Bytes put one by one over a store, but for those of some places. -/
theorem mget_foldl_put (skip : Nat → Bool) (a : Nat) (bs : List Byte) (m : List Host.Cell) (n k : Nat) :
    mget 0#8 ((bs.zipIdx n).foldl (fun m p => if skip (a + p.2) then m else mset 0#8 m (a + p.2) p.1) m) k =
      if a + n ≤ k ∧ k < a + n + bs.length ∧ skip k = false then bs.getD (k - (a + n)) 0#8 else mget 0#8 m k := by
  induction bs generalizing m n with
  | nil => rw [if_neg (by rintro ⟨h, h', -⟩; simp at h'; omega)]; rfl
  | cons b bs ih =>
    rw [List.zipIdx_cons, List.foldl_cons, ih]
    by_cases hk : k = a + n
    · subst hk
      rw [if_neg (by omega)]
      by_cases hs : skip (a + n) = true
      · simp [hs]
      · simp [hs]
    · have hm : mget 0#8 (if skip (a + n) then m else mset 0#8 m (a + n) b) k = mget 0#8 m k := by
        split
        · rfl
        · exact mget_mset_ne _ _ _ b hk
      dsimp only at hm ⊢
      rw [hm]
      by_cases hr : a + (n + 1) ≤ k ∧ k < a + (n + 1) + bs.length ∧ skip k = false
      · obtain ⟨h1, h2, h3⟩ := hr
        rw [if_pos ⟨h1, h2, h3⟩, if_pos ⟨by omega, by simp only [List.length_cons]; omega, h3⟩]
        obtain ⟨j, rfl⟩ : ∃ j, k = a + (n + 1) + j := ⟨k - (a + (n + 1)), by omega⟩
        rw [show a + (n + 1) + j - (a + (n + 1)) = j by omega, show a + (n + 1) + j - (a + n) = j + 1 by omega,
          List.getD_cons_succ]
      · rw [if_neg hr, if_neg (by rintro ⟨h1, h2, h3⟩; simp only [List.length_cons] at h2; exact hr ⟨by omega, by omega, h3⟩)]

theorem mem_wordsOf {a n i : Nat} (h : i < n) : (a + i) / 8 ∈ wordsOf a n := by
  rw [wordsOf, if_neg (by omega), List.mem_map]
  exact ⟨(a + i) / 8 - a / 8, List.mem_range.mpr (by omega), by omega⟩

theorem isPoisoned_eq_false_iff {p : List Nat} {a n : Nat} :
    isPoisoned p a n = false ↔ ∀ w ∈ wordsOf a n, w ∉ p := by
  simp [isPoisoned]

/-- A write over words without poison leaves exactly its bytes. -/
theorem mget_wrStore {p : List Nat} {a : Nat} {bs : List Byte} (hp : isPoisoned p a bs.length = false)
    (m : List Host.Cell) (k : Nat) :
    mget 0#8 (wrStore m p a bs).1 k = if a ≤ k ∧ k < a + bs.length then bs.getD (k - a) 0#8 else mget 0#8 m k := by
  have h := mget_foldl_put (fun j => (dropPoison p (wordsWhole a bs.length)).contains (j / 8)) a bs m 0 k
  simp only [Nat.add_zero] at h
  refine h.trans ?_
  by_cases hk : a ≤ k ∧ k < a + bs.length
  · obtain ⟨hlo, hhi⟩ := hk
    have hclean : k / 8 ∉ p := by
      have := isPoisoned_eq_false_iff.mp hp _ (mem_wordsOf (a := a) (i := k - a) (by omega))
      rwa [Nat.add_sub_cancel' hlo] at this
    have hskip : (dropPoison p (wordsWhole a bs.length)).contains (k / 8) = false := by
      simp only [dropPoison, List.contains_eq_mem, List.mem_filter, hclean, false_and, decide_false]
    rw [if_pos ⟨hlo, hhi, hskip⟩, if_pos ⟨hlo, hhi⟩]
  · rw [if_neg (fun h => hk ⟨h.1, h.2.1⟩), if_neg hk]

/-! ### An uncorrectable word of a core store (R191) -/

/-- An uncorrectable word of a core store is counted and told. -/
def State.tellUnc (s : State) (c word : Nat) : State :=
  (((s.setCore c { s.core c with uncs := (s.core c).uncs + 1, zeroes := true }).inc F.SEQ_ERR_UE_COUNT 1 (c / 64)).seqErr c 2).note
    0x2301 c (8 * word) (b2n (decide (1 ≤ (s.core c).uncs)))

theorem tellUnc_core (word : Nat) :
    (s.tellUnc c word).core c = { s.core c with uncs := (s.core c).uncs + 1, zeroes := true } := by
  rw [State.tellUnc, core_of_cpu (note_cpu ..), core_of_cpu (seqErr_cpu ..), core_of_cpu (inc_cpu ..), core_setCore_same]

theorem tellUnc_mem (word : Nat) : (s.tellUnc c word).mem = s.mem := by simp [State.tellUnc]

theorem tellUnc_sregs (word : Nat) : (s.tellUnc c word).cpu.sregs = s.cpu.sregs := by simp [State.tellUnc, State.setCore]

theorem coreUnc_eq (huncs : (s.core c).uncs = 0) (word : Nat) : s.coreUnc c word = (s.tellUnc c word).stopCore c 0x04 := by
  have hn : ¬ 1 ≤ (s.core c).uncs := by omega
  simp only [State.coreUnc, if_neg hn, State.tellUnc]

theorem stopCore_core (v : Nat) : (s.stopCore c v).core c =
    { s.core c with fault := some (firstStatus ((s.core c).fault.toList ++ [v])) } := by
  rw [stopCore_eq, core_of_cpu (setSeqState_cpu _ _ _), core_setCore_same]

theorem stopCore_sregs (v : Nat) : (s.stopCore c v).cpu.sregs = s.cpu.sregs := by
  rw [stopCore_eq, setSeqState_cpu]; rfl

/-- The first uncorrectable word since start drains the core ABORTED; memory and scalar registers stay. -/
theorem coreUnc_first (hfault : (s.core c).fault = none) (huncs : (s.core c).uncs = 0) (word : Nat) :
    (s.coreUnc c word).mem = s.mem ∧ (s.coreUnc c word).core c = { s.core c with uncs := 1, zeroes := true, fault := some 4 } ∧
      (s.coreUnc c word).seqState c = 3 ∧ ∀ d r, (s.coreUnc c word).sreg d r = s.sreg d r := by
  rw [coreUnc_eq huncs]
  refine ⟨(stopCore_mem ..).trans (tellUnc_mem word), ?_, ?_, sreg_of_sregs ((stopCore_sregs _).trans (tellUnc_sregs word))⟩
  · rw [stopCore_core, tellUnc_core, huncs, hfault]
    rfl
  · rw [stopCore_eq]
    exact seqState_st 3 (by decide)

/-! ### Loads and stores (R183, R186) -/

theorem badWord_nil (a n : Nat) : badWord [] a n = false := by simp [badWord]

theorem badWord_first {a n : Nat} (h : 0 < n) : badWord [a / 8] a n = true := by
  rw [badWord, List.any_eq_true]
  exact ⟨a / 8, mem_wordsOf (i := 0) h, by simp⟩

theorem csOk_iff (a : W64) (n : Nat) : csOk a n = true ↔ a.toNat + n ≤ 2 ^ 21 ∧ a.toNat % n = 0 := by
  simp [csOk]

theorem csOk_eq_false {a : W64} {n : Nat} (h : 2 ^ 21 < a.toNat + n ∨ a.toNat % n ≠ 0) : csOk a n = false := by
  rw [← Bool.not_eq_true, csOk_iff]
  omega

theorem coreCor_nil (spans : List (Nat × Nat)) : s.coreCor c [] spans = s := rfl

theorem ldBytes_pos (k : LdKind) : 0 < ldBytes k := by cases k <;> decide

section

variable {lk : LdKind} {sk : StKind} {rd : BitVec 5} {a v : W64}

theorem scalarLoad_refused (h : csOk a (ldBytes lk) = false) (bad : BadWords) :
    s.scalarLoad c lk rd a bad = s.programFault c 2 := by
  simp [State.scalarLoad, h]

theorem scalarLoad_poisoned (h : csOk a (ldBytes lk) = true) (hp : s.csPois c a.toNat (ldBytes lk) = true) :
    s.scalarLoad c lk rd a {} = s.programFault c 4 := by
  simp [State.scalarLoad, h, hp, badWord_nil]

theorem scalarLoad_uncorrectable (h : csOk a (ldBytes lk) = true) :
    s.scalarLoad c lk rd a { unc := [a.toNat / 8] } = s.coreUnc c (a.toNat / 8) := by
  simp [State.scalarLoad, h, badWord_first (ldBytes_pos lk)]

theorem scalarLoad_clean (h : csOk a (ldBytes lk) = true) (hp : s.csPois c a.toNat (ldBytes lk) = false) :
    s.scalarLoad c lk rd a {} = s.scalarOp c rd (ldValue lk (leNat (s.csRead c a.toNat (ldBytes lk)))) := by
  simp [State.scalarLoad, h, hp, badWord_nil, coreCor_nil]

theorem scalarStore_refused (h : csOk a (stBytes sk) = false) : s.scalarStore c sk v a = s.programFault c 2 := by
  simp [State.scalarStore, h]

theorem scalarStore_ok (h : csOk a (stBytes sk) = true) :
    s.scalarStore c sk v a = (s.csWrite c a.toNat (natLe (stBytes sk) v.toNat)).retire c := by
  simp [State.scalarStore, h]

end

theorem csKey_add (d a i : Nat) : csKey d (a + i) = csKey d a + i := by simp only [csKey, Nat.add_assoc]

/-- A store without poison in its words leaves exactly its bytes. -/
theorem mget_csWrite {a : Nat} {bs : List Byte} (hp : s.csPois c a bs.length = false) (k : Nat) :
    mget 0#8 (s.csWrite c a bs).mem.cs k =
      if csKey c a ≤ k ∧ k < csKey c a + bs.length then bs.getD (k - csKey c a) 0#8 else mget 0#8 s.mem.cs k :=
  mget_wrStore hp s.mem.cs k

/-- Retiring after a change of memory alone. -/
theorem retire_of_mem {m : Mem} (ht : t = { s with mem := m }) : SeqWrites { s with mem := (t.retire c).mem } (t.retire c) c 0 0
    (s.pc c + 4) := by
  subst ht
  rw [retire_mem]
  exact retire_spec

/-- The value of a load as the statement gives it. -/
theorem ldValue_eq (lk : LdKind) (n : Nat) :
    ldValue lk n = if lk = .lw then (BitVec.ofNat 32 n).signExtend 64 else BitVec.ofNat 64 n := by
  cases lk <;> rfl

/-- Settles O6: the address decides between a fault and an access, poison and an uncorrectable word between the ends of one. -/
theorem scalarLoadsAndStores : Obligations.ScalarLoadsAndStores := by
  unfold Obligations.ScalarLoadsAndStores
  intro s c rd ra imm lk sk h a ln sn byte raw
  have hln : ln = ldBytes lk := by cases lk <;> rfl
  have hsn : sn = stBytes sk := by cases sk <;> rfl
  have hraw : leNat (s.csRead c a.toNat (ldBytes lk)) = raw := by
    simp only [State.csRead, leNat_rdBytes, ← csKey_add, ← hln]
    rfl
  rw [hln, hsn]
  refine ⟨instr_completes h ⟨fun hin hal hp => ?_, fun hin hal hp => ?_, fun hbad => ?_⟩, fun hin hal huncs => ?_,
    instr_completes h ⟨fun hin hal hp => ?_, fun hbad => ?_⟩⟩
  · rw [← hraw, ← ldValue_eq]
    exact (scalarLoad_clean ((csOk_iff a _).mpr ⟨hin, hal⟩) hp) ▸ scalarOp_spec rd _
  · exact (scalarLoad_poisoned ((csOk_iff a _).mpr ⟨hin, hal⟩) hp) ▸ programFault_spec h.fault 4
  · exact (scalarLoad_refused (csOk_eq_false hbad) _) ▸ programFault_aborts h (by decide)
  · obtain ⟨hmem, hcore, hstate, hsreg⟩ := coreUnc_first h.fault huncs (a.toNat / 8)
    refine instr_completes h ?_
    rw [show s.scalarLoad c lk rd (s.sreg c ra + sext16 imm) { unc := [a.toNat / 8] } = _ from
      scalarLoad_uncorrectable ((csOk_iff a _).mpr ⟨hin, hal⟩)]
    exact ⟨hmem, congrArg Core.fault hcore, hstate, hsreg⟩
  · have hst := scalarStore_ok (s := s) (c := c) (v := s.sreg c rd) ((csOk_iff a (stBytes sk)).mpr ⟨hin, hal⟩)
    have hlen := natLe_length (stBytes sk) (s.sreg c rd).toNat
    have hbyte := mget_csWrite (s := s) (c := c) (a := a.toNat) (bs := natLe (stBytes sk) (s.sreg c rd).toNat)
      (by rwa [hlen])
    rw [hlen] at hbyte
    rw [show s.scalarStore c sk (s.sreg c rd) (s.sreg c ra + sext16 imm) = _ from hst]
    refine ⟨retire_of_mem rfl, ?_, fun i hi => ?_, fun k hk => ?_⟩
    · rw [retire_mem]; rfl
    · change mget 0#8 ((s.csWrite c a.toNat _).retire c).mem.cs _ = _
      rw [retire_mem, hbyte, csKey_add, if_pos (by omega), Nat.add_sub_cancel_left, getD_natLe hi]
    · change mget 0#8 ((s.csWrite c a.toNat _).retire c).mem.cs _ = _
      rw [retire_mem, hbyte, if_neg (by omega)]
  · exact (scalarStore_refused (csOk_eq_false hbad)) ▸ programFault_aborts h (by decide)

end Sys2Proof.Machine

/-! Orders and waits of a sequencer (05_engines_and_sequencers.md R158, R162, R176, R183): queues as state, TORD, TLD, WAITE and
WAITL. -/

namespace Sys2Proof.Machine

variable {s t : State} {c : Nat}

/-! ### Engines and loaders as state -/

theorem engine_setEngine (i j : Nat) (v : Engine) : (s.setEngine i v).engine j = if j = i then v else s.engine j :=
  mget_mset engineDef s.cpu.engines i j v

theorem engine_setEngine_same (i : Nat) (v : Engine) : (s.setEngine i v).engine i = v := by
  rw [engine_setEngine, if_pos rfl]

theorem loader_setLoader (d : Nat) (q : List Order) : (s.setLoader c q).loader d = if d = c then q else s.loader d :=
  mget_mset [] s.cpu.loaders c d q

theorem engine_of_engines (h : t.cpu.engines = s.cpu.engines) (i : Nat) : t.engine i = s.engine i := by
  simp only [State.engine, h]

theorem loader_of_loaders (h : t.cpu.loaders = s.cpu.loaders) (d : Nat) : t.loader d = s.loader d := by
  simp only [State.loader, h]

/-- Retiring changes no queue. -/
theorem retire_queues : (s.retire c).cpu.engines = s.cpu.engines ∧ (s.retire c).cpu.loaders = s.cpu.loaders := by
  simp [State.retire, State.setPc, State.setCore]

theorem retire_core : (s.retire c).core c = { s.core c with pc := s.pc c + 4, retiredAt := s.clk.now } := by
  obtain ⟨-, -, hcore, -, -⟩ := retire_spec (s := s) (c := c)
  exact hcore

/-! ### TORD -/

theorem arrReason_ne_seven {f : ArrF} (hp : s.engPresent c f.engine = true) (hf : s.engFenced c f.engine = false) (x : Ctx) :
    s.arrReason c f x ≠ 0x07 := by
  simp only [State.arrReason, hp, hf, Bool.not_true, Bool.or_self, Bool.false_eq_true, if_false]
  split
  · decide
  · split
    · decide
    · split_ifs <;> decide

theorem tailReason_ne_seven {f : TailF} (hp : s.engPresent c f.engine = true) (hf : s.engFenced c f.engine = false) (x : Ctx) :
    s.tailReason c f x ≠ 0x07 := by
  simp only [State.tailReason, hp, hf, Bool.not_true, Bool.or_self, Bool.false_eq_true, if_false]
  split_ifs <;> decide

/-- An order for an engine in service is not refused for its engine (R164). -/
theorem orderReason_ne_seven {w : Nat} (hp : s.engPresent c (orderEngine w) = true)
    (hf : s.engFenced c (orderEngine w) = false) (x : Ctx) : s.orderReason c w x ≠ 0x07 := by
  unfold orderEngine at hp hf
  unfold State.orderReason
  split_ifs at hp hf ⊢
  · exact tailReason_ne_seven hp hf x
  · exact arrReason_ne_seven hp hf x

/-- The order that a TORD issues. -/
def State.tordOrder (s : State) (c : Nat) (w0 w1 : W64) : Order :=
  let w := orderWord w0 w1
  newOrder w0 w1 0 0 (s.ctx c (orderSlot w)) (s.core c).issue (s.orderReason c w (s.ctx c (orderSlot w)))

theorem tord_full {w0 w1 : W64} (h : 8 ≤ (s.engine (c * 32 + orderEngine (orderWord w0 w1))).queue.length) :
    s.tord c w0 w1 = s.waitSeq c .other := if_pos h

/-- The state in which an issued order waits in its engine's queue, before the instruction retires. -/
def State.tordQueued (s : State) (c : Nat) (w0 w1 : W64) : State :=
  let i := c * 32 + orderEngine (orderWord w0 w1)
  (s.setEngine i { s.engine i with queue := (s.engine i).queue ++ [s.tordOrder c w0 w1] }).setCore c
    { s.core c with issue := (s.core c).issue + 1 }

theorem tord_room {w0 w1 : W64} (h : (s.engine (c * 32 + orderEngine (orderWord w0 w1))).queue.length < 8)
    (hp : s.engPresent c (orderEngine (orderWord w0 w1)) = true)
    (hf : s.engFenced c (orderEngine (orderWord w0 w1)) = false) : s.tord c w0 w1 = (s.tordQueued c w0 w1).retire c := by
  have hfull : ¬ 8 ≤ (s.engine (c * 32 + orderEngine (orderWord w0 w1))).queue.length := by omega
  simp only [State.tord, if_neg hfull, if_neg (orderReason_ne_seven hp hf _)]
  rfl

/-- An order enters the end of its engine's queue with the core's next issue number. -/
theorem tord_issues {w0 w1 : W64} {e : Nat} (he : orderEngine (orderWord w0 w1) = e)
    (h : (s.engine (c * 32 + e)).queue.length < 8) (hp : s.engPresent c e = true) (hf : s.engFenced c e = false) :
    (s.tord c w0 w1).mem = s.mem ∧ (s.tord c w0 w1).pc c = s.pc c + 4 ∧
      ((s.tord c w0 w1).core c).issue = (s.core c).issue + 1 ∧
      ((s.tord c w0 w1).engine (c * 32 + e)).queue = (s.engine (c * 32 + e)).queue ++ [s.tordOrder c w0 w1] ∧
      ∀ i, i ≠ c * 32 + e → (s.tord c w0 w1).engine i = s.engine i := by
  subst he
  rw [tord_room h hp hf]
  have hcore : (s.tordQueued c w0 w1).core c = { s.core c with issue := (s.core c).issue + 1 } := core_setCore_same _
  have heng : ∀ j, ((s.tordQueued c w0 w1).retire c).engine j = (s.tordQueued c w0 w1).engine j :=
    engine_of_engines retire_queues.1
  refine ⟨(retire_mem ..).trans rfl, ?_, ?_, ?_, fun i hi => ?_⟩
  · rw [retire_leaves.1, State.pc, hcore]; rfl
  · rw [retire_core, hcore]
  · rw [heng]
    exact congrArg Engine.queue (engine_setEngine_same _ _)
  · rw [heng]
    exact (engine_setEngine _ _ _).trans (if_neg hi)

/-! ### TLD -/

/-- A descriptor address that TLD takes. -/
theorem tld_refused {a : W64} (h : a.toNat % 32 ≠ 0 ∨ 2 ^ 21 < a.toNat + 32) (bad : BadWords) :
    s.tld c a bad = s.programFault c 2 := if_pos (by omega)

theorem tld_full {a : W64} (hal : a.toNat % 32 = 0) (hin : a.toNat + 32 ≤ 2 ^ 21) (h : 8 ≤ (s.loader c).length)
    (bad : BadWords) : s.tld c a bad = s.waitSeq c .other := by
  have hok : ¬ (a.toNat % 32 ≠ 0 ∨ 2 ^ 21 - 32 < a.toNat) := by omega
  simp only [State.tld, if_neg hok, if_pos h]

/-- Word `i` of the descriptor at an offset of the core store. -/
def State.descWord (s : State) (c a i : Nat) : W64 := BitVec.ofNat 64 (leNat (s.csRead c (a + 8 * i) 8))

/-- The transfer that a TLD issues. -/
def State.tldOrder (s : State) (c : Nat) (a : W64) : Order :=
  let w := s.descWord c a.toNat
  let f := ldF (w 0).toNat (w 1).toNat (w 2).toNat (w 3).toNat
  newOrder (w 0) (w 1) (w 2) (w 3) (s.ctx c f.ctx) (s.core c).issue (s.ldReason c f (s.ctx c f.ctx))

/-- The state in which an issued transfer waits in the loader's queue, before the instruction retires. -/
def State.tldQueued (s : State) (c : Nat) (a : W64) : State :=
  (s.setLoader c (s.loader c ++ [s.tldOrder c a])).setCore c { s.core c with issue := (s.core c).issue + 1 }

theorem tld_room {a : W64} (hal : a.toNat % 32 = 0) (hin : a.toNat + 32 ≤ 2 ^ 21) (h : (s.loader c).length < 8)
    (hp : s.csPois c a.toNat 32 = false) : s.tld c a {} = (s.tldQueued c a).retire c := by
  have hok : ¬ (a.toNat % 32 ≠ 0 ∨ 2 ^ 21 - 32 < a.toNat) := by omega
  have hfull : ¬ 8 ≤ (s.loader c).length := by omega
  simp only [State.tld, if_neg hok, if_neg hfull, badWord_nil, hp, coreCor_nil, Bool.false_eq_true, if_false]
  rfl

/-- Word 0 of the descriptor is the eight bytes at its offset. -/
theorem descWord_zero_byte {i : Nat} (h : i < 8) (a : Nat) :
    BitVec.ofNat 8 ((s.descWord c a 0).toNat / 256 ^ i) = mget 0#8 s.mem.cs (csKey c (a + i)) := by
  have hlt := leNat_lt (rdBytes s.mem.cs (csKey c a) 8)
  rw [rdBytes_length, show (256 : Nat) ^ 8 = 2 ^ 64 by norm_num] at hlt
  have hword : (s.descWord c a 0).toNat = leNat (rdBytes s.mem.cs (csKey c a) 8) := by
    simp only [State.descWord, State.csRead, BitVec.toNat_ofNat, Nat.mul_zero, Nat.add_zero]
    exact Nat.mod_eq_of_lt hlt
  rw [hword, ofNat_leNat_div, getD_rdBytes _ h, csKey_add]

/-! ### WAITE and WAITL -/

theorem bit_eq_testBit (v i : Nat) : bit v i = v.testBit i := (Nat.testBit_eq_decide_div_mod_eq).symm

theorem bit_mod_two_pow {v i n : Nat} (h : i < n) : bit (v % 2 ^ n) i = v.testBit i := by
  rw [bit_eq_testBit, Nat.testBit_mod_two_pow, decide_eq_true h, Bool.true_and]

/-- A wait for sources of which one has an order unfinished. -/
theorem waitFor_waits {p : Nat → Bool} (h : ∃ x ∈ s.orders c, p x.1 = true ∧ x.2.finished = false) (rd : BitVec 5) :
    SeqWaits s (s.waitFor c rd p) c := by
  obtain ⟨x, hx, hpx, hfin⟩ := h
  have hall : ¬ (s.orders c).all (fun o => o.2.finished || !p o.1) = true := by
    rw [List.all_eq_true]
    intro hall
    simpa [hpx, hfin] using hall x hx
  rw [State.waitFor, if_neg hall]
  exact waitSeq_spec (by decide)

/-- A wait for sources whose orders have all finished gives the first of their statuses. -/
theorem waitFor_done {p : Nat → Bool} (h : ∀ x ∈ s.orders c, p x.1 = true → x.2.finished = true) (rd : BitVec 5) :
    SeqWrites s (s.waitFor c rd p) c rd (BitVec.ofNat 64 (s.waitStatus c p)) (s.pc c + 4) := by
  have hall : (s.orders c).all (fun o => o.2.finished || !p o.1) = true := by
    rw [List.all_eq_true]
    intro x hx
    cases hp : p x.1 with
    | false => simp
    | true => simp [h x hx hp]
  rw [State.waitFor, if_pos hall]
  exact scalarOp_spec ..

/-- The engines that WAITE's mask names. -/
theorem waite_mask (v : W64) :
    (fun src => decide (src < 32) && bit (v.toNat % 2 ^ 32) src) = fun i => decide (i < 32) && v.getLsbD i := by
  funext i
  by_cases h : i < 32
  · rw [bit_mod_two_pow h]; rfl
  · simp [h]

/-- Settles O8: room, presence and the descriptor's place decide what an issue does, the named orders what a wait does. -/
theorem sequencerOrdersAndWaits : Obligations.SequencerOrdersAndWaits := by
  unfold Obligations.SequencerOrdersAndWaits
  intro s c rd ra rb h w0 w1 w e q named firstOf
  have he : orderEngine (orderWord w0 w1) = e := rfl
  have hnamed : ∀ i, (decide (i < 32) && w0.getLsbD i) = true ↔ named i := fun i => by
    simp only [Bool.and_eq_true, decide_eq_true_eq]; rfl
  refine ⟨instr_completes h ⟨fun hfull => ?_, fun hroom hp hf => ?_⟩,
    instr_completes h ⟨fun hbad => ?_, fun hal hin hfull => ?_, fun hal hin hroom hp => ?_⟩,
    instr_completes h ⟨fun ⟨x, hx, hn, hfin⟩ => ?_, fun hall => ?_⟩,
    instr_completes h ⟨fun ⟨x, hx, hn, hfin⟩ => ?_, fun hall => ?_⟩⟩
  · rw [show s.tord c (s.sreg c ra) (s.sreg c rb) = _ from tord_full (he ▸ hfull)]
    exact waitSeq_spec (by decide)
  · obtain ⟨hmem, hpc, hissue, hqueue, hother⟩ := tord_issues he hroom hp hf
    exact ⟨hmem, hpc, hissue, ⟨_, hqueue, rfl, rfl, rfl, rfl, rfl⟩, hother⟩
  · rw [show s.tld c (s.sreg c ra) {} = _ from tld_refused hbad _]
    exact programFault_aborts h (by decide)
  · rw [show s.tld c (s.sreg c ra) {} = _ from tld_full hal hin hfull _]
    exact waitSeq_spec (by decide)
  · rw [show s.tld c (s.sreg c ra) {} = _ from tld_room hal hin hroom hp]
    have hcore : (s.tldQueued c w0).core c = { s.core c with issue := (s.core c).issue + 1 } := core_setCore_same _
    refine ⟨(retire_mem ..).trans rfl, ?_, ?_, s.tldOrder c w0, ?_, rfl, fun i hi => descWord_zero_byte hi _⟩
    · rw [retire_leaves.1, State.pc, hcore]; rfl
    · rw [retire_core, hcore]
    · rw [loader_of_loaders retire_queues.2]
      exact (loader_setLoader _ _).trans (if_pos rfl)
  · rw [waite_mask]
    exact waitFor_waits ⟨x, hx, (hnamed _).mpr hn, hfin⟩ rd
  · rw [waite_mask]
    exact waitFor_done (fun x hx hn => hall x hx ((hnamed _).mp hn)) rd
  · exact waitFor_waits ⟨x, hx, by simp [hn], hfin⟩ rd
  · exact waitFor_done (fun x hx hn => hall x hx (by simpa using hn)) rd

end Sys2Proof.Machine

/-! Completion records (05_engines_and_sequencers.md R166, R167) and the end of a core's part of a batch (R183, R189, R191). -/

namespace Sys2Proof.Machine

variable {s t : State} {c : Nat}

/-! ### Queues by their source -/

theorem queueOf_of_cpu (he : t.cpu.engines = s.cpu.engines) (hl : t.cpu.loaders = s.cpu.loaders) (d x : Nat) :
    t.queueOf d x = s.queueOf d x := by
  simp only [State.queueOf, engine_of_engines he, loader_of_loaders hl]

theorem engineKey_inj {c d x y : Nat} (hx : x < 32) (hy : y < 32) : d * 32 + x = c * 32 + y ↔ d = c ∧ x = y := by
  omega

theorem queueOf_setEngine {c src : Nat} (hs : src < 32) (v : Engine) {d x : Nat} (hx : x ≤ 32) :
    (s.setEngine (c * 32 + src) v).queueOf d x = if d = c ∧ x = src then v.queue else s.queueOf d x := by
  by_cases h32 : x = 32
  · rw [if_neg (by omega), h32]
    rfl
  · simp only [State.queueOf, if_neg h32, engine_setEngine, engineKey_inj (show x < 32 by omega) hs]
    split <;> rfl

theorem queueOf_setLoader (q : List Order) {d x : Nat} :
    (s.setLoader c q).queueOf d x = if d = c ∧ x = 32 then q else s.queueOf d x := by
  by_cases h32 : x = 32
  · subst h32
    simp only [State.queueOf, if_true, loader_setLoader, and_true]
  · simp only [State.queueOf, h32, and_false, if_false]
    rfl

theorem queueOf_setQueueOf {src : Nat} (hs : src ≤ 32) (q : List Order) {d x : Nat} (hx : x ≤ 32) :
    (s.setQueueOf c src q).queueOf d x = if d = c ∧ x = src then q else s.queueOf d x := by
  unfold State.setQueueOf
  split
  · rename_i h
    subst h
    exact queueOf_setLoader q
  · exact queueOf_setEngine (by omega) _ hx

/-- A change of one source's queue leaves the others. -/
theorem otherQueues_of {src : Nat} {q : List Order}
    (h : ∀ d x, x ≤ 32 → t.queueOf d x = if d = c ∧ x = src then q else s.queueOf d x) : OtherQueues s t c src :=
  fun d x _ hx hne => (h d x hx).trans (if_neg (fun ⟨hd, hxs⟩ => hne (by rw [hd, hxs])))

/-- Changing a queue leaves the registers, the stores, the CSRs, the cores and the scalar registers. -/
theorem setQueueOf_frame (src : Nat) (q : List Order) : s.setQueueOf c src q =
    { s with cpu := { s.cpu with engines := (s.setQueueOf c src q).cpu.engines
                                 loaders := (s.setQueueOf c src q).cpu.loaders } } := by
  unfold State.setQueueOf
  split <;> rfl

/-! ### The record (R166) -/

theorem working_running (h : s.running = true) (f : State → State) : s.working f = f s := if_pos h

theorem recordBytes_length (src : Nat) (o : Order) : (recordBytes src o).length = 32 := by
  simp only [recordBytes, List.length_append, natLe_length]

theorem recordBytes_eq {src : Nat} {o : Order} {r : Result} (h : o.res = some r) : recordBytes src o =
    natLe 1 r.status ++ natLe 1 (if src = 32 then o.ldF.firstEngine + 64 else if o.isTail then src + 32 else src) ++
      natLe 2 (o.tag src) ++ natLe 4 r.word.toNat ++ natLe 4 r.sat ++ natLe 4 r.flush ++ natLe 4 r.nan ++ natLe 4 r.inf ++
      natLe 4 r.steps ++ natLe 4 r.first.toNat := by
  have hunit : (if src = 32 then o.ldF.firstEngine else src) + 32 * (if src = 32 then 2 else if o.isTail then 1 else 0) =
      if src = 32 then o.ldF.firstEngine + 64 else if o.isTail then src + 32 else src := by
    split_ifs <;> rfl
  simp only [recordBytes, h, Option.getD_some, hunit]

/-- Bytes written to words without poison are read back. -/
theorem rdBytes_wrStore {p : List Nat} {a : Nat} {bs : List Byte} (hp : isPoisoned p a bs.length = false)
    (m : List Host.Cell) : rdBytes (wrStore m p a bs).1 a bs.length = bs := by
  apply List.ext_getElem (rdBytes_length ..)
  intro i h₁ h₂
  have hi := getD_rdBytes (wrStore m p a bs).1 h₂ a
  rw [mget_wrStore hp, if_pos ⟨by omega, by omega⟩, Nat.add_sub_cancel_left, List.getD_eq_getElem _ _ h₁,
    List.getD_eq_getElem _ _ h₂] at hi
  exact hi

/-! ### The record's source and place (R167) -/

/-- A source has a record due: the order at its head has finished. -/
def State.recordDue (s : State) (c src : Nat) : Bool :=
  match s.queueOf c src with
  | o :: _ => o.finished
  | [] => false

theorem recordDue_iff (src : Nat) : s.recordDue c src = true ↔ ∃ x q, s.queueOf c src = x :: q ∧ x.finished = true := by
  unfold State.recordDue
  cases s.queueOf c src <;> simp

theorem recordSource_eq : s.recordSource c = (List.range 33).find? (s.recordDue c) := rfl

theorem recordSource_eq_none (h : ∀ src, src ≤ 32 → s.recordDue c src = false) : s.recordSource c = none := by
  rw [recordSource_eq, List.find?_eq_none]
  intro src hs
  rw [h src (by simp only [List.mem_range] at hs; omega)]
  decide

theorem recordSource_eq_some {src : Nat} (hs : src ≤ 32) (hdue : s.recordDue c src = true)
    (hfirst : ∀ x, x < src → s.recordDue c x = false) : s.recordSource c = some src := by
  rw [recordSource_eq, List.find?_range_eq_some]
  exact ⟨hdue, List.mem_range.mpr (by omega), fun j hj => by rw [hfirst j hj]; rfl⟩

theorem putRecord_full (h : ((s.csr c 0x011).toNat % 256 + 1) % 256 = (s.csr c 0x012).toNat % 256) : s.putRecord c = s :=
  if_pos h

theorem putRecord_none (h : s.recordSource c = none) : s.putRecord c = s := by
  simp only [State.putRecord, h, ite_self]

/-- The record of an order goes to a place of the ring, the order leaves its queue and the ring's head moves on. -/
def State.recordTo (s : State) (c src : Nat) (o : Order) (q : List Order) : State :=
  let head := (s.csr c 0x011).toNat % 256
  ((s.csWrite c ((s.csr c 0x010).toNat % 2 ^ 21 + 32 * head) (recordBytes src o)).setQueueOf c src q).setCsr c 0x011
    (BitVec.ofNat 64 ((head + 1) % 256))

theorem putRecord_some {src : Nat} {o : Order} {q : List Order}
    (hroom : ((s.csr c 0x011).toNat % 256 + 1) % 256 ≠ (s.csr c 0x012).toNat % 256) (hsrc : s.recordSource c = some src)
    (hq : s.queueOf c src = o :: q) : s.putRecord c = s.recordTo c src o q := by
  simp only [State.putRecord, if_neg hroom, hsrc, hq]
  rfl

theorem recordTo_queueOf {src : Nat} (hs : src ≤ 32) (o : Order) (q : List Order) (d x : Nat) (hx : x ≤ 32) :
    (s.recordTo c src o q).queueOf d x = if d = c ∧ x = src then q else s.queueOf d x :=
  (queueOf_of_cpu rfl rfl d x).trans (queueOf_setQueueOf (s := s.csWrite c _ (recordBytes src o)) hs q hx)

theorem recordTo_csr (src : Nat) (o : Order) (q : List Order) (d n : Nat) :
    (s.recordTo c src o q).csr d n = if d * 4096 + n = c * 4096 + 0x011
      then BitVec.ofNat 64 (((s.csr c 0x011).toNat % 256 + 1) % 256) else s.csr d n := by
  rw [State.recordTo, csr_setCsr]
  split
  · rfl
  · exact csr_of_csrs (by rw [setQueueOf_frame]; rfl) d n

theorem recordTo_mem (src : Nat) (o : Order) (q : List Order) : (s.recordTo c src o q).mem =
    (s.csWrite c ((s.csr c 0x010).toNat % 2 ^ 21 + 32 * ((s.csr c 0x011).toNat % 256)) (recordBytes src o)).mem := by
  rw [State.recordTo, setCsr_mem, setQueueOf_frame]

theorem recordTo_regs (src : Nat) (o : Order) (q : List Order) : (s.recordTo c src o q).regs = s.regs := by
  rw [State.recordTo, setCsr_regs, setQueueOf_frame]
  rfl

/-- Settles O36: the first source whose head has finished is the one found; its record is a write of the core store. -/
theorem completionRecordsEnterTheRing : Obligations.CompletionRecordsEnterTheRing := by
  unfold Obligations.CompletionRecordsEnterTheRing
  intro s c hrun head tail base due
  have hexec : exec (.completionRecordWrite c) s = .next (s.putRecord c) :=
    congrArg Host.Outcome.next (working_running hrun _)
  have hdue : ∀ src, ¬ due src → s.recordDue c src = false := fun src h => by
    rw [← Bool.not_eq_true, recordDue_iff]
    exact h
  refine ⟨fun hfull => ?_, fun hnone => ?_, fun src o q r hroom hs hfirst hq hfin hres hclean _ => ?_⟩
  · rw [hexec, putRecord_full hfull]
  · rw [hexec, putRecord_none (recordSource_eq_none fun src hs => hdue src (hnone src hs))]
  · have hsrc : s.recordSource c = some src := recordSource_eq_some hs ((recordDue_iff src).mpr ⟨o, q, hq, hfin⟩)
      fun x hx => hdue x (hfirst x hx)
    have hqueue := recordTo_queueOf (s := s) (c := c) hs o q
    have hlen := recordBytes_length src o
    have hpois : isPoisoned s.mem.csPoison base (recordBytes src o).length = false := by rwa [hlen]
    refine ⟨s.recordTo c src o q, hexec.trans (congrArg _ (putRecord_some hroom hsrc hq)), ?_, otherQueues_of hqueue,
      recordTo_csr src o q, ?_, recordTo_regs src o q, fun k hk => ?_, ?_⟩
    · rw [hqueue _ _ hs, if_pos ⟨rfl, rfl⟩]
    · rw [recordTo_mem]
      rfl
    · rw [recordTo_mem]
      refine (mget_wrStore hpois s.mem.cs k).trans (if_neg ?_)
      rw [hlen]
      omega
    · rw [recordTo_mem, ← recordBytes_eq hres]
      have := rdBytes_wrStore hpois s.mem.cs
      rwa [hlen] at this

end Sys2Proof.Machine

/-! The end of a core's part of a batch, SYS and illegal words (05_engines_and_sequencers.md R183, R189, R191). -/

namespace Sys2Proof.Machine

variable {s t : State} {c : Nat}

/-! ### Fields that rest on others -/

theorem rd_of_regs (h : t.regs = s.regs) (f : Field) (i x : Nat) : t.rd f i x = s.rd f i x := by
  simp only [State.rd, reg_of_regs h]

theorem seqState_of_regs (h : t.regs = s.regs) (d : Nat) : t.seqState d = s.seqState d := rd_of_regs h _ _ _

theorem core_of_cores (h : t.cpu.cores = s.cpu.cores) (d : Nat) : t.core d = s.core d := by simp only [State.core, h]

/-! ### The running batch of a queue -/

theorem find?_mset {α : Type} [DecidableEq α] (d : α) (m : SMap α) (k : Nat) {v : α} (hv : v ≠ d) :
    (mset d m k v).find? (fun e => e.1 == k) = some (k, v) := by
  induction m with
  | nil => simp [mset, hv]
  | cons e m ih =>
    obtain ⟨k', v'⟩ := e
    simp only [mset, if_neg hv]
    split
    · simp
    · split
      · simp
      · rename_i hne
        rw [List.find?_cons_of_neg (by simpa using Ne.symm hne), ih]

theorem queue_setQueue {q : Nat} {v : Queue} (hv : v ≠ queueDef) : (s.setQueue q v).queue q = some v := by
  rw [State.queue, State.setQueue, find?_mset queueDef s.wrt.queues q hv]
  rfl

/-- A change that keeps the first started batch started changes what is found as the running batch. -/
theorem find?_updFirst {p : Batch → Bool} {f : Batch → Batch} {l : List Batch} {b : Batch} (h : l.find? p = some b)
    (hf : p (f b) = true) : (updFirst p f l).find? p = some (f b) := by
  induction l with
  | nil => exact absurd h nofun
  | cons a l ih =>
    rw [updFirst]
    by_cases ha : p a = true
    · rw [List.find?_cons_of_pos ha] at h
      obtain rfl := Option.some.inj h
      rw [if_pos ha, List.find?_cons_of_pos hf]
    · rw [List.find?_cons_of_neg ha] at h
      rw [if_neg ha, List.find?_cons_of_neg ha, ih h]

theorem runBatch_updRun {q : Nat} {f : Batch → Batch} {b : Batch} (h : s.runBatch q = some b) (hf : (f b).started = true) :
    (s.updRun q f).runBatch q = some (f b) := by
  unfold State.runBatch at h
  split at h
  · exact absurd h nofun
  · rename_i v hv
    have hfound := find?_updFirst h hf
    have hne : ({ v with batches := updFirst (·.started) f v.batches } : Queue) ≠ queueDef := fun heq => by
      rw [show updFirst (·.started) f v.batches = [] from congrArg Queue.batches heq] at hfound
      exact absurd hfound nofun
    simp only [State.updRun, hv, State.runBatch, queue_setQueue hne]
    exact hfound

theorem runBatch_of_wrt (h : t.wrt = s.wrt) (q : Nat) : t.runBatch q = s.runBatch q := by
  simp only [State.runBatch, State.queue, h]

/-! ### The parts of the end (R189, R193, R226) -/

/-- Registers, cores, scalar registers and the fast tier stay: what the parts of the end that move records and empty queues
leave alone. -/
structure KeepsCores (s t : State) : Prop where
  regs : t.regs = s.regs
  cores : t.cpu.cores = s.cpu.cores
  sregs : t.cpu.sregs = s.cpu.sregs
  dram : t.mem.dram = s.mem.dram

theorem KeepsCores.refl (s : State) : KeepsCores s s := ⟨rfl, rfl, rfl, rfl⟩

theorem KeepsCores.trans {u : State} (h : KeepsCores s t) (h' : KeepsCores t u) : KeepsCores s u :=
  ⟨h'.regs.trans h.regs, h'.cores.trans h.cores, h'.sregs.trans h.sregs, h'.dram.trans h.dram⟩

theorem keepsCores_setQueueOf (src : Nat) (q : List Order) : KeepsCores s (s.setQueueOf c src q) := by
  rw [setQueueOf_frame]
  exact ⟨rfl, rfl, rfl, rfl⟩

/-- A record that is written, if any, changes only the core store, a queue and the ring's CSR. -/
theorem putRecord_keeps : KeepsCores s (s.putRecord c) ∧ (s.putRecord c).wrt = s.wrt := by
  by_cases hroom : ((s.csr c 0x011).toNat % 256 + 1) % 256 = (s.csr c 0x012).toNat % 256
  · rw [putRecord_full hroom]
    exact ⟨.refl s, rfl⟩
  · cases hsrc : s.recordSource c with
    | none =>
      rw [putRecord_none hsrc]
      exact ⟨.refl s, rfl⟩
    | some src =>
      cases hq : s.queueOf c src with
      | nil =>
        simp only [State.putRecord, if_neg hroom, hsrc, hq]
        exact ⟨.refl s, trivial⟩
      | cons o q =>
        rw [putRecord_some hroom hsrc hq]
        have hqueue : ∀ u : State, KeepsCores u (u.setQueueOf c src q) ∧ (u.setQueueOf c src q).wrt = u.wrt := fun u =>
          ⟨keepsCores_setQueueOf src q, by rw [setQueueOf_frame]⟩
        obtain ⟨hkeep, hwrt⟩ := hqueue (s.csWrite c ((s.csr c 0x010).toNat % 2 ^ 21 + 32 * ((s.csr c 0x011).toNat % 256))
          (recordBytes src o))
        exact ⟨⟨hkeep.regs, hkeep.cores, hkeep.sregs, hkeep.dram⟩, hwrt⟩

theorem putRecords_keeps (n : Nat) : KeepsCores s (s.putRecords c n) ∧ (s.putRecords c n).wrt = s.wrt := by
  induction n generalizing s with
  | zero => exact ⟨.refl s, rfl⟩
  | succ n ih =>
    obtain ⟨hone, hwrt⟩ := putRecord_keeps (s := s) (c := c)
    obtain ⟨hrest, hwrt'⟩ := ih (s := s.putRecord c)
    exact ⟨hone.trans hrest, hwrt'.trans hwrt⟩

/-- An engine of the core is emptied; a poisoned one is zeroed and returns to service. -/
def State.clearEngine (s : State) (c e : Nat) : State :=
  let en := s.engine (c * 32 + e)
  let s := s.setEngine (c * 32 + e) { en with queue := [], poisoned := false }
  if en.poisoned then s.zeroTile (c * 32 + e) else s

def State.clearEngines (s : State) (c : Nat) (l : List Nat) : State := l.foldl (fun s e => s.clearEngine c e) s

theorem clearEngine_engine (e i : Nat) : (s.clearEngine c e).engine i =
    if i = c * 32 + e then { s.engine (c * 32 + e) with queue := [], poisoned := false } else s.engine i := by
  refine Eq.trans (engine_of_engines ?_ i) (engine_setEngine (c * 32 + e) i _)
  unfold State.clearEngine
  dsimp only
  split <;> rfl

/-- Engines of a list are empty afterwards, and so are those that were before. -/
theorem clearEngines_engine (l : List Nat) {e : Nat}
    (h : e ∈ l ∨ (s.engine (c * 32 + e)).queue = [] ∧ (s.engine (c * 32 + e)).poisoned = false) :
    ((s.clearEngines c l).engine (c * 32 + e)).queue = [] ∧ ((s.clearEngines c l).engine (c * 32 + e)).poisoned = false := by
  induction l generalizing s with
  | nil => exact h.resolve_left List.not_mem_nil
  | cons a l ih =>
    refine ih (s := s.clearEngine c a) ?_
    rw [clearEngine_engine]
    by_cases hea : e = a
    · subst hea
      exact .inr (by rw [if_pos rfl]; exact ⟨rfl, rfl⟩)
    · rw [if_neg (by omega)]
      exact h.imp_left fun hm => (List.mem_cons.mp hm).resolve_left hea

theorem clearEngines_keeps (l : List Nat) : KeepsCores s (s.clearEngines c l) ∧ (s.clearEngines c l).wrt = s.wrt ∧
    (s.clearEngines c l).mem.cs = s.mem.cs := by
  induction l generalizing s with
  | nil => exact ⟨.refl s, rfl, rfl⟩
  | cons a l ih =>
    obtain ⟨hkeep, hwrt, hcs⟩ := ih (s := s.clearEngine c a)
    have hone : KeepsCores s (s.clearEngine c a) ∧ (s.clearEngine c a).wrt = s.wrt ∧
        (s.clearEngine c a).mem.cs = s.mem.cs := by
      unfold State.clearEngine
      dsimp only
      split <;> exact ⟨⟨rfl, rfl, rfl, rfl⟩, rfl, rfl⟩
    exact ⟨hone.1.trans hkeep, hwrt.trans hone.2.1, hcs.trans hone.2.2⟩

/-- The core's part is taken out of its batch, which takes its first status. -/
def Batch.without (b : Batch) (c st : Nat) : Batch :=
  { b with running := b.running.filter (· != c), status := b.status ++ [st] }

/-- The records that fit are written and the batch loses the core. -/
def State.batchLeft (s : State) (c : Nat) : State :=
  let s := s.putRecords c (s.orders c).length
  let sts := (s.core c).stats.map (·.2) ++ (s.core c).fault.toList
  s.updRun (s.coreQueue c) (fun b => b.without c (firstStatus sts))

/-- What the end of a core's part does to the queues, the stores and the batch. -/
def State.partOut (s : State) (c : Nat) : State := ((s.batchLeft c).clearEngines c (List.range 32)).setLoader c []

/-- What it then does to the core: the store is zeroed if it must be, the core holds nothing of the batch, HOLD returns to 0. -/
def State.coreOut (s : State) (c : Nat) (zeroes : Bool) : State :=
  let s := if zeroes then s.zeroCore c else s
  let s := s.setCore c { s.core c with stats := [], fault := none, held := false, zeroes := false, wait := .other }
  s.vRelease c

/-- A core's part is over: its records and queues, then the core itself. -/
def State.partOver (s : State) (c : Nat) : State :=
  (s.partOut c).coreOut c ((s.putRecords c (s.orders c).length).core c).zeroes

theorem endCore_eq : s.endCore c = if (s.partOver c).seqState c = 4 then s.partOver c else (s.partOver c).setSeqState c 0 := by
  rfl

theorem batchLeft_keeps : KeepsCores s (s.batchLeft c) ∧ (s.orders c = [] → (s.batchLeft c).mem.cs = s.mem.cs) := by
  obtain ⟨hrec, -⟩ := putRecords_keeps (s := s) (c := c) (s.orders c).length
  rw [State.batchLeft]
  refine ⟨⟨(updRun_regs ..).trans hrec.regs, ?_, ?_, ?_⟩, fun hnone => ?_⟩
  · rw [updRun_cpu, hrec.cores]
  · rw [updRun_cpu, hrec.sregs]
  · rw [updRun_mem, hrec.dram]
  · rw [updRun_mem, hnone]
    rfl

/-- The batch that ran runs on without the core. -/
theorem batchLeft_runBatch {b : Batch} (h : s.runBatch (s.coreQueue c) = some b) :
    ∃ st, (s.batchLeft c).runBatch (s.coreQueue c) = some (b.without c st) := by
  obtain ⟨hrec, hwrt⟩ := putRecords_keeps (s := s) (c := c) (s.orders c).length
  have hqueue : (s.putRecords c (s.orders c).length).coreQueue c = s.coreQueue c := rd_of_regs hrec.regs _ _ _
  have hstarted : b.started = true := by
    unfold State.runBatch at h
    split at h
    · exact absurd h nofun
    · exact List.find?_some h
  rw [State.batchLeft, hqueue]
  exact ⟨_, runBatch_updRun (f := fun b => b.without c _) ((runBatch_of_wrt hwrt _).trans h) hstarted⟩

/-- The records and queues of a core's part: cores, registers, scalar registers and the fast tier stay, the core stores too
when no record is due. -/
theorem partOut_keeps : KeepsCores s (s.partOut c) ∧ (s.orders c = [] → (s.partOut c).mem.cs = s.mem.cs) := by
  obtain ⟨hleft, hcs⟩ := batchLeft_keeps (s := s) (c := c)
  obtain ⟨hclear, -, hcs'⟩ := clearEngines_keeps (s := s.batchLeft c) (c := c) (List.range 32)
  have hload : ∀ u : State, KeepsCores u (u.setLoader c []) := fun _ => ⟨rfl, rfl, rfl, rfl⟩
  rw [State.partOut]
  exact ⟨(hleft.trans hclear).trans (hload _), fun hnone => by rw [setLoader_mem, hcs', hcs hnone]⟩

theorem setLoader_engine (q : List Order) (i : Nat) : (s.setLoader c q).engine i = s.engine i := rfl

theorem partOut_engine {e : Nat} (h : e < 32) :
    ((s.partOut c).engine (c * 32 + e)).queue = [] ∧ ((s.partOut c).engine (c * 32 + e)).poisoned = false := by
  rw [State.partOut, setLoader_engine]
  exact clearEngines_engine _ (.inl (List.mem_range.mpr h))

theorem partOut_loader : (s.partOut c).loader c = [] := by
  rw [State.partOut, loader_setLoader, if_pos rfl]

theorem partOut_runBatch {b : Batch} (h : s.runBatch (s.coreQueue c) = some b) :
    ∃ st, (s.partOut c).runBatch (s.coreQueue c) = some (b.without c st) := by
  obtain ⟨st, hleft⟩ := batchLeft_runBatch h
  refine ⟨st, (runBatch_of_wrt ?_ _).trans hleft⟩
  rw [State.partOut, setLoader_wrt]
  exact (clearEngines_keeps _).2.1

/-- Releasing HOLD changes when the vector unit was last used and a CSR. -/
theorem vRelease_leaves : (s.vRelease c).regs = s.regs ∧ (s.vRelease c).mem = s.mem ∧ (s.vRelease c).wrt = s.wrt ∧
    (s.vRelease c).cpu.sregs = s.cpu.sregs ∧ (s.vRelease c).cpu.engines = s.cpu.engines ∧
    (s.vRelease c).cpu.loaders = s.cpu.loaders ∧ ∃ at_, (s.vRelease c).core c = { s.core c with vLast := at_ } := by
  unfold State.vRelease
  dsimp only
  split
  · exact ⟨rfl, rfl, rfl, rfl, rfl, rfl, _, core_setCore_same _⟩
  · exact ⟨rfl, rfl, rfl, rfl, rfl, rfl, _, rfl⟩

/-- The core's own end: registers, the batch, scalar registers, queues and the fast tier stay, the core stores too when none
is zeroed. -/
theorem coreOut_leaves (z : Bool) : (s.coreOut c z).regs = s.regs ∧ (s.coreOut c z).wrt = s.wrt ∧
    (s.coreOut c z).cpu.sregs = s.cpu.sregs ∧ (s.coreOut c z).cpu.engines = s.cpu.engines ∧
    (s.coreOut c z).cpu.loaders = s.cpu.loaders ∧ (s.coreOut c z).mem.dram = s.mem.dram ∧
    (z = false → (s.coreOut c z).mem = s.mem) := by
  rw [State.coreOut]
  obtain ⟨hregs, hmem, hwrt, hsregs, heng, hload, -⟩ := vRelease_leaves (c := c) (s := (if z then s.zeroCore c else s).setCore c
    { (if z then s.zeroCore c else s).core c with
      stats := [], fault := none, held := false, zeroes := false, wait := .other })
  rw [hregs, hmem, hwrt, hsregs, heng, hload]
  cases z with
  | true => exact ⟨rfl, rfl, rfl, rfl, rfl, rfl, nofun⟩
  | false => exact ⟨rfl, rfl, rfl, rfl, rfl, rfl, fun _ => rfl⟩

theorem coreOut_core (z : Bool) : ((s.coreOut c z).core c).stats = [] ∧ ((s.coreOut c z).core c).fault = none ∧
    (s.coreOut c z).pc c = s.pc c := by
  obtain ⟨-, -, -, -, -, -, at_, hcore⟩ := vRelease_leaves (c := c) (s := (if z then s.zeroCore c else s).setCore c
    { (if z then s.zeroCore c else s).core c with
      stats := [], fault := none, held := false, zeroes := false, wait := .other })
  rw [core_setCore_same] at hcore
  have hcore' : (s.coreOut c z).core c = _ := hcore
  rw [State.pc, hcore']
  exact ⟨rfl, rfl, by cases z <;> rfl⟩

theorem endCore_of_seqState (h : s.seqState c ≠ 4) : s.endCore c = (s.partOver c).setSeqState c 0 := by
  have hregs : (s.partOver c).regs = s.regs := (coreOut_leaves _).1.trans partOut_keeps.1.regs
  rw [endCore_eq, if_neg (by rwa [seqState_of_regs hregs])]

theorem coreDone_iff : s.coreDone c = true ↔ s.drained c = true ∧ ¬ ∃ p ∈ s.train.posts, p.core = some c := by
  simp [State.coreDone]

/-! ### SYS and the debugger -/

theorem sys_break (hd : s.debugger = true) : s.sys c 1 = (s.retire c).setCore c { (s.retire c).core c with held := true } := by
  rw [State.sys, if_neg (by decide), if_pos rfl, if_pos hd]

theorem sys_noDebugger (hd : s.debugger = false) : s.sys c 1 = s.programFault c 3 := by
  rw [State.sys, if_neg (by decide), if_pos rfl, if_neg (by rw [hd]; decide)]

theorem sys_illegal {n : BitVec 16} (h0 : n ≠ 0) (h1 : n ≠ 1) : s.sys c n = s.programFault c 1 := by
  rw [State.sys, if_neg h0, if_neg h1]

/-- Settles O9: DONE by what the core and its posts still wait for, SYS by its number, a fetched word by what it spells. -/
theorem sequencerEndsAndBreaks : Obligations.SequencerEndsAndBreaks := by
  unfold Obligations.SequencerEndsAndBreaks
  intro s c h
  refine ⟨instr_completes h ⟨fun hwait => ?_, fun hdrained hposted => ?_⟩, instr_completes h retire_spec,
    instr_completes h ⟨fun hd => ?_, fun hd => ?_⟩, fun n h0 h1 => instr_completes h ?_, fun w hw => instr_completes h ?_,
    fun huncs => instr_completes h ?_, fun u hheld => ?_⟩
  · have hdone : ¬ s.coreDone c = true := by
      rw [coreDone_iff]
      rintro ⟨hdrained, hposted⟩
      exact hwait.elim (fun hf => by rw [hf] at hdrained; exact absurd hdrained (by decide)) hposted
    rw [State.seqDone, if_neg hdone]
    exact waitSeq_spec (by decide)
  · have hstate : s.seqState c ≠ 4 := by
      obtain ⟨⟨⟨-, h1 | ⟨h2, -⟩⟩, -⟩, -⟩ := seqRuns_iff.mp h.1 <;> omega
    rw [State.seqDone, if_pos (coreDone_iff.mpr ⟨hdrained, hposted⟩), endCore_of_seqState hstate]
    obtain ⟨hout, houtcs⟩ := partOut_keeps (s := s) (c := c)
    obtain ⟨hregs, hwrt, hsregs, heng, hload, hdram, hmem⟩ := coreOut_leaves (s := s.partOut c) (c := c)
      ((s.putRecords c (s.orders c).length).core c).zeroes
    obtain ⟨hstats, hfault, hpc⟩ := coreOut_core (s := s.partOut c) (c := c)
      ((s.putRecords c (s.orders c).length).core c).zeroes
    have hcpu : ((s.partOver c).setSeqState c 0).cpu = (s.partOver c).cpu := setSeqState_cpu ..
    have hcore := core_of_cpu hcpu c
    refine ⟨fun e he => ?_, ?_, ?_, ?_, seqState_st 0 (by decide), ?_, sreg_of_sregs ?_, ?_, fun hnone hz => ?_, fun b hb => ?_⟩
    · rw [engine_of_engines ((congrArg Compute.engines hcpu).trans heng)]
      exact partOut_engine he
    · rw [loader_of_loaders ((congrArg Compute.loaders hcpu).trans hload)]
      exact partOut_loader
    · rw [hcore]; exact hstats
    · rw [hcore]; exact hfault
    · rw [State.pc, hcore]
      exact hpc.trans (congrArg Core.pc (core_of_cores hout.cores c))
    · exact (congrArg Compute.sregs hcpu).trans (hsregs.trans hout.sregs)
    · rw [setSeqState_mem]
      exact hdram.trans hout.dram
    · rw [setSeqState_mem]
      have hzero : ((s.putRecords c (s.orders c).length).core c).zeroes = false := by
        rw [core_of_cores (putRecords_keeps _).1.cores, hz]
      exact (congrArg Mem.cs (hmem hzero)).trans (houtcs hnone)
    · obtain ⟨st, hbatch⟩ := partOut_runBatch hb
      exact ⟨_, (runBatch_of_wrt ((setSeqState_wrt ..).trans hwrt) _).trans hbatch, rfl, rfl⟩
  · rw [sys_break hd]
    refine ⟨?_, (setCore_mem ..).trans (retire_mem ..), fun d r => ?_⟩
    · rw [core_setCore_same, retire_core]
    · obtain ⟨-, -, -, hsregs⟩ := retire_leaves (s := s) (c := c)
      exact sreg_of_sregs (t := (s.retire c).setCore c { (s.retire c).core c with held := true }) hsregs d r
  · rw [sys_noDebugger hd]
    exact programFault_aborts h (by decide)
  · rw [sys_illegal h0 h1]
    exact programFault_aborts h (by decide)
  · dsimp only
    rw [hw]
    exact programFault_aborts h (by decide)
  · obtain ⟨hmem, hcore, hstate, -⟩ := coreUnc_first h.fault huncs ((s.pc c).toNat / 8)
    dsimp only
    exact ⟨hmem, (congrArg Core.pc hcore).trans rfl, congrArg Core.fault hcore, hstate⟩
  · refine ⟨u.setCore c { u.core c with held := false }, congrArg Host.Outcome.next (if_pos hheld), rfl, core_setCore_same _,
      fun d hd => core_setCore_ne _ (Fin.val_ne_of_ne hd)⟩

end Sys2Proof.Machine

/-! Orders and transfers on their turn (05_engines_and_sequencers.md R158, R159, R164, R177, R180, 04_dot_product.md R153): how an
order completes and how it starts, then what its turn makes of it. -/

namespace Sys2Proof.Machine

variable {s t u : State} {c src : Nat} {kind : Order → Bool} {pre post : List Order} {o : Order}

/-! ### One order in its queue -/

/-- The order that a queue holds between two parts carries an issue number of its own. -/
def OwnIssue (pre post : List Order) (o : Order) : Prop := ∀ p ∈ pre ++ post, p.issue ≠ o.issue

theorem map_eq_self_of_issue {l : List Order} {n : Nat} (h : ∀ p ∈ l, p.issue ≠ n) (f : Order → Order) :
    l.map (fun p => if p.issue = n then f p else p) = l := by
  exact (List.map_congr_left (g := id) (fun p hp => if_neg (h p hp))).trans (List.map_id l)

theorem OwnIssue.left (h : OwnIssue pre post o) : ∀ p ∈ pre, p.issue ≠ o.issue := fun p hp =>
  h p (List.mem_append_left _ hp)

theorem OwnIssue.right (h : OwnIssue pre post o) : ∀ p ∈ post, p.issue ≠ o.issue := fun p hp =>
  h p (List.mem_append_right _ hp)

/-- Replacing an order by its issue number replaces it alone. -/
theorem putOrder_own (h : OwnIssue pre post o) {o' : Order} (ho : o'.issue = o.issue) :
    putOrder o' (pre ++ o :: post) = pre ++ o' :: post := by
  have hmap : ∀ l : List Order, (∀ p ∈ l, p.issue ≠ o.issue) → l.map (fun p => if p.issue = o'.issue then o' else p) = l :=
    fun l hl => map_eq_self_of_issue (by rwa [ho]) (fun _ => o')
  rw [putOrder, List.map_append, List.map_cons, hmap _ h.left, hmap _ h.right, if_pos ho.symm]

/-- An order as it stands once completed. -/
def Order.ended (o : Order) (r : Result) : Order := { o with running := false, finished := true, res := some r }

theorem filter_finishIn_of_issue {l : List Order} {n : Nat} (h : ∀ p ∈ l, p.issue ≠ n) (src : Nat) (r : Result) :
    l.filter (fun o => !(o.finished && decide (o.issue = n) && decide (r.status = 0) && !o.notify src)) = l := by
  rw [List.filter_eq_self]
  intro p hp
  simp [h p hp]

/-- Completing an order by its issue number: it leaves, or stays finished for its record. -/
theorem finishIn_own (h : OwnIssue pre post o) (src : Nat) (r : Result) : finishIn src (pre ++ o :: post) o.issue r =
    pre ++ (if r.status = 0 ∧ o.notify src = false then [] else [o.ended r]) ++ post := by
  have hmap : ∀ l : List Order, (∀ p ∈ l, p.issue ≠ o.issue) →
      l.map (fun p => if p.issue = o.issue then p.ended r else p) = l := fun l hl => map_eq_self_of_issue hl _
  have hone : [o.ended r].filter (fun p =>
      !(p.finished && decide (p.issue = o.issue) && decide (r.status = 0) && !p.notify src)) =
      if r.status = 0 ∧ o.notify src = false then [] else [o.ended r] := by
    have hn : (o.ended r).notify src = o.notify src := rfl
    have hf : (o.ended r).finished = true := rfl
    have hi : (o.ended r).issue = o.issue := rfl
    rw [List.filter_cons, List.filter_nil, hn, hf, hi]
    by_cases hst : r.status = 0 <;> cases o.notify src <;> simp [hst]
  change ((pre ++ o :: post).map (fun p => if p.issue = o.issue then p.ended r else p)).filter _ = _
  rw [List.map_append, List.map_cons, hmap _ h.left, hmap _ h.right, if_pos rfl, ← List.singleton_append, ← List.append_assoc,
    List.filter_append, List.filter_append, hone, filter_finishIn_of_issue h.left, filter_finishIn_of_issue h.right]

/-! ### How an order completes -/

theorem queueOf_finish (hs : src ≤ 32) (n : Nat) (r : Result) {d x : Nat} (hx : x ≤ 32) :
    (s.finish c src n r).queueOf d x =
      if d = c ∧ x = src then finishIn src (s.queueOf c src) n r else s.queueOf d x := by
  have hadd : ∀ u : State, (u.addStat c src r.status).queueOf d x = u.queueOf d x := fun _ => queueOf_of_cpu rfl rfl d x
  unfold State.finish
  dsimp only
  rw [hadd]
  by_cases h32 : src = 32
  · subst h32
    exact queueOf_setLoader _
  · rw [if_neg h32, queueOf_setEngine (by omega) _ hx]
    simp only [State.queueOf, if_neg h32]

theorem stats_finish (n : Nat) (r : Result) :
    ((s.finish c src n r).core c).stats = (s.core c).stats ++ [(src, r.status)] := by
  have hadd : ∀ u : State, ((u.addStat c src r.status).core c).stats = (u.core c).stats ++ [(src, r.status)] := fun u => by
    rw [State.addStat, core_setCore_same]
  unfold State.finish
  dsimp only
  rw [hadd]
  split <;> rfl

/-- Completing the order that a queue holds, from a state with the core and the queues of `s`. -/
theorem finish_completes (hqueue : ∀ d x, u.queueOf d x = s.queueOf d x) (hcore : u.core c = s.core c) (hs : src ≤ 32)
    (hq : s.queueOf c src = pre ++ o :: post) (hown : OwnIssue pre post o) (r : Result) :
    OtherQueues s (u.finish c src o.issue r) c src ∧ Completed s (u.finish c src o.issue r) c src pre post o r := by
  have hfin : ∀ d x, x ≤ 32 → (u.finish c src o.issue r).queueOf d x =
      if d = c ∧ x = src then finishIn src (s.queueOf c src) o.issue r else s.queueOf d x := fun d x hx => by
    rw [queueOf_finish hs _ _ hx, hqueue, hqueue]
  refine ⟨otherQueues_of hfin, ?_, ?_⟩
  · rw [stats_finish, hcore]
  · rw [hfin c src hs, if_pos ⟨rfl, rfl⟩, hq, finishIn_own hown]
    rfl

/-! ### How an order starts -/

/-- An order as it stands while it runs, holding what it will deliver. -/
def Order.started (o : Order) (out : OrdOut) : Order :=
  { o with running := true, res := some out.res, writes := out.writes, amax := out.amax, capSat := out.capSat,
           capNonfin := out.capNonfin }

/-- An order runs from `s` on: no store changed, no other queue did, and it holds what it computed. -/
def StartsFrom (s t : State) (c src : Nat) (pre post : List Order) (o : Order) (out : OrdOut) : Prop :=
  t.mem = s.mem ∧ OtherQueues s t c src ∧ t.queueOf c src = pre ++ o.started out :: post

/-- An order ends from `s` without a delivery: no store changed, no other queue did, and it completed with a result. -/
def EndsFrom (s t : State) (c src : Nat) (pre post : List Order) (o : Order) (r : Result) : Prop :=
  t.mem = s.mem ∧ OtherQueues s t c src ∧ Completed s t c src pre post o r

theorem finish_endsFrom (hcpu : u.cpu = s.cpu) (hmem : u.mem = s.mem) (hs : src ≤ 32)
    (hq : s.queueOf c src = pre ++ o :: post) (hown : OwnIssue pre post o) (r : Result) :
    EndsFrom s (u.finish c src o.issue r) c src pre post o r :=
  ⟨(finish_mem ..).trans hmem,
    finish_completes (queueOf_of_cpu (by rw [hcpu]) (by rw [hcpu])) (core_of_cpu hcpu c) hs hq hown r⟩

theorem startOrder_startsFrom (hcpu : u.cpu = s.cpu) (hmem : u.mem = s.mem) (hs : src ≤ 32)
    (hq : s.queueOf c src = pre ++ o :: post) (hown : OwnIssue pre post o) (out : OrdOut) :
    StartsFrom s (u.startOrder c src o out) c src pre post o out := by
  have hqueue : ∀ d x, u.queueOf d x = s.queueOf d x := queueOf_of_cpu (by rw [hcpu]) (by rw [hcpu])
  let v := if src = 32 then u else u.setEngine (c * 32 + src) { u.engine (c * 32 + src) with stepAt := u.clk.now }
  have hvmem : v.mem = s.mem := by
    rw [← hmem]
    simp only [v]
    split <;> rfl
  have hv : ∀ d x, x ≤ 32 → v.queueOf d x = s.queueOf d x := fun d x hx => by
    simp only [v]
    split
    · exact hqueue d x
    · rename_i h32
      rw [queueOf_setEngine (by omega) _ hx, hqueue]
      split
      · rename_i h
        obtain ⟨rfl, rfl⟩ := h
        rw [← hqueue, State.queueOf, if_neg h32]
      · rfl
  have hstart : u.startOrder c src o out = v.setQueueOf c src (putOrder (o.started out) (v.queueOf c src)) := rfl
  have hput : ∀ d x, x ≤ 32 → (u.startOrder c src o out).queueOf d x =
      if d = c ∧ x = src then pre ++ o.started out :: post else s.queueOf d x := fun d x hx => by
    rw [hstart, queueOf_setQueueOf hs _ hx, hv d x hx, hv c src hs, hq, putOrder_own hown (o' := o.started out) rfl]
  refine ⟨?_, otherQueues_of hput, (hput c src hs).trans (if_pos ⟨rfl, rfl⟩)⟩
  rw [hstart, setQueueOf_frame]
  exact hvmem

/-! ### The turn of an order -/

theorem OnTurn.own (h : OnTurn s c src kind pre post o) : OwnIssue pre post o := by
  obtain ⟨-, -, -, -, -, hown⟩ := h
  exact hown

theorem OnTurn.turn_eq (h : OnTurn s c src kind pre post o) : turn kind (s.queueOf c src) = some o := by
  obtain ⟨hq, hkind, hrun, hfin, hpre, -⟩ := h
  have hfind : (pre ++ o :: post).find? (fun p => kind p && !p.finished) = some o := by
    rw [List.find?_append, List.find?_eq_none.mpr, Option.none_or, List.find?_cons_of_pos (by simp [hkind, hfin])]
    intro p hp hk
    simp only [Bool.and_eq_true, Bool.not_eq_true'] at hk
    exact absurd (hpre p hp hk.1) (by rw [hk.2]; decide)
  simp only [turn, hq, hfind, hrun, Bool.false_eq_true, if_false]

/-- A malformed order is told and completes ABORTED with its reason. -/
theorem refuseOrder_endsFrom (hs : src ≤ 32) (hq : s.queueOf c src = pre ++ o :: post) (hown : OwnIssue pre post o) :
    EndsFrom s (s.refuseOrder c src o) c src pre post o (noResult 0x04 o.reason 0) := by
  unfold State.refuseOrder
  dsimp only
  refine finish_endsFrom ?_ ?_ hs hq hown _
  · split_ifs <;> simp
  · split_ifs <;> simp

theorem engCor_nil (e : Nat) (spans : List (Nat × Nat)) : s.engCor c e [] spans = s := rfl

theorem badRead_nil (spans : List (Nat × Nat)) : badRead [] spans = none := rfl

/-- The start of an array or tail order on its turn when no word comes back uncorrectable. -/
theorem beginOrder_cases {e : Nat} (he : e < 32) (hq : s.queueOf c e = pre ++ o :: post) (hown : OwnIssue pre post o)
    (spans : List (Nat × Nat)) (steps : Nat) {go : State → State} {out : OrdOut}
    (hgo : StartsFrom s (go s) c e pre post o out) :
    (o.reason ≠ 0 → EndsFrom s (s.beginOrder c e o {} spans steps go) c e pre post o (noResult 0x04 o.reason 0)) ∧
    (o.reason = 0 → (s.engine (c * 32 + e)).poisoned = true →
      EndsFrom s (s.beginOrder c e o {} spans steps go) c e pre post o (noResult 0x04 0 0)) ∧
    (o.reason = 0 → (s.engine (c * 32 + e)).poisoned = false → s.noHazard c e o = false →
      s.beginOrder c e o {} spans steps go = s) ∧
    (o.reason = 0 → (s.engine (c * 32 + e)).poisoned = false → s.noHazard c e o = true →
      ((∃ p ∈ spans, s.tsPois (c * 32 + e) p.1 p.2 = true) →
        EndsFrom s (s.beginOrder c e o {} spans steps go) c e pre post o (noResult 0x20 0 steps)) ∧
      ((∀ p ∈ spans, s.tsPois (c * 32 + e) p.1 p.2 = false) →
        StartsFrom s (s.beginOrder c e o {} spans steps go) c e pre post o out)) := by
  have hs : e ≤ 32 := by omega
  refine ⟨fun hr => ?_, fun hr hp => ?_, fun hr hp hz => ?_, fun hr hp hz => ⟨fun hpois => ?_, fun hclean => ?_⟩⟩
  · rw [State.beginOrder, if_pos hr]
    exact refuseOrder_endsFrom hs hq hown
  · simp only [State.beginOrder, hr, ne_eq, not_true_eq_false, if_false, hp, if_true]
    exact finish_endsFrom rfl rfl hs hq hown _
  · simp [State.beginOrder, hr, hp, hz]
  · have hany : spans.any (fun p => s.tsPois (c * 32 + e) p.1 p.2) = true := List.any_eq_true.mpr hpois
    simp only [State.beginOrder, hr, ne_eq, not_true_eq_false, hp, hz, Bool.not_true, Bool.false_eq_true, if_false, badRead_nil,
      engCor_nil, hany, if_true]
    exact finish_endsFrom rfl rfl hs hq hown _
  · have hany : spans.any (fun p => s.tsPois (c * 32 + e) p.1 p.2) = false := by
      rw [List.any_eq_false]
      intro p hp
      rw [hclean p hp]
      decide
    simp only [State.beginOrder, hr, ne_eq, not_true_eq_false, hp, hz, Bool.not_true, Bool.false_eq_true, if_false, badRead_nil,
      engCor_nil, hany]
    exact hgo

/-! ### Invalid Mite bytes are told (R102, R125) -/

/-- The cores, the queues and the stores stay: what telling of something leaves. -/
structure KeepsWork (s t : State) : Prop where
  cpu : t.cpu = s.cpu
  mem : t.mem = s.mem

theorem KeepsWork.refl (s : State) : KeepsWork s s := ⟨rfl, rfl⟩

theorem KeepsWork.trans (h : KeepsWork s t) (h' : KeepsWork t u) : KeepsWork s u := ⟨h'.cpu.trans h.cpu, h'.mem.trans h.mem⟩

theorem keepsWork_note (s : State) (code p0 p1 p2 : Nat) : KeepsWork s (s.note code p0 p1 p2) := ⟨note_cpu .., note_mem ..⟩

theorem keepsWork_foldl {α : Type} {f : State → α → State} (h : ∀ s a, KeepsWork s (f s a)) (l : List α) (s : State) :
    KeepsWork s (l.foldl f s) := by
  induction l generalizing s with
  | nil => exact .refl s
  | cons a l ih => exact (h s a).trans (ih _)

theorem keepsWork_ite {p : Prop} [Decidable p] (h : KeepsWork s t) : KeepsWork s (if p then t else s) := by
  split
  · exact h
  · exact .refl s

theorem noteMite_keeps (f : ArrF) : KeepsWork s (s.noteMite c f) := by
  unfold State.noteMite
  refine (keepsWork_ite ?_).trans (keepsWork_ite ?_)
  all_goals exact keepsWork_foldl (fun s _ => keepsWork_foldl (fun s _ => keepsWork_note s _ _ _ _) _ s) _ _

theorem noteMiteLd_keeps (f : LdF) (src : List LRow) : KeepsWork s (s.noteMiteLd c f src) := by
  unfold State.noteMiteLd
  exact keepsWork_ite (keepsWork_foldl (fun s _ => keepsWork_foldl (fun s _ => keepsWork_note s _ _ _ _) _ s) _ _)

theorem loaderFault_keeps (f : LdF) : KeepsWork s (s.loaderFault c f) := by
  constructor <;> simp [State.loaderFault]

/-! ### Transfers that no device error meets -/

theorem fresh_foldl_app {α : Type} (f : α → RdRes) (h : ∀ a, (f a).fresh = []) (l : List α) (r : RdRes) (hr : r.fresh = []) :
    (l.foldl (fun r a => r.app (f a)) r).fresh = [] := by
  induction l generalizing r with
  | nil => exact hr
  | cons a l ih => exact ih _ (by simp only [RdRes.app, hr, h a, List.append_nil])

theorem rdKey_fresh (key n : Nat) : (s.rdKey [] key n).fresh = [] := by
  unfold State.rdKey
  split
  · rfl
  · simp

/-- A read that the devices answer without an error finds no word uncorrectable. -/
theorem accRead_fresh (acct va n : Nat) : (s.accRead [] acct va n).fresh = [] := by
  refine fresh_foldl_app _ (fun p => ?_) _ _ rfl
  split
  · exact rdKey_fresh _ _
  · rfl

theorem accWriteBad_nil (acct va n : Nat) : s.accWriteBad [] acct va n = [] := by
  rw [State.accWriteBad, List.flatMap_eq_nil_iff]
  intro p _
  split <;> simp

theorem ldIn_fresh (f : LdF) (x : Ctx) : (s.ldIn c f x []).2.1 = [] := by
  simp only [State.ldIn, List.flatMap_map, accRead_fresh, List.flatMap_eq_nil_iff, implies_true]

theorem ldOut_fresh (f : LdF) (x : Ctx) : (s.ldOut c f x []).2.1 = [] := by
  unfold State.ldOut
  split
  · rfl
  · simp only [accWriteBad_nil, List.flatMap_eq_nil_iff, implies_true]

/-- A transfer with no device error starts with what it will deliver. -/
theorem startTransfer_startsFrom (hq : s.queueOf c 32 = pre ++ o :: post) (hown : OwnIssue pre post o)
    {r : OrdOut × List Nat × List LRow} (hr : r.2.1 = []) :
    StartsFrom s (s.startTransfer c o {} r) c 32 pre post o r.1 := by
  obtain ⟨out, ws, rows⟩ := r
  obtain rfl : ws = [] := hr
  have hstart : s.startTransfer c o {} (out, [], rows) = (if out.res.first = 0x09 && out.res.status == 4
      then (s.noteMiteLd c o.ldF rows).loaderFault c o.ldF else s.noteMiteLd c o.ldF rows).startOrder c 32 o out := rfl
  rw [hstart]
  obtain ⟨hcpu, hmem⟩ := (noteMiteLd_keeps o.ldF rows).trans (keepsWork_ite
    (p := (out.res.first = 0x09 && out.res.status == 4) = true) (loaderFault_keeps (c := c) o.ldF))
  exact startOrder_startsFrom hcpu hmem (by decide) hq hown out

/-- The turn of a transfer when no word comes back uncorrectable. -/
theorem loaderTransfer_eq (hrun : s.running = true) {core : Fin 256} (hcore : core.val = c)
    (hturn : OnTurn s c 32 (fun _ => true) pre post o) : exec (.loaderTransfer core {} {}) s =
      .next (if o.reason ≠ 0 then s.refuseOrder c 32 o
        else if !s.noHazard c 32 o || s.ldWaits c o.ldF then s
        else s.startTransfer c o {} (if o.ldF.out then s.ldOut c o.ldF o.ctx [] else s.ldIn c o.ldF o.ctx [])) := by
  subst hcore
  refine (congrArg Host.Outcome.next (working_running hrun _)).trans ?_
  have hload : turn (fun _ => true) (s.loader core) = some o := hturn.turn_eq
  simp only [hload]
  cases o.ldF.out with
  | false => rfl
  | true => simp only [badRead_nil, coreCor_nil, engCor_nil, ite_self, if_true]

/-- Settles O34: the turn finds the order; its reason, its engine, what clashes and what it reads decide. -/
theorem ordersStartOnTheirTurn : Obligations.OrdersStartOnTheirTurn := by
  unfold Obligations.OrdersStartOnTheirTurn
  intro s eng pre post o hrun c e runs fails
  have heng : c * 32 + e = eng.val := Nat.div_add_mod' eng.val 32
  have he : e < 32 := Nat.mod_lt _ (by decide)
  have hqe : s.queueOf c e = (s.engine eng).queue := by
    rw [State.queueOf, if_neg (by omega), heng]
  have hwork : ∀ f : State → State, (Host.Outcome.next (s.working f) : Res) = .next (f s) :=
    fun f => congrArg Host.Outcome.next (working_running hrun f)
  refine ⟨fun hturn => ?_, fun hturn => ?_, fun core hcore hturn => ?_⟩
  · intro f k
    have hexec : exec (.arrayOrder eng {}) s = .next (s.beginOrder c e o {} (f.reads k) (orderSteps k f.mode f.k) (fun s =>
        (s.noteMite c f).startOrder c e o (s.arrCompute c f k o.ctx))) := by
      refine (hwork _).trans ?_
      rw [← hqe, hturn.turn_eq]
    refine ⟨_, hexec, ?_⟩
    rw [← heng]
    have hown := hturn.own
    obtain ⟨hq, -⟩ := hturn
    obtain ⟨hcpu, hmem⟩ := noteMite_keeps (s := s) (c := c) f
    exact beginOrder_cases he hq hown _ _ (startOrder_startsFrom hcpu hmem he.le hq hown _)
  · intro f
    have hexec : exec (.tailOrder eng {}) s = .next (s.beginOrder c e o {} f.reads f.steps (fun s =>
        s.startOrder c e o (s.tailCompute c f o.ctx))) := by
      refine (hwork _).trans ?_
      rw [← hqe, hturn.turn_eq]
    refine ⟨_, hexec, ?_⟩
    rw [← heng]
    have hown := hturn.own
    obtain ⟨hq, -⟩ := hturn
    exact beginOrder_cases he hq hown _ _ (startOrder_startsFrom rfl rfl he.le hq hown _)
  · have hown := hturn.own
    have hload := loaderTransfer_eq hrun hcore hturn
    obtain ⟨hq, -⟩ := hturn
    refine ⟨_, hload, fun hr => ?_, fun hr hwait => ?_, fun hr hz hw => ?_⟩
    · rw [if_pos hr]
      exact refuseOrder_endsFrom (by decide) hq hown
    · rw [if_neg (by simp [hr]), if_pos (by simpa using hwait)]
    · rw [if_neg (by simp [hr]), if_neg (by simp [hz, hw])]
      split
      · exact startTransfer_startsFrom hq hown (ldOut_fresh _ _)
      · exact startTransfer_startsFrom hq hown (ldIn_fresh _ _)

end Sys2Proof.Machine

/-! Orders and transfers as they complete (05_engines_and_sequencers.md R166, R180, R191, R192, 04_dot_product.md R154,
07_narrow_training_numerics.md R240): what a delivery writes, merges and reports, and what a fence of an engine aborts. -/

namespace Sys2Proof.Machine

variable {s t u : State} {c src : Nat} {kind : Order → Bool} {pre post : List Order} {o : Order}

/-! ### States that differ in memory alone -/

/-- Only memory changed. -/
def OnlyMem (s t : State) : Prop := t = { s with mem := t.mem }

theorem OnlyMem.refl (s : State) : OnlyMem s s := rfl

theorem OnlyMem.trans (h : OnlyMem s t) (h' : OnlyMem t u) : OnlyMem s u := by
  unfold OnlyMem at *
  rw [h', h]

theorem OnlyMem.regs (h : OnlyMem s t) : t.regs = s.regs := by rw [h]
theorem OnlyMem.cpu (h : OnlyMem s t) : t.cpu = s.cpu := by rw [h]
theorem OnlyMem.dbk (h : OnlyMem s t) : t.dbk = s.dbk := by rw [h]

theorem onlyMem_foldl {α : Type} {f : State → α → State} (h : ∀ s a, OnlyMem s (f s a)) (l : List α) (s : State) :
    OnlyMem s (l.foldl f s) := by
  induction l generalizing s with
  | nil => exact .refl s
  | cons a l ih => exact (h s a).trans (ih _)

theorem accWrite_onlyMem (acct va : Nat) (bs : List Byte) : OnlyMem s (s.accWrite acct va bs) := frame_mem

/-- Delivered bytes change memory alone. -/
theorem applyWr_onlyMem (acct : Nat) (w : Wr) : OnlyMem s (s.applyWr acct w) := by
  unfold State.applyWr
  split
  · rfl
  · rfl
  · refine (accWrite_onlyMem ..).trans (onlyMem_foldl (fun s i => ?_) _ _)
    split
    · rfl
    · exact .refl s

/-- Delivering bytes one by one, but for those of fenced engines, is delivering those that are left. -/
theorem foldl_applyWr_filter (h : OnlyMem s u) (ws : List Wr) :
    ws.foldl (fun s w => if s.skips w then s else s.applyWr (s.coreAcct c) w) u =
      (ws.filter (fun w => !s.skips w)).foldl (fun u w => u.applyWr (s.coreAcct c) w) u := by
  induction ws generalizing u with
  | nil => rfl
  | cons w ws ih =>
    have hskip : u.skips w = s.skips w := by simp only [State.skips, State.engFenced, rd_of_regs h.regs]
    have hacct : u.coreAcct c = s.coreAcct c := rd_of_regs h.regs _ _ _
    rw [List.foldl_cons, List.filter_cons, hskip, hacct]
    cases s.skips w with
    | true => exact ih h
    | false => exact ih (h.trans (applyWr_onlyMem ..))

/-! ### The capture (R240) -/

/-- LCAPT after a capture: amax by maximum, the two flags by OR. -/
def mergedCapture (old : Nat) (o : Order) : Nat :=
  max (old % 2 ^ 32) o.amax.toNat + 2 ^ 32 * b2n (bit old 32 || o.capSat) + 2 ^ 33 * b2n (bit old 33 || o.capNonfin)

theorem b2n_le_one (b : Bool) : b2n b ≤ 1 := by cases b <;> decide

theorem mergedCapture_lt (old : Nat) (o : Order) : mergedCapture old o < 2 ^ 64 := by
  have hmax : max (old % 2 ^ 32) o.amax.toNat < 2 ^ 32 := max_lt (Nat.mod_lt _ (by decide)) o.amax.isLt
  have hsat := b2n_le_one (bit old 32 || o.capSat)
  have hnf := b2n_le_one (bit old 33 || o.capNonfin)
  unfold mergedCapture
  omega

theorem capture_eq (o : Order) : s.capture c o = s.setCsr c (slotCsr o.ctx.slot 7)
    (BitVec.ofNat 64 (mergedCapture (s.csr c (slotCsr o.ctx.slot 7)).toNat o)) := rfl

theorem csr_capture (o : Order) (d n : Nat) : (s.capture c o).csr d n =
    if d * 4096 + n = c * 4096 + slotCsr o.ctx.slot 7
      then BitVec.ofNat 64 (mergedCapture (s.csr c (slotCsr o.ctx.slot 7)).toNat o) else s.csr d n := by
  rw [capture_eq, csr_setCsr]

/-! ### The result (R83, R154) -/

theorem runLate_iff (q : Nat) : s.runLate q = true ↔ ∃ b, s.runBatch q = some b ∧ b.deadline + b.waited < s.clk.now := by
  unfold State.runLate
  cases s.runBatch q with
  | none => simp
  | some b =>
    simp only [Batch.limit, Option.some.injEq, exists_eq_left']
    exact decide_eq_true_iff

theorem endResult_memory {r : Result} (hr : o.res = some r)
    (hst : statusRank (s.deliverStatus (s.coreAcct c) o.writes) < statusRank r.status) :
    s.endResult c o = noResult (s.deliverStatus (s.coreAcct c) o.writes) 0 r.steps := by
  simp only [State.endResult, hr, Option.getD_some, if_pos hst]

theorem endResult_late {r : Result} (hr : o.res = some r)
    (hst : ¬ statusRank (s.deliverStatus (s.coreAcct c) o.writes) < statusRank r.status)
    (hlate : s.runLate (s.coreQueue c) = true) (h2 : r.status < 2) : s.endResult c o = { r with status := 0x02 } := by
  simp only [State.endResult, hr, Option.getD_some, if_neg hst, State.lateStatus, hlate, h2, decide_true, Bool.and_self, if_true]

theorem endResult_same {r : Result} (hr : o.res = some r)
    (hst : ¬ statusRank (s.deliverStatus (s.coreAcct c) o.writes) < statusRank r.status)
    (h : s.runLate (s.coreQueue c) = false ∨ 2 ≤ r.status) : s.endResult c o = r := by
  have hnot : (decide (r.status < 2) && s.runLate (s.coreQueue c)) = false := by
    obtain h | h := h
    · rw [h, Bool.and_false]
    · rw [decide_eq_false (by omega), Bool.false_and]
  simp only [State.endResult, hr, Option.getD_some, if_neg hst, State.lateStatus, hnot, Bool.false_eq_true, if_false]

/-! ### The delivery (R166, R180) -/

theorem finish_csrs (n : Nat) (r : Result) : (s.finish c src n r).cpu.csrs = s.cpu.csrs := by
  unfold State.finish
  dsimp only
  split <;> rfl

/-- Counting a record in its batch changes the batch alone. -/
theorem batchHealth_keeps (r : Result) : (s.batchHealth c r).cpu = s.cpu ∧ (s.batchHealth c r).mem = s.mem ∧
    (s.batchHealth c r).regs = s.regs ∧ (s.batchHealth c r).dbk = s.dbk := by
  unfold State.batchHealth
  split
  · exact ⟨updRun_cpu .., updRun_mem .., updRun_regs .., updRun_dbk ..⟩
  · exact ⟨rfl, rfl, rfl, rfl⟩

/-- A completion rests on the cores and queues. -/
theorem Completed.of_cpu {r : Result} (h : Completed s t c src pre post o r) (hcpu : u.cpu = t.cpu) :
    Completed s u c src pre post o r := by
  obtain ⟨hstats, hqueue⟩ := h
  exact ⟨by rw [core_of_cpu hcpu, hstats], (queueOf_of_cpu (by rw [hcpu]) (by rw [hcpu]) c src).trans hqueue⟩

theorem OtherQueues.of_cpu (h : OtherQueues s t c src) (hcpu : u.cpu = t.cpu) : OtherQueues s u c src :=
  fun d x hd hx hne => (queueOf_of_cpu (by rw [hcpu]) (by rw [hcpu]) d x).trans (h d x hd hx hne)

theorem EndsFrom.of_work {r : Result} (h : EndsFrom s t c src pre post o r) (hw : KeepsWork t u) :
    EndsFrom s u c src pre post o r := by
  obtain ⟨hmem, hother, hdone⟩ := h
  exact ⟨hw.mem.trans hmem, hother.of_cpu hw.cpu, hdone.of_cpu hw.cpu⟩

/-- The bytes an order delivers, in memory. -/
def State.written (s : State) (c : Nat) (o : Order) : State :=
  (o.writes.filter (fun w => !s.skips w)).foldl (fun u w => u.applyWr (s.coreAcct c) w) s

theorem written_onlyMem (o : Order) : OnlyMem s (s.written c o) := onlyMem_foldl (fun _ w => applyWr_onlyMem _ w) _ _

theorem deliver_eq (h : src = 32 ∨ (s.engine (c * 32 + src)).poisoned = false) : s.deliver c src o =
    (((s.written c o).capture c o).finish c src o.issue (s.endResult c o)).batchHealth c (s.endResult c o) := by
  have hpois : (src ≠ 32 && (s.engine (c * 32 + src)).poisoned) = false := by
    obtain rfl | h := h
    · rfl
    · rw [h, Bool.and_false]
  simp only [State.deliver, hpois, Bool.false_eq_true, if_false, foldl_applyWr_filter (c := c) (OnlyMem.refl s)]
  rfl

/-- What the delivery of a running order leaves. -/
structure DeliversTo (s t : State) (c src : Nat) (pre post : List Order) (o : Order) (r : Result) : Prop where
  queues : OtherQueues s t c src
  done : Completed s t c src pre post o r
  mem : t.mem = (s.written c o).mem
  csr : ∀ d n, t.csr d n = if d * 4096 + n = c * 4096 + slotCsr o.ctx.slot 7
    then BitVec.ofNat 64 (mergedCapture (s.csr c (slotCsr o.ctx.slot 7)).toNat o) else s.csr d n
  regs : t.regs = s.regs
  dbk : t.dbk = s.dbk

theorem deliver_delivers (h : src = 32 ∨ (s.engine (c * 32 + src)).poisoned = false) (hs : src ≤ 32)
    (hq : s.queueOf c src = pre ++ o :: post) (hown : OwnIssue pre post o) :
    DeliversTo s (s.deliver c src o) c src pre post o (s.endResult c o) := by
  have hmem := written_onlyMem (s := s) (c := c) o
  have hqueue : ∀ d x, ((s.written c o).capture c o).queueOf d x = s.queueOf d x := fun d x =>
    (queueOf_of_cpu rfl rfl d x).trans (queueOf_of_cpu (congrArg _ hmem.cpu) (congrArg _ hmem.cpu) d x)
  have hcore : ((s.written c o).capture c o).core c = s.core c := core_of_cpu hmem.cpu c
  obtain ⟨hother, hdone⟩ := finish_completes hqueue hcore hs hq hown (s.endResult c o)
  rw [deliver_eq h]
  obtain ⟨hcpu, hmem', hregs, hdbk⟩ := batchHealth_keeps (s := ((s.written c o).capture c o).finish c src o.issue
    (s.endResult c o)) (c := c) (s.endResult c o)
  refine ⟨hother.of_cpu hcpu, hdone.of_cpu hcpu, hmem'.trans (finish_mem ..), fun d n => ?_,
    hregs.trans ((finish_regs ..).trans hmem.regs), hdbk.trans ((finish_dbk ..).trans hmem.dbk)⟩
  rw [csr_of_csrs (congrArg Compute.csrs hcpu), csr_of_csrs (finish_csrs _ _), csr_capture]
  simp only [csr_of_csrs (congrArg Compute.csrs hmem.cpu)]

theorem deliver_poisoned (h : (s.engine (c * 32 + src)).poisoned = true) (hs : src < 32)
    (hq : s.queueOf c src = pre ++ o :: post) (hown : OwnIssue pre post o) :
    EndsFrom s (s.deliver c src o) c src pre post o (noResult 0x04 0 0) := by
  have hpois : (src ≠ 32 && (s.engine (c * 32 + src)).poisoned) = true := by
    rw [h, Bool.and_true, decide_eq_true_eq]
    omega
  rw [State.deliver, if_pos hpois]
  exact finish_endsFrom rfl rfl hs.le hq hown _

theorem IsRunning.runningOf_eq (h : IsRunning s c src kind pre post o) : runningOf kind (s.queueOf c src) = some o := by
  obtain ⟨hq, hkind, hrun, hpre, -⟩ := h
  rw [runningOf, hq, List.find?_append, List.find?_eq_none.mpr, Option.none_or, List.find?_cons_of_pos (by simp [hkind, hrun])]
  intro p hp hk
  simp only [Bool.and_eq_true] at hk
  exact absurd (hpre p hp hk.1) (by rw [hk.2]; decide)

theorem IsRunning.own (h : IsRunning s c src kind pre post o) : OwnIssue pre post o := by
  obtain ⟨-, -, -, -, hown⟩ := h
  exact hown

theorem runningOf_eq_none {q : List Order} (h : ∀ x ∈ q, x.running = false) : runningOf kind q = none := by
  rw [runningOf, List.find?_eq_none]
  intro x hx
  rw [h x hx, Bool.and_false]
  decide

/-! ### What a fence aborts (R192) -/

/-- Only cores and queues changed. -/
def OnlyCpu (s t : State) : Prop := t = { s with cpu := t.cpu }

theorem OnlyCpu.refl (s : State) : OnlyCpu s s := rfl

theorem OnlyCpu.trans (h : OnlyCpu s t) (h' : OnlyCpu t u) : OnlyCpu s u := by
  unfold OnlyCpu at *
  rw [h', h]

theorem OnlyCpu.regs (h : OnlyCpu s t) : t.regs = s.regs := by rw [h]
theorem OnlyCpu.mem (h : OnlyCpu s t) : t.mem = s.mem := by rw [h]
theorem OnlyCpu.nor (h : OnlyCpu s t) : t.nor = s.nor := by rw [h]

theorem finish_onlyCpu (n : Nat) (r : Result) : OnlyCpu s (s.finish c src n r) := frame_cpu

/-- Orders completed ABORTED one after another. -/
def State.abortList (s : State) (c src : Nat) (l : List Order) : State :=
  l.foldl (fun s o => s.finish c src o.issue (noResult 0x04 (if o.running then 0 else 0x07) 0)) s

theorem abortAll_eq : s.abortAll c src = s.abortList c src ((s.queueOf c src).filter (fun o => !o.finished)) := rfl

theorem abortList_onlyCpu (l : List Order) : OnlyCpu s (s.abortList c src l) := by
  induction l generalizing s with
  | nil => exact .refl s
  | cons o l ih => exact (finish_onlyCpu _ _).trans ih

theorem abortAll_onlyCpu : OnlyCpu s (s.abortAll c src) := abortList_onlyCpu _

/-- Aborting the one unfinished order of a queue completes it. -/
theorem abortAll_one (hs : src ≤ 32) (hq : s.queueOf c src = pre ++ o :: post) (hown : OwnIssue pre post o)
    (hfin : o.finished = false) (hothers : ∀ p ∈ pre ++ post, p.finished = true) :
    EndsFrom s (s.abortAll c src) c src pre post o (noResult 0x04 (if o.running then 0 else 0x07) 0) := by
  have hnone : ∀ l : List Order, (∀ p ∈ l, p.finished = true) → l.filter (fun o => !o.finished) = [] := fun l hl => by
    rw [List.filter_eq_nil_iff]
    intro p hp
    rw [hl p hp]
    decide
  have hone : (pre ++ o :: post).filter (fun o => !o.finished) = [o] := by
    rw [List.filter_append, hnone pre fun p hp => hothers p (List.mem_append_left _ hp), List.filter_cons_of_pos (by simp [hfin]),
      hnone post fun p hp => hothers p (List.mem_append_right _ hp), List.nil_append]
  rw [abortAll_eq, hq, hone]
  exact finish_endsFrom rfl rfl hs hq hown _

/-! ### The fence of an engine (R191, R192) -/

/-- The fence of an engine marked in the registers and told. -/
def State.engineMarked (s : State) (c e cause tag : Nat) : State :=
  ((s.setBit F.ENG_FENCE_MASK e (c / 64) (c % 64)).engErr c e (fenceKind cause)).note 0x2203 (c * 32 + e) cause tag

theorem fenceEngine_live {e : Nat} (hp : s.engPresent c e = true) (hf : s.engFenced c e = false) (cause tag : Nat) :
    s.fenceEngine c e cause tag = ((s.engineMarked c e cause tag).abortAll c e).degradeAdd 1 0 (c * 32 + e) 0x2203 := by
  simp only [State.fenceEngine, hp, hf, Bool.not_true, Bool.or_self, Bool.false_eq_true, if_false, State.engineMarked]

theorem engineMarked_keeps (e cause tag : Nat) : KeepsWork s (s.engineMarked c e cause tag) := by
  constructor <;> simp [State.engineMarked]

theorem keepsWork_degradeAdd (s : State) (k d n code : Nat) : KeepsWork s (s.degradeAdd k d n code) :=
  ⟨degradeAdd_cpu .., degradeAdd_mem ..⟩

/-- Telling of a retirement leaves every register below the hub's, whether the log has room or not. -/
theorem rd_degradeAdd_below (s : State) (k d n code : Nat) {f : Field} {i x : Nat}
    (hk : regKey f.key i x < F.GLB_STATE_RESTART_NEEDED.key) : (s.degradeAdd k d n code).rd f i x = s.rd f i x := by
  by_cases h : s.nor.degrade.length < 1024
  · exact rd_degradeAdd h k d n code hk
  · have hfull : s.degradeAdd k d n code = s.needRestart.note 0x0042 k n := if_pos (Nat.not_lt.mp h)
    rw [hfull, rd_note _ _ _ _ (hk.trans (by decide)).le]
    exact rd_st_ne s F.GLB_STATE_RESTART_NEEDED f 1 0 0 i x hk.ne

/-- Telling of an engine's fault changes ENG_LAST_ERR alone. -/
theorem rd_engErr (e kind : Nat) {f : Field} {i x : Nat} (h : regKey f.key i x ≠ regKey F.ENG_LAST_ERR_ENGINE.key (c / 64) 0) :
    (s.engErr c e kind).rd f i x = s.rd f i x :=
  (rd_st_ne _ F.ENG_LAST_ERR_KIND f _ _ _ _ _ h).trans (rd_st_ne _ F.ENG_LAST_ERR_ENGINE f _ _ _ _ _ h)

/-- The fence bit of an engine is set, every other bit of the mask kept. -/
theorem rd_engineMarked (hc : c < 256) {e : Nat} (he : e < 32) (hf : s.engFenced c e = false) (cause tag : Nat) :
    (s.engineMarked c e cause tag).rd F.ENG_FENCE_MASK (c / 64) (c % 64) =
      s.rd F.ENG_FENCE_MASK (c / 64) (c % 64) + 2 ^ e := by
  have hkey : regKey F.ENG_FENCE_MASK.key (c / 64) (c % 64) ≤ F.GLB_DEGRADE_LOG.key := by
    simp only [regKey, F.ENG_FENCE_MASK, F.GLB_DEGRADE_LOG]; omega
  have hne : regKey F.ENG_FENCE_MASK.key (c / 64) (c % 64) ≠ regKey F.ENG_LAST_ERR_ENGINE.key (c / 64) 0 := by
    simp only [regKey, F.ENG_FENCE_MASK, F.ENG_LAST_ERR_ENGINE]; omega
  rw [State.engineMarked, rd_note _ _ _ _ hkey, rd_engErr _ _ hne, rd_setBit_of_clear (by decide) hf (by exact he)]

/-- The engine's fence bit after its fence. -/
theorem rd_fenceEngine (hc : c < 256) {e : Nat} (he : e < 32) (hp : s.engPresent c e = true) (hf : s.engFenced c e = false)
    (cause tag : Nat) : (s.fenceEngine c e cause tag).rd F.ENG_FENCE_MASK (c / 64) (c % 64) =
      s.rd F.ENG_FENCE_MASK (c / 64) (c % 64) + 2 ^ e := by
  have hkey : regKey F.ENG_FENCE_MASK.key (c / 64) (c % 64) < F.GLB_STATE_RESTART_NEEDED.key := by
    simp only [regKey, F.ENG_FENCE_MASK, F.GLB_STATE_RESTART_NEEDED]; omega
  rw [fenceEngine_live hp hf, rd_degradeAdd_below _ _ _ _ _ hkey, rd_of_regs abortAll_onlyCpu.regs, rd_engineMarked hc he hf]

theorem engFenced_fenceEngine (hc : c < 256) {e : Nat} (he : e < 32) (hp : s.engPresent c e = true)
    (hf : s.engFenced c e = false) (cause tag : Nat) : (s.fenceEngine c e cause tag).engFenced c e = true := by
  rw [State.engFenced, rd_fenceEngine hc he hp hf]
  exact bit_add_two_pow hf

/-- The fence of an engine aborts its one unfinished order and changes no store. -/
theorem fenceEngine_one {e : Nat} (he : e < 32) (hp : s.engPresent c e = true) (hf : s.engFenced c e = false) (cause tag : Nat)
    (hq : s.queueOf c e = pre ++ o :: post) (hown : OwnIssue pre post o) (hfin : o.finished = false)
    (hothers : ∀ p ∈ pre ++ post, p.finished = true) :
    EndsFrom s (s.fenceEngine c e cause tag) c e pre post o (noResult 0x04 (if o.running then 0 else 0x07) 0) := by
  have hmark := engineMarked_keeps (s := s) (c := c) e cause tag
  have hcpu := hmark.cpu
  have hq' : (s.engineMarked c e cause tag).queueOf c e = pre ++ o :: post :=
    (queueOf_of_cpu (by rw [hcpu]) (by rw [hcpu]) c e).trans hq
  rw [fenceEngine_live hp hf]
  obtain ⟨hmem, hother, hstats, hqueue⟩ := (abortAll_one he.le hq' hown hfin hothers).of_work (keepsWork_degradeAdd _ 1 0 (c * 32 + e)
    0x2203)
  refine ⟨hmem.trans hmark.mem, fun d x hd hx hne => ?_, ?_, hqueue⟩
  · exact (hother d x hd hx hne).trans (queueOf_of_cpu (by rw [hcpu]) (by rw [hcpu]) d x)
  · rw [hstats, core_of_cpu hcpu]

/-! ### The statement -/

section

variable {eng : Fin 8192}

theorem queueOf_engine (eng : Fin 8192) : s.queueOf (eng / 32) (eng % 32) = (s.engine eng).queue := by
  rw [State.queueOf, if_neg (by omega), Nat.div_add_mod']

theorem exec_arrayOrderComplete (hrun : s.running = true)
    (h : IsRunning s (eng / 32) (eng % 32) (fun x => !x.isTail) pre post o) (residue : Bool) :
    exec (.arrayOrderComplete eng residue) s = .next (if residue then s.fenceEngine (eng / 32) (eng % 32) 1 (o.tag (eng % 32))
      else s.deliver (eng / 32) (eng % 32) o) := by
  change Host.Outcome.next (s.working _) = _
  rw [working_running hrun, ← queueOf_engine, h.runningOf_eq]

theorem exec_arrayOrderComplete_delivers (hrun : s.running = true)
    (h : IsRunning s (eng / 32) (eng % 32) (fun x => !x.isTail) pre post o) :
    exec (.arrayOrderComplete eng false) s = .next (s.deliver (eng / 32) (eng % 32) o) := by
  rw [exec_arrayOrderComplete hrun h, if_neg Bool.false_ne_true]

theorem exec_arrayOrderComplete_residue (hrun : s.running = true)
    (h : IsRunning s (eng / 32) (eng % 32) (fun x => !x.isTail) pre post o) :
    exec (.arrayOrderComplete eng true) s = .next (s.fenceEngine (eng / 32) (eng % 32) 1 (o.tag (eng % 32))) := by
  rw [exec_arrayOrderComplete hrun h, if_pos rfl]

theorem exec_tailOrderComplete (hrun : s.running = true) (h : IsRunning s (eng / 32) (eng % 32) Order.isTail pre post o) :
    exec (.tailOrderComplete eng) s = .next (s.deliver (eng / 32) (eng % 32) o) := by
  change Host.Outcome.next (s.working _) = _
  rw [working_running hrun, ← queueOf_engine, h.runningOf_eq]

theorem exec_loaderTransferComplete (hrun : s.running = true) {core : Fin 256}
    (h : IsRunning s core 32 (fun _ => true) pre post o) : exec (.loaderTransferComplete core) s =
      .next (if o.ldF.out && s.ldWaits core o.ldF then s else s.deliver core 32 o) := by
  have hrunning : runningOf (fun _ => true) (s.loader core) = some o := h.runningOf_eq
  change Host.Outcome.next (s.working _) = _
  rw [working_running hrun, hrunning]

/-- Without a running order a completion changes nothing. -/
theorem exec_complete_none (hrun : s.running = true) (h : ∀ x ∈ (s.engine eng).queue, x.running = false) :
    exec (.arrayOrderComplete eng false) s = .next s ∧ exec (.tailOrderComplete eng) s = .next s := by
  constructor
  all_goals
    change Host.Outcome.next (s.working _) = _
    rw [working_running hrun, runningOf_eq_none h]

theorem exec_loaderTransferComplete_none (hrun : s.running = true) {core : Fin 256}
    (h : ∀ x ∈ s.loader core, x.running = false) : exec (.loaderTransferComplete core) s = .next s := by
  change Host.Outcome.next (s.working _) = _
  rw [working_running hrun, runningOf_eq_none h]

end

/-- Settles O35: the running order is found; it delivers on a whole engine and aborts on a poisoned or a mismatching one. -/
theorem ordersDeliverWhenTheyComplete : Obligations.OrdersDeliverWhenTheyComplete := by
  unfold Obligations.OrdersDeliverWhenTheyComplete
  intro s eng pre post o r hrun hres c e n old late st delivers aborts whole
  have heng : c * 32 + e = eng.val := Nat.div_add_mod' eng.val 32
  have he : e < 32 := Nat.mod_lt _ (by decide)
  have hc : c < 256 := by have := eng.isLt; omega
  have hqe : s.queueOf c e = (s.engine eng).queue := queueOf_engine eng
  have hlate : s.runLate (s.coreQueue c) = true ↔ late := runLate_iff _
  have hdel : ∀ {src t}, DeliversTo s t c src pre post o (s.endResult c o) → delivers t src := fun {src t} h => by
    refine ⟨h.queues, fun hst => ?_, fun hst hl h2 => ?_, fun hst hl => ?_, h.mem, ?_, fun d m hdm => ?_, h.regs, h.dbk⟩
    · rw [← endResult_memory hres hst]
      exact h.done
    · rw [← endResult_late hres hst (hlate.mpr hl) h2]
      exact h.done
    · have := h.done
      rwa [endResult_same hres hst (hl.imp_left fun hl => by rwa [← Bool.not_eq_true, hlate])] at this
    · rw [h.csr, if_pos rfl, BitVec.toNat_ofNat, Nat.mod_eq_of_lt (mergedCapture_lt _ _)]
      rfl
    · rw [h.csr, if_neg hdm]
  have hab : ∀ {src t}, EndsFrom s t c src pre post o (noResult 0x04 0 0) → aborts t src :=
    fun ⟨hmem, hother, hdone⟩ => ⟨hother, hmem, hdone⟩
  have hends : ∀ {kind}, IsRunning s c e kind pre post o →
      (whole → delivers (s.deliver c e o) e) ∧ (¬ whole → aborts (s.deliver c e o) e) := fun {kind} h => by
    have hown := h.own
    obtain ⟨hq, -⟩ := h
    exact ⟨fun hw => hdel (deliver_delivers (.inr (by rw [heng]; exact hw)) he.le hq hown),
      fun hw => hab (deliver_poisoned (by rw [heng]; simpa [whole] using hw) he hq hown)⟩
  refine ⟨fun h => ⟨⟨s.deliver c e o, exec_arrayOrderComplete_delivers hrun h, hends h⟩, fun hp hf hfin hothers =>
    ⟨s.fenceEngine c e 1 (o.tag e), exec_arrayOrderComplete_residue hrun h, engFenced_fenceEngine hc he hp hf _ _, ?_⟩⟩,
    fun h => ⟨s.deliver c e o, exec_tailOrderComplete hrun h, hends h⟩, fun core hcore h => ?_,
    fun hnone => exec_complete_none hrun fun x hx => hnone x (by rwa [hqe]),
    fun core hnone => exec_loaderTransferComplete_none hrun hnone⟩
  · have hown := h.own
    obtain ⟨hq, -, hr, -⟩ := h
    have := fenceEngine_one he hp hf 1 (o.tag e) hq hown hfin hothers
    rw [if_pos hr] at this
    exact hab this
  · rw [← hcore] at h
    have hload := exec_loaderTransferComplete hrun h
    have hown := h.own
    obtain ⟨hq, -⟩ := h
    intro waits
    refine ⟨_, hload, fun hw => ?_, fun hw => if_pos (by rw [hcore]; exact hw)⟩
    rw [if_neg (by rw [hcore]; simpa [waits] using hw), hcore]
    exact hdel (deliver_delivers (.inl rfl) (by decide) (hcore ▸ hq) hown)

end Sys2Proof.Machine

/-! Faults that retire engines, cores and clusters (05_engines_and_sequencers.md R191, R192, R197,
12_start_firmware_accounts.md R427): what a fence marks, aborts and asks for, and what it leaves to other cores. -/

namespace Sys2Proof.Machine

variable {s t u : State} {c d src : Nat}

/-! ### Bits of a mask field -/

/-- Setting a clear bit changes no other bit. -/
theorem bit_add_two_pow_ne {v i j : Nat} (h : bit v i = false) (hij : j ≠ i) : bit (v + 2 ^ i) j = bit v j := by
  obtain hlt | hgt := Nat.lt_or_gt_of_ne hij
  · rw [bit_eq_testBit, bit_eq_testBit, Nat.add_comm, Nat.testBit_two_pow_add_gt hlt]
  · obtain ⟨k, rfl⟩ := Nat.exists_eq_add_of_lt hgt
    have hpow : 2 ^ (i + k + 1) = 2 ^ i * 2 * 2 ^ k := by ring
    have hdiv : (v + 2 ^ i) / 2 ^ i / 2 = v / 2 ^ i / 2 := by
      simp only [bit, decide_eq_false_iff_not] at h
      rw [Nat.add_div_right _ (Nat.two_pow_pos i)]
      omega
    simp only [bit, hpow, ← Nat.div_div_eq_div_mul, hdiv]

/-- Clearing a bit. -/
theorem bit_sub_two_pow {v i : Nat} (h : bit v i = true) : bit (v - 2 ^ i) i = false := by
  have hsub := Nat.sub_mul_div v (2 ^ i) 1
  rw [Nat.mul_one] at hsub
  simp only [bit, decide_eq_true_eq, decide_eq_false_iff_not, hsub] at h ⊢
  omega

theorem bit_clearBit {f : Field} (hf : f.ok = true) (b i x : Nat) : bit ((s.clearBit f b i x).rd f i x) b = false := by
  by_cases hb : bit (s.rd f i x) b = true
  · rw [State.clearBit, if_pos hb, rd_st_same _ _ _ _ _ hf, Nat.mod_eq_of_lt ((Nat.sub_le _ _).trans_lt (rd_lt s f i x))]
    exact bit_sub_two_pow hb
  · rw [State.clearBit, if_neg hb]
    exact eq_false_of_ne_true hb

theorem regsBut_clearBit (f : Field) (b i x : Nat) {l : List Nat} (hk : regKey f.key i x ∈ l) :
    RegsBut s (s.clearBit f b i x) l := by
  simp only [State.clearBit]
  split
  · exact regsBut_st _ _ _ _ _ hk
  · exact RegsBut.refl _ _

/-! ### What aborting the orders of a source leaves (R192) -/

/-- The orders of a queue have all completed. -/
def AllFinished (q : List Order) : Prop := ∀ x ∈ q, x.finished = true

/-- An order left in a queue after the completion of an issue number is of that number and finished, or stood there before. -/
theorem mem_finishIn {q : List Order} {n : Nat} {r : Result} {x : Order} (h : x ∈ finishIn src q n r) :
    x.finished = true ∨ (x ∈ q ∧ x.issue ≠ n) := by
  obtain ⟨hx, -⟩ := List.mem_filter.mp h
  obtain ⟨y, hy, rfl⟩ := List.mem_map.mp hx
  split
  · exact .inl rfl
  · exact .inr ⟨hy, by assumption⟩

theorem allFinished_abortList (hs : src ≤ 32) (l : List Order)
    (h : ∀ x ∈ s.queueOf c src, x.finished = true ∨ ∃ o ∈ l, o.issue = x.issue) :
    AllFinished ((s.abortList c src l).queueOf c src) := by
  induction l generalizing s with
  | nil => exact fun x hx => (h x hx).resolve_right (by simp)
  | cons o l ih =>
    refine ih fun x hx => ?_
    rw [queueOf_finish hs _ _ hs, if_pos ⟨rfl, rfl⟩] at hx
    obtain hfin | ⟨hold, hne⟩ := mem_finishIn hx
    · exact .inl hfin
    · refine (h x hold).imp_right fun ⟨p, hp, hissue⟩ => ⟨p, ?_, hissue⟩
      exact (List.mem_cons.mp hp).resolve_left fun e => hne (by rw [← hissue, e])

/-- Every order of the source has completed. -/
theorem allFinished_abortAll (hs : src ≤ 32) : AllFinished ((s.abortAll c src).queueOf c src) := by
  rw [abortAll_eq]
  refine allFinished_abortList hs _ fun x hx => ?_
  by_cases hfin : x.finished = true
  · exact .inl hfin
  · exact .inr ⟨x, List.mem_filter.mpr ⟨hx, by simpa using hfin⟩, rfl⟩

theorem queueOf_abortList_ne (hs : src ≤ 32) (l : List Order) {x : Nat} (hx : x ≤ 32) (hne : ¬ (d = c ∧ x = src)) :
    (s.abortList c src l).queueOf d x = s.queueOf d x := by
  induction l generalizing s with
  | nil => rfl
  | cons o l ih => exact ih.trans ((queueOf_finish hs _ _ hx).trans (if_neg hne))

theorem queueOf_abortAll_ne (hs : src ≤ 32) {x : Nat} (hx : x ≤ 32) (hne : ¬ (d = c ∧ x = src)) :
    (s.abortAll c src).queueOf d x = s.queueOf d x := queueOf_abortList_ne hs _ hx hne

/-- A core as it is but for the statuses of its batch. -/
def SameButStats (s t : State) (c : Nat) : Prop := t.core c = { s.core c with stats := (t.core c).stats }

theorem SameButStats.trans (h : SameButStats s t c) (h' : SameButStats t u c) : SameButStats s u c := by
  unfold SameButStats at *
  rw [h', h]

theorem sameButStats_of_core (h : t.core c = s.core c) : SameButStats s t c := by rw [SameButStats, h]

theorem finish_sameButStats (n : Nat) (r : Result) : SameButStats s (s.finish c src n r) c := by
  have hadd : ∀ u : State, SameButStats u (u.addStat c src r.status) c := fun u => by
    rw [SameButStats, State.addStat, core_setCore_same]
  unfold State.finish
  dsimp only
  refine (sameButStats_of_core ?_).trans (hadd _)
  split <;> rfl

theorem abortAll_sameButStats : SameButStats s (s.abortAll c src) c := by
  have : ∀ l : List Order, SameButStats s (s.abortList c src l) c := fun l => by
    induction l generalizing s with
    | nil => exact sameButStats_of_core rfl
    | cons o l ih => exact (finish_sameButStats _ _).trans ih
  exact this _

/-! ### What the telling of a retirement leaves -/

theorem regsBut_degradeAdd (k n m code : Nat) : RegsBut s (s.degradeAdd k n m code)
    (regKey F.GLB_STATE_RESTART_NEEDED.key 0 0 :: regKey F.GLB_DEGRADE_LOG.key 0 0 :: dbkKeys) := by
  have hneed : RegsBut s s.needRestart (regKey F.GLB_STATE_RESTART_NEEDED.key 0 0 :: regKey F.GLB_DEGRADE_LOG.key 0 0 :: dbkKeys) :=
    regsBut_st s F.GLB_STATE_RESTART_NEEDED 1 0 0 (by simp)
  have hnote : ∀ (v : State) (a p q r : Nat), RegsBut v (v.note a p q r)
      (regKey F.GLB_STATE_RESTART_NEEDED.key 0 0 :: regKey F.GLB_DEGRADE_LOG.key 0 0 :: dbkKeys) := fun v a p q r =>
    (note_regs a p q r).mono fun k hk => List.mem_cons_of_mem _ (List.mem_cons_of_mem _ hk)
  by_cases h : s.nor.degrade.length < 1024
  · rw [degradeAdd_of_room h]
    refine (hneed.step (RegsBut.step (RegsBut.of_regs rfl) ?_)).step (hnote _ _ _ _ _)
    exact regsBut_inc _ F.GLB_DEGRADE_LOG 1 0 0 (by simp)
  · have hfull : s.degradeAdd k n m code = s.needRestart.note 0x0042 k m := if_pos (Nat.not_lt.mp h)
    rw [hfull]
    exact hneed.step (hnote _ _ _ _ _)

/-- A retirement asks for a restart, whether the log has room or not (R45). -/
theorem restartNeeded_degradeAdd (k n m code : Nat) : (s.degradeAdd k n m code).rd F.GLB_STATE_RESTART_NEEDED = 1 := by
  by_cases h : s.nor.degrade.length < 1024
  · exact rd_degradeAdd_restartNeeded h k n m code
  · have hfull : s.degradeAdd k n m code = s.needRestart.note 0x0042 k m := if_pos (Nat.not_lt.mp h)
    rw [hfull, rd_note _ _ _ _ (by decide)]
    exact rd_st_same s F.GLB_STATE_RESTART_NEEDED 1 0 0 rfl

end Sys2Proof.Machine

/-! The fence of an engine and of a core (05_engines_and_sequencers.md R191, R192), each as one rule. -/

namespace Sys2Proof.Machine

variable {s t u : State} {c d e : Nat}

/-! ### Registers that a fence changes -/

/-- Register elements in which a retirement is told: the restart report, the degrade counter and the recorder's. -/
def tellKeys : List Nat :=
  regKey F.GLB_STATE_RESTART_NEEDED.key 0 0 :: regKey F.GLB_DEGRADE_LOG.key 0 0 :: dbkKeys

/-- Register elements that the fence of a core and of its engines may change. -/
def fenceKeys (c : Nat) : List Nat :=
  [regKey F.ENG_FENCE_MASK.key (c / 64) (c % 64), regKey F.ENG_LAST_ERR_ENGINE.key (c / 64) 0,
    regKey F.SEQ_LAST_ERR_CORE.key (c / 64) 0, regKey F.SEQ_LAST_PC_PC.key (c / 64) 0,
    regKey F.SEQ_FENCE_MASK.key (c / 64) 0, seqKey c] ++ tellKeys

theorem tellKeys_range : ∀ k ∈ tellKeys, F.GLB_STATE_RESTART_NEEDED.key ≤ k ∧ k < F.MSH_STATUS_STOPS.key := by decide

theorem mem_fenceKeys_of_tell {k : Nat} (h : k ∈ tellKeys) : k ∈ fenceKeys c := List.mem_append_right _ h

theorem mem_fenceKeys_of_dbk {k : Nat} (h : k ∈ dbkKeys) : k ∈ fenceKeys c :=
  mem_fenceKeys_of_tell (List.mem_cons_of_mem _ (List.mem_cons_of_mem _ h))

/-- The places of these elements. -/
theorem fenceKeys_places {k : Nat} (h : k ∈ fenceKeys c) : k = 20480 + c / 64 * 128 + c % 64 ∨ k = 19456 + c / 64 * 128 ∨
    k = 25600 + c / 64 * 128 ∨ k = 26624 + c / 64 * 128 ∨ k = 27648 + c / 64 * 128 ∨ k = 30720 + c / 64 * 128 + c % 64 ∨
    (103424 ≤ k ∧ k < 167936) := by
  obtain h | h := List.mem_append.mp h
  · simp only [List.mem_cons, List.not_mem_nil, or_false, regKey, seqKey, F.ENG_FENCE_MASK, F.ENG_LAST_ERR_ENGINE,
      F.SEQ_LAST_ERR_CORE, F.SEQ_LAST_PC_PC, F.SEQ_FENCE_MASK, F.SEQ_STATE_STATE] at h
    omega
  · have := tellKeys_range k h
    simp only [F.GLB_STATE_RESTART_NEEDED, F.MSH_STATUS_STOPS] at this
    omega

/-- The masks of present cores and engines lie outside. -/
theorem corePresent_of_regsBut (h : RegsBut s t (fenceKeys c)) (hc : c < 256) (hd : d < 256) : t.corePresent d = s.corePresent d := by
  rw [State.corePresent, h.rd, State.corePresent]
  intro hk
  have := fenceKeys_places hk
  simp only [regKey, F.SEQ_PRESENT_MASK] at this
  omega

theorem engPresent_of_regsBut (h : RegsBut s t (fenceKeys c)) (hc : c < 256) (hd : d < 256) (e : Nat) :
    t.engPresent d e = s.engPresent d e := by
  rw [State.engPresent, h.rd, State.engPresent]
  intro hk
  have := fenceKeys_places hk
  simp only [regKey, F.ENG_PRESENT_MASK] at this
  omega

/-! ### The fence of an engine -/

/-- An engine left service: its fence bit is set, its orders have completed, its retirement is logged. -/
def EngineRetired (s t : State) (c e : Nat) : Prop :=
  t.rd F.ENG_FENCE_MASK (c / 64) (c % 64) = s.rd F.ENG_FENCE_MASK (c / 64) (c % 64) + 2 ^ e ∧ t.mem = s.mem ∧
    AllFinished (t.queueOf c e) ∧ OtherQueues s t c e ∧ t.rd F.GLB_STATE_RESTART_NEEDED = 1 ∧
    ∃ d, t.nor.degrade = s.nor.degrade ++ [d] ∧ d.kind = 1 ∧ d.unit = c * 32 + e ∧ d.code = 0x2203

theorem engineMarked_nor (cause tag : Nat) : (s.engineMarked c e cause tag).nor = s.nor := by simp [State.engineMarked]

theorem fenceEngine_retires (hc : c < 256) (he : e < 32) (hp : s.engPresent c e = true) (hf : s.engFenced c e = false)
    (hroom : s.nor.degrade.length < 1024) (cause tag : Nat) : EngineRetired s (s.fenceEngine c e cause tag) c e := by
  have hmark := engineMarked_keeps (s := s) (c := c) e cause tag
  have hmarkq : ∀ d x, (s.engineMarked c e cause tag).queueOf d x = s.queueOf d x :=
    queueOf_of_cpu (congrArg _ hmark.cpu) (congrArg _ hmark.cpu)
  have hnor : ((s.engineMarked c e cause tag).abortAll c e).nor = s.nor :=
    abortAll_onlyCpu.nor.trans (engineMarked_nor cause tag)
  have htold := keepsWork_degradeAdd ((s.engineMarked c e cause tag).abortAll c e) 1 0 (c * 32 + e) 0x2203
  have htoldq := queueOf_of_cpu (congrArg Compute.engines htold.cpu) (congrArg Compute.loaders htold.cpu)
  refine ⟨rd_fenceEngine hc he hp hf cause tag, ?_⟩
  rw [fenceEngine_live hp hf]
  refine ⟨htold.mem.trans (abortAll_onlyCpu.mem.trans hmark.mem), ?_, fun d x hd hx hne => ?_, restartNeeded_degradeAdd .., ?_⟩
  · rw [htoldq]
    exact allFinished_abortAll he.le
  · rw [htoldq, queueOf_abortAll_ne he.le hx (by rintro ⟨rfl, rfl⟩; exact hne rfl), hmarkq]
  · refine ⟨((s.engineMarked c e cause tag).abortAll c e).degradeEntry 1 0 (c * 32 + e) 0x2203, ?_, rfl, rfl, rfl⟩
    rw [degradeAdd_nor (by rw [hnor]; exact hroom)]
    simp only [State.logDegrade, hnor]

theorem engine_live_or_idle (s : State) (c e : Nat) : (s.engPresent c e = true ∧ s.engFenced c e = false) ∨
    s.engPresent c e = false ∨ s.engFenced c e = true := by
  cases s.engPresent c e <;> cases s.engFenced c e <;> decide

theorem fenceEngine_idle (h : s.engPresent c e = false ∨ s.engFenced c e = true) (cause tag : Nat) :
    s.fenceEngine c e cause tag = s :=
  if_pos (by rcases h with h | h <;> simp [h])

/-- Register elements that the fence of an engine may change. -/
def engineKeys (c : Nat) : List Nat :=
  regKey F.ENG_FENCE_MASK.key (c / 64) (c % 64) :: regKey F.ENG_LAST_ERR_ENGINE.key (c / 64) 0 :: tellKeys

theorem regsBut_fenceEngine (cause tag : Nat) : RegsBut s (s.fenceEngine c e cause tag) (engineKeys c) := by
  have hin : ∀ k ∈ tellKeys, k ∈ engineKeys c := fun _ h => List.mem_cons_of_mem _ (List.mem_cons_of_mem _ h)
  obtain ⟨hp, hf⟩ | hidle := engine_live_or_idle s c e
  · rw [fenceEngine_live hp hf]
    have hset : RegsBut s (s.setBit F.ENG_FENCE_MASK e (c / 64) (c % 64)) (engineKeys c) :=
      regsBut_setBit _ _ _ _ _ (by simp [engineKeys])
    have herr : ∀ (u : State) (k : Nat), RegsBut u (u.engErr c e k) (engineKeys c) := fun u k =>
      (regsBut_st _ F.ENG_LAST_ERR_ENGINE _ _ _ (by simp [engineKeys])).step
        (regsBut_st _ F.ENG_LAST_ERR_KIND _ _ _ (by simp [engineKeys, F.ENG_LAST_ERR_KIND, F.ENG_LAST_ERR_ENGINE]))
    have hnote := note_regs (s := (s.setBit F.ENG_FENCE_MASK e (c / 64) (c % 64)).engErr c e (fenceKind cause)) 0x2203
      (c * 32 + e) cause tag
    exact ((hset.step (herr _ _)).step (hnote.mono fun k h => hin k (List.mem_cons_of_mem _ (List.mem_cons_of_mem _ h)))).step
      ((RegsBut.of_regs abortAll_onlyCpu.regs).step ((regsBut_degradeAdd _ _ _ _).mono hin))
  · rw [fenceEngine_idle hidle]
    exact RegsBut.refl _ _

/-- The fence of an engine leaves the masks of cores. -/
theorem fenceEngine_cores (hc : c < 256) (hd : d < 256) (cause tag : Nat) :
    (s.fenceEngine c e cause tag).corePresent d = s.corePresent d ∧
      (s.fenceEngine c e cause tag).coreFenced d = s.coreFenced d := by
  have hout : ∀ k, k < F.GLB_STATE_RESTART_NEEDED.key → k ≠ regKey F.ENG_FENCE_MASK.key (c / 64) (c % 64) →
      k ≠ regKey F.ENG_LAST_ERR_ENGINE.key (c / 64) 0 → k ∉ engineKeys c := fun k hk hmask herr h =>
    (List.mem_cons.mp h).elim hmask fun h => (List.mem_cons.mp h).elim herr fun h =>
      absurd (tellKeys_range k h).1 (Nat.not_le.mpr hk)
  have hr := regsBut_fenceEngine (s := s) (c := c) (e := e) cause tag
  constructor
  · rw [State.corePresent, hr.rd, State.corePresent]
    apply hout <;> simp only [regKey, F.SEQ_PRESENT_MASK, F.GLB_STATE_RESTART_NEEDED, F.ENG_FENCE_MASK, F.ENG_LAST_ERR_ENGINE] <;>
      omega
  · rw [State.coreFenced, hr.rd, State.coreFenced]
    apply hout <;> simp only [regKey, F.SEQ_FENCE_MASK, F.GLB_STATE_RESTART_NEEDED, F.ENG_FENCE_MASK, F.ENG_LAST_ERR_ENGINE] <;>
      omega

theorem fenceEngine_bus (cause tag : Nat) : (s.fenceEngine c e cause tag).bus = s.bus := by
  have habort : ∀ u : State, (u.abortAll c e).bus = u.bus := fun u => by rw [abortAll_onlyCpu (s := u)]
  obtain ⟨hp, hf⟩ | hidle := engine_live_or_idle s c e
  · rw [fenceEngine_live hp hf, degradeAdd_bus, habort]
    simp [State.engineMarked]
  · rw [fenceEngine_idle hidle]

/-! ### The host cores of exchequer units -/

/-- Nothing happens to the exchequer units while none of their host cores is fenced (R412). -/
theorem fenceHosts_eq (h : ∀ u, u < 16 → s.corePresent (hostCore u) = true → s.coreFenced (hostCore u) = false) :
    s.fenceHosts = s := by
  have hstep : ∀ l : List Nat, (∀ u ∈ l, u < 16) → l.foldl (fun s u =>
      if s.corePresent (hostCore u) && s.coreFenced (hostCore u) then s.fenceUnit u 3 else s) s = s := fun l hl => by
    induction l with
    | nil => rfl
    | cons u l ih =>
      have hidle : (s.corePresent (hostCore u) && s.coreFenced (hostCore u)) = false := by
        cases hp : s.corePresent (hostCore u)
        · rfl
        · exact h u (hl u (List.mem_cons_self ..)) hp
      rw [List.foldl_cons, if_neg (by rw [hidle]; decide)]
      exact ih fun v hv => hl v (List.mem_cons_of_mem _ hv)
  exact hstep (List.range 16) fun u hu => List.mem_range.mp hu

theorem hostCore_lt {u : Nat} (hu : u < 16) : hostCore u < 256 := by
  rw [hostCore]
  omega

/-! ### The engines of a core, one after another -/

/-- One engine of a core on its way out of service. -/
def State.fenceOne (s : State) (c e : Nat) : State :=
  if s.engPresent c e && !s.engFenced c e then (s.setBit F.ENG_FENCE_MASK e (c / 64) (c % 64)).abortAll c e else s

/-- The first engines of a core on their way out of service. -/
def State.fenceBelow (s : State) (c n : Nat) : State := (List.range n).foldl (fun s e => s.fenceOne c e) s

theorem fenceBelow_succ (n : Nat) : s.fenceBelow c (n + 1) = (s.fenceBelow c n).fenceOne c n := by
  rw [State.fenceBelow, List.range_succ, List.foldl_append]
  rfl

theorem fenceCoreEngines_eq : s.fenceCoreEngines c = (s.fenceBelow c 32).abortAll c 32 := rfl

/-- What taking the engines below `n` of a core out of service does. -/
structure EnginesOff (s t : State) (c n : Nat) : Prop where
  mem : t.mem = s.mem
  regs : RegsBut s t [regKey F.ENG_FENCE_MASK.key (c / 64) (c % 64)]
  fenced : ∀ i, i < 32 → t.engFenced c i = (s.engFenced c i || decide (i < n) && s.engPresent c i)
  others : ∀ d x, x ≤ 32 → d ≠ c ∨ n ≤ x → t.queueOf d x = s.queueOf d x
  done : ∀ i, i < n → s.engPresent c i = true → s.engFenced c i = false → AllFinished (t.queueOf c i)
  core : SameButStats s t c

theorem EnginesOff.present {n : Nat} (h : EnginesOff s t c n) (i : Nat) : t.engPresent c i = s.engPresent c i := by
  rw [State.engPresent, h.regs.rd, State.engPresent]
  simp only [regKey, F.ENG_PRESENT_MASK, F.ENG_FENCE_MASK, List.mem_singleton]
  omega

theorem engFenced_setBit (he : e < 32) (hf : s.engFenced c e = false) (i : Nat) :
    (s.setBit F.ENG_FENCE_MASK e (c / 64) (c % 64)).engFenced c i = (s.engFenced c i || decide (i = e)) := by
  rw [State.engFenced, rd_setBit_of_clear (by decide) hf he]
  by_cases hi : i = e
  · subst hi
    rw [decide_eq_true rfl, Bool.or_true]
    exact bit_add_two_pow hf
  · rw [decide_eq_false hi, Bool.or_false]
    exact bit_add_two_pow_ne hf hi

/-- One more engine out of service. -/
theorem EnginesOff.fenceOne {n : Nat} (h : EnginesOff s t c n) (hn : n < 32) :
    EnginesOff s (t.fenceOne c n) c (n + 1) := by
  have hpres := h.present n
  have hfen := h.fenced n hn
  rw [decide_eq_false (Nat.lt_irrefl n), Bool.false_and, Bool.or_false] at hfen
  have hlt : ∀ i, decide (i < n + 1) = (decide (i < n) || decide (i = n)) := fun i => by
    rw [← Bool.decide_or, decide_eq_decide]
    omega
  by_cases hlive : s.engPresent c n = true ∧ s.engFenced c n = false
  · obtain ⟨hp, hf⟩ := hlive
    have ht : t.fenceOne c n = (t.setBit F.ENG_FENCE_MASK n (c / 64) (c % 64)).abortAll c n :=
      if_pos (by rw [hpres, hfen, hp, hf]; decide)
    have hcpu : (t.setBit F.ENG_FENCE_MASK n (c / 64) (c % 64)).cpu = t.cpu := setBit_cpu ..
    have hq : ∀ d x, (t.setBit F.ENG_FENCE_MASK n (c / 64) (c % 64)).queueOf d x = t.queueOf d x :=
      queueOf_of_cpu (congrArg _ hcpu) (congrArg _ hcpu)
    rw [ht]
    refine ⟨abortAll_onlyCpu.mem.trans ((setBit_mem ..).trans h.mem),
      h.regs.step ((regsBut_setBit t _ _ _ _ (List.mem_singleton_self _)).congr abortAll_onlyCpu.regs),
      fun i hi => ?_, fun d x hx hdx => ?_, fun i hi hpi hfi => ?_,
      h.core.trans ((sameButStats_of_core (core_of_cpu hcpu c)).trans abortAll_sameButStats)⟩
    · have hregs : ∀ u : State, (u.abortAll c n).engFenced c i = u.engFenced c i := fun u => by
        rw [State.engFenced, rd_of_regs abortAll_onlyCpu.regs, State.engFenced]
      rw [hregs, engFenced_setBit hn (hfen.trans hf), h.fenced i hi, hlt]
      by_cases hin : i = n
      · subst hin
        simp [hp]
      · simp [hin]
    · rw [queueOf_abortAll_ne hn.le hx (by omega), hq, h.others d x hx (by omega)]
    · by_cases hin : i = n
      · subst hin
        exact allFinished_abortAll hn.le
      · rw [queueOf_abortAll_ne hn.le (by omega) (by omega), hq]
        exact h.done i (by omega) hpi hfi
  · have ht : t.fenceOne c n = t := if_neg (by rw [hpres, hfen]; simpa using hlive)
    rw [ht]
    refine ⟨h.mem, h.regs, fun i hi => ?_, fun d x hx hdx => h.others d x hx (by omega), fun i hi hpi hfi => ?_, h.core⟩
    · rw [h.fenced i hi, hlt]
      by_cases hin : i = n
      · subst hin
        cases hp : s.engPresent c i
        · simp
        · simp [Bool.eq_true_of_not_eq_false fun hf => hlive ⟨hp, hf⟩]
      · simp [hin]
    · have hin : i ≠ n := by
        rintro rfl
        exact hlive ⟨hpi, hfi⟩
      exact h.done i (by omega) hpi hfi

theorem fenceBelow_off {n : Nat} (hn : n ≤ 32) : EnginesOff s (s.fenceBelow c n) c n := by
  induction n with
  | zero =>
    exact ⟨rfl, .refl _ _, fun i _ => by simp [State.fenceBelow], fun _ _ _ _ => rfl, fun i hi => absurd hi (Nat.not_lt_zero i),
      sameButStats_of_core rfl⟩
  | succ n ih =>
    rw [fenceBelow_succ]
    exact (ih (by omega)).fenceOne hn

end Sys2Proof.Machine

/-! The fence of a core and of a cluster (05_engines_and_sequencers.md R191, R192, 12_start_firmware_accounts.md R427). -/

namespace Sys2Proof.Machine

variable {s t u : State} {c d : Nat}

/-! ### The end of a fenced core's batch -/

/-- A batch stands on the core that its fence ends. -/
def State.fenceEnds (s : State) (c : Nat) : Bool :=
  s.seqState c == 1 || (s.seqState c == 2 && (s.core c).wait != .unit) || s.seqState c == 3

/-- The batch of a fenced core ended and its state set. -/
def State.endFenced (s : State) (c : Nat) : State := (if s.fenceEnds c then s.stopCore c 0x04 else s).setSeqState c 4

theorem fenceCore_live (hf : s.coreFenced c = false) (code : Nat) : s.fenceCore c code =
    (((s.fenceCoreEngines c).endFenced c).setBit F.SEQ_FENCE_MASK (c % 64) (c / 64) 0).degradeAdd 2 0 c code :=
  if_neg (by rw [hf]; decide)

theorem endFenced_mem : (s.endFenced c).mem = s.mem := by
  rw [State.endFenced]
  split <;> simp [State.setSeqState]

theorem endFenced_regs : RegsBut s (s.endFenced c) [seqKey c] := by
  have hstop : RegsBut s (s.stopCore c 0x04) [seqKey c] := by
    rw [stopCore_eq]
    exact (regs_setSeqState 3).congr_left rfl
  rw [State.endFenced]
  split
  · exact hstop.step (regs_setSeqState 4)
  · exact regs_setSeqState 4

theorem stopCore_queueOf (v x : Nat) : (s.stopCore c v).queueOf d x = s.queueOf d x := by
  have hset : ∀ v : Core, (s.setCore c v).queueOf d x = s.queueOf d x := fun _ => queueOf_of_cpu rfl rfl d x
  rw [stopCore_eq, ← hset]
  have hcpu := setSeqState_cpu (s.setCore c { s.core c with fault := some (firstStatus ((s.core c).fault.toList ++ [v])) }) c 3
  exact queueOf_of_cpu (congrArg _ hcpu) (congrArg _ hcpu) d x

theorem endFenced_queueOf (x : Nat) : (s.endFenced c).queueOf d x = s.queueOf d x := by
  have hset : ∀ u : State, (u.setSeqState c 4).queueOf d x = u.queueOf d x := fun u =>
    queueOf_of_cpu (congrArg _ (setSeqState_cpu u c 4)) (congrArg _ (setSeqState_cpu u c 4)) d x
  rw [State.endFenced, hset]
  split
  · exact stopCore_queueOf _ _
  · rfl

theorem endFenced_fault (h : s.fenceEnds c = true) :
    ((s.endFenced c).core c).fault = some (firstStatus ((s.core c).fault.toList ++ [0x04])) := by
  rw [State.endFenced, if_pos h, core_of_cpu (setSeqState_cpu _ _ _), stopCore_core]

/-! ### What the fence of a core does -/

/-- A core left service: its fence bit and state, its engines, its orders and transfers, the restart it asks for. -/
def CoreRetired (s t : State) (c : Nat) : Prop :=
  t.coreFenced c = true ∧ t.seqState c = 4 ∧
    (∀ e, e < 32 → s.engPresent c e = true → t.engFenced c e = true ∧
      (s.engFenced c e = false → AllFinished (t.queueOf c e))) ∧
    AllFinished (t.loader c) ∧ t.rd F.GLB_STATE_RESTART_NEEDED = 1

/-- The fence of one core: what it does to the core, and all that it changes. -/
structure CoreFence (s t : State) (c : Nat) : Prop where
  here : CoreRetired s t c
  mem : t.mem = s.mem
  regs : RegsBut s t (fenceKeys c)
  queues : ∀ d x, x ≤ 32 → d ≠ c → t.queueOf d x = s.queueOf d x
  mask : t.rd F.SEQ_FENCE_MASK (c / 64) = s.rd F.SEQ_FENCE_MASK (c / 64) + 2 ^ (c % 64)

/-- The registers of a core's fence state. -/
theorem rd_fenceMask_of_seqKey (h : RegsBut s t [seqKey c]) :
    t.rd F.SEQ_FENCE_MASK (c / 64) = s.rd F.SEQ_FENCE_MASK (c / 64) :=
  h.rd _ _ _ (by simp only [regKey, seqKey, F.SEQ_FENCE_MASK, F.SEQ_STATE_STATE, List.mem_singleton]; omega)

theorem rd_fenceMask_of_engKey (h : RegsBut s t [regKey F.ENG_FENCE_MASK.key (c / 64) (c % 64)]) (hc : c < 256) :
    t.rd F.SEQ_FENCE_MASK (c / 64) = s.rd F.SEQ_FENCE_MASK (c / 64) :=
  h.rd _ _ _ (by simp only [regKey, F.SEQ_FENCE_MASK, F.ENG_FENCE_MASK, List.mem_singleton]; omega)

theorem fenceCoreEngines_off : EnginesOff s (s.fenceBelow c 32) c 32 := fenceBelow_off (Nat.le_refl _)

theorem fenceCoreEngines_regs :
    RegsBut s (s.fenceCoreEngines c) [regKey F.ENG_FENCE_MASK.key (c / 64) (c % 64)] := by
  rw [fenceCoreEngines_eq]
  exact fenceCoreEngines_off.regs.congr abortAll_onlyCpu.regs

theorem fenceCoreEngines_core : SameButStats s (s.fenceCoreEngines c) c := by
  rw [fenceCoreEngines_eq]
  exact fenceCoreEngines_off.core.trans abortAll_sameButStats

theorem fenceCoreEngines_queues {x : Nat} (hx : x ≤ 32) (hd : d ≠ c) :
    (s.fenceCoreEngines c).queueOf d x = s.queueOf d x := by
  rw [fenceCoreEngines_eq, queueOf_abortAll_ne (Nat.le_refl _) hx fun h => hd h.1]
  exact fenceCoreEngines_off.others d x hx (.inl hd)

theorem fenceCoreEngines_loader : AllFinished ((s.fenceCoreEngines c).queueOf c 32) := by
  rw [fenceCoreEngines_eq]
  exact allFinished_abortAll (Nat.le_refl _)

theorem fenceCoreEngines_engines {e : Nat} (he : e < 32) (hp : s.engPresent c e = true) :
    (s.fenceCoreEngines c).engFenced c e = true ∧
      (s.engFenced c e = false → AllFinished ((s.fenceCoreEngines c).queueOf c e)) := by
  have hoff := fenceCoreEngines_off (s := s) (c := c)
  rw [fenceCoreEngines_eq]
  refine ⟨?_, fun hf => ?_⟩
  · rw [State.engFenced, rd_of_regs abortAll_onlyCpu.regs, ← State.engFenced, hoff.fenced e he, decide_eq_true he, hp]
    exact Bool.or_true _
  · rw [queueOf_abortAll_ne (Nat.le_refl _) he.le (by omega)]
    exact hoff.done e he hp hf

theorem fenceCoreEngines_mem : (s.fenceCoreEngines c).mem = s.mem := by
  rw [fenceCoreEngines_eq]
  exact abortAll_onlyCpu.mem.trans fenceCoreEngines_off.mem

theorem loader_eq_queueOf : s.loader c = s.queueOf c 32 := rfl

/-- The fence of a core, its two halves put together. -/
theorem fenceCore_fences (hc : c < 256) (hf : s.coreFenced c = false) (code : Nat) : CoreFence s (s.fenceCore c code) c := by
  let v := (s.fenceCoreEngines c).endFenced c
  have hv : RegsBut (s.fenceCoreEngines c) v [seqKey c] := endFenced_regs
  have hmask : v.rd F.SEQ_FENCE_MASK (c / 64) = s.rd F.SEQ_FENCE_MASK (c / 64) :=
    (rd_fenceMask_of_seqKey hv).trans (rd_fenceMask_of_engKey fenceCoreEngines_regs hc)
  have hclear : bit (v.rd F.SEQ_FENCE_MASK (c / 64)) (c % 64) = false := by rw [hmask]; exact hf
  let w := v.setBit F.SEQ_FENCE_MASK (c % 64) (c / 64) 0
  have hw : RegsBut v w [regKey F.SEQ_FENCE_MASK.key (c / 64) 0] := regsBut_setBit _ _ _ _ _ (List.mem_singleton_self _)
  have hwmask : w.rd F.SEQ_FENCE_MASK (c / 64) = s.rd F.SEQ_FENCE_MASK (c / 64) + 2 ^ (c % 64) := by
    rw [← hmask]
    exact rd_setBit_of_clear (by decide) hclear (Nat.mod_lt _ (by decide))
  have ht : s.fenceCore c code = w.degradeAdd 2 0 c code := fenceCore_live hf code
  have htold : ∀ {f : Field} {i x : Nat}, regKey f.key i x < F.GLB_STATE_RESTART_NEEDED.key →
      (w.degradeAdd 2 0 c code).rd f i x = w.rd f i x := fun hk => rd_degradeAdd_below _ _ _ _ _ hk
  have hwcpu : w.cpu = v.cpu := setBit_cpu ..
  have htcpu : (w.degradeAdd 2 0 c code).cpu = v.cpu := (degradeAdd_cpu ..).trans hwcpu
  have hqueue : ∀ d x, (w.degradeAdd 2 0 c code).queueOf d x = (s.fenceCoreEngines c).queueOf d x := fun d x =>
    (queueOf_of_cpu (congrArg _ htcpu) (congrArg _ htcpu) d x).trans (endFenced_queueOf x)
  have hmaskT : (w.degradeAdd 2 0 c code).rd F.SEQ_FENCE_MASK (c / 64) = s.rd F.SEQ_FENCE_MASK (c / 64) + 2 ^ (c % 64) := by
    rw [htold (by simp only [regKey, F.SEQ_FENCE_MASK, F.GLB_STATE_RESTART_NEEDED]; omega), hwmask]
  rw [ht]
  refine ⟨⟨?_, ?_, fun e he hp => ?_, ?_, restartNeeded_degradeAdd ..⟩, ?_, ?_, fun d x hx hd => ?_, hmaskT⟩
  · rw [State.coreFenced, hmaskT]
    exact bit_add_two_pow hf
  · rw [State.seqState, htold (by simp only [regKey, F.SEQ_STATE_STATE, F.GLB_STATE_RESTART_NEEDED]; omega),
      hw.rd _ _ _ (by simp only [regKey, F.SEQ_STATE_STATE, F.SEQ_FENCE_MASK, List.mem_singleton]; omega)]
    exact seqState_st 4 (by decide)
  · obtain ⟨hfen, hfin⟩ := fenceCoreEngines_engines he hp
    refine ⟨?_, fun h => ?_⟩
    · rw [State.engFenced, htold (by simp only [regKey, F.ENG_FENCE_MASK, F.GLB_STATE_RESTART_NEEDED]; omega),
        hw.rd _ _ _ (by simp only [regKey, F.ENG_FENCE_MASK, F.SEQ_FENCE_MASK, List.mem_singleton]; omega),
        hv.rd _ _ _ (by simp only [regKey, seqKey, F.ENG_FENCE_MASK, F.SEQ_STATE_STATE, List.mem_singleton]; omega)]
      exact hfen
    · rw [hqueue]
      exact hfin h
  · rw [loader_eq_queueOf, hqueue]
    exact fenceCoreEngines_loader
  · exact (degradeAdd_mem ..).trans ((setBit_mem ..).trans (endFenced_mem.trans fenceCoreEngines_mem))
  · have hkey : ∀ {l : List Nat} {k : Nat}, (∀ j ∈ l, j ∈ fenceKeys c) → k ∈ l → k ∈ fenceKeys c := fun h hk => h _ hk
    have hone : ∀ {k : Nat}, k ∈ fenceKeys c → ∀ j ∈ [k], j ∈ fenceKeys c := fun h j hj => by
      rwa [List.mem_singleton.mp hj]
    exact (((fenceCoreEngines_regs.mono (hone (by simp [fenceKeys]))).step (hv.mono (hone (by simp [fenceKeys])))).step
      (hw.mono (hone (by simp [fenceKeys])))).step ((regsBut_degradeAdd _ _ _ _).mono fun _ => mem_fenceKeys_of_tell)
  · rw [hqueue, fenceCoreEngines_queues hx hd]

/-- The batch of a core that runs, or waits for no unit, ends ABORTED with its fence. -/
theorem fenceCore_fault (hf : s.coreFenced c = false) (hends : s.fenceEnds c = true) (code : Nat) :
    ((s.fenceCore c code).core c).fault = some (firstStatus ((s.core c).fault.toList ++ [0x04])) := by
  have hcore := fenceCoreEngines_core (s := s) (c := c)
  have hstate : (s.fenceCoreEngines c).seqState c = s.seqState c := fenceCoreEngines_regs.rd _ _ _
    (by simp only [regKey, F.ENG_FENCE_MASK, F.SEQ_STATE_STATE, List.mem_singleton]; omega)
  have hwait : ((s.fenceCoreEngines c).core c).wait = (s.core c).wait := by rw [hcore]
  have hfault : ((s.fenceCoreEngines c).core c).fault = (s.core c).fault := by rw [hcore]
  have hends' : (s.fenceCoreEngines c).fenceEnds c = true := by
    rw [State.fenceEnds, hstate, hwait]
    exact hends
  rw [fenceCore_live hf, core_of_cpu (degradeAdd_cpu ..), core_of_cpu (setBit_cpu ..), endFenced_fault hends', hfault]

end Sys2Proof.Machine

/-! The fence of a core as its neighbours see it, and the cores of a cluster fenced one after another
(05_engines_and_sequencers.md R192, 12_start_firmware_accounts.md R427). -/

namespace Sys2Proof.Machine

variable {s t u : State} {c d base n : Nat}

/-- Register elements in which a fault of a core is told before its fence. -/
def lastKeys (c : Nat) : List Nat :=
  regKey F.SEQ_LAST_ERR_CORE.key (c / 64) 0 :: regKey F.SEQ_LAST_PC_PC.key (c / 64) 0 :: dbkKeys

theorem regsBut_seqLast (kind : Nat) : RegsBut s (s.seqLast c kind) (lastKeys c) :=
  (regsBut_st s F.SEQ_LAST_ERR_CORE _ _ _ (by simp [lastKeys])).step
    (regsBut_st _ F.SEQ_LAST_ERR_KIND _ _ _ (by simp [lastKeys, F.SEQ_LAST_ERR_KIND, F.SEQ_LAST_ERR_CORE]))

theorem regsBut_seqErr (kind : Nat) : RegsBut s (s.seqErr c kind) (lastKeys c) :=
  (regsBut_seqLast kind).step (regsBut_st _ F.SEQ_LAST_PC_PC _ _ _ (by simp [lastKeys]))

theorem mem_fenceKeys_of_last {k : Nat} (h : k ∈ lastKeys c) : k ∈ fenceKeys c := by
  simp only [lastKeys, List.mem_cons] at h
  obtain rfl | rfl | h := h
  · simp [fenceKeys]
  · simp [fenceKeys]
  · exact mem_fenceKeys_of_dbk h

theorem lastKeys_places {k : Nat} (h : k ∈ lastKeys c) : k = 25600 + c / 64 * 128 ∨ k = 26624 + c / 64 * 128 ∨ 103424 ≤ k := by
  simp only [lastKeys, List.mem_cons, regKey, F.SEQ_LAST_ERR_CORE, F.SEQ_LAST_PC_PC] at h
  obtain h | h | h := h
  · exact .inl h
  · exact .inr (.inl h)
  · have := degrade_lt_dbkKeys k h
    simp only [F.GLB_DEGRADE_LOG] at this
    omega

/-- A core that was told of first is fenced as from the state before. -/
theorem CoreFence.of_told (h : CoreFence u t c) (hc : c < 256) (hw : KeepsWork s u) (hr : RegsBut s u (lastKeys c)) :
    CoreFence s t c := by
  have hregs : RegsBut s u (fenceKeys c) := hr.mono fun _ => mem_fenceKeys_of_last
  have hmask : u.rd F.SEQ_FENCE_MASK (c / 64) = s.rd F.SEQ_FENCE_MASK (c / 64) := hr.rd _ _ _ (by
    intro hk
    have := lastKeys_places hk
    simp only [regKey, F.SEQ_FENCE_MASK] at this
    omega)
  have heng : ∀ e, u.engFenced c e = s.engFenced c e := fun e => by
    rw [State.engFenced, hr.rd, State.engFenced]
    intro hk
    have := lastKeys_places hk
    simp only [regKey, F.ENG_FENCE_MASK] at this
    omega
  obtain ⟨⟨hfen, hstate, hengs, hload, hrestart⟩, hmem, hr', hq, hm⟩ := h
  refine ⟨⟨hfen, hstate, fun e he hp => ?_, hload, hrestart⟩, hmem.trans hw.mem, hregs.step hr', fun d x hx hd => ?_, hm.trans (by rw [hmask])⟩
  · rw [← heng]
    exact hengs e he ((engPresent_of_regsBut hregs hc hc e).trans hp)
  · rw [hq d x hx hd, queueOf_of_cpu (congrArg _ hw.cpu) (congrArg _ hw.cpu)]

/-- A core that stands as it stood: its fence bit, its engines' and its state, its orders and transfers. -/
structure KeepsCore (s t : State) (c : Nat) : Prop where
  fenced : t.coreFenced c = s.coreFenced c
  engines : ∀ e, t.engFenced c e = s.engFenced c e
  state : t.seqState c = s.seqState c
  queues : ∀ x, x ≤ 32 → t.queueOf c x = s.queueOf c x

theorem KeepsCore.trans (h : KeepsCore s t c) (h' : KeepsCore t u c) : KeepsCore s u c :=
  ⟨h'.fenced.trans h.fenced, fun e => (h'.engines e).trans (h.engines e), h'.state.trans h.state,
    fun x hx => (h'.queues x hx).trans (h.queues x hx)⟩

theorem KeepsCore.refl (s : State) (c : Nat) : KeepsCore s s c := ⟨rfl, fun _ => rfl, rfl, fun _ _ => rfl⟩

theorem CoreFence.keeps (h : CoreFence s t c) (hf : s.coreFenced c = false) (hc : c < 256) (hd : d < 256) (hne : d ≠ c) :
    KeepsCore s t d := by
  refine ⟨?_, fun e => ?_, ?_, fun x hx => h.queues d x hx hne⟩
  · by_cases hdie : d / 64 = c / 64
    · have hbit : d % 64 ≠ c % 64 := by omega
      rw [State.coreFenced, State.coreFenced, hdie, h.mask]
      exact bit_add_two_pow_ne hf hbit
    · rw [State.coreFenced, h.regs.rd, State.coreFenced]
      intro hk
      have := fenceKeys_places hk
      simp only [regKey, F.SEQ_FENCE_MASK] at this
      omega
  · rw [State.engFenced, h.regs.rd, State.engFenced]
    intro hk
    have := fenceKeys_places hk
    simp only [regKey, F.ENG_FENCE_MASK] at this
    omega
  · rw [State.seqState, h.regs.rd, State.seqState]
    intro hk
    have := fenceKeys_places hk
    simp only [regKey, F.SEQ_STATE_STATE] at this
    omega

/-- A retired core stays so while another is fenced. -/
theorem CoreRetired.later (h : CoreRetired s t c) (hk : KeepsCore t u c) (hrestart : u.rd F.GLB_STATE_RESTART_NEEDED = 1) :
    CoreRetired s u c := by
  obtain ⟨hfen, hstate, hengs, hload, -⟩ := h
  refine ⟨hk.fenced.trans hfen, hk.state.trans hstate, fun e he hp => ?_, ?_, hrestart⟩
  · obtain ⟨hf, hq⟩ := hengs e he hp
    exact ⟨(hk.engines e).trans hf, fun hs => by rw [hk.queues e he.le]; exact hq hs⟩
  · rw [loader_eq_queueOf, hk.queues 32 (Nat.le_refl _)]
    exact hload

/-- A core is retired as from an earlier state in which its engines stood the same. -/
theorem CoreRetired.earlier (h : CoreRetired t u c) (hk : KeepsCore s t c) (hp : ∀ e, t.engPresent c e = s.engPresent c e) :
    CoreRetired s u c := by
  obtain ⟨hfen, hstate, hengs, hload, hrestart⟩ := h
  refine ⟨hfen, hstate, fun e he hpe => ?_, hload, hrestart⟩
  rw [← hk.engines]
  exact hengs e he ((hp e).trans hpe)

/-! ### The cores of a cluster, one after another -/

/-- A core of a stopped cluster. -/
def State.fenceMember (s : State) (c : Nat) : State :=
  if s.corePresent c && !s.coreFenced c then (s.seqLast c 7).fenceCore c 0x2402 else s

/-- The first cores of a stopped cluster. -/
def State.fenceMembers (s : State) (base n : Nat) : State := (List.range n).foldl (fun s k => s.fenceMember (base + k)) s

theorem fenceMembers_succ (n : Nat) : s.fenceMembers base (n + 1) = (s.fenceMembers base n).fenceMember (base + n) := by
  rw [State.fenceMembers, List.range_succ, List.foldl_append]
  rfl

theorem seqLast_keeps (kind : Nat) : KeepsWork s (s.seqLast c kind) := ⟨seqLast_cpu .., seqLast_mem ..⟩

theorem coreFenced_of_last (hc : c < 256) (hr : RegsBut s u (lastKeys c)) : u.coreFenced c = s.coreFenced c := by
  rw [State.coreFenced, hr.rd, State.coreFenced]
  intro hk
  have := lastKeys_places hk
  simp only [regKey, F.SEQ_FENCE_MASK] at this
  omega

theorem fenceMember_live (hc : c < 256) (hp : s.corePresent c = true) (hf : s.coreFenced c = false) :
    CoreFence s (s.fenceMember c) c := by
  have hr : RegsBut s (s.seqLast c 7) (lastKeys c) := regsBut_seqLast 7
  rw [State.fenceMember, if_pos (by rw [hp, hf]; decide)]
  exact (fenceCore_fences hc ((coreFenced_of_last hc hr).trans hf) _).of_told hc (seqLast_keeps 7) hr

theorem fenceMember_idle (h : ¬ (s.corePresent c = true ∧ s.coreFenced c = false)) : s.fenceMember c = s :=
  if_neg (by simpa using h)

/-- What the fences of the first cores of a cluster do. -/
structure ClusterFence (s t : State) (base n : Nat) : Prop where
  mem : t.mem = s.mem
  regs : ∀ k, (∀ j, j < n → k ∉ fenceKeys (base + j)) → t.reg k = s.reg k
  retired : ∀ j, j < n → s.corePresent (base + j) = true → s.coreFenced (base + j) = false → CoreRetired s t (base + j)
  others : ∀ d, d < 256 → (∀ j, j < n → d ≠ base + j) → KeepsCore s t d

theorem ClusterFence.rd (h : ClusterFence s t base n) (f : Field) (i x : Nat)
    (hk : ∀ j, j < n → regKey f.key i x ∉ fenceKeys (base + j)) : t.rd f i x = s.rd f i x := by
  simp only [State.rd, h.regs _ hk]

theorem ClusterFence.corePresent (h : ClusterFence s t base n) (hn : base + n ≤ 256) (hd : d < 256) :
    t.corePresent d = s.corePresent d := by
  rw [State.corePresent, h.rd, State.corePresent]
  intro j hj hk
  have := fenceKeys_places hk
  simp only [regKey, F.SEQ_PRESENT_MASK] at this
  omega

theorem ClusterFence.engPresent (h : ClusterFence s t base n) (hn : base + n ≤ 256) (hd : d < 256) (e : Nat) :
    t.engPresent d e = s.engPresent d e := by
  rw [State.engPresent, h.rd, State.engPresent]
  intro j hj hk
  have := fenceKeys_places hk
  simp only [regKey, F.ENG_PRESENT_MASK] at this
  omega

/-- One more core of the cluster. -/
theorem ClusterFence.member (h : ClusterFence s t base n) (hn : base + n < 256) :
    ClusterFence s (t.fenceMember (base + n)) base (n + 1) := by
  have hhere : KeepsCore s t (base + n) := h.others _ hn fun j hj => by omega
  have hpres : t.corePresent (base + n) = s.corePresent (base + n) := h.corePresent hn.le hn
  by_cases hlive : t.corePresent (base + n) = true ∧ t.coreFenced (base + n) = false
  · obtain ⟨hp, hf⟩ := hlive
    have hfence := fenceMember_live hn hp hf
    obtain ⟨-, -, -, -, hrestart⟩ := hfence.here
    refine ⟨hfence.mem.trans h.mem, fun k hk => ?_, fun j hj hpj hfj => ?_, fun d hd hne => ?_⟩
    · rw [hfence.regs k (hk n (Nat.lt_succ_self n)), h.regs k fun j hj => hk j (by omega)]
    · by_cases hjn : j = n
      · subst hjn
        exact hfence.here.earlier hhere (h.engPresent hn.le hn)
      · exact (h.retired j (by omega) hpj hfj).later (hfence.keeps hf hn (by omega) (by omega)) hrestart
    · exact (h.others d hd fun j hj => hne j (by omega)).trans (hfence.keeps hf hn hd (hne n (Nat.lt_succ_self n)))
  · rw [fenceMember_idle hlive]
    refine ⟨h.mem, fun k hk => h.regs k fun j hj => hk j (by omega), fun j hj hpj hfj => ?_,
      fun d hd hne => h.others d hd fun j hj => hne j (by omega)⟩
    by_cases hjn : j = n
    · subst hjn
      exact absurd ⟨hpres.trans hpj, hhere.fenced.trans hfj⟩ hlive
    · exact h.retired j (by omega) hpj hfj

theorem fenceMembers_fence (hn : base + n ≤ 256) : ClusterFence s (s.fenceMembers base n) base n := by
  induction n with
  | zero => exact ⟨rfl, fun _ _ => rfl, fun j hj => absurd hj (Nat.not_lt_zero j), fun d _ _ => .refl s d⟩
  | succ n ih =>
    rw [fenceMembers_succ]
    exact (ih (by omega)).member (by omega)

end Sys2Proof.Machine

/-! Engines, cores and clusters that fail (05_engines_and_sequencers.md R191, R192, R197, 12_start_firmware_accounts.md
R427): the commands that fence them. -/

namespace Sys2Proof.Machine

variable {s t u : State}

/-! ### The commands -/

/-- An engine's order has had no step for ENG_CTRL.HANG_US. -/
def State.engineHangs (s : State) (eng : Nat) : Bool :=
  (s.engine eng).queue.any (·.running) && s.after (s.engine eng).stepAt (usec (s.rd F.ENG_CTRL_HANG_US (eng / 32 / 64)))

theorem engineHangs_iff (eng : Nat) : s.engineHangs eng = true ↔ (∃ x ∈ (s.engine eng).queue, x.running = true) ∧
    (s.engine eng).stepAt + 25 * s.rd F.ENG_CTRL_HANG_US (eng / 32 / 64) ≤ s.clk.now := by
  rw [State.engineHangs, Bool.and_eq_true, List.any_eq_true, State.after, decide_eq_true_eq, usec, Nat.mul_comm]

theorem exec_engineHang (hrun : s.running = true) {eng : Fin 8192} (h : s.engineHangs eng = true) :
    exec (.engineHang eng) s =
      .next (s.fenceEngine (eng / 32) (eng % 32) 2 (s.runningTag (eng / 32) (eng % 32))) := by
  change Host.Outcome.next (s.working _) = _
  rw [working_running hrun]
  exact congrArg _ (if_pos h)

theorem exec_engineHang_idle (hrun : s.running = true) {eng : Fin 8192} (h : ¬ s.engineHangs eng = true) :
    exec (.engineHang eng) s = .next s := by
  change Host.Outcome.next (s.working _) = _
  rw [working_running hrun]
  exact congrArg _ (if_neg h)

theorem seqHangs_of {c : Nat}
    (hstate : s.seqState c = 1 ∨ (s.seqState c = 2 ∧ (s.core c).wait ≠ .orders ∧ (s.core c).wait ≠ .unit))
    (hheld : (s.core c).held = false) (htime : (s.core c).retiredAt + 25 * s.rd F.SEQ_CTRL_HANG_US (c / 64) ≤ s.clk.now) :
    s.seqHangs c = true := by
  have hafter : s.after (s.core c).retiredAt (usec (s.rd F.SEQ_CTRL_HANG_US (c / 64))) = true := by
    rw [State.after, decide_eq_true_eq, usec, Nat.mul_comm]
    exact htime
  rw [State.seqHangs, hheld, hafter]
  obtain h | ⟨h, horders, hunit⟩ := hstate
  · simp [h]
  · simp [h, horders, hunit]

/-- A sequencer that hangs runs a batch that its fence ends. -/
theorem fenceEnds_of {c : Nat}
    (hstate : s.seqState c = 1 ∨ (s.seqState c = 2 ∧ (s.core c).wait ≠ .orders ∧ (s.core c).wait ≠ .unit)) :
    s.fenceEnds c = true := by
  obtain h | ⟨h, -, hunit⟩ := hstate
  · simp [State.fenceEnds, h]
  · simp [State.fenceEnds, h, hunit]

theorem exec_sequencerHang (hrun : s.running = true) {c : Fin 256} (h : s.seqHangs c = true) :
    exec (.sequencerHang c) s = .next (s.clusterStop c 5 2) := by
  change Host.Outcome.next (s.working _) = _
  rw [working_running hrun]
  exact congrArg _ (if_pos h)

theorem exec_sequencerParityError (hrun : s.running = true) {c : Fin 256} (hp : s.corePresent c = true)
    (hf : s.coreFenced c = false) : exec (.sequencerParityError c) s = .next (s.clusterStop c 6 1).fenceHosts := by
  change Host.Outcome.next (s.working _) = _
  rw [working_running hrun]
  exact congrArg _ (if_pos (by rw [hp, hf]; decide))

/-! ### A core stopped at cluster level -/

/-- A core's fault told before its fence. -/
def State.clusterTold (s : State) (c kind cause : Nat) : State := (s.seqErr c kind).note 0x2401 c cause (s.pc c).toNat

theorem clusterStop_eq (c kind cause : Nat) : s.clusterStop c kind cause = (s.clusterTold c kind cause).fenceCore c 0x2401 := rfl

theorem clusterTold_keeps (c kind cause : Nat) : KeepsWork s (s.clusterTold c kind cause) := by
  constructor <;> simp [State.clusterTold]

theorem clusterTold_regs (c kind cause : Nat) : RegsBut s (s.clusterTold c kind cause) (lastKeys c) :=
  (regsBut_seqErr kind).step ((note_regs _ _ _ _).mono fun _ h => List.mem_cons_of_mem _ (List.mem_cons_of_mem _ h))

theorem clusterStop_fence {c : Nat} (hc : c < 256) (hf : s.coreFenced c = false) (kind cause : Nat) :
    CoreFence s (s.clusterStop c kind cause) c := by
  have hr := clusterTold_regs (s := s) c kind cause
  rw [clusterStop_eq]
  exact (fenceCore_fences hc ((coreFenced_of_last hc hr).trans hf) _).of_told hc (clusterTold_keeps c kind cause) hr

theorem clusterStop_fault {c : Nat} (hc : c < 256) (hf : s.coreFenced c = false) (hends : s.fenceEnds c = true)
    (kind cause : Nat) : ((s.clusterStop c kind cause).core c).fault =
      some (firstStatus ((s.core c).fault.toList ++ [0x04])) := by
  have hr := clusterTold_regs (s := s) c kind cause
  have hcore := core_of_cpu (clusterTold_keeps (s := s) c kind cause).cpu c
  have hstate : (s.clusterTold c kind cause).seqState c = s.seqState c := by
    rw [State.seqState, hr.rd, State.seqState]
    intro hk
    have := lastKeys_places hk
    simp only [regKey, F.SEQ_STATE_STATE] at this
    omega
  rw [clusterStop_eq, fenceCore_fault ((coreFenced_of_last hc hr).trans hf) (by rw [State.fenceEnds, hstate, hcore]; exact hends),
    hcore]

/-- No host core of an exchequer unit is fenced. -/
def NoHostFenced (s : State) : Prop :=
  ∀ u, u < 16 → s.corePresent (hostCore u) = true → s.coreFenced (hostCore u) = false

theorem NoHostFenced.of_keeps (h : NoHostFenced s)
    (ht : ∀ u, u < 16 → t.corePresent (hostCore u) = s.corePresent (hostCore u) ∧ t.coreFenced (hostCore u) = s.coreFenced (hostCore u)) :
    NoHostFenced t := fun u hu hp => by
  obtain ⟨hpres, hfen⟩ := ht u hu
  rw [hfen]
  exact h u hu (hpres.symm.trans hp)

theorem CoreFence.noHostFenced {c : Nat} (h : CoreFence s t c) (hno : NoHostFenced s) (hf : s.coreFenced c = false)
    (hc : c < 256) (hhost : ∀ u, u < 16 → hostCore u ≠ c) : NoHostFenced t :=
  hno.of_keeps fun u hu =>
    ⟨corePresent_of_regsBut h.regs hc (hostCore_lt hu), (h.keeps hf hc (hostCore_lt hu) (hhost u hu)).fenced⟩

/-! ### A cluster that a mesh fault stops -/

/-- A stopped cluster marked and told, its cores still in service. -/
def State.meshTold (s : State) (die cluster : Nat) : State :=
  (((s.setBit F.SEQ_CLUSTER_FENCE_MASK cluster die 0).clearBit F.MSH_STATUS_STOPS cluster die 0).inc
    F.MSH_STOP_ERR_COUNT 1 die).note 0x2402 die cluster

/-- Register elements that tell of a stopped cluster. -/
def meshKeys (die : Nat) : List Nat :=
  regKey F.SEQ_CLUSTER_FENCE_MASK.key die 0 :: regKey F.MSH_STATUS_STOPS.key die 0 ::
    regKey F.MSH_STOP_ERR_COUNT.key die 0 :: dbkKeys

theorem meshTold_keeps (die cluster : Nat) : KeepsWork s (s.meshTold die cluster) := by
  constructor <;> simp [State.meshTold]

theorem meshTold_regs (die cluster : Nat) : RegsBut s (s.meshTold die cluster) (meshKeys die) := by
  have hset : RegsBut s (s.setBit F.SEQ_CLUSTER_FENCE_MASK cluster die 0) (meshKeys die) :=
    regsBut_setBit _ _ _ _ _ (by simp [meshKeys])
  have hclear := regsBut_clearBit (s := s.setBit F.SEQ_CLUSTER_FENCE_MASK cluster die 0) F.MSH_STATUS_STOPS cluster die 0
    (l := meshKeys die) (by simp [meshKeys])
  have hinc := regsBut_inc ((s.setBit F.SEQ_CLUSTER_FENCE_MASK cluster die 0).clearBit F.MSH_STATUS_STOPS cluster die 0)
    F.MSH_STOP_ERR_COUNT 1 die 0 (l := meshKeys die) (by simp [meshKeys])
  exact ((hset.step hclear).step hinc).step ((note_regs _ _ _ _).mono fun _ h =>
    List.mem_cons_of_mem _ (List.mem_cons_of_mem _ (List.mem_cons_of_mem _ h)))

theorem exec_meshStopFault (hrun : s.running = true) {die : Fin 4} {cl : Fin 8}
    (h : bit (s.rd F.SEQ_CLUSTER_FENCE_MASK die) cl = false) : exec (.meshStopFault die cl) s =
      .next ((s.meshTold die cl).fenceMembers (die * 64 + cl * 8) 8).fenceHosts := by
  change Host.Outcome.next (s.working _) = _
  rw [working_running hrun]
  exact congrArg _ (if_neg (by rw [h]; decide))

theorem meshKeys_places {die k : Nat} (h : k ∈ meshKeys die) : k = 29696 + die * 128 ∨ 103424 ≤ k := by
  simp only [meshKeys, List.mem_cons, regKey, F.SEQ_CLUSTER_FENCE_MASK, F.MSH_STATUS_STOPS, F.MSH_STOP_ERR_COUNT] at h
  obtain h | h | h | h := h
  · exact .inl h
  · omega
  · omega
  · have := degrade_lt_dbkKeys k h
    simp only [F.GLB_DEGRADE_LOG] at this
    omega

/-- The mark of a stopped cluster leaves its cores as they stood. -/
theorem meshTold_keepsCore {die cluster c : Nat} (hd : die < 4) (hc : c < 256) : KeepsCore s (s.meshTold die cluster) c := by
  have hr := meshTold_regs (s := s) die cluster
  have hcpu := (meshTold_keeps (s := s) die cluster).cpu
  refine ⟨?_, fun e => ?_, ?_, fun x _ => queueOf_of_cpu (congrArg _ hcpu) (congrArg _ hcpu) c x⟩
  · rw [State.coreFenced, hr.rd, State.coreFenced]
    intro hk
    have := meshKeys_places hk
    simp only [regKey, F.SEQ_FENCE_MASK] at this
    omega
  · rw [State.engFenced, hr.rd, State.engFenced]
    intro hk
    have := meshKeys_places hk
    simp only [regKey, F.ENG_FENCE_MASK] at this
    omega
  · rw [State.seqState, hr.rd, State.seqState]
    intro hk
    have := meshKeys_places hk
    simp only [regKey, F.SEQ_STATE_STATE] at this
    omega

theorem meshTold_corePresent {die cluster c : Nat} (hd : die < 4) (hc : c < 256) :
    (s.meshTold die cluster).corePresent c = s.corePresent c := by
  rw [State.corePresent, (meshTold_regs die cluster).rd, State.corePresent]
  intro hk
  have := meshKeys_places hk
  simp only [regKey, F.SEQ_PRESENT_MASK] at this
  omega

theorem meshTold_engPresent {die cluster c : Nat} (hd : die < 4) (hc : c < 256) (e : Nat) :
    (s.meshTold die cluster).engPresent c e = s.engPresent c e := by
  rw [State.engPresent, (meshTold_regs die cluster).rd, State.engPresent]
  intro hk
  have := meshKeys_places hk
  simp only [regKey, F.ENG_PRESENT_MASK] at this
  omega

theorem meshTold_fenced {die cluster : Nat} (hd : die < 4) (hcl : cluster < 8)
    (h : bit (s.rd F.SEQ_CLUSTER_FENCE_MASK die) cluster = false) :
    bit ((s.meshTold die cluster).rd F.SEQ_CLUSTER_FENCE_MASK die) cluster = true := by
  have hkey : regKey F.SEQ_CLUSTER_FENCE_MASK.key die 0 ≤ F.GLB_DEGRADE_LOG.key := by
    simp only [regKey, F.SEQ_CLUSTER_FENCE_MASK, F.GLB_DEGRADE_LOG]; omega
  have hinc : regKey F.SEQ_CLUSTER_FENCE_MASK.key die 0 ≠ regKey F.MSH_STOP_ERR_COUNT.key die 0 := by
    simp only [regKey, F.SEQ_CLUSTER_FENCE_MASK, F.MSH_STOP_ERR_COUNT]; omega
  have hclear : regKey F.SEQ_CLUSTER_FENCE_MASK.key die 0 ∉ [regKey F.MSH_STATUS_STOPS.key die 0] := by
    simp only [regKey, F.SEQ_CLUSTER_FENCE_MASK, F.MSH_STATUS_STOPS, List.mem_singleton]; omega
  rw [State.meshTold, rd_note _ _ _ _ hkey, State.inc, rd_st_ne _ _ _ _ _ _ _ _ hinc,
    (regsBut_clearBit _ _ _ _ (List.mem_singleton_self _)).rd _ _ _ hclear, rd_setBit_of_clear (by decide) h hcl]
  exact bit_add_two_pow h

theorem meshTold_stops (die cluster : Nat) : bit ((s.meshTold die cluster).rd F.MSH_STATUS_STOPS die) cluster = false := by
  have hkey : regKey F.MSH_STATUS_STOPS.key die 0 ∉ dbkKeys := fun h => by
    have := (tellKeys_range _ (List.mem_cons_of_mem _ (List.mem_cons_of_mem _ h))).2
    simp only [regKey] at this
    omega
  have hinc : regKey F.MSH_STATUS_STOPS.key die 0 ≠ regKey F.MSH_STOP_ERR_COUNT.key die 0 := by
    simp only [regKey, F.MSH_STATUS_STOPS, F.MSH_STOP_ERR_COUNT]; omega
  rw [State.meshTold, (note_regs _ _ _ _).rd _ _ _ hkey, State.inc, rd_st_ne _ _ _ _ _ _ _ _ hinc]
  exact bit_clearBit (by decide) _ _ _

/-- What the fences of a cluster's cores leave of the cluster's own marks. -/
theorem ClusterFence.rd_cluster {base n : Nat} (h : ClusterFence s t base n) (hn : base + n ≤ 256) {die : Nat} (hd : die < 4) :
    t.rd F.SEQ_CLUSTER_FENCE_MASK die = s.rd F.SEQ_CLUSTER_FENCE_MASK die ∧
      t.rd F.MSH_STATUS_STOPS die = s.rd F.MSH_STATUS_STOPS die := by
  constructor
  all_goals
    refine h.rd _ _ _ fun j hj hk => ?_
    have := fenceKeys_places hk
    simp only [regKey, F.SEQ_CLUSTER_FENCE_MASK, F.MSH_STATUS_STOPS] at this
    omega

/-! ### A fence request -/

theorem exec_engFenceReq {q : Requester} {die : Fin 4} {v : W32} (hcan : CanWrite s q 17 F.ENG_FENCE_REQ_ENGINE.key) :
    exec (.engFenceReq q die v) s = .next ((s.dropAllHeld q).engFenceReq die v.toNat) := by
  obtain ⟨hctl, hwr⟩ := hcan
  change execEngFenceReq q die v s = _
  simp only [execEngFenceReq, State.rowWrite, hctl, hwr, Bool.and_self, if_true]

/-- The fence that a request asks for; the host cores stand as they stood. -/
theorem engFenceReq_eq (hno : NoHostFenced s) {die v : Nat} (hd : die < 4) :
    s.engFenceReq die v = s.fenceEngine (die * 64 + v % 2048 / 32) (v % 32) 4
      (s.runningTag (die * 64 + v % 2048 / 32) (v % 32)) := by
  have hc : die * 64 + v % 2048 / 32 < 256 := by omega
  have he : v % 2048 % 32 = v % 32 := by omega
  rw [State.engFenceReq, State.engFenceWrite, he]
  exact fenceHosts_eq (hno.of_keeps fun u hu => fenceEngine_cores hc (hostCore_lt hu) _ _)

/-! ### The statement -/

/-- Settles O37: each fault runs into the fence of an engine, of a core, or of the cores of a cluster one after another. -/
theorem engineFaultsFenceTheirUnits : Obligations.EngineFaultsFenceTheirUnits := by
  unfold Obligations.EngineFaultsFenceTheirUnits
  intro s hrun hroom fencedEngine fencedCore noHost
  refine ⟨fun eng hp hf hrunning htime => ?_, fun eng hidle => ?_, fun c hf hp hstate hheld htime => ?_,
    fun c hf hp hno hhost => ?_, fun die cl hclear hno hhost => ?_, fun q die v hcan hno => ?_⟩
  · have hc : eng.val / 32 < 256 := by omega
    have he : eng.val % 32 < 32 := by omega
    exact ⟨_, exec_engineHang hrun ((engineHangs_iff _).mpr ⟨hrunning, htime⟩), fenceEngine_retires hc he hp hf hroom _ _⟩
  · refine exec_engineHang_idle hrun fun h => ?_
    obtain ⟨⟨x, hx, hrunning⟩, htime⟩ := (engineHangs_iff _).mp h
    obtain hnone | hearly := hidle
    · exact absurd (hnone x hx) (by rw [hrunning]; decide)
    · omega
  · have hfence := clusterStop_fence c.isLt hf 5 2
    exact ⟨_, exec_sequencerHang hrun (seqHangs_of hstate hheld htime), hfence.here, hfence.mem,
      clusterStop_fault c.isLt hf (fenceEnds_of hstate) 5 2⟩
  · have hfence := clusterStop_fence c.isLt hf 6 1
    have hexec := exec_sequencerParityError hrun hp hf
    rw [fenceHosts_eq (hfence.noHostFenced hno hf c.isLt hhost)] at hexec
    exact ⟨_, hexec, hfence.here, hfence.mem⟩
  · have hfence := fenceMembers_fence (s := s.meshTold die cl) (base := die * 64 + cl * 8) (n := 8) (by omega)
    have hkeep : ∀ {c}, c < 256 → KeepsCore s (s.meshTold die cl) c := fun hc => meshTold_keepsCore die.isLt hc
    have hexec := exec_meshStopFault hrun hclear
    obtain ⟨hmark, hstops⟩ := hfence.rd_cluster (by omega) die.isLt
    have hnone : NoHostFenced ((s.meshTold die cl).fenceMembers (die * 64 + cl * 8) 8) := by
      refine NoHostFenced.of_keeps hno fun u hu => ?_
      have hlt := hostCore_lt hu
      have hne := hhost u hu
      exact ⟨(hfence.corePresent (by omega) hlt).trans (meshTold_corePresent die.isLt hlt),
        ((hfence.others _ hlt fun j hj => by omega).fenced).trans (hkeep hlt).fenced⟩
    rw [fenceHosts_eq hnone] at hexec
    refine ⟨_, hexec, ?_, ?_, fun k hpk hfk => ?_, hfence.mem.trans (meshTold_keeps _ _).mem⟩
    · rw [hmark]
      exact meshTold_fenced die.isLt cl.isLt hclear
    · rw [hstops]
      exact meshTold_stops _ _
    · have hlt : die.val * 64 + cl.val * 8 + k.val < 256 := by omega
      exact (hfence.retired k k.isLt ((meshTold_corePresent die.isLt hlt).trans hpk) ((hkeep hlt).fenced.trans hfk)).earlier
        (hkeep hlt) (meshTold_engPresent die.isLt hlt)
  · intro c e
    have hc : c < 256 := by have := die.isLt; omega
    have he : e < 32 := Nat.mod_lt _ (by decide)
    have hexec := exec_engFenceReq (v := v) (die := die) hcan
    rw [engFenceReq_eq (s := s.dropAllHeld q) hno die.isLt] at hexec
    refine ⟨_, hexec, fun hp hf => ⟨fenceEngine_retires (s := s.dropAllHeld q) hc he hp hf hroom _ _, noHeld_of_bus (fenceEngine_bus _ _)⟩,
      fun hidle => ?_⟩
    rw [fenceEngine_idle (s := s.dropAllHeld q) hidle]
    exact ⟨rfl, noHeld_of_bus rfl⟩

end Sys2Proof.Machine

/-! The vector unit as state (06_vector_extensions.md R198 to R201): elements of groups and bits of mask registers after a
write, what waking and retiring leave, the gate of a vector instruction. -/

namespace Sys2Proof.Machine

variable {s t : State} {c : Nat}

/-! ### A field put in a number -/

/-- Putting `x` in a field of a number changes the bits of the field alone. -/
theorem testBit_replace (N p w x k : Nat) : (N - N / 2 ^ p % 2 ^ w * 2 ^ p + x % 2 ^ w * 2 ^ p).testBit k =
    if p ≤ k ∧ k < p + w then x.testBit (k - p) else N.testBit k := by
  have hcut := cut_field N p w
  have hlow : N % 2 ^ p < 2 ^ p := Nat.mod_lt _ (Nat.two_pow_pos p)
  have parts : ∀ v, v < 2 ^ w → (N / 2 ^ (p + w) * 2 ^ (p + w) + v * 2 ^ p + N % 2 ^ p).testBit k =
      if k < p then (N % 2 ^ p).testBit k else if k < p + w then v.testBit (k - p)
        else (N / 2 ^ (p + w)).testBit (k - (p + w)) := by
    intro v hv
    rw [show N / 2 ^ (p + w) * 2 ^ (p + w) + v * 2 ^ p + N % 2 ^ p = 2 ^ p * (2 ^ w * (N / 2 ^ (p + w)) + v) + N % 2 ^ p by
      rw [Nat.pow_add]; ring, Nat.testBit_two_pow_mul_add _ hlow, Nat.testBit_two_pow_mul_add _ hv]
    by_cases hkp : k < p
    · simp only [hkp, if_true]
    · simp only [hkp, if_false, Nat.sub_lt_iff_lt_add' (not_lt.mp hkp), Nat.sub_sub]
  have hnew : N - N / 2 ^ p % 2 ^ w * 2 ^ p + x % 2 ^ w * 2 ^ p =
      N / 2 ^ (p + w) * 2 ^ (p + w) + x % 2 ^ w * 2 ^ p + N % 2 ^ p := by omega
  have hold := parts _ (Nat.mod_lt (N / 2 ^ p) (Nat.two_pow_pos w))
  rw [← hcut] at hold
  rw [hnew, parts _ (Nat.mod_lt x (Nat.two_pow_pos w)), hold]
  by_cases hkp : k < p
  · rw [if_pos hkp, if_neg (by omega), if_pos hkp]
  · by_cases hkw : k < p + w
    · rw [if_neg hkp, if_pos hkw, if_pos ⟨by omega, hkw⟩, Nat.testBit_mod_two_pow, decide_eq_true (by omega), Bool.true_and]
    · rw [if_neg hkp, if_neg hkw, if_neg (by omega), if_neg hkp, if_neg hkw]

theorem replace_lt {N p w x n : Nat} (hN : N < 2 ^ n) (hp : p + w ≤ n) :
    N - N / 2 ^ p % 2 ^ w * 2 ^ p + x % 2 ^ w * 2 ^ p < 2 ^ n := by
  apply Nat.lt_pow_two_of_testBit
  intro k hk
  rw [testBit_replace, if_neg (by omega)]
  exact Nat.testBit_lt_two_pow (hN.trans_le (Nat.pow_le_pow_right (by decide) hk))

theorem toNat_ofNat_replace {n p w : Nat} (r : BitVec n) (x : Nat) (h : p + w ≤ n) :
    (BitVec.ofNat n (r.toNat - r.toNat / 2 ^ p % 2 ^ w * 2 ^ p + x % 2 ^ w * 2 ^ p)).toNat =
      r.toNat - r.toNat / 2 ^ p % 2 ^ w * 2 ^ p + x % 2 ^ w * 2 ^ p := by
  rw [BitVec.toNat_ofNat, Nat.mod_eq_of_lt (replace_lt r.isLt h)]

/-- The field that was put. -/
theorem field_replace_same (N p w x : Nat) :
    (N - N / 2 ^ p % 2 ^ w * 2 ^ p + x % 2 ^ w * 2 ^ p) / 2 ^ p % 2 ^ w = x % 2 ^ w := by
  apply Nat.eq_of_testBit_eq
  intro k
  rw [Nat.testBit_mod_two_pow, Nat.testBit_div_two_pow, testBit_replace, Nat.testBit_mod_two_pow]
  by_cases hk : k < w
  · rw [if_pos (by omega), Nat.add_sub_cancel]
  · simp only [hk, decide_false, Bool.false_and]

/-- A field apart from the one that was put. -/
theorem field_replace_apart {p q w : Nat} (N x : Nat) (h : q + w ≤ p ∨ p + w ≤ q) :
    (N - N / 2 ^ p % 2 ^ w * 2 ^ p + x % 2 ^ w * 2 ^ p) / 2 ^ q % 2 ^ w = N / 2 ^ q % 2 ^ w := by
  apply Nat.eq_of_testBit_eq
  intro k
  simp only [Nat.testBit_mod_two_pow, Nat.testBit_div_two_pow, testBit_replace]
  by_cases hk : k < w
  · rw [if_neg (by omega)]
  · simp only [hk, decide_false, Bool.false_and]

/-! ### Vector and mask registers -/

theorem vreg_setVreg (v u : Nat) (x : W512) : (s.setVreg c v x).vreg c u = if u = v then x else s.vreg c u := by
  simp only [State.vreg, State.setVreg, mget_mset, Nat.add_left_cancel_iff]

theorem mreg_setMreg (m n : Nat) (x : W512) : (s.setMreg c m x).mreg c n = if n = m then x else s.mreg c n := by
  simp only [State.mreg, State.setMreg, mget_mset, Nat.add_left_cancel_iff]

theorem vreg_of_vregs (h : t.cpu.vregs = s.cpu.vregs) (v : Nat) : t.vreg c v = s.vreg c v := by simp only [State.vreg, h]
theorem mreg_of_mregs (h : t.cpu.mregs = s.cpu.mregs) (m : Nat) : t.mreg c m = s.mreg c m := by simp only [State.mreg, h]
theorem velem_of_vregs (h : t.cpu.vregs = s.cpu.vregs) (v w i : Nat) : t.velem c v w i = s.velem c v w i := by
  simp only [State.velem, vreg_of_vregs h]
theorem mbit_of_mregs (h : t.cpu.mregs = s.cpu.mregs) (m i : Nat) : t.mbit c m i = s.mbit c m i := by
  simp only [State.mbit, mreg_of_mregs h]

@[simp] theorem setVelem_mem (v w i x : Nat) : (s.setVelem c v w i x).mem = s.mem := rfl
@[simp] theorem setVelem_pc (v w i x d : Nat) : (s.setVelem c v w i x).pc d = s.pc d := rfl
@[simp] theorem setMbits_mem (m : Nat) (l : List (Nat × Bool)) : (s.setMbits c m l).mem = s.mem := rfl
@[simp] theorem setMbits_vregs (m : Nat) (l : List (Nat × Bool)) : (s.setMbits c m l).cpu.vregs = s.cpu.vregs := rfl
@[simp] theorem setMbits_sregs (m : Nat) (l : List (Nat × Bool)) : (s.setMbits c m l).cpu.sregs = s.cpu.sregs := rfl
@[simp] theorem setMbits_pc (m d : Nat) (l : List (Nat × Bool)) : (s.setMbits c m l).pc d = s.pc d := rfl
@[simp] theorem setCsr_vregs (n : Nat) (v : W64) : (s.setCsr c n v).cpu.vregs = s.cpu.vregs := rfl
@[simp] theorem setCsr_pc (n d : Nat) (v : W64) : (s.setCsr c n v).pc d = s.pc d := rfl

/-! ### Elements of a group (R199) -/

theorem velem_lt (v w i : Nat) : s.velem c v w i < 2 ^ w := Nat.mod_lt _ (Nat.two_pow_pos w)

theorem velem_mod (v w i : Nat) : s.velem c v w i % 2 ^ w = s.velem c v w i := Nat.mod_eq_of_lt (velem_lt v w i)

/-- Place `i` of a row of elements of width `w`: register i / (512 / w), element i mod (512 / w) of it. -/
theorem place_of_width {w : Nat} (hw : w ∣ 512) (i : Nat) :
    i * w / 512 = i / (512 / w) ∧ i * w % 512 = i % (512 / w) * w ∧ i % (512 / w) * w + w ≤ 512 := by
  obtain ⟨n, hn⟩ := hw
  have hw0 : 0 < w := Nat.pos_of_ne_zero (by rintro rfl; omega)
  have hn0 : 0 < n := Nat.pos_of_ne_zero (by rintro rfl; omega)
  have hdiv : 512 / w = n := by rw [hn, Nat.mul_div_cancel_left _ hw0]
  rw [hdiv, hn, Nat.mul_comm w n]
  refine ⟨Nat.mul_div_mul_right _ _ hw0, Nat.mul_mod_mul_right .., ?_⟩
  have := Nat.mul_le_mul_right w (Nat.succ_le_of_lt (Nat.mod_lt i hn0))
  rwa [Nat.succ_mul] at this

/-- Places of a row of registers of `n` elements each. -/
theorem place_eq_iff {n : Nat} (hn : 0 < n) {u v i j : Nat} :
    u * n + j = v * n + i ↔ u + j / n = v + i / n ∧ j % n = i % n := by
  have hdiv : ∀ x k, (x * n + k) / n = x + k / n := fun x k => by rw [Nat.mul_comm, Nat.mul_add_div hn]
  have hmod : ∀ x k, (x * n + k) % n = k % n := fun x k => by rw [Nat.mul_comm, Nat.mul_add_mod]
  rw [← hdiv, ← hdiv, ← hmod u j, ← hmod v i]
  refine ⟨fun h => by rw [h]; exact ⟨rfl, rfl⟩, fun ⟨hd, hm⟩ => ?_⟩
  rw [← Nat.div_add_mod (u * n + j) n, hd, hm, Nat.div_add_mod]

/-- Elements of one row are the same when they stand at the same place of it. -/
theorem velem_setVelem {w : Nat} (hw : w ∣ 512) (v i x u j : Nat) : (s.setVelem c v w i x).velem c u w j =
    if u * (512 / w) + j = v * (512 / w) + i then x % 2 ^ w else s.velem c u w j := by
  have hw0 : 0 < w := Nat.pos_of_dvd_of_pos hw (by decide)
  have hn : 0 < 512 / w := Nat.div_pos (Nat.le_of_dvd (by decide) hw) hw0
  obtain ⟨hri, hpi, hle⟩ := place_of_width hw i
  obtain ⟨hrj, hpj, -⟩ := place_of_width hw j
  simp only [State.setVelem, State.velem, vreg_setVreg, hri, hpi, hrj, hpj, place_eq_iff hn]
  by_cases hreg : u + j / (512 / w) = v + i / (512 / w)
  · rw [if_pos hreg, hreg, toNat_ofNat_replace _ _ hle]
    by_cases hpos : j % (512 / w) = i % (512 / w)
    · rw [hpos, field_replace_same, if_pos ⟨rfl, rfl⟩]
    · rw [if_neg (fun h => hpos h.2), field_replace_apart]
      rcases Nat.lt_or_gt_of_ne hpos with h | h
      · left
        rw [← Nat.succ_mul]
        exact Nat.mul_le_mul_right w h
      · right
        rw [← Nat.succ_mul]
        exact Nat.mul_le_mul_right w h
  · rw [if_neg hreg, if_neg (fun h => hreg h.1)]

/-- A row of elements written, each with a value of its own. -/
theorem velem_setVelems {w : Nat} (hw : w ∣ 512) (v : Nat) (g : Nat → Nat) (is : List Nat) (j : Nat) :
    (s.setVelems c v w (is.map (fun i => (i, g i)))).velem c v w j =
      if j ∈ is then g j % 2 ^ w else s.velem c v w j := by
  induction is generalizing s with
  | nil => rfl
  | cons i is ih =>
    have hstep : s.setVelems c v w ((i :: is).map (fun i => (i, g i))) =
        (s.setVelem c v w i (g i)).setVelems c v w (is.map (fun i => (i, g i))) := rfl
    rw [hstep, ih, velem_setVelem hw]
    by_cases hj : j = i
    · subst hj
      simp
    · simp [hj]

theorem setVelems_keeps {β : Type} (g : State → β) (h : ∀ s v x, g (s.setVreg c v x) = g s) (v w : Nat)
    (l : List (Nat × Nat)) : g (s.setVelems c v w l) = g s :=
  foldl_keeps g (fun s (p : Nat × Nat) => s.setVelem c v w p.1 p.2) (fun _ _ => h ..) l s

/-- Writing elements changes vector registers alone. -/
theorem setVelems_leaves (v w : Nat) (l : List (Nat × Nat)) : (s.setVelems c v w l).mem = s.mem ∧
    (s.setVelems c v w l).cpu.mregs = s.cpu.mregs ∧ (s.setVelems c v w l).pc c = s.pc c :=
  ⟨setVelems_keeps (·.mem) (fun _ _ _ => rfl) .., setVelems_keeps (·.cpu.mregs) (fun _ _ _ => rfl) ..,
    setVelems_keeps (·.pc c) (fun _ _ _ => rfl) ..⟩

/-! ### Bits of a mask register (R198) -/

/-- Bits of a number put one after the other. -/
theorem testBit_foldl_put (g : Nat → Bool) (is : List Nat) (N k : Nat) :
    ((is.map (fun i => (i, g i))).foldl (fun v p => v - v / 2 ^ p.1 % 2 * 2 ^ p.1 + b2n p.2 * 2 ^ p.1) N).testBit k =
      if k ∈ is then g k else N.testBit k := by
  induction is generalizing N with
  | nil => rfl
  | cons i is ih =>
    have hbit : ∀ b : Bool, b2n b = b2n b % 2 ^ 1 := by decide
    have hput := testBit_replace N i 1 (b2n (g i)) k
    rw [← hbit, Nat.pow_one] at hput
    rw [List.map_cons, List.foldl_cons, ih, hput]
    by_cases hk : k = i
    · subst hk
      cases g k <;> simp [b2n]
    · rw [if_neg (show ¬ (i ≤ k ∧ k < i + 1) by omega)]
      simp [hk]

/-- Bits written in a mask register, the others staying. -/
theorem mbit_setMbits (m : Nat) (g : Nat → Bool) (is : List Nat) {k : Nat} (hk : k < 512) :
    (s.setMbits c m (is.map (fun i => (i, g i)))).mbit c m k = if k ∈ is then g k else s.mbit c m k := by
  simp only [State.mbit, State.setMbits, mreg_setMreg, if_true, bit_eq_testBit, BitVec.toNat_ofNat,
    Nat.testBit_mod_two_pow, hk, decide_true, Bool.true_and, testBit_foldl_put]

theorem mreg_setMbits_ne {m n : Nat} (h : n ≠ m) (l : List (Nat × Bool)) : (s.setMbits c m l).mreg c n = s.mreg c n := by
  rw [State.setMbits, mreg_setMreg, if_neg h]

/-! ### The gate of a vector instruction (R207, R225) -/

@[simp] theorem vwake_mem : (s.vwake c).mem = s.mem := by unfold State.vwake; dsimp only; split <;> rfl
@[simp] theorem vwake_vregs : (s.vwake c).cpu.vregs = s.cpu.vregs := by unfold State.vwake; dsimp only; split <;> rfl
@[simp] theorem vwake_mregs : (s.vwake c).cpu.mregs = s.cpu.mregs := by unfold State.vwake; dsimp only; split <;> rfl
@[simp] theorem vwake_sregs : (s.vwake c).cpu.sregs = s.cpu.sregs := by unfold State.vwake; dsimp only; split <;> rfl
@[simp] theorem vwake_loaders : (s.vwake c).cpu.loaders = s.cpu.loaders := by unfold State.vwake; dsimp only; split <;> rfl

/-- Waking changes the power state of the core alone. -/
theorem vwake_core : (s.vwake c).core c = { s.core c with vAwake := true, vLast := s.clk.now } := by
  unfold State.vwake
  dsimp only
  split
  · exact core_setCore_same _
  · exact core_setCore_same _

@[simp] theorem vwake_pc : (s.vwake c).pc c = s.pc c := by simp only [State.pc, vwake_core]

/-- Waking writes no CSR but VWAKES. -/
theorem vwake_csr {n : Nat} (h : n ≠ 0x028) : (s.vwake c).csr c n = s.csr c n := by
  unfold State.vwake
  dsimp only
  split
  · exact (csr_setCsr _ _ c n).trans (if_neg (by omega))
  · rfl

@[simp] theorem vwake_sreg (d : Nat) (r : BitVec 5) : (s.vwake c).sreg d r = s.sreg d r := sreg_of_sregs vwake_sregs d r
@[simp] theorem vwake_vreg (v : Nat) : (s.vwake c).vreg c v = s.vreg c v := vreg_of_vregs vwake_vregs v
@[simp] theorem vwake_mreg (m : Nat) : (s.vwake c).mreg c m = s.mreg c m := mreg_of_mregs vwake_mregs m
@[simp] theorem vwake_velem (v w i : Nat) : (s.vwake c).velem c v w i = s.velem c v w i := velem_of_vregs vwake_vregs v w i
@[simp] theorem vwake_mbit (m i : Nat) : (s.vwake c).mbit c m i = s.mbit c m i := mbit_of_mregs vwake_mregs m i
@[simp] theorem vwake_loader (d : Nat) : (s.vwake c).loader d = s.loader d := loader_of_loaders vwake_loaders d
@[simp] theorem vwake_sew : (s.vwake c).sew c = s.sew c := by simp only [State.sew, vwake_csr (n := 0x021) (by decide)]
@[simp] theorem vwake_vgroup : (s.vwake c).vgroup c = s.vgroup c := by
  simp only [State.vgroup, vwake_csr (n := 0x021) (by decide)]
@[simp] theorem vwake_vl : (s.vwake c).vl c = s.vl c := by simp only [State.vl, vwake_csr (n := 0x020) (by decide)]
@[simp] theorem vwake_vlmax : (s.vwake c).vlmax c = s.vlmax c := by simp only [State.vlmax, vwake_sew, vwake_vgroup]
@[simp] theorem vwake_active (m : Bool) (mr i : Nat) : (s.vwake c).active c m mr i = s.active c m mr i := by
  simp only [State.active, vwake_mbit]
@[simp] theorem vwake_actives (o : VOp) : (s.vwake c).actives c o = s.actives c o := by
  simp only [State.actives, vwake_vl, funext (vwake_active (s := s) (c := c) o.m o.mr.toNat)]
@[simp] theorem vwake_vsrc (b : BitVec 5) (src : Nat) (zext : Bool) (w i : Nat) :
    (s.vwake c).vsrc c b src zext w i = s.vsrc c b src zext w i := by
  simp only [State.vsrc, vwake_velem, vwake_sreg]
@[simp] theorem vwake_vfsrc (b : BitVec 5) (scalar : Bool) (w i : Nat) :
    (s.vwake c).vfsrc c b scalar w i = s.vfsrc c b scalar w i := by
  simp only [State.vfsrc, vwake_velem, vwake_sreg]

/-- A legal vector instruction of a ready sequencer: its effect on the woken unit. -/
theorem vinstr_completes {legal : Bool} {f : State → State} {P : State → Prop} (h : SeqReady s c) (hl : legal = true)
    (hp : P (f (s.vwake c))) : ∃ t, (Host.Outcome.next (s.vinstr c legal f) : Res) = .next t ∧ P t :=
  instr_completes h (by rwa [if_pos hl])

/-- An illegal one is a fault of the core. -/
theorem vinstr_illegal {legal : Bool} {f : State → State} (h : SeqReady s c) (hl : legal = false) :
    ∃ t, (Host.Outcome.next (s.vinstr c legal f) : Res) = .next t ∧ SeqFaults s t c 4 :=
  instr_completes h (by rw [if_neg (by simp [hl])]; exact programFault_aborts h (by decide))

/-! ### What an instruction leaves once retired -/

theorem retire_cpu : (s.retire c).cpu = { s.cpu with cores := (s.retire c).cpu.cores } := by
  obtain ⟨hframe, -⟩ := retire_spec (s := s) (c := c)
  have hsregs : (s.retire c).cpu.sregs = s.cpu.sregs := by simp [State.retire, State.setPc, State.setCore]
  rw [hframe, hsregs]

@[simp] theorem retire_vregs : (s.retire c).cpu.vregs = s.cpu.vregs := by rw [retire_cpu]
@[simp] theorem retire_mregs : (s.retire c).cpu.mregs = s.cpu.mregs := by rw [retire_cpu]
@[simp] theorem retire_sregs : (s.retire c).cpu.sregs = s.cpu.sregs := by rw [retire_cpu]
@[simp] theorem retire_csrs : (s.retire c).cpu.csrs = s.cpu.csrs := by rw [retire_cpu]
theorem retire_pc : (s.retire c).pc c = s.pc c + 4 := congrArg Core.pc retire_core

@[simp] theorem scalarOp_vregs (rd : BitVec 5) (v : W64) : (s.scalarOp c rd v).cpu.vregs = s.cpu.vregs := by
  rw [State.scalarOp, retire_vregs, setSreg_vregs]
@[simp] theorem scalarOp_mregs (rd : BitVec 5) (v : W64) : (s.scalarOp c rd v).cpu.mregs = s.cpu.mregs := by
  rw [State.scalarOp, retire_mregs, setSreg_mregs]
@[simp] theorem scalarOp_csrs (rd : BitVec 5) (v : W64) : (s.scalarOp c rd v).cpu.csrs = s.cpu.csrs := by
  rw [State.scalarOp, retire_csrs, setSreg_csrs]

theorem scalarOp_pc (rd : BitVec 5) (v : W64) : (s.scalarOp c rd v).pc c = s.pc c + 4 := by
  obtain ⟨-, -, hcore, -⟩ := scalarOp_spec (s := s) (c := c) rd v
  exact congrArg Core.pc hcore

theorem scalarOp_sreg (rd : BitVec 5) (v : W64) : (s.scalarOp c rd v).sreg c rd = if rd = 0 then 0 else v := by
  obtain ⟨-, -, -, -, hsreg⟩ := scalarOp_spec (s := s) (c := c) rd v
  rw [hsreg]
  by_cases h : rd = 0
  · rw [if_neg (fun e => e.2.2 h), if_pos h, h]
    rfl
  · rw [if_pos ⟨rfl, rfl, h⟩, if_neg h]

/-- An instruction wrote the elements of `is`, of width `w`, in the group of `v`, element i with `g i`, and retired. -/
structure ElemsWritten (s t : State) (c v w : Nat) (is : List Nat) (g : Nat → Nat) : Prop where
  pc : t.pc c = s.pc c + 4
  mem : t.mem = s.mem
  mregs : t.cpu.mregs = s.cpu.mregs
  elems : ∀ i, t.velem c v w i = if i ∈ is then g i % 2 ^ w else s.velem c v w i

/-- An instruction wrote the bits of `is` in mask register `m`, bit i with `g i`, and retired. -/
structure BitsWritten (s t : State) (c m : Nat) (is : List Nat) (g : Nat → Bool) : Prop where
  pc : t.pc c = s.pc c + 4
  mem : t.mem = s.mem
  vregs : t.cpu.vregs = s.cpu.vregs
  sregs : t.cpu.sregs = s.cpu.sregs
  bits : ∀ i, i < 512 → t.mbit c m i = if i ∈ is then g i else s.mbit c m i
  others : ∀ n, n ≠ m → t.mreg c n = s.mreg c n

/-- A legal vector instruction that writes elements of a group. -/
theorem vinstr_writes_elems {legal : Bool} {f : State → State} {v w : Nat} {is : List Nat} {g : Nat → Nat} (h : SeqReady s c)
    (hl : legal = true) (hw : w ∣ 512)
    (hf : f (s.vwake c) = ((s.vwake c).setVelems c v w (is.map (fun i => (i, g i)))).retire c) :
    ∃ t, (Host.Outcome.next (s.vinstr c legal f) : Res) = .next t ∧ ElemsWritten s t c v w is g := by
  refine vinstr_completes h hl (hf ▸ ?_)
  obtain ⟨hmem, hmregs, hpc⟩ := setVelems_leaves (s := s.vwake c) (c := c) v w (is.map (fun i => (i, g i)))
  refine ⟨?_, ?_, ?_, fun i => ?_⟩
  · rw [retire_pc, hpc, vwake_pc]
  · rw [retire_mem, hmem, vwake_mem]
  · rw [retire_mregs, hmregs, vwake_mregs]
  · rw [velem_of_vregs retire_vregs, velem_setVelems hw, vwake_velem]

/-- A legal vector instruction that writes bits of a mask register. -/
theorem vinstr_writes_bits {legal : Bool} {f : State → State} {m : Nat} {is : List Nat} {g : Nat → Bool} (h : SeqReady s c)
    (hl : legal = true) (hf : f (s.vwake c) = ((s.vwake c).setMbits c m (is.map (fun i => (i, g i)))).retire c) :
    ∃ t, (Host.Outcome.next (s.vinstr c legal f) : Res) = .next t ∧ BitsWritten s t c m is g := by
  refine vinstr_completes h hl (hf ▸ ?_)
  refine ⟨?_, ?_, ?_, ?_, fun i hi => ?_, fun n hn => ?_⟩
  · rw [retire_pc, setMbits_pc, vwake_pc]
  · rw [retire_mem, setMbits_mem, vwake_mem]
  · rw [retire_vregs, setMbits_vregs, vwake_vregs]
  · rw [retire_sregs, setMbits_sregs, vwake_sregs]
  · rw [mbit_of_mregs retire_mregs, mbit_setMbits m g is hi, vwake_mbit]
  · rw [mreg_of_mregs retire_mregs, mreg_setMbits_ne hn, vwake_mreg]

/-! ### The element width and the active elements (R199 to R201) -/

theorem sew_dvd : s.sew c ∣ 512 := by
  have h : (s.csr c 0x021).toNat % 4 < 4 := Nat.mod_lt _ (by decide)
  simp only [State.sew]
  generalize (s.csr c 0x021).toNat % 4 = k at h
  interval_cases k <;> decide

theorem mem_actives {o : VOp} {i : Nat} : i ∈ s.actives c o ↔ i < s.vl c ∧ s.active c o.m o.mr.toNat i = true := by
  rw [State.actives, List.mem_filter, List.mem_range]

/-- The active elements as the statements name them. -/
theorem mem_actives_iff {o : VOp} {i : Nat} :
    i ∈ s.actives c o ↔ (decide (i < s.vl c) && s.active c o.m o.mr.toNat i) = true := by
  rw [mem_actives, Bool.and_eq_true, decide_eq_true_eq]

end Sys2Proof.Machine

/-! VSETVL, moves and VIDX (06_vector_extensions.md R199, R200, R208). -/

namespace Sys2Proof.Machine

variable {s t : State} {c : Nat}

/-! ### VSETVL -/

/-- VLMAX of a vector type (R200). -/
def vlmaxOf (ty : Nat) : Nat := 2 ^ (ty / 4 % 4) * 512 / (8 * 2 ^ (ty % 4))

theorem vlmax_of_vtype {ty : Nat} (h : s.csr c 0x021 = BitVec.ofNat 64 ty) (hty : ty < 16) : s.vlmax c = vlmaxOf ty := by
  have hn : (s.csr c 0x021).toNat = ty := by rw [h, BitVec.toNat_ofNat]; omega
  simp only [State.vlmax, State.vgroup, State.sew, hn, vlmaxOf]

/-- What VSETVL writes, from the woken unit. -/
theorem vset_sets {ty : Nat} (hty : ty < 16) (d a : BitVec 5) :
    let t := (s.vwake c).vset c d a ty
    let vl := if a = 0 then vlmaxOf ty else min (s.sreg c a).toNat (vlmaxOf ty)
    t.csr c 0x021 = BitVec.ofNat 64 ty ∧ t.csr c 0x020 = BitVec.ofNat 64 vl ∧
      t.sreg c d = (if d = 0 then 0 else BitVec.ofNat 64 vl) ∧ t.pc c = s.pc c + 4 ∧ t.mem = s.mem ∧
      t.cpu.vregs = s.cpu.vregs := by
  intro t vl
  have hmax : ((s.vwake c).setCsr c 0x021 (BitVec.ofNat 64 ty)).vlmax c = vlmaxOf ty :=
    vlmax_of_vtype ((csr_setCsr ..).trans (if_pos rfl)) hty
  have ht : t = (((s.vwake c).setCsr c 0x021 (BitVec.ofNat 64 ty)).setCsr c 0x020 (BitVec.ofNat 64 vl)).scalarOp c d
      (BitVec.ofNat 64 vl) := by
    simp only [t, vl, State.vset, hmax, vwake_sreg]
  rw [ht]
  refine ⟨?_, ?_, scalarOp_sreg .., ?_, ?_, ?_⟩
  · rw [csr_of_csrs (scalarOp_csrs ..), csr_setCsr, if_neg (by omega), csr_setCsr, if_pos rfl]
  · rw [csr_of_csrs (scalarOp_csrs ..), csr_setCsr, if_pos rfl]
  · rw [scalarOp_pc, setCsr_pc, setCsr_pc, vwake_pc]
  · rw [scalarOp_mem, setCsr_mem, setCsr_mem, vwake_mem]
  · rw [scalarOp_vregs, setCsr_vregs, setCsr_vregs, vwake_vregs]

/-! ### Moves of registers -/

theorem zipIdx_map_range {α : Type} (n : Nat) (f : Nat → α) :
    ((List.range n).map f).zipIdx = (List.range n).map (fun i => (f i, i)) :=
  List.ext_getElem (by simp) (fun i _ _ => by simp)

/-- Registers written one after the other, from register `d` on. -/
def State.setVregs (s : State) (c d : Nat) (f : Nat → W512) (is : List Nat) : State :=
  is.foldl (fun s i => s.setVreg c (d + i) (f i)) s

theorem vreg_setVregs (d : Nat) (f : Nat → W512) (is : List Nat) (v : Nat) :
    (s.setVregs c d f is).vreg c v = if d ≤ v ∧ v - d ∈ is then f (v - d) else s.vreg c v := by
  induction is generalizing s with
  | nil => simp [State.setVregs]
  | cons i is ih =>
    have hstep : s.setVregs c d f (i :: is) = (s.setVreg c (d + i) (f i)).setVregs c d f is := rfl
    rw [hstep, ih, vreg_setVreg]
    by_cases hv : v = d + i
    · subst hv
      simp
    · have hne : d ≤ v → v - d ≠ i := by omega
      by_cases hd : d ≤ v
      · simp [hd, hv, hne hd]
      · simp [hd, hv]

theorem setVregs_leaves (d : Nat) (f : Nat → W512) (is : List Nat) :
    (s.setVregs c d f is).mem = s.mem ∧ (s.setVregs c d f is).pc c = s.pc c :=
  ⟨foldl_keeps (·.mem) (fun (s : State) i => s.setVreg c (d + i) (f i)) (fun _ _ => rfl) is s,
    foldl_keeps (·.pc c) (fun (s : State) i => s.setVreg c (d + i) (f i)) (fun _ _ => rfl) is s⟩

theorem grpOk_of {v n : Nat} (hn : 0 < n) (hal : v % n = 0) (hin : v + n ≤ 32) : grpOk v n = true := by
  simp [grpOk, hn, hal, hin]

theorem vgroup_pos : 0 < s.vgroup c := Nat.two_pow_pos _

theorem vmvr_sizes {m : BitVec 6} (h : m = 1 ∨ m = 2 ∨ m = 4 ∨ m = 8) : [1, 2, 4, 8].contains m.toNat = true := by
  obtain rfl | rfl | rfl | rfl := h <;> rfl

/-- Settles O10: the CSRs VSETVL writes, then the element, the registers and the numbers that are moved. -/
theorem vectorConfigurationAndMoves : Obligations.VectorConfigurationAndMoves := by
  unfold Obligations.VectorConfigurationAndMoves
  intro s c d a b imm h n max_ vl g w i sets
  refine ⟨fun himm => vinstr_completes h (decide_eq_true himm) (vset_sets himm d a),
    fun himm => vinstr_illegal h (decide_eq_false (by omega)), ?_, fun hal hin => ?_, fun hal hin hi => ?_,
    fun m hm hd ha => ?_, fun hal hin hvl => ?_⟩
  · refine vinstr_completes h rfl ?_
    rw [vwake_sreg]
    exact vset_sets (Nat.mod_lt _ (by decide)) d a
  · refine vinstr_completes h (grpOk_of vgroup_pos hal hin) ⟨?_, ?_, ?_, ?_⟩
    · rw [scalarOp_pc, vwake_pc]
    · rw [scalarOp_mem, vwake_mem]
    · rw [scalarOp_vregs, vwake_vregs]
    · rw [scalarOp_sreg]
      simp only [vwake_sreg, vwake_sew, vwake_vlmax, vwake_velem]
      by_cases hd : d = 0
      · simp only [hd, if_true, true_or]
      · simp only [hd, if_false, false_or]
        rfl
  · refine vinstr_completes h (grpOk_of vgroup_pos hal hin) ?_
    have hbelow : ¬ s.vlmax c ≤ (s.sreg c b).toNat := not_le.mpr hi
    simp only [vwake_sreg, vwake_sew, vwake_vlmax, if_neg hbelow]
    refine ⟨by rw [retire_pc, setVelem_pc, vwake_pc], by rw [retire_mem, setVelem_mem, vwake_mem], ?_, fun v j _ _ hvj => ?_⟩
    · rw [velem_of_vregs retire_vregs, velem_setVelem sew_dvd, if_pos rfl]
    · rw [velem_of_vregs retire_vregs, velem_setVelem sew_dvd, if_neg hvj, vwake_velem]
  · refine vinstr_completes h (by rw [vmvr_sizes hm, hd, ha]; rfl) ?_
    simp only [vwake_vreg, zipIdx_map_range, List.foldl_map]
    obtain ⟨hmem, hpc⟩ := setVregs_leaves (s := s.vwake c) (c := c) d.toNat (fun i => s.vreg c (a.toNat + i))
      (List.range m.toNat)
    refine ⟨retire_pc.trans (congrArg (· + 4) (hpc.trans vwake_pc)), (retire_mem ..).trans (hmem.trans vwake_mem),
      fun v => ?_⟩
    rw [vreg_of_vregs retire_vregs]
    refine (vreg_setVregs (s := s.vwake c) d.toNat (fun i => s.vreg c (a.toNat + i)) (List.range m.toNat) v).trans ?_
    rw [vwake_vreg]
    exact if_congr (by rw [List.mem_range]; omega) rfl rfl
  · have hnum : ∃ t, exec (.vidx c d) s = .next t ∧ ElemsWritten s t c d.toNat w (List.range (s.vl c)) id :=
      vinstr_writes_elems h (grpOk_of vgroup_pos hal hin) sew_dvd (by simp only [vwake_sew, vwake_vl]; rfl)
    obtain ⟨t, ht, hwr⟩ := hnum
    refine ⟨t, ht, hwr.pc, hwr.mem, fun j _ => ?_⟩
    rw [hwr.elems]
    exact if_congr List.mem_range rfl rfl

end Sys2Proof.Machine

/-! Mask instructions (06_vector_extensions.md R201, R208, R213). -/

namespace Sys2Proof.Machine

variable {s t : State} {c : Nat}

theorem maskOk_of_lt {a : BitVec 5} (h : a.toNat < 8) : maskOk a = true := decide_eq_true h
theorem maskOk_of_le {a : BitVec 5} (h : 8 ≤ a.toNat) : maskOk a = false := decide_eq_false (by omega)

/-- A mask operation reads the masks as they were before it. -/
theorem vwake_maskOp (d a b : BitVec 5) (f : Bool → Bool → Bool) : (s.vwake c).maskOp c d a b f =
    ((s.vwake c).setMbits c d.toNat ((List.range (s.vl c)).map (fun i =>
      (i, f (s.mbit c a.toNat i) (s.mbit c b.toNat i))))).retire c := by
  simp only [State.maskOp, vwake_vl, vwake_mbit]

/-- A scalar result of a mask instruction. -/
theorem vwake_scalarOp_leaves (d : BitVec 5) (v : W64) : ((s.vwake c).scalarOp c d v).pc c = s.pc c + 4 ∧
    ((s.vwake c).scalarOp c d v).mem = s.mem ∧ ((s.vwake c).scalarOp c d v).cpu.vregs = s.cpu.vregs ∧
    ((s.vwake c).scalarOp c d v).cpu.mregs = s.cpu.mregs :=
  ⟨by rw [scalarOp_pc, vwake_pc], by rw [scalarOp_mem, vwake_mem], by rw [scalarOp_vregs, vwake_vregs],
    by rw [scalarOp_mregs, vwake_mregs]⟩

/-- The value of VMFIRST. -/
def firstBit (n : Nat) (x : Nat → Bool) : W64 :=
  match (List.range n).find? x with
  | some i => BitVec.ofNat 64 i
  | none => BitVec.allOnes 64

theorem firstBit_of_none {n : Nat} {x : Nat → Bool} (h : ∀ i, i < n → x i = false) : firstBit n x = BitVec.allOnes 64 := by
  have : (List.range n).find? x = none := List.find?_range_eq_none.mpr (fun i hi => by rw [h i hi]; rfl)
  rw [firstBit, this]

theorem firstBit_of_first {n k : Nat} {x : Nat → Bool} (hk : k < n) (hx : x k = true) (h : ∀ i, i < k → x i = false) :
    firstBit n x = BitVec.ofNat 64 k := by
  have : (List.range n).find? x = some k :=
    List.find?_range_eq_some.mpr ⟨hx, List.mem_range.mpr hk, fun i hi => by rw [h i hi]; rfl⟩
  rw [firstBit, this]

/-- Settles O11: the bits each instruction writes, its register fields, and the two scalar results. -/
theorem vectorMaskInstructions : Obligations.VectorMaskInstructions := by
  unfold Obligations.VectorMaskInstructions
  intro s c d a b imm h hvl x y gives
  have bits : ∀ {i : Instr} {f : Nat → Bool},
      (∃ t, exec i s = .next t ∧ BitsWritten s t c d.toNat (List.range (s.vl c)) f) →
        ∃ t, exec i s = .next t ∧ gives t f := by
    rintro i f ⟨t, ht, hw⟩
    exact ⟨t, ht, hw.pc, hw.mem, hw.vregs, sreg_of_sregs hw.sregs c,
      fun i hi => (hw.bits i hi).trans (if_congr List.mem_range rfl rfl), fun m hm _ => hw.others m hm⟩
  refine ⟨fun hd ha hb => ?_, fun hd => ?_, fun hbad => ?_, fun hd => vinstr_illegal h (maskOk_of_le hd), fun ha => ?_,
    fun ha => vinstr_completes h (maskOk_of_lt ha) ?_, fun ha => vinstr_completes h (maskOk_of_lt ha) ?_⟩
  · have hlegal : (maskOk d && maskOk a && maskOk b) = true := by
      rw [maskOk_of_lt hd, maskOk_of_lt ha, maskOk_of_lt hb]
      rfl
    exact ⟨bits (vinstr_writes_bits h hlegal (vwake_maskOp ..)), bits (vinstr_writes_bits h hlegal (vwake_maskOp ..)),
      bits (vinstr_writes_bits h hlegal (vwake_maskOp ..)), bits (vinstr_writes_bits h hlegal (vwake_maskOp ..))⟩
  · have hbit : bit imm.toNat 0 = imm.getLsbD 0 := by rw [bit_eq_testBit, BitVec.getLsbD]
    exact bits (vinstr_writes_bits h (maskOk_of_lt hd) (by simp only [vwake_vl, hbit]))
  · have hillegal : (maskOk d && maskOk a && maskOk b) = false := by
      obtain hbad | hbad | hbad := hbad <;> simp [maskOk_of_le hbad]
    simp only [List.forall_mem_cons]
    exact ⟨vinstr_illegal h hillegal, vinstr_illegal h hillegal, vinstr_illegal h hillegal, vinstr_illegal h hillegal,
      fun _ hi => absurd hi List.not_mem_nil⟩
  · simp only [List.forall_mem_cons]
    exact ⟨vinstr_illegal h (maskOk_of_le ha), vinstr_illegal h (maskOk_of_le ha), fun _ hi => absurd hi List.not_mem_nil⟩
  · simp only [vwake_vl, funext (vwake_mbit (s := s) (c := c) a.toNat)]
    obtain ⟨hpc, hmem, -, hmregs⟩ := vwake_scalarOp_leaves (s := s) (c := c) d
      (BitVec.ofNat 64 ((List.range (s.vl c)).filter (s.mbit c a.toNat)).length)
    exact ⟨hpc, hmem, hmregs, scalarOp_sreg ..⟩
  · simp only [vwake_vl, funext (vwake_mbit (s := s) (c := c) a.toNat)]
    obtain ⟨hpc, hmem, -, hmregs⟩ := vwake_scalarOp_leaves (s := s) (c := c) d (firstBit (s.vl c) (s.mbit c a.toNat))
    refine ⟨hpc, hmem, hmregs, fun hnone hd => ?_, fun k hk hx hbelow hd => ?_⟩
    · exact (scalarOp_sreg ..).trans ((if_neg hd).trans (firstBit_of_none hnone))
    · exact (scalarOp_sreg ..).trans ((if_neg hd).trans (firstBit_of_first hk hx hbelow))

end Sys2Proof.Machine

/-! Vector arithmetic and conversion (06_vector_extensions.md R201, R209 to R211, R222, R223). -/

namespace Sys2Proof.Machine

variable {s t : State} {c : Nat}

/-! ### Integer operations (R209) -/

/-- Whether a func is listed does not depend on the operands. -/
theorem vintOp_isSome (func w a b : Nat) : (vintOp func w a b).isSome = (vintOp func 8 0 0).isSome := by
  unfold vintOp
  split <;> rfl

theorem getD_of_isSome {α : Type} {o : Option α} (h : o.isSome = true) (x y : α) : o.getD x = o.getD y := by
  obtain ⟨v, rfl⟩ := Option.isSome_iff_exists.mp h
  rfl

theorem isShift_iff (fn : Nat) : (fn == 5 || fn == 6 || fn == 7) = decide (5 ≤ fn ∧ fn ≤ 7) := by
  rw [Bool.eq_iff_iff]
  simp only [Bool.or_eq_true, beq_iff_eq, decide_eq_true_eq]
  omega

/-! ### Conversions (R222, R223) -/

theorem cvtFmt_dvd {code w : Nat} {f : Option FFmt} (h : cvtFmt code = some (w, f)) : w ∣ 512 := by
  unfold cvtFmt at h
  split at h
  case h_11 => cases h
  all_goals
    cases h
    decide

/-- Counting changes CSRs alone. -/
theorem csrCount_leaves (n k : Nat) : (s.csrCount c n k).mem = s.mem ∧ (s.csrCount c n k).cpu.mregs = s.cpu.mregs ∧
    (s.csrCount c n k).cpu.vregs = s.cpu.vregs ∧ (s.csrCount c n k).pc c = s.pc c := by
  unfold State.csrCount
  split
  · exact ⟨rfl, rfl, rfl, rfl⟩
  · exact ⟨rfl, rfl, rfl, rfl⟩

/-- The counters of a conversion (R224). -/
def State.cvtCounts (s : State) (c : Nat) (cs : List Cnt) : State :=
  ((s.csrCount c 0x024 (countCnt .sat cs)).csrCount c 0x026 (countCnt .nan cs)).csrCount c 0x027 (countCnt .inf cs)

theorem cvtCounts_leaves (cs : List Cnt) : (s.cvtCounts c cs).mem = s.mem ∧ (s.cvtCounts c cs).cpu.mregs = s.cpu.mregs ∧
    (s.cvtCounts c cs).cpu.vregs = s.cpu.vregs ∧ (s.cvtCounts c cs).pc c = s.pc c := by
  obtain ⟨hmem, hmregs, hvregs, hpc⟩ := csrCount_leaves (s := s) (c := c) 0x024 (countCnt .sat cs)
  obtain ⟨hmem', hmregs', hvregs', hpc'⟩ :=
    csrCount_leaves (s := s.csrCount c 0x024 (countCnt .sat cs)) (c := c) 0x026 (countCnt .nan cs)
  obtain ⟨hmem'', hmregs'', hvregs'', hpc''⟩ := csrCount_leaves
    (s := (s.csrCount c 0x024 (countCnt .sat cs)).csrCount c 0x026 (countCnt .nan cs)) (c := c) 0x027 (countCnt .inf cs)
  exact ⟨hmem''.trans (hmem'.trans hmem), hmregs''.trans (hmregs'.trans hmregs), hvregs''.trans (hvregs'.trans hvregs),
    hpc''.trans (hpc'.trans hpc)⟩

/-- The active elements converted, counted and retired. -/
def State.convert (s : State) (c v w : Nat) (is : List Nat) (g : Nat → Nat × Cnt) : State :=
  ((s.setVelems c v w (is.map (fun i => (i, (g i).1)))).cvtCounts c (is.map (fun i => (g i).2))).retire c

theorem convert_writes {v w : Nat} (hw : w ∣ 512) (is : List Nat) (g : Nat → Nat × Cnt) :
    ElemsWritten s ((s.vwake c).convert c v w is g) c v w is (fun i => (g i).1) := by
  obtain ⟨hmem, hmregs, hpc⟩ := setVelems_leaves (s := s.vwake c) (c := c) v w (is.map (fun i => (i, (g i).1)))
  obtain ⟨hmem', hmregs', hvregs', hpc'⟩ := cvtCounts_leaves
    (s := (s.vwake c).setVelems c v w (is.map (fun i => (i, (g i).1)))) (c := c) (is.map (fun i => (g i).2))
  refine ⟨?_, ?_, ?_, fun i => ?_⟩
  · rw [State.convert, retire_pc, hpc', hpc, vwake_pc]
  · rw [State.convert, retire_mem, hmem', hmem, vwake_mem]
  · rw [State.convert, retire_mregs, hmregs', hmregs, vwake_mregs]
  · rw [State.convert, velem_of_vregs retire_vregs, velem_of_vregs hvregs', velem_setVelems hw v (fun i => (g i).1),
      vwake_velem]

/-- Groups of a conversion between widths `sw` and `dw` (R223). -/
def State.cvtOk (s : State) (c : Nat) (vd va : BitVec 5) (sw dw : Nat) : Bool :=
  let sn := cvtRegs (s.vgroup c) (s.sew c) sw
  let dn := cvtRegs (s.vgroup c) (s.sew c) dw
  decide (sn ≤ 8 ∧ dn ≤ 8) && grpOk va.toNat sn && grpOk vd.toNat dn && (sw == dw || !grpMeet vd.toNat dn va.toNat sn)

theorem exec_vcvt {c : Fin 256} {o : VOp} {sfmt dfmt : BitVec 4} {rnd : BitVec 3} {sw dw : Nat} {sf df : Option FFmt}
    (hs : cvtFmt sfmt.toNat = some (sw, sf)) (hd : cvtFmt dfmt.toNat = some (dw, df)) :
    exec (.vcvt c o.vd o.va sfmt dfmt rnd o.m o.mr) s = .next (s.vinstr c (s.cvtOk c o.vd o.va sw dw) (fun s =>
      s.convert c o.vd.toNat dw (s.actives c o) (fun i =>
        cvtElem (rmStrict rnd.toNat) sw sf dw df (s.velem c o.va.toNat sw i)))) := by
  change execVcvt c o.vd o.va sfmt dfmt rnd o.m o.mr s = _
  simp only [execVcvt, hs, hd, List.map_map]
  rfl

/-- Settles O12: each instruction writes the active elements, its operands read before; the conversion also counts. -/
theorem vectorArithmetic : Obligations.VectorArithmetic := by
  unfold Obligations.VectorArithmetic
  intro s c o h hvl w a on gives
  have elems : ∀ {i : Instr} {f : Nat → Nat},
      (∃ t, exec i s = .next t ∧ ElemsWritten s t c o.vd.toNat w (s.actives c o) f) →
        ∃ t, exec i s = .next t ∧ gives t w f := by
    rintro i f ⟨t, ht, hw⟩
    exact ⟨t, ht, hw.pc, hw.mem, hw.mregs, fun i _ => (hw.elems i).trans (if_congr mem_actives_iff rfl rfl)⟩
  refine ⟨fun src func hok hmerge hmove hlisted => ?_, fun src hok hm => ?_, fun scalar rnd func hok hfunc hsqrt => ?_,
    fun scalar rnd func hok hfunc => ?_, ?_⟩
  · have hne : func.toNat ≠ 0x0F := fun e => hmerge (BitVec.eq_of_toNat_eq e)
    have hmv : (func.toNat != 0x18 || o.va == 0) = true := by
      by_cases he : func = 0x18
      · simp [hmove he]
      · have : func.toNat ≠ 0x18 := fun e => he (BitVec.eq_of_toNat_eq e)
        simp [this]
    refine elems (vinstr_writes_elems h ?_ sew_dvd ?_)
    · rw [hok, ← vintOp_isSome func.toNat w 0 0, hlisted, hmv]
      simp [hne]
    · simp only [vwake_sew, vwake_velem, vwake_vsrc, vwake_actives, if_neg hne, isShift_iff]
      congr 3
      funext i
      rw [getD_of_isSome (hlisted _ _) _ 0]
  · have hmg : ∃ t, exec (.vectorIntegerOp c o src 0x0F) s = .next t ∧ ElemsWritten s t c o.vd.toNat w (List.range (s.vl c))
        (fun i => if s.mbit c o.mr.toNat i then s.vsrc c o.b src.toNat false w i else a i) := by
      refine vinstr_writes_elems h (by rw [hok, hm]; rfl) sew_dvd ?_
      simp only [vwake_sew, vwake_velem, vwake_vsrc, vwake_mbit, vwake_vl]
      rfl
    obtain ⟨t, ht, hw⟩ := hmg
    exact ⟨t, ht, hw.pc, hw.mem, hw.mregs, fun i _ => (hw.elems i).trans (if_congr List.mem_range rfl rfl)⟩
  · refine elems (vinstr_writes_elems h ?_ sew_dvd ?_)
    · by_cases he : func = 4
      · obtain ⟨hb, hsc⟩ := hsqrt he
        rw [hok, he, hb, hsc]
        rfl
      · have h4 : func.toNat ≠ 4 := fun e => he (BitVec.eq_of_toNat_eq e)
        have h7 : func.toNat ≠ 7 := by omega
        simp [hok, h4, h7]
    · simp only [vwake_sew, vwake_velem, vwake_vfsrc, vwake_actives]
      rfl
  · refine elems (vinstr_writes_elems h (by rw [hok, decide_eq_true hfunc]; rfl) sew_dvd ?_)
    simp only [vwake_sew, vwake_velem, vwake_vfsrc, vwake_actives]
    rfl
  · intro sfmt dfmt rnd sw dw sf df hs hd sn dn hsn hdn ha hv hmeet
    have hlegal : s.cvtOk c o.vd o.va sw dw = true := by
      have hapart : (sw == dw || !grpMeet o.vd.toNat dn o.va.toNat sn) = true := by
        by_cases hne : sw = dw
        · simp [hne]
        · simp [hmeet hne]
      simp only [Bool.and_eq_true, State.cvtOk]
      exact ⟨⟨⟨decide_eq_true ⟨hsn, hdn⟩, ha⟩, hv⟩, hapart⟩
    have hcvt : ∃ t, exec (.vcvt c o.vd o.va sfmt dfmt rnd o.m o.mr) s = .next t ∧
        ElemsWritten s t c o.vd.toNat dw (s.actives c o) (fun i =>
          (cvtElem (rmStrict rnd.toNat) sw sf dw df (s.velem c o.va.toNat sw i)).1) := by
      rw [exec_vcvt hs hd]
      refine vinstr_completes h hlegal ?_
      simp only [vwake_actives, vwake_velem]
      exact convert_writes (cvtFmt_dvd hd) _ _
    obtain ⟨t, ht, hw⟩ := hcvt
    exact ⟨t, ht, hw.pc, hw.mem, hw.mregs, fun i _ => (hw.elems i).trans (if_congr mem_actives_iff rfl rfl)⟩

end Sys2Proof.Machine

/-! Reductions and sums of absolute differences (06_vector_extensions.md R213 to R215). -/

namespace Sys2Proof.Machine

variable {s t : State} {c : Nat}

/-! ### Two's complement -/

theorem toSigned_mod (w v : Nat) : toSigned w (v % 2 ^ w) = toSigned w v := by simp only [toSigned, Nat.mod_mod]

theorem ofSigned_toSigned (w v : Nat) : ofSigned w (toSigned w v) = v % 2 ^ w := by
  have hlt : ((v % 2 ^ w : Nat) : Int) < 2 ^ w := by exact_mod_cast Nat.mod_lt v (Nat.two_pow_pos w)
  have hmod : ((v % 2 ^ w : Nat) : Int) % 2 ^ w = (v % 2 ^ w : Nat) := Int.emod_eq_of_lt (Int.natCast_nonneg _) hlt
  simp only [ofSigned, toSigned]
  split
  · rw [hmod, Int.toNat_natCast]
  · rw [Int.sub_emod_right, hmod, Int.toNat_natCast]

theorem toSigned_ofSigned_toSigned (w v : Nat) : toSigned w (ofSigned w (toSigned w v)) = toSigned w v := by
  rw [ofSigned_toSigned, toSigned_mod]

/-! ### Folds of a reduction -/

theorem foldl_add_mod (M : Nat) (a : Nat → Nat) (l : List Nat) (x : Nat) :
    l.foldl (fun acc i => (acc + a i) % M) x % M = (x + (l.map a).sum) % M := by
  induction l generalizing x with
  | nil => rfl
  | cons i l ih => rw [List.foldl_cons, ih, List.map_cons, List.sum_cons, Nat.mod_add_mod, Nat.add_assoc]

/-- A fold over patterns whose operation picks one of its signed operands is the fold over the signed numbers. -/
theorem foldl_signed {w : Nat} {pick : Int → Int → Int} (hpick : ∀ x y, pick x y = x ∨ pick x y = y) (a : Nat → Nat)
    (l : List Nat) (x : Nat) : l.foldl (fun acc i => ofSigned w (pick (toSigned w acc) (toSigned w (a i)))) x % 2 ^ w =
      ofSigned w (l.foldl (fun m i => pick m (toSigned w (a i))) (toSigned w x)) % 2 ^ w := by
  induction l generalizing x with
  | nil => rw [List.foldl_nil, List.foldl_nil, ofSigned_toSigned, Nat.mod_mod]
  | cons i l ih =>
    have hkeep : toSigned w (ofSigned w (pick (toSigned w x) (toSigned w (a i)))) = pick (toSigned w x) (toSigned w (a i)) := by
      obtain h | h := hpick (toSigned w x) (toSigned w (a i)) <;> rw [h, toSigned_ofSigned_toSigned]
    rw [List.foldl_cons, List.foldl_cons, ih, hkeep]

/-- A reduction of a woken unit whose VL is not 0 writes element 0 alone. -/
theorem vwake_reduce (hvl : 0 < s.vl c) (o : VOp) (f : Nat → Nat → Nat) : (s.vwake c).reduce c o f =
    ((s.vwake c).setVelems c o.vd.toNat (s.sew c) ([0].map (fun i => (i, (s.actives c o).foldl
      (fun acc i => f acc (s.velem c o.va.toNat (s.sew c) i)) (s.velem c o.b.toNat (s.sew c) 0))))).retire c := by
  simp only [State.reduce, vwake_vl, vwake_sew, vwake_actives, vwake_velem, if_neg (Nat.pos_iff_ne_zero.mp hvl)]
  rfl

/-- The integer operation that a reduction folds (R213). -/
def redOp (fn : Nat) : Nat :=
  match fn with
  | 0 => 0x00
  | 1 => 0x09
  | 2 => 0x08
  | 3 => 0x0B
  | _ => 0x0A

/-- The fold of a reduction over the active elements. -/
def State.redFold (s : State) (c : Nat) (o : VOp) (f : Nat → Nat → Nat) : Nat :=
  (s.actives c o).foldl (fun acc i => f acc (s.velem c o.va.toNat (s.sew c) i)) (s.velem c o.b.toNat (s.sew c) 0)

theorem vredsum_writes {c : Fin 256} {o : VOp} (h : SeqReady s c) (hvl : 0 < s.vl c)
    (ha : grpOk o.va.toNat (s.vgroup c) = true) {func : BitVec 5} (hf : func.toNat < 5) :
    ∃ t, exec (.vredsum c o 0 func) s = .next t ∧ ElemsWritten s t c o.vd.toNat (s.sew c) [0]
      (fun _ => s.redFold c o (fun x y => (vintOp (redOp func.toNat) (s.sew c) x y).getD x)) := by
  refine vinstr_writes_elems h (by rw [decide_eq_true hf, ha]; rfl) sew_dvd ?_
  rw [vwake_reduce hvl, vwake_sew]
  rfl

theorem vfredsum_writes {c : Fin 256} {o : VOp} (h : SeqReady s c) (hvl : 0 < s.vl c)
    (ha : grpOk o.va.toNat (s.vgroup c) = true) (hfp : fpSew (s.sew c) = true) :
    ∃ t, exec (.vfredsum c o 0) s = .next t ∧ ElemsWritten s t c o.vd.toNat (s.sew c) [0]
      (fun _ => s.redFold c o (fun x y => (vfmt (s.sew c)).ieee .rne
        (FV.add false ((vfmt (s.sew c)).decode x) ((vfmt (s.sew c)).decode y)))) := by
  refine vinstr_writes_elems h (by rw [hfp, ha]; rfl) sew_dvd ?_
  simp only [vwake_reduce hvl, vwake_sew]
  rfl

theorem vfredmax_writes {c : Fin 256} {o : VOp} (h : SeqReady s c) (hvl : 0 < s.vl c)
    (ha : grpOk o.va.toNat (s.vgroup c) = true) (hfp : fpSew (s.sew c) = true) {func : BitVec 5}
    (hf : func.toNat = 0x09 ∨ func.toNat = 0x0A) :
    ∃ t, exec (.vfredmax c o 0 func) s = .next t ∧ ElemsWritten s t c o.vd.toNat (s.sew c) [0]
      (fun _ => s.redFold c o (fun x y => (vfmt (s.sew c)).ieee .rne
        (if func.toNat = 0x09 then ((vfmt (s.sew c)).decode x).max ((vfmt (s.sew c)).decode y)
          else ((vfmt (s.sew c)).decode x).min ((vfmt (s.sew c)).decode y)))) := by
  refine vinstr_writes_elems h ?_ sew_dvd ?_
  · obtain hf | hf := hf <;> rw [hf, hfp, ha] <;> rfl
  · simp only [vwake_reduce hvl, vwake_sew]
    rfl

/-! ### Sums of four (R215) -/

/-- The places of sum `j` that count, as places of the sum or as elements of which it is the quarter. -/
theorem filter_four_perm (n j : Nat) (p : Nat → Bool) :
    (((List.range 4).map (4 * j + ·)).filter (fun i => decide (i < n) && p i)).Perm
      (((List.range n).filter p).filter (fun i => i / 4 == j)) := by
  refine (List.perm_ext_iff_of_nodup ?_ (List.nodup_range.filter _ |>.filter _)).mpr fun i => ?_
  · exact (List.nodup_range.map fun x y h => Nat.add_left_cancel h).filter _
  · simp only [List.mem_filter, List.mem_map, List.mem_range, Bool.and_eq_true, decide_eq_true_eq, beq_iff_eq]
    constructor
    · rintro ⟨⟨k, hk, rfl⟩, hn, hp⟩
      exact ⟨⟨hn, hp⟩, by omega⟩
    · rintro ⟨⟨hn, hp⟩, hj⟩
      exact ⟨⟨i % 4, by omega, by omega⟩, hn, hp⟩

theorem foldl_four_eq_sum (n j : Nat) (p : Nat → Bool) (f : Nat → Nat) :
    (((List.range 4).map (4 * j + ·)).filter (fun i => decide (i < n) && p i)).foldl (fun acc i => acc + f i) 0 =
      ((((List.range n).filter p).filter (fun i => i / 4 == j)).map f).sum := by
  rw [← ((filter_four_perm n j p).map f).sum_eq, List.sum_eq_foldl, List.foldl_map]

theorem natAbs_sub_eq (a b : Nat) : ((a : Int) - b).natAbs = (a - b) + (b - a) := by omega

/-- Settles O13: a reduction is its fold, a sum of absolute differences the sum over its four places. -/
theorem vectorReductionsAndSums : Obligations.VectorReductionsAndSums := by
  unfold Obligations.VectorReductionsAndSums
  intro s c o h hpos hvl w g on a first gives
  have red : ∀ {i : Instr} {v x : Nat}, v % 2 ^ w = x % 2 ^ w →
      (∃ t, exec i s = .next t ∧ ElemsWritten s t c o.vd.toNat w [0] (fun _ => v)) →
        ∃ t, exec i s = .next t ∧ gives t x := by
    rintro i v x hx ⟨t, ht, hw⟩
    exact ⟨t, ht, hw.pc, hw.mem, hw.mregs, (hw.elems 0).trans hx, fun i hi _ =>
      (hw.elems i).trans (if_neg (by simp; omega))⟩
  refine ⟨fun ha => ⟨red ?_ (vredsum_writes h hpos ha (by decide)), red ?_ (vredsum_writes h hpos ha (by decide)),
    red ?_ (vredsum_writes h hpos ha (by decide)), red ?_ (vredsum_writes h hpos ha (by decide)),
    red ?_ (vredsum_writes h hpos ha (by decide)), fun hw => ?_⟩, fun sg hok hw hva hvb => ?_⟩
  · exact foldl_add_mod ..
  · rfl
  · rfl
  · exact foldl_signed min_choice ..
  · exact foldl_signed max_choice ..
  · have hfp : fpSew w = true := by obtain hw | hw := hw <;> rw [hw] <;> rfl
    exact ⟨red rfl (vfredsum_writes h hpos ha hfp), red rfl (vfredmax_writes h hpos ha hfp (.inl rfl)),
      red rfl (vfredmax_writes h hpos ha hfp (.inr rfl))⟩
  · intro b diff
    have hdvd : 4 * w ∣ 512 := by obtain hw | hw := hw <;> rw [hw] <;> decide
    have hsew : (w == 8 || w == 16) = true := by obtain hw | hw := hw <;> rw [hw] <;> rfl
    have hsad : ∃ t, exec (.vsad c o 0 sg) s = .next t ∧ ElemsWritten s t c o.vd.toNat (4 * w)
        (List.range (ceilDiv (s.vl c) 4)) (fun j => (s.velem c o.vd.toNat (4 * w) j +
          ((on.filter (fun i => i / 4 == j)).map diff).sum) % 2 ^ (4 * w)) := by
      refine vinstr_writes_elems h ?_ hdvd ?_
      · have hok0 : s.viOk c o (0 : BitVec 2).toNat = true := hok
        rw [hok0, hva, hvb, hsew]
        rfl
      · simp only [vwake_sew, vwake_vl, vwake_velem, vwake_vsrc, vwake_active, foldl_four_eq_sum, natAbs_sub_eq]
        rfl
    obtain ⟨t, ht, hwr⟩ := hsad
    refine ⟨t, ht, hwr.pc, hwr.mem, fun j hj => ?_⟩
    have hmem : j ∈ List.range (ceilDiv (s.vl c) 4) := List.mem_range.mpr (by unfold ceilDiv; omega)
    rw [hwr.elems, if_pos hmem, Nat.mod_mod]

end Sys2Proof.Machine

/-! Permutes and compares (06_vector_extensions.md R201, R213). -/

namespace Sys2Proof.Machine

variable {s t : State} {c : Nat}

/-! ### Permutes -/

theorem slideBy_eq {src : BitVec 2} (b : BitVec 5) :
    s.slideBy c b src.toNat = if src = 1 then (s.sreg c b).toNat % 2 ^ 32 else b.toNat :=
  if_congr (by rw [← BitVec.toNat_inj]; rfl) rfl rfl

@[simp] theorem vwake_slideBy (b : BitVec 5) (src : Nat) : (s.vwake c).slideBy c b src = s.slideBy c b src := by
  simp only [State.slideBy, vwake_sreg]

/-- A check that only a vector operand (SRC 0) needs. -/
theorem src_ne_or {src : BitVec 2} {p : Bool} (h : src = 0 → p = true) : (src != 0 || p) = true := by
  by_cases hs : src = 0
  · rw [h hs, Bool.or_true]
  · rw [bne_iff_ne.mpr hs, Bool.true_or]

theorem src_ne_zero {src : BitVec 2} (h : src = 1 ∨ src = 2) : (src != 0) = true := by
  obtain rfl | rfl := h <;> rfl

/-- The elements of a list and their places. -/
theorem map_zipIdx_eq_range (l : List Nat) (f : Nat → Nat) :
    l.zipIdx.map (fun p => (p.2, f p.1)) = (List.range l.length).map (fun j => (j, f (l.getD j 0))) :=
  List.ext_getElem (by simp) (fun i h _ => by
    have hi : i < l.length := by simpa using h
    simp [hi])

/-- An element, or 0 for an index past VLMAX, at its width. -/
theorem ite_velem_mod (p : Prop) [Decidable p] (v w i : Nat) :
    (if p then 0 else s.velem c v w i) % 2 ^ w = if p then 0 else s.velem c v w i := by
  split
  · exact Nat.zero_mod _
  · exact velem_mod ..

section

variable {c : Fin 256} {o : VOp} {src : BitVec 2}

theorem vslideup_writes (h : SeqReady s c) (hsrc : src = 1 ∨ src = 2) (hok : s.viOk c o src.toNat = true)
    (hap : grpMeet o.vd.toNat (s.vgroup c) o.va.toNat (s.vgroup c) = false) :
    ∃ t, exec (.vslideup c o src) s = .next t ∧ ElemsWritten s t c o.vd.toNat (s.sew c)
      ((s.actives c o).filter (fun i => decide (s.slideBy c o.b src.toNat ≤ i)))
      (fun i => s.velem c o.va.toNat (s.sew c) (i - s.slideBy c o.b src.toNat)) := by
  refine vinstr_writes_elems h (by rw [hok, hap, src_ne_zero hsrc]; rfl) sew_dvd ?_
  simp only [vwake_slideBy, vwake_sew, vwake_actives, vwake_velem]

theorem vslidedn_writes (h : SeqReady s c) (hsrc : src = 1 ∨ src = 2) (hok : s.viOk c o src.toNat = true) :
    ∃ t, exec (.vslidedn c o src) s = .next t ∧ ElemsWritten s t c o.vd.toNat (s.sew c) (s.actives c o)
      (fun i => if s.vlmax c ≤ i + s.slideBy c o.b src.toNat then 0
        else s.velem c o.va.toNat (s.sew c) (i + s.slideBy c o.b src.toNat)) := by
  refine vinstr_writes_elems h (by rw [hok, src_ne_zero hsrc]; rfl) sew_dvd ?_
  simp only [vwake_slideBy, vwake_sew, vwake_actives, vwake_velem, vwake_vlmax]

theorem vgather_writes (h : SeqReady s c) (hok : s.viOk c o (0 : BitVec 2).toNat = true)
    (hva : grpMeet o.vd.toNat (s.vgroup c) o.va.toNat (s.vgroup c) = false)
    (hvb : grpMeet o.vd.toNat (s.vgroup c) o.b.toNat (s.vgroup c) = false) :
    ∃ t, exec (.vgather c o 0) s = .next t ∧ ElemsWritten s t c o.vd.toNat (s.sew c) (s.actives c o)
      (fun i => if s.vlmax c ≤ s.velem c o.b.toNat (s.sew c) i then 0
        else s.velem c o.va.toNat (s.sew c) (s.velem c o.b.toNat (s.sew c) i)) := by
  refine vinstr_writes_elems h (by rw [hok, hva, hvb]; rfl) sew_dvd ?_
  simp only [vwake_sew, vwake_actives, vwake_velem, vwake_vlmax]

theorem vcompress_writes (h : SeqReady s c) (hsrc : src.toNat < 3) (hd : grpOk o.vd.toNat (s.vgroup c) = true)
    (ha : grpOk o.va.toNat (s.vgroup c) = true) (hva : grpMeet o.vd.toNat (s.vgroup c) o.va.toNat (s.vgroup c) = false)
    (hvb : src = 0 → grpMeet o.vd.toNat (s.vgroup c) o.b.toNat (s.vgroup c) = false) :
    ∃ t, exec (.vcompress c o src) s = .next t ∧ ElemsWritten s t c o.vd.toNat (s.sew c)
      (List.range (s.actives c o).length)
      (fun j => s.velem c o.va.toNat (s.sew c) ((s.actives c o).getD j 0)) := by
  have hapart : (src != 0 || !grpMeet o.vd.toNat (s.vgroup c) o.b.toNat (s.vgroup c)) = true :=
    src_ne_or (fun hs => by rw [hvb hs]; rfl)
  refine vinstr_writes_elems h (by rw [decide_eq_true hsrc, hd, ha, hva, hapart]; rfl) sew_dvd ?_
  simp only [vwake_sew, vwake_actives, vwake_velem, map_zipIdx_eq_range]

/-! ### Compares -/

/-- The order or equality that VMFEQ, VMFLT and VMFLE test. -/
def vfcmp (fn : Nat) (x y : FV) : Bool :=
  match fn with
  | 0x1D => x.eqv y
  | 0x1E => x.lt y
  | _ => x.lt y || x.eqv y

theorem vmseq_writes (h : SeqReady s c) (hd : o.vd.toNat < 8) (ha : grpOk o.va.toNat (s.vgroup c) = true)
    (hsrc : src.toNat < 3) (hb : src = 0 → grpOk o.b.toNat (s.vgroup c) = true) {func : BitVec 5}
    (hf : 0x18 ≤ func.toNat ∧ func.toNat ≤ 0x1C) :
    ∃ t, exec (.vmseq c o src func) s = .next t ∧ BitsWritten s t c o.vd.toNat (s.actives c o) (fun i =>
      vcmp func.toNat (s.sew c) (s.velem c o.va.toNat (s.sew c) i) (s.vsrc c o.b src.toNat false (s.sew c) i)) := by
  refine vinstr_writes_bits h (by rw [decide_eq_true hf, maskOk_of_lt hd, ha, decide_eq_true hsrc, src_ne_or hb]; rfl) ?_
  simp only [vwake_sew, vwake_actives, vwake_velem, vwake_vsrc]

theorem vmfeq_writes (h : SeqReady s c) (hd : o.vd.toNat < 8) (ha : grpOk o.va.toNat (s.vgroup c) = true)
    (hsrc : src.toNat < 3) (hb : src = 0 → grpOk o.b.toNat (s.vgroup c) = true) (hfp : fpSew (s.sew c) = true)
    {func : BitVec 5} (hf : 0x1D ≤ func.toNat ∧ func.toNat ≤ 0x1F) :
    ∃ t, exec (.vmfeq c o src func) s = .next t ∧ BitsWritten s t c o.vd.toNat (s.actives c o) (fun i =>
      vfcmp func.toNat ((vfmt (s.sew c)).decode (s.velem c o.va.toNat (s.sew c) i))
        ((vfmt (s.sew c)).decode (s.vsrc c o.b src.toNat false (s.sew c) i))) := by
  refine vinstr_writes_bits h
    (by rw [decide_eq_true hf, maskOk_of_lt hd, ha, decide_eq_true hsrc, src_ne_or hb, hfp]; rfl) ?_
  simp only [vwake_sew, vwake_actives, vwake_velem, vwake_vsrc]
  rfl

end

/-- Settles O14: each permute and compare writes what R213 gives the active elements. -/
theorem vectorPermutesAndCompares : Obligations.VectorPermutesAndCompares := by
  unfold Obligations.VectorPermutesAndCompares
  intro s c o h hvl w g on a d ok
  refine ⟨?_, fun hok hva hvb => ?_, fun src hsrc hd ha hva hvb => ?_, ?_⟩
  · intro src hsrc hok n
    have hn : s.slideBy c o.b src.toNat = n := slideBy_eq o.b
    refine ⟨fun hap => ?_, ?_⟩
    · obtain ⟨t, ht, hw⟩ := vslideup_writes h hsrc hok hap
      refine ⟨t, ht, ⟨hw.pc, hw.mem⟩, fun i _ => (hw.elems i).trans ?_⟩
      rw [velem_mod, hn]
      exact if_congr (by rw [List.mem_filter, mem_actives_iff, decide_eq_true_eq]) rfl rfl
    · obtain ⟨t, ht, hw⟩ := vslidedn_writes h hsrc hok
      refine ⟨t, ht, ⟨hw.pc, hw.mem⟩, fun i _ => (hw.elems i).trans ?_⟩
      rw [ite_velem_mod, hn]
      exact if_congr mem_actives_iff rfl rfl
  · obtain ⟨t, ht, hw⟩ := vgather_writes h hok hva hvb
    refine ⟨t, ht, ⟨hw.pc, hw.mem⟩, fun i _ => (hw.elems i).trans ?_⟩
    rw [ite_velem_mod]
    exact if_congr mem_actives_iff rfl rfl
  · obtain ⟨t, ht, hw⟩ := vcompress_writes h hsrc hd ha hva hvb
    refine ⟨t, ht, ⟨hw.pc, hw.mem⟩, ?_⟩
    intro l j _
    refine (hw.elems j).trans ?_
    have hl : s.actives c o = l := rfl
    rw [velem_mod, hl]
    by_cases hj : j < l.length
    · rw [if_pos (List.mem_range.mpr hj), List.getElem?_eq_getElem hj, List.getD_eq_getElem _ _ hj]
    · rw [if_neg (mt List.mem_range.mp hj), List.getElem?_eq_none (not_lt.mp hj)]
  · intro src hd ha hsrc hb b bits_ sa sb x y
    have bits : ∀ {i : Instr} {f : Nat → Bool},
        (∃ t, exec i s = .next t ∧ BitsWritten s t c o.vd.toNat (s.actives c o) f) →
          ∃ t, exec i s = .next t ∧ bits_ t f := by
      rintro i f ⟨t, ht, hw⟩
      exact ⟨t, ht, ⟨hw.pc, hw.mem⟩, hw.vregs, fun i hi => (hw.bits i hi).trans (if_congr mem_actives_iff rfl rfl)⟩
    refine ⟨bits (vmseq_writes h hd ha hsrc hb (by decide)), bits (vmseq_writes h hd ha hsrc hb (by decide)),
      bits (vmseq_writes h hd ha hsrc hb (by decide)), bits (vmseq_writes h hd ha hsrc hb (by decide)),
      bits (vmseq_writes h hd ha hsrc hb (by decide)), fun hw => ?_⟩
    have hfp : fpSew (s.sew c) = true := by
      obtain hw | hw := hw <;> rw [show s.sew c = _ from hw] <;> rfl
    exact ⟨bits (vmfeq_writes h hd ha hsrc hb hfp (by decide)), bits (vmfeq_writes h hd ha hsrc hb hfp (by decide)),
      bits (vmfeq_writes h hd ha hsrc hb hfp (by decide))⟩

end Sys2Proof.Machine

/-! Vector loads and stores and the power-down of the unit (06_vector_extensions.md R216 to R221, R225). -/

namespace Sys2Proof.Machine

variable {s t : State} {c : Nat} {o : VOp}

/-! ### Accesses (R216, R218) -/

@[simp] theorem vwake_vaddr (mop nf i f : Nat) : (s.vwake c).vaddr c o mop nf i f = s.vaddr c o mop nf i f := by
  simp only [State.vaddr, vwake_sew, vwake_sreg, vwake_velem]

@[simp] theorem vwake_vaccs (mop nf : Nat) : (s.vwake c).vaccs c o mop nf = s.vaccs c o mop nf := by
  simp only [State.vaccs, vwake_actives, vwake_vaddr]

theorem mem_vaccs {mop nf : Nat} {p : Nat × Nat × W64} : p ∈ s.vaccs c o mop nf ↔
    p.1 ∈ s.actives c o ∧ p.2.1 < nf ∧ p.2.2 = s.vaddr c o mop nf p.1 p.2.1 := by
  obtain ⟨i, f, a⟩ := p
  simp only [State.vaccs, List.mem_flatMap, List.mem_map, List.mem_range, Prod.mk.injEq]
  constructor
  · rintro ⟨i, hi, f, hf, rfl, rfl, rfl⟩
    exact ⟨hi, hf, rfl⟩
  · rintro ⟨hi, hf, rfl⟩
    exact ⟨i, hi, f, hf, rfl, rfl, rfl⟩

theorem vblocked_of_idle (h : s.loader c = []) (w : Nat) (as_ : List W64) : s.vblocked c w as_ = false := by
  rw [State.vblocked, h]
  rfl

/-- An access that is made: aligned, in the store, without poison. -/
def State.accOk (s : State) (c n : Nat) (a : W64) : Prop := csOk a n = true ∧ s.csPois c a.toNat n = false

theorem accOk_of {n : Nat} {a : W64} (h : a.toNat + n ≤ 2 ^ 21 ∧ a.toNat % n = 0 ∧ s.csPois c a.toNat n = false) :
    s.accOk c n a := by
  obtain ⟨hin, hal, hp⟩ := h
  exact ⟨(csOk_iff a n).mpr ⟨hin, hal⟩, hp⟩

theorem accOk_of_mem (h : t.mem = s.mem) {n : Nat} {a : W64} (ha : s.accOk c n a) : t.accOk c n a := by
  simpa only [State.accOk, State.csPois, h] using ha

/-! ### Loads -/

/-- Accesses loaded one after the other, each from its bytes in `m`. -/
def State.setAccs (s : State) (c v w g : Nat) (val : W64 → Nat) (l : List (Nat × Nat × W64)) : State :=
  l.foldl (fun s p => s.setVelem c (v + p.2.1 * g) w p.1 (val p.2.2)) s

/-- A load none of whose accesses faults. -/
theorem vloadGo_ok {w g : Nat} {l : List (Nat × Nat × W64)} (hmem : t.mem = s.mem)
    (hok : ∀ p ∈ l, s.accOk c (w / 8) p.2.2) :
    State.vloadGo c o w g {} l t =
      (t.setAccs c o.vd.toNat w g (fun a => leNat (s.csRead c a.toNat (w / 8))) l).retire c := by
  induction l generalizing t with
  | nil => rfl
  | cons p l ih =>
    obtain ⟨i, f, a⟩ := p
    obtain ⟨⟨hcs, hp⟩, hl⟩ := List.forall_mem_cons.mp hok
    have hread : t.csRead c a.toNat (w / 8) = s.csRead c a.toNat (w / 8) := by simp only [State.csRead, hmem]
    have hpt : t.csPois c a.toNat (w / 8) = false := by simpa only [State.csPois, hmem] using hp
    have hgo : State.vloadGo c o w g {} ((i, f, a) :: l) t = State.vloadGo c o w g {} l
        (t.setVelem c (o.vd.toNat + f * g) w i (leNat (s.csRead c a.toNat (w / 8)))) := by
      simp only [State.vloadGo, show csOk a (w / 8) = true from hcs, badWord_nil, hpt, coreCor_nil, hread,
        Bool.not_true, Bool.false_eq_true, if_false]
    rw [hgo, ih ((setVelem_mem ..).trans hmem) hl]
    rfl

theorem setAccs_keeps {β : Type} (p : State → β) (h : ∀ s v x, p (s.setVreg c v x) = p s) (v w g : Nat) (val : W64 → Nat)
    (l : List (Nat × Nat × W64)) : p (s.setAccs c v w g val l) = p s :=
  foldl_keeps p (fun (s : State) (q : Nat × Nat × W64) => s.setVelem c (v + q.2.1 * g) w q.1 (val q.2.2)) (fun _ _ => h ..) l s

/-- Elements of the groups of a structure stand at places of their own. -/
theorem field_place_eq_iff {g n v i j f e : Nat} (hi : i < g * n) (hj : j < g * n) :
    (v + f * g) * n + i = (v + e * g) * n + j ↔ f = e ∧ i = j := by
  constructor
  · intro h
    have h' : i + g * n * f = j + g * n * e := by
      have hx : (v + f * g) * n + i = v * n + (i + g * n * f) := by ring
      have hy : (v + e * g) * n + j = v * n + (j + g * n * e) := by ring
      omega
    have hpos : 0 < g * n := by omega
    have hdiv := congrArg (· / (g * n)) h'
    have hmod := congrArg (· % (g * n)) h'
    simp only [Nat.add_mul_div_left _ _ hpos, Nat.div_eq_of_lt hi, Nat.div_eq_of_lt hj, Nat.zero_add] at hdiv
    simp only [Nat.add_mul_mod_self_left, Nat.mod_eq_of_lt hi, Nat.mod_eq_of_lt hj] at hmod
    exact ⟨hdiv, hmod⟩
  · rintro ⟨rfl, rfl⟩
    rfl

/-- What a group holds after accesses whose addresses are those of their elements. -/
theorem velem_setAccs {w g : Nat} (hw : w ∣ 512) (v : Nat) (val : W64 → Nat) (addr : Nat → Nat → W64)
    {l : List (Nat × Nat × W64)} (hl : ∀ p ∈ l, p.1 < g * (512 / w) ∧ p.2.2 = addr p.1 p.2.1) {i f : Nat}
    (hi : i < g * (512 / w)) : (s.setAccs c v w g val l).velem c (v + f * g) w i =
      if (i, f, addr i f) ∈ l then val (addr i f) % 2 ^ w else s.velem c (v + f * g) w i := by
  induction l generalizing s with
  | nil => rfl
  | cons p l ih =>
    obtain ⟨j, e, a⟩ := p
    obtain ⟨⟨hj, ha⟩, hl'⟩ := List.forall_mem_cons.mp hl
    dsimp only at hj ha
    have hstep : s.setAccs c v w g val ((j, e, a) :: l) =
        (s.setVelem c (v + e * g) w j (val a)).setAccs c v w g val l := rfl
    rw [hstep, ih hl', velem_setVelem hw]
    by_cases hin : (i, f, addr i f) ∈ l
    · rw [if_pos hin, if_pos (List.mem_cons_of_mem _ hin)]
    · rw [if_neg hin]
      by_cases he : f = e ∧ i = j
      · obtain ⟨rfl, rfl⟩ := he
        rw [if_pos rfl, if_pos (by rw [ha]; exact List.mem_cons_self), ha]
      · rw [if_neg (fun h => he ((field_place_eq_iff hi hj).mp h)), if_neg]
        intro h
        obtain h | h := List.mem_cons.mp h
        · simp only [Prod.mk.injEq] at h
          exact he ⟨h.2.1, h.1⟩
        · exact hin h

theorem vlmax_eq : s.vlmax c = s.vgroup c * (512 / s.sew c) := Nat.mul_div_assoc _ sew_dvd

theorem leNat_csRead_lt (a : Nat) : leNat (s.csRead c a (s.sew c / 8)) < 2 ^ s.sew c := by
  have h : 256 ^ (s.sew c / 8) = 2 ^ s.sew c := by
    have hw : 8 * (s.sew c / 8) = s.sew c := Nat.mul_div_cancel' (Dvd.intro _ rfl)
    rw [show (256 : Nat) = 2 ^ 8 from rfl, ← Nat.pow_mul, hw]
  have := leNat_lt (s.csRead c a (s.sew c / 8))
  rwa [State.csRead, rdBytes_length, h] at this

/-- A load of accesses none of which faults, by the woken unit. -/
theorem vwake_vloadGo {addr : Nat → Nat → W64} {l : List (Nat × Nat × W64)}
    (hl : ∀ p ∈ l, p.1 < s.vlmax c ∧ p.2.2 = addr p.1 p.2.1) (hok : ∀ p ∈ l, s.accOk c (s.sew c / 8) p.2.2) :
    let t := State.vloadGo c o (s.sew c) (s.vgroup c) {} l (s.vwake c)
    t.pc c = s.pc c + 4 ∧ t.mem = s.mem ∧ (∀ n, n ≠ 0x028 → t.csr c n = s.csr c n) ∧ (t.core c).fault = (s.core c).fault ∧
      ∀ i f, i < s.vlmax c → t.velem c (o.vd.toNat + f * s.vgroup c) (s.sew c) i =
        if (i, f, addr i f) ∈ l then leNat (s.csRead c (addr i f).toNat (s.sew c / 8))
        else s.velem c (o.vd.toNat + f * s.vgroup c) (s.sew c) i := by
  intro t
  have ht : t = _ := vloadGo_ok vwake_mem hok
  rw [ht]
  refine ⟨?_, ?_, fun n hn => ?_, ?_, fun i f hi => ?_⟩
  · rw [retire_pc, setAccs_keeps (·.pc c) (fun _ _ _ => rfl), vwake_pc]
  · rw [retire_mem, setAccs_keeps (·.mem) (fun _ _ _ => rfl), vwake_mem]
  · rw [csr_of_csrs retire_csrs, setAccs_keeps (·.csr c n) (fun _ _ _ => rfl), vwake_csr hn]
  · rw [retire_core, setAccs_keeps (·.core c) (fun _ _ _ => rfl), vwake_core]
  · rw [vlmax_eq] at hl hi
    rw [velem_of_vregs retire_vregs, velem_setAccs sew_dvd _ _ addr hl hi, vwake_velem, Nat.mod_eq_of_lt (leNat_csRead_lt _)]

/-! ### Stores -/

theorem csPois_csWrite {n b : Nat} (bs : List Byte) {a : Nat} (h : s.csPois c a n = false) :
    (s.csWrite c b bs).csPois c a n = false := by
  simp only [State.csPois, isPoisoned_eq_false_iff] at h ⊢
  exact fun w hw hp => h w hw (List.mem_filter.mp hp).1

/-- Accesses stored one after the other. -/
def State.putAccs (s : State) (c n : Nat) (val : Nat → Nat → Nat) (l : List (Nat × Nat × W64)) : State :=
  l.foldl (fun s p => s.csWrite c p.2.2.toNat (natLe n (val p.1 p.2.1))) s

theorem putAccs_cpu (n : Nat) (val : Nat → Nat → Nat) (l : List (Nat × Nat × W64)) : (s.putAccs c n val l).cpu = s.cpu :=
  foldl_keeps (·.cpu) (fun (s : State) (p : Nat × Nat × W64) => s.csWrite c p.2.2.toNat (natLe n (val p.1 p.2.1)))
    (fun _ _ => rfl) l s

/-- A store none of whose accesses faults. -/
theorem vstoreGo_ok {w g : Nat} {l : List (Nat × Nat × W64)} (hvregs : t.cpu.vregs = s.cpu.vregs)
    (hok : ∀ p ∈ l, csOk p.2.2 (w / 8) = true) : State.vstoreGo c o w g l t =
      (t.putAccs c (w / 8) (fun i f => s.velem c (o.vd.toNat + f * g) w i) l).retire c := by
  induction l generalizing t with
  | nil => rfl
  | cons p l ih =>
    obtain ⟨i, f, a⟩ := p
    obtain ⟨hcs, hl⟩ := List.forall_mem_cons.mp hok
    have hgo : State.vstoreGo c o w g ((i, f, a) :: l) t = State.vstoreGo c o w g l
        (t.csWrite c a.toNat (natLe (w / 8) (s.velem c (o.vd.toNat + f * g) w i))) := by
      simp only [State.vstoreGo, show csOk a (w / 8) = true from hcs, velem_of_vregs hvregs, Bool.not_true, Bool.false_eq_true,
        if_false]
    rw [hgo, ih (t := t.csWrite c a.toNat _) hvregs hl]
    rfl

/-- A byte outside the accesses of a store stays. -/
theorem mget_putAccs_outside {n k : Nat} {val : Nat → Nat → Nat} {l : List (Nat × Nat × W64)}
    (hp : ∀ p ∈ l, s.csPois c p.2.2.toNat n = false)
    (hk : ∀ p ∈ l, k < csKey c p.2.2.toNat ∨ csKey c p.2.2.toNat + n ≤ k) :
    mget 0#8 (s.putAccs c n val l).mem.cs k = mget 0#8 s.mem.cs k := by
  induction l generalizing s with
  | nil => rfl
  | cons p l ih =>
    obtain ⟨hp0, hpl⟩ := List.forall_mem_cons.mp hp
    obtain ⟨hk0, hkl⟩ := List.forall_mem_cons.mp hk
    have hlen := natLe_length n (val p.1 p.2.1)
    have hstep : s.putAccs c n val (p :: l) = (s.csWrite c p.2.2.toNat (natLe n (val p.1 p.2.1))).putAccs c n val l := rfl
    rw [hstep, ih (fun q hq => csPois_csWrite _ (hpl q hq)) hkl, mget_csWrite (by rwa [hlen]), hlen, if_neg (by omega)]

/-- Aligned accesses at different addresses share no byte. -/
theorem aligned_apart {n a b j : Nat} (ha : a % n = 0) (hb : b % n = 0) (hne : a ≠ b) (hj : j < n) :
    a + j < b ∨ b + n ≤ a + j := by
  obtain ⟨x, rfl⟩ := Nat.dvd_of_mod_eq_zero ha
  obtain ⟨y, rfl⟩ := Nat.dvd_of_mod_eq_zero hb
  have hxy : x ≠ y := fun e => hne (by rw [e])
  rcases Nat.lt_or_gt_of_ne hxy with h | h
  · left
    have := Nat.mul_le_mul_left n (Nat.succ_le_of_lt h)
    rw [Nat.mul_succ] at this
    omega
  · right
    have := Nat.mul_le_mul_left n (Nat.succ_le_of_lt h)
    rw [Nat.mul_succ] at this
    omega

/-- Each access of a store whose addresses are aligned and differ leaves its bytes. -/
theorem mget_putAccs_inside {n j : Nat} {val : Nat → Nat → Nat} {l : List (Nat × Nat × W64)} (hj : j < n)
    (hp : ∀ p ∈ l, s.csPois c p.2.2.toNat n = false) (hal : ∀ p ∈ l, p.2.2.toNat % n = 0)
    (hinj : ∀ p ∈ l, ∀ q ∈ l, p.2.2 = q.2.2 → p = q) {p : Nat × Nat × W64} (hmem : p ∈ l) :
    mget 0#8 (s.putAccs c n val l).mem.cs (csKey c (p.2.2.toNat + j)) = BitVec.ofNat 8 (val p.1 p.2.1 / 256 ^ j) := by
  induction l generalizing s with
  | nil => exact absurd hmem List.not_mem_nil
  | cons q l ih =>
    obtain ⟨hp0, hpl⟩ := List.forall_mem_cons.mp hp
    obtain ⟨hal0, hall⟩ := List.forall_mem_cons.mp hal
    have hpl' : ∀ r ∈ l, (s.csWrite c q.2.2.toNat (natLe n (val q.1 q.2.1))).csPois c r.2.2.toNat n = false :=
      fun r hr => csPois_csWrite _ (hpl r hr)
    have hstep : s.putAccs c n val (q :: l) = (s.csWrite c q.2.2.toNat (natLe n (val q.1 q.2.1))).putAccs c n val l := rfl
    rw [hstep]
    by_cases hin : p ∈ l
    · exact ih hpl' hall (fun r hr r' hr' => hinj r (List.mem_cons_of_mem _ hr) r' (List.mem_cons_of_mem _ hr')) hin
    · obtain rfl : p = q := (List.mem_cons.mp hmem).resolve_right hin
      have hlen := natLe_length n (val p.1 p.2.1)
      rw [mget_putAccs_outside hpl', mget_csWrite (by rwa [hlen]), hlen, csKey_add, if_pos (by omega), Nat.add_sub_cancel_left,
        getD_natLe hj]
      intro r hr
      have hne : p.2.2.toNat ≠ r.2.2.toNat := fun e =>
        hin (hinj p hmem r (List.mem_cons_of_mem _ hr) (BitVec.eq_of_toNat_eq e) ▸ hr)
      have := aligned_apart hal0 (hall r hr) hne hj
      simp only [csKey]
      omega

/-- A store of accesses none of which faults, by the woken unit. -/
theorem vwake_vstoreGo {l : List (Nat × Nat × W64)} (hok : ∀ p ∈ l, s.accOk c (s.sew c / 8) p.2.2) :
    let t := State.vstoreGo c o (s.sew c) (s.vgroup c) l (s.vwake c)
    t.pc c = s.pc c + 4 ∧ t.cpu.vregs = s.cpu.vregs ∧
      ((∀ p ∈ l, ∀ q ∈ l, p.2.2 = q.2.2 → p = q) → ∀ p ∈ l, ∀ j, j < s.sew c / 8 →
        mget 0#8 t.mem.cs (csKey c (p.2.2.toNat + j)) =
          BitVec.ofNat 8 (s.velem c (o.vd.toNat + p.2.1 * s.vgroup c) (s.sew c) p.1 / 256 ^ j)) ∧
      ∀ k, (∀ p ∈ l, k < csKey c p.2.2.toNat ∨ csKey c p.2.2.toNat + s.sew c / 8 ≤ k) →
        mget 0#8 t.mem.cs k = mget 0#8 s.mem.cs k := by
  intro t
  have ht : t = _ := vstoreGo_ok (s := s) vwake_vregs (fun p hp => (hok p hp).1)
  have hpois : ∀ p ∈ l, (s.vwake c).csPois c p.2.2.toNat (s.sew c / 8) = false :=
    fun p hp => (accOk_of_mem vwake_mem (hok p hp)).2
  rw [ht]
  refine ⟨?_, ?_, fun hinj p hp j hj => ?_, fun k hk => ?_⟩
  · rw [retire_pc, State.pc, core_of_cpu (putAccs_cpu ..)]
    exact congrArg (· + 4) vwake_pc
  · rw [retire_vregs, putAccs_cpu, vwake_vregs]
  · rw [retire_mem]
    exact mget_putAccs_inside hj hpois (fun p hp => ((csOk_iff ..).mp (hok p hp).1).2) hinj hp
  · rw [retire_mem, mget_putAccs_outside hpois hk, vwake_mem]

end Sys2Proof.Machine

/-! First-fault loads and the power-down of the vector unit (06_vector_extensions.md R221, R225). -/

namespace Sys2Proof.Machine

variable {s t : State} {c : Nat} {o : VOp}

/-! ### First-fault loads (R221) -/

@[simp] theorem vwake_ffFault (a : W64) : (s.vwake c).ffFault c a = s.ffFault c a := by
  simp only [State.ffFault, vwake_sew, vwake_csr (n := 0x022) (by decide)]

theorem ffFault_eq_false_iff {a : W64} : s.ffFault c a = false ↔ csOk a (s.sew c / 8) = true ∧
    ((s.csr c 0x022).toNat = 0 ∨ a.toNat < (s.csr c 0x022).toNat) := by
  simp only [State.ffFault, Bool.or_eq_false_iff, Bool.not_eq_false', Bool.and_eq_false_iff, bne_eq_false_iff_eq,
    decide_eq_false_iff_not, not_le]

theorem ffFault_of {a : W64} (h : 2 ^ 21 < a.toNat + s.sew c / 8 ∨ a.toNat % (s.sew c / 8) ≠ 0 ∨
    0 < (s.csr c 0x022).toNat ∧ (s.csr c 0x022).toNat ≤ a.toNat) : s.ffFault c a = true := by
  rw [← Bool.not_eq_false, ffFault_eq_false_iff, csOk_iff]
  omega

/-- The address of element i of a unit-stride access of one field. -/
theorem vaddr_unit (i : Nat) : s.vaddr c o 0 1 i 0 = s.sreg c o.va + BitVec.ofNat 64 (i * (s.sew c / 8)) := by
  simp only [State.vaddr, Nat.mul_one, Nat.zero_mul, Nat.add_zero]

theorem vaccs_unit : s.vaccs c o 0 1 = (s.actives c o).map (fun i => (i, 0, s.vaddr c o 0 1 i 0)) := by
  have hone : ∀ i, (List.range 1).map (fun f => (i, f, s.vaddr c o 0 1 i f)) = [(i, 0, s.vaddr c o 0 1 i 0)] := fun _ => rfl
  simp only [State.vaccs, hone]
  exact List.flatMap_pure_eq_map ..

/-- The first faulting element. -/
theorem find_ffFault {k : Nat} (hk : k ∈ s.actives c o) (hfault : s.ffFault c (s.vaddr c o 0 1 k 0) = true)
    (hbelow : ∀ i, i < k → i ∈ s.actives c o → s.ffFault c (s.vaddr c o 0 1 i 0) = false) :
    (s.vaccs c o 0 1).find? (fun p => s.ffFault c p.2.2) = some (k, 0, s.vaddr c o 0 1 k 0) := by
  obtain ⟨hvl, hact⟩ := mem_actives.mp hk
  have hfind : (s.actives c o).find? (fun i => s.ffFault c (s.vaddr c o 0 1 i 0)) = some k := by
    rw [State.actives, List.find?_filter, List.find?_range_eq_some]
    refine ⟨by simp [hact, hfault], List.mem_range.mpr hvl, fun i hi => ?_⟩
    by_cases hai : s.active c o.m o.mr.toNat i = true
    · simp [hbelow i hi (mem_actives.mpr ⟨by omega, hai⟩)]
    · simp [hai]
  rw [vaccs_unit, List.find?_map]
  simp only [Function.comp_def, hfind, Option.map_some]

/-- A first-fault load of a woken unit that meets no fault. -/
theorem vloadFf_whole (hidle : s.loader c = []) (h : ∀ p ∈ s.vaccs c o 0 1, s.ffFault c p.2.2 = false) :
    (s.vwake c).vloadFf c o {} = State.vloadGo c o (s.sew c) (s.vgroup c) {} (s.vaccs c o 0 1) (s.vwake c) := by
  have hfind : (s.vaccs c o 0 1).find? (fun p => s.ffFault c p.2.2) = none :=
    List.find?_eq_none.mpr (fun p hp => by rw [h p hp]; exact Bool.false_ne_true)
  have hblock := vblocked_of_idle (s := s.vwake c) (c := c) (by rw [vwake_loader, hidle])
  simp only [State.vloadFf, vwake_vaccs, vwake_ffFault, vwake_sew, vwake_vgroup, hfind, hblock, Bool.false_eq_true, if_false]

/-- One that meets its first fault at an element k above 0, without a fault of the core. -/
theorem vloadFf_shortened (hidle : s.loader c = []) {k : Nat} {a : W64} (hk : k ≠ 0)
    (hfind : (s.vaccs c o 0 1).find? (fun p => s.ffFault c p.2.2) = some (k, 0, a))
    (hfault : ((State.vloadGo c o (s.sew c) (s.vgroup c) {} ((s.vaccs c o 0 1).filter (fun p => decide (p.1 < k)))
      (s.vwake c)).core c).fault = none) :
    (s.vwake c).vloadFf c o {} = (State.vloadGo c o (s.sew c) (s.vgroup c) {}
      ((s.vaccs c o 0 1).filter (fun p => decide (p.1 < k))) (s.vwake c)).setCsr c 0x020 (BitVec.ofNat 64 k) := by
  have hblock := vblocked_of_idle (s := s.vwake c) (c := c) (by rw [vwake_loader, hidle])
  simp only [State.vloadFf, vwake_vaccs, vwake_ffFault, vwake_sew, vwake_vgroup, hfind, hblock, hk, hfault, Bool.false_eq_true,
    if_false, Option.isSome_none]

theorem vgroup_le : s.vgroup c ≤ 8 :=
  Nat.pow_le_pow_right (n := 2) (by decide) (Nat.le_of_lt_succ (Nat.mod_lt _ (by decide : 4 > 0)))

theorem vmOk_firstFault (h : grpOk o.vd.toNat (s.vgroup c) = true) : s.vmOk c o 3 1 = true := by
  have hin : o.vd.toNat + s.vgroup c ≤ 32 := by
    simp only [grpOk, Bool.and_eq_true, decide_eq_true_eq] at h
    exact h.2
  simp [State.vmOk, h, vgroup_le, hin]

/-- A first-fault load whose accesses below element k are made, where k is VL or the first element above 0 to fault. -/
theorem vwake_vloadFf (hidle : s.loader c = []) (hfault : (s.core c).fault = none) (hvl : s.vl c ≤ s.vlmax c) {k : Nat}
    (hbelow : ∀ i, i < k → i ∈ s.actives c o →
      s.accOk c (s.sew c / 8) (s.vaddr c o 0 1 i 0) ∧ s.ffFault c (s.vaddr c o 0 1 i 0) = false)
    (hk : k = s.vl c ∨ 0 < k ∧ k ∈ s.actives c o ∧ s.ffFault c (s.vaddr c o 0 1 k 0) = true) :
    let t := (s.vwake c).vloadFf c o {}
    t.pc c = s.pc c + 4 ∧ t.mem = s.mem ∧ (k ∈ s.actives c o → t.csr c 0x020 = BitVec.ofNat 64 k) ∧
      (k = s.vl c → t.csr c 0x020 = s.csr c 0x020) ∧ ∀ i, i < s.vlmax c → t.velem c o.vd.toNat (s.sew c) i =
        if i ∈ s.actives c o ∧ i < k then leNat (s.csRead c (s.vaddr c o 0 1 i 0).toNat (s.sew c / 8))
        else s.velem c o.vd.toNat (s.sew c) i := by
  intro t
  have haccs : ∀ p ∈ s.vaccs c o 0 1, p.1 ∈ s.actives c o ∧ p.2.2 = s.vaddr c o 0 1 p.1 0 ∧
      p.2.2 = s.vaddr c o 0 1 p.1 p.2.1 := by
    intro p hp
    obtain ⟨hi, hf, ha⟩ := mem_vaccs.mp hp
    exact ⟨hi, by rw [ha, Nat.lt_one_iff.mp hf], ha⟩
  have hlt : ∀ {i}, i ∈ s.actives c o → i < s.vl c := fun hi => (mem_actives.mp hi).1
  have hmem : ∀ i, (i, 0, s.vaddr c o 0 1 i 0) ∈ s.vaccs c o 0 1 ↔ i ∈ s.actives c o := fun i =>
    mem_vaccs.trans ⟨fun hi => hi.1, fun hi => ⟨hi, Nat.one_pos, rfl⟩⟩
  have hzero : o.vd.toNat + 0 * s.vgroup c = o.vd.toNat := by rw [Nat.zero_mul, Nat.add_zero]
  obtain rfl | ⟨hpos, hact, hff⟩ := hk
  · have ht : t = _ := vloadFf_whole hidle (fun p hp => by
      obtain ⟨hi, ha, -⟩ := haccs p hp
      rw [ha]
      exact (hbelow p.1 (hlt hi) hi).2)
    obtain ⟨hpc, hmem', hcsr, -, helem⟩ := vwake_vloadGo (s := s) (c := c) (o := o) (addr := s.vaddr c o 0 1)
      (l := s.vaccs c o 0 1) (fun p hp => ⟨(hlt (haccs p hp).1).trans_le hvl, (haccs p hp).2.2⟩) (fun p hp => by
        obtain ⟨hi, ha, -⟩ := haccs p hp
        rw [ha]
        exact (hbelow p.1 (hlt hi) hi).1)
    rw [ht]
    refine ⟨hpc, hmem', fun hin => absurd (hlt hin) (Nat.lt_irrefl _), fun _ => hcsr 0x020 (by decide), fun i hi => ?_⟩
    have he := helem i 0 hi
    rw [hzero] at he
    rw [he]
    exact if_congr ((hmem i).trans (iff_self_and.mpr hlt)) rfl rfl
  · have hkeep : ∀ p, p ∈ (s.vaccs c o 0 1).filter (fun p => decide (p.1 < k)) ↔ p ∈ s.vaccs c o 0 1 ∧ p.1 < k := fun p => by
      rw [List.mem_filter, decide_eq_true_eq]
    obtain ⟨hpc, hmem', -, hcore, helem⟩ := vwake_vloadGo (s := s) (c := c) (o := o) (addr := s.vaddr c o 0 1)
      (l := (s.vaccs c o 0 1).filter (fun p => decide (p.1 < k)))
      (fun p hp => by
        obtain ⟨hi, -, ha⟩ := haccs p ((hkeep p).mp hp).1
        exact ⟨(hlt hi).trans_le hvl, ha⟩)
      (fun p hp => by
        obtain ⟨hin, hpk⟩ := (hkeep p).mp hp
        obtain ⟨hi, ha, -⟩ := haccs p hin
        rw [ha]
        exact (hbelow p.1 hpk hi).1)
    have ht : t = _ := vloadFf_shortened hidle (Nat.pos_iff_ne_zero.mp hpos)
      (find_ffFault hact hff (fun i hi hai => (hbelow i hi hai).2)) (hcore.trans hfault)
    rw [ht]
    refine ⟨hpc, hmem', fun _ => (csr_setCsr ..).trans (if_pos rfl),
      fun he => absurd (hlt hact) (he ▸ Nat.lt_irrefl _), fun i hi => ?_⟩
    have he := helem i 0 hi
    rw [hzero] at he
    rw [velem_of_vregs (setCsr_vregs ..), he]
    exact if_congr ((hkeep _).trans (and_congr_left' (hmem i))) rfl rfl

/-! ### Power (R225) -/

/-- An awake unit that 4 local µs have passed without a vector instruction sleeps. -/
theorem vAsleep_of_idle (hhold : (s.csr c 0x023).toNat % 2 = 0) (hlast : (s.core c).vLast + 100 ≤ s.clk.now)
    (hwait : s.seqState c = 2 → (s.core c).wait ≠ .vector) : s.vAsleep c = true := by
  have hafter : s.after (s.core c).vLast (usec 4) = true := decide_eq_true hlast
  have hnot : (s.seqState c == 2 && (s.core c).wait == .vector) = false := by
    rw [Bool.and_eq_false_imp]
    intro h
    exact beq_eq_false_iff_ne.mpr (hwait (eq_of_beq h))
  simp [State.vAsleep, hhold, hafter, hnot]

theorem execVectorPowerDown_sleeps {c : Fin 256} (hawake : (s.core c).vAwake = true) (hasleep : s.vAsleep c = true) :
    exec (.vectorPowerDown c) s = .next (s.setCore c { s.core c with vAwake := false }) := by
  change execVectorPowerDown c s = _
  simp only [execVectorPowerDown, State.vSettle, hawake, hasleep, if_true]

/-! ### The statement -/

theorem leNat_csRead_eq (a n : Nat) : leNat (s.csRead c a n) =
    ((List.range n).map (fun j => (mget 0#8 s.mem.cs (csKey c (a + j))).toNat * 256 ^ j)).sum := by
  simp only [State.csRead, leNat_rdBytes, csKey_add]

section

variable {c : Fin 256} {mop nf : BitVec 2}

/-- A load of any form but first-fault. -/
theorem exec_vectorLoad (h : SeqReady s c) (hidle : s.loader c = [])
    (hlegal : s.vmOk c o mop.toNat (nf.toNat + 1) = true) (hmop : mop ≠ 3)
    (hmeet : mop = 2 → grpMeet o.vd.toNat (s.vgroup c) o.b.toNat (s.vgroup c) = false) :
    exec (.vectorLoad c o mop nf {}) s = .next (State.vloadGo c o (s.sew c) (s.vgroup c) {}
      (s.vaccs c o mop.toNat (nf.toNat + 1)) (s.vwake c)) := by
  have hapart : (mop != 2 || !grpMeet o.vd.toNat (s.vgroup c) o.b.toNat (s.vgroup c)) = true := by
    by_cases h2 : mop = 2
    · rw [hmeet h2, Bool.not_false, Bool.or_true]
    · rw [bne_iff_ne.mpr h2, Bool.true_or]
  have h3 : mop.toNat ≠ 3 := fun e => hmop (BitVec.eq_of_toNat_eq e)
  have hblock := vblocked_of_idle (s := s.vwake c) (c := c) (by rw [vwake_loader, hidle])
  change Host.Outcome.next _ = _
  rw [State.vinstr, instr_ready h, hlegal, hapart]
  simp only [Bool.and_self, if_true, if_neg h3, State.vload, vwake_vaccs, vwake_sew, vwake_vgroup, hblock, Bool.false_eq_true,
    if_false]

theorem exec_vectorStore (h : SeqReady s c) (hidle : s.loader c = [])
    (hlegal : s.vmOk c o mop.toNat (nf.toNat + 1) = true) (hmop : mop ≠ 3) :
    exec (.vectorStore c o mop nf) s = .next (State.vstoreGo c o (s.sew c) (s.vgroup c)
      (s.vaccs c o mop.toNat (nf.toNat + 1)) (s.vwake c)) := by
  have hblock := vblocked_of_idle (s := s.vwake c) (c := c) (by rw [vwake_loader, hidle])
  change Host.Outcome.next _ = _
  rw [State.vinstr, instr_ready h, hlegal, bne_iff_ne.mpr hmop]
  simp only [Bool.and_self, if_true, vwake_vaccs, vwake_sew, vwake_vgroup, hblock, Bool.false_eq_true, if_false]

theorem exec_firstFaultLoad (h : SeqReady s c) (hd : grpOk o.vd.toNat (s.vgroup c) = true) :
    exec (.firstFaultLoad c o 0 {}) s = .next ((s.vwake c).vloadFf c o {}) := by
  change Host.Outcome.next _ = _
  have hlegal : s.vmOk c o 3 ((0 : BitVec 2).toNat + 1) = true := vmOk_firstFault hd
  rw [State.vinstr, instr_ready h, hlegal, if_pos rfl]

end

/-- Settles O15: the accesses made one after the other, the first fault of a first-fault load, the unit's idle time. -/
theorem vectorMemoryAndPower : Obligations.VectorMemoryAndPower := by
  unfold Obligations.VectorMemoryAndPower
  intro s c o mop nf h hvl hidle w n g on at_ good sound byte raw legal unit
  have hraw : ∀ a : W64, leNat (s.csRead c a.toNat n) = raw a := fun a => leNat_csRead_eq a.toNat n
  have hacc : ∀ {i : Nat}, i ∈ s.actives c o ↔ on i = true := mem_actives_iff
  have hlt : ∀ {i : Nat}, i ∈ s.actives c o → i < s.vlmax c := fun hi => (mem_actives.mp hi).1.trans_le hvl
  have hmem : ∀ {i f : Nat}, (i, f, at_ i f) ∈ s.vaccs c o mop.toNat (nf.toNat + 1) ↔ on i = true ∧ f ≤ nf.toNat := by
    intro i f
    rw [mem_vaccs, hacc]
    exact ⟨fun ⟨hi, hf, _⟩ => ⟨hi, Nat.le_of_lt_succ hf⟩, fun ⟨hi, hf⟩ => ⟨hi, Nat.lt_succ_of_le hf, rfl⟩⟩
  have hsound : sound → ∀ p ∈ s.vaccs c o mop.toNat (nf.toNat + 1), good p.2.2 := by
    rintro hs p hp
    obtain ⟨hi, hf, ha⟩ := mem_vaccs.mp hp
    rw [ha]
    exact hs p.1 p.2.1 (hacc.mp hi) (Nat.le_of_lt_succ hf)
  refine ⟨fun ⟨hlegal, hmop⟩ hs hmeet => ?_, fun ⟨hlegal, hmop⟩ hs => ?_, fun k hd hbelow hk => ?_,
    fun u hawake hhold hlast hwait => ?_⟩
  · refine ⟨_, exec_vectorLoad h hidle hlegal hmop hmeet, ?_⟩
    obtain ⟨hpc, hmem', -, -, helem⟩ := vwake_vloadGo (s := s) (c := c) (o := o) (addr := at_)
      (fun p hp => ⟨hlt (mem_vaccs.mp hp).1, (mem_vaccs.mp hp).2.2⟩) (fun p hp => accOk_of (hsound hs p hp))
    refine ⟨hpc, hmem', fun i f hi hf => (helem i f hi).trans ?_⟩
    rw [← hraw]
    exact if_congr (hmem.trans (and_iff_left hf)) rfl rfl
  · refine ⟨_, exec_vectorStore h hidle hlegal hmop, ?_⟩
    obtain ⟨hpc, hvregs, hinside, houtside⟩ := vwake_vstoreGo (o := o) (fun p hp => accOk_of (hsound hs p hp))
    refine ⟨hpc, hvregs, fun hapart i f j hi hf hj => hinside (fun p hp q hq hpq => ?_) _ (hmem.mpr ⟨hi, hf⟩) j hj,
      fun k hk => houtside k (fun p hp => ?_)⟩
    · obtain ⟨hpi, hpf, hpa⟩ := mem_vaccs.mp hp
      obtain ⟨hqi, hqf, hqa⟩ := mem_vaccs.mp hq
      obtain ⟨hii, hff⟩ := hapart p.1 p.2.1 q.1 q.2.1 (hacc.mp hpi) (hacc.mp hqi) (Nat.le_of_lt_succ hpf)
        (Nat.le_of_lt_succ hqf) (hpa.symm.trans (hpq.trans hqa))
      exact Prod.ext hii (Prod.ext hff hpq)
    · obtain ⟨hi, hf, ha⟩ := mem_vaccs.mp hp
      rw [ha]
      exact hk p.1 p.2.1 (hacc.mp hi) (Nat.le_of_lt_succ hf)
  · have hunit : ∀ i, s.vaddr c o 0 1 i 0 = unit i := vaddr_unit
    refine ⟨_, exec_firstFaultLoad h hd, ?_⟩
    obtain ⟨hpc, hmem', hshort, hwhole, helem⟩ := vwake_vloadFf (o := o) hidle h.fault hvl (k := k)
      (fun i hi hai => by
        obtain ⟨hgood, hlimit⟩ := hbelow i hi (hacc.mp hai)
        have hok := accOk_of hgood
        rw [hunit]
        exact ⟨hok, ffFault_eq_false_iff.mpr ⟨hok.1, hlimit⟩⟩)
      (hk.imp_right (fun ⟨hpos, hon, hff⟩ => ⟨hpos, hacc.mpr hon, by rw [hunit]; exact ffFault_of hff⟩))
    refine ⟨hpc, hmem', fun hon => hshort (hacc.mpr hon), hwhole, fun i hi => (helem i hi).trans ?_⟩
    rw [hunit, ← hraw]
    exact if_congr ((and_congr_left' hacc).trans (by simp only [Bool.and_eq_true, decide_eq_true_eq])) rfl rfl
  · exact ⟨_, execVectorPowerDown_sleeps hawake (vAsleep_of_idle hhold hlast hwait), rfl, core_setCore_same _,
      fun d hd => core_setCore_ne _ (Fin.val_ne_of_ne hd)⟩

end Sys2Proof.Machine

/-! Records of a table (07_narrow_training_numerics.md R241, R242, R253, R257): bytes put over a record, the length of what a
read delivers, merges of posts at their keeper, LAYER_RESET. -/

namespace Sys2Proof.Machine

variable {s : State}

/-! ### Numbers put in bytes -/

theorem leNat_natLe (n v : Nat) : leNat (natLe n v) = v % 256 ^ n := by
  induction n generalizing v with
  | zero => simp [natLe, leNat, Nat.mod_one]
  | succ n ih => rw [natLe, leNat, ih, Nat.pow_succ', Nat.mod_mul, BitVec.toNat_ofNat]

@[simp] theorem slice_length (l : List Byte) (off n : Nat) : (slice l off n).length = n := by
  simp only [slice, List.length_append, List.length_replicate, List.length_take, List.length_drop]
  omega

theorem field_lt (l : List Byte) (off n : Nat) : field l off n < 256 ^ n := by
  have h := leNat_lt (slice l off n)
  rwa [slice_length] at h

/-- A field rests on its own bytes. -/
theorem field_congr {l m : List Byte} {off n : Nat} (h : ∀ k, off ≤ k → k < off + n → l[k]? = m[k]?) :
    field l off n = field m off n := by
  have hcut : (l.drop off).take n = (m.drop off).take n := by
    apply List.ext_getElem?
    intro i
    simp only [List.getElem?_take, List.getElem?_drop]
    split
    · exact h _ (by omega) (by omega)
    · rfl
  simp only [field, slice, hcut]

theorem splice_length {l b : List Byte} {off : Nat} (h : off + b.length ≤ l.length) :
    (splice l off b).length = l.length := by
  simp only [splice, List.length_append, slice_length, List.length_drop]
  omega

/-- The bytes beside those that were put. -/
theorem getElem?_splice_apart {l b : List Byte} {off k : Nat} (hoff : off ≤ l.length)
    (hk : k < off ∨ off + b.length ≤ k) : (splice l off b)[k]? = l[k]? := by
  have hslice : slice l 0 off = l.take off := by
    simp only [slice, List.drop_zero, List.length_take, Nat.min_eq_left hoff, Nat.sub_self,
      List.replicate_zero, List.append_nil]
  rw [splice, hslice, List.append_assoc]
  rcases hk with hk | hk
  · rw [List.getElem?_append_left (by rw [List.length_take]; omega), List.getElem?_take_of_lt hk]
  · have hlen : (l.take off).length = off := List.length_take_of_le hoff
    rw [List.getElem?_append_right (by omega), List.getElem?_append_right (by omega), List.getElem?_drop]
    congr 1
    omega

/-- The field that was put. -/
theorem field_splice_same (l b : List Byte) (off : Nat) : field (splice l off b) off b.length = leNat b := by
  have hcut : ((splice l off b).drop off).take b.length = b := by
    rw [splice, List.append_assoc, List.drop_left' (slice_length l 0 off), List.take_left]
  simp only [field, slice, hcut, Nat.sub_self, List.replicate_zero, List.append_nil]

theorem field_splice_natLe (l : List Byte) (off : Nat) {n v : Nat} (h : v < 256 ^ n) :
    field (splice l off (natLe n v)) off n = v := by
  have hput := field_splice_same l (natLe n v) off
  rwa [natLe_length, leNat_natLe, Nat.mod_eq_of_lt h] at hput

/-- A field apart from the bytes that were put. -/
theorem field_splice_apart {l b : List Byte} {off i n : Nat} (hoff : off ≤ l.length)
    (h : i + n ≤ off ∨ off + b.length ≤ i) : field (splice l off b) i n = field l i n :=
  field_congr fun k hi hn => getElem?_splice_apart hoff (by omega)

/-! ### The length of what a read delivers -/

theorem pieces_lengths {fuel a n : Nat} (h : n = 0 ∨ n + a % 256 ≤ 256 * fuel) (off : Nat) :
    ((pieces fuel off a n).map (fun p => p.2.2)).sum = n := by
  induction fuel generalizing off a n with
  | zero => simp only [pieces, List.map_nil, List.sum_nil]; omega
  | succ fuel ih =>
    rw [pieces]
    split
    · next hn => rw [hn]; rfl
    · rw [List.map_cons, List.sum_cons, ih (by omega)]
      exact Nat.add_sub_of_le (Nat.min_le_left _ _)

theorem grains_lengths (a n : Nat) : ((grains a n).map (fun p => p.2.2)).sum = n := pieces_lengths (.inr (by omega)) 0

theorem length_foldl_app {α : Type} (f : α → RdRes) (len : α → Nat) (h : ∀ a, (f a).bytes.length = len a) (l : List α)
    (r : RdRes) : (l.foldl (fun r a => r.app (f a)) r).bytes.length = r.bytes.length + (l.map len).sum := by
  induction l generalizing r with
  | nil => rfl
  | cons a l ih => rw [List.foldl_cons, ih, List.map_cons, List.sum_cons, RdRes.app, List.length_append, h, Nat.add_assoc]

@[simp] theorem rdKey_length (bad : List Nat) (key n : Nat) : (s.rdKey bad key n).bytes.length = n := by
  unfold State.rdKey
  split
  · exact List.length_replicate
  · exact rdBytes_length _ _ _

@[simp] theorem accRead_length (bad : List Nat) (acct va n : Nat) : (s.accRead bad acct va n).bytes.length = n := by
  refine (length_foldl_app _ (fun p => p.2.2) (fun p => ?_) _ _).trans ((Nat.zero_add _).trans (grains_lengths va n))
  split
  · exact rdKey_length _ _ _
  · exact List.length_replicate

@[simp] theorem recRead_length (bad : List Nat) (acct va n : Nat) : (s.recRead bad acct va n).bytes.length = n :=
  accRead_length _ _ _ _

/-! ### What a merge changes of a record (R241, R253) -/

/-- Bits 33:32 of LCAPT as the flags SAT and NONFIN. -/
theorem lcapt_flags (v : Nat) : b2n (bit v 32) + 2 * b2n (bit v 33) = v / 2 ^ 32 % 4 := by
  simp only [b2n, bit, decide_eq_true_eq, Nat.reducePow]
  split_ifs <;> omega

theorem lor_lt_byte {x y : Nat} (hx : x < 256) (hy : y < 4) : Nat.lor x y < 256 ^ 1 :=
  Nat.or_lt_two_pow (n := 8) hx (hy.trans (by decide))

theorem mergeLayer_eq (b : List Byte) (d : W64) : mergeLayer b d.toNat =
    splice b 4 (natLe 1 (Nat.lor (field b 4 1) (if d = 0 then 1 else if d = 1 then 3 else 0))) := by
  rcases eq_or_ne d 0 with rfl | h0
  · rfl
  rcases eq_or_ne d 1 with rfl | h1
  · rfl
  have hn0 : d.toNat ≠ 0 := fun h => h0 (BitVec.eq_of_toNat_eq h)
  have hn1 : d.toNat ≠ 1 := fun h => h1 (BitVec.eq_of_toNat_eq h)
  rw [if_neg h0, if_neg h1, mergeLayer]
  · exact hn0
  · exact hn1

/-- A watch outcome changes byte 4 of a layer record alone. -/
theorem mergeLayer_changes {b : List Byte} (hb : b.length = 16) (d : W64) : (mergeLayer b d.toNat).length = 16 ∧
    (∀ k, k ≠ 4 → (mergeLayer b d.toNat)[k]? = b[k]?) ∧
    field (mergeLayer b d.toNat) 4 1 = Nat.lor (field b 4 1) (if d = 0 then 1 else if d = 1 then 3 else 0) := by
  rw [mergeLayer_eq]
  refine ⟨(splice_length (by rw [natLe_length]; omega)).trans hb,
    fun k hk => getElem?_splice_apart (by omega) (by rw [natLe_length]; omega),
    field_splice_natLe _ _ (lor_lt_byte (field_lt b 4 1) ?_)⟩
  split_ifs <;> decide

/-- A capture changes bytes 64 to 68 of a ledger record alone. -/
theorem mergeLedger_changes {b : List Byte} (hb : b.length = 128) (d : W64) : (mergeLedger b d).length = 128 ∧
    (∀ k, k < 64 ∨ 68 < k → (mergeLedger b d)[k]? = b[k]?) ∧
    field (mergeLedger b d) 64 4 = max (field b 64 4) (d.toNat % 2 ^ 32) ∧
    field (mergeLedger b d) 68 1 = Nat.lor (field b 68 1) (d.toNat / 2 ^ 32 % 4) := by
  let b' := splice b 64 (natLe 4 (max (field b 64 4) (d.toNat % 2 ^ 32)))
  have heq : mergeLedger b d = splice b' 68 (natLe 1 (Nat.lor (field b 68 1) (d.toNat / 2 ^ 32 % 4))) := by
    rw [mergeLedger, lcapt_flags]
  have hb' : b'.length = 128 := (splice_length (by rw [natLe_length]; omega)).trans hb
  have hmax : max (field b 64 4) (d.toNat % 2 ^ 32) < 256 ^ 4 :=
    max_lt (field_lt b 64 4) (Nat.mod_lt _ (by decide))
  rw [heq]
  refine ⟨(splice_length (by rw [natLe_length]; omega)).trans hb', fun k hk => ?_, ?_,
    field_splice_natLe _ _ (lor_lt_byte (field_lt b 68 1) (Nat.mod_lt _ (by decide)))⟩
  · exact (getElem?_splice_apart (by omega) (by rw [natLe_length]; omega)).trans
      (getElem?_splice_apart (by omega) (by rw [natLe_length]; omega))
  · exact (field_splice_apart (by omega) (by omega)).trans (field_splice_natLe _ _ hmax)

/-! ### A post at its keeper (R241, R253) -/

/-- The size of the records of a post's kind. -/
def Post.recSize (p : Post) : Nat := if p.layer then 16 else 128

/-- How many records of a post's kind an account has. -/
def Post.recCount (p : Post) (a : Acct) : Nat := if p.layer then a.layerCount else a.ledgerCount

/-- The account address of a post's record. -/
def Post.recVa (p : Post) (a : Acct) : Nat := (if p.layer then a.layerVa else a.ledgerVa) + p.recSize * p.id

/-- VALID of a record of a post's kind. -/
def Post.recValid (p : Post) (b : List Byte) : Bool := if p.layer then layerValid b else ledgerValid b

/-- A post's record with the post merged. -/
def Post.merged (p : Post) (b : List Byte) : List Byte := if p.layer then mergeLayer b p.data.toNat else mergeLedger b p.data

/-- A post's kind in parameter 2 of code 0x2506. -/
def Post.kindWord (p : Post) : Nat := if p.layer then 2 else 1

/-- The merge of a post whose account is bound. -/
theorem mergePost_eq {p : Post} {a : Acct} (ha : s.acct p.account = some a) (dev : DevEvents) :
    let r := s.recRead dev.bad p.account (p.recVa a) p.recSize
    let v := (s.devAccess dev).takeUnc p.account r.fresh
    s.mergePost p dev = if p.recCount a ≤ p.id then s.note 0x2506 p.account p.id p.kindWord
      else if r.ok = false then v.note 0x2506 p.account p.id (p.kindWord + 4)
      else if p.recValid r.bytes = false then v.note 0x2506 p.account p.id p.kindWord
      else v.accWrite p.account (p.recVa a) (p.merged r.bytes) := by
  intro r v
  cases hl : p.layer <;>
    simp only [State.mergePost, ha, r, v, hl, Post.recVa, Post.recSize, Post.recCount, Post.recValid, Post.merged,
      Post.kindWord, Option.map_some, Option.getD_some, Bool.not_eq_true', Bool.false_eq_true, if_true, if_false] <;> rfl

/-- The next post of a kind: the first that the die keeps. -/
theorem nextPost_of_first {die : Nat} {pre post : List Post} {p : Post} (hposts : s.train.posts = pre ++ p :: post)
    (hkeep : s.keeper p.id = some die) (hpre : ∀ q ∈ pre, q.layer = p.layer → s.keeper q.id ≠ some die) :
    s.nextPost die p.layer = some (pre.length, p) := by
  have hnone : pre.zipIdx.find? (fun q => q.1.layer == p.layer && s.keeper q.1.id == some die) = none := by
    rw [List.find?_eq_none]
    intro q hq hmatch
    simp only [Bool.and_eq_true, beq_iff_eq] at hmatch
    exact hpre q.1 (List.fst_mem_of_mem_zipIdx hq) hmatch.1 hmatch.2
  rw [State.nextPost, hposts, List.zipIdx_append, List.find?_append, hnone, Option.none_or, List.zipIdx_cons,
    List.find?_cons_of_pos (by simp only [hkeep, beq_self_eq_true, Bool.and_self]), Option.map_some, Nat.zero_add]

/-- A running dispatcher takes the first post of a kind that it keeps out of the queue and merges it. -/
theorem exec_merge {die : Fin 4} {pre post : List Post} {p : Post} (hrun : s.running = true) (hfw : s.fwRuns die = true)
    (hposts : s.train.posts = pre ++ p :: post) (hkeep : s.keeper p.id = some die.val)
    (hpre : ∀ q ∈ pre, q.layer = p.layer → s.keeper q.id ≠ some die.val) (dev : DevEvents) :
    exec (if p.layer = true then .layerOutcomeMerge die dev else .ledgerMerge die dev) s =
      .next ({ s with train := { s.train with posts := pre ++ post } }.mergePost p dev) := by
  have htake : s.takePost die p.layer dev = { s with train := { s.train with posts := pre ++ post } }.mergePost p dev := by
    simp only [State.takePost, hfw, Bool.not_true, Bool.false_eq_true, if_false, nextPost_of_first hposts hkeep hpre]
    rw [hposts, List.eraseIdx_append_of_length_le (Nat.le_refl _), Nat.sub_self, List.eraseIdx_cons_zero]
  have hexec : exec (if p.layer = true then .layerOutcomeMerge die dev else .ledgerMerge die dev) s =
      .next (s.working fun s => s.takePost die p.layer dev) := by
    cases p.layer <;> rfl
  rw [hexec, working_running hrun, htake]

/-- A record written from a state is the one change of the state it leaves. -/
theorem oneRecord_note (s : State) (c p0 p1 p2 : Nat) : OneRecord s (s.note c p0 p1 p2) [] c p0 p1 p2 :=
  oneRecord_of (onlyRegs_refl s [])

/-- A post merged changes the current-step bytes of its record alone. -/
theorem merged_changes (p : Post) {b : List Byte} (hb : b.length = p.recSize) : (p.merged b).length = p.recSize ∧
    (p.layer = true → (∀ k, k ≠ 4 → (p.merged b)[k]? = b[k]?) ∧ field (p.merged b) 4 1 =
      Nat.lor (field b 4 1) (if p.data = 0 then 1 else if p.data = 1 then 3 else 0)) ∧
    (p.layer = false → (∀ k, k < 64 ∨ 68 < k → (p.merged b)[k]? = b[k]?) ∧
      field (p.merged b) 64 4 = max (field b 64 4) (p.data.toNat % 2 ^ 32) ∧
      field (p.merged b) 68 1 = Nat.lor (field b 68 1) (p.data.toNat / 2 ^ 32 % 4)) := by
  cases hl : p.layer with
  | true =>
    simp only [Post.recSize, Post.merged, hl, if_true] at hb ⊢
    obtain ⟨hlen, hkeeps, hflags⟩ := mergeLayer_changes hb p.data
    exact ⟨hlen, fun _ => ⟨hkeeps, hflags⟩, nofun⟩
  | false =>
    simp only [Post.recSize, Post.merged, hl, Bool.false_eq_true, if_false] at hb ⊢
    obtain ⟨hlen, hchanges⟩ := mergeLedger_changes hb p.data
    exact ⟨hlen, nofun, fun _ => hchanges⟩

/-! ### LAYER_RESET (R257) -/

theorem cmdGo_of_ready {slot : BitVec 10} {op acct : Nat} {b : List Byte} (h : CmdReady s slot op acct b)
    (f : Nat → List Byte → State → State) : s.cmdGo slot op f = f acct b s := by
  obtain ⟨hphase, hacct, hbytes⟩ := h
  have hgo : (!s.running && !(s.boot.phase == .fatal)) = false := by
    rcases hphase with hrun | hfatal
    · rw [hrun]; rfl
    · rw [hfatal, beq_self_eq_true, Bool.not_true, Bool.and_false]
  simp only [State.cmdGo, hgo, Bool.false_eq_true, if_false, hacct, hbytes]

/-- A layer record that LAYER_RESET sets to a rung: WINDOW clear, RUNG set. -/
def resetLayer (b : List Byte) (rung : Nat) : List Byte :=
  splice (splice b 0 (natLe 2 0)) 2 (natLe 1 (field b 2 1 / 4 * 4 + rung))

theorem resetLayer_changes {b : List Byte} {rung : Nat} (hb : b.length = 16) (hrung : rung ≤ 3) :
    (resetLayer b rung).length = 16 ∧ field (resetLayer b rung) 0 2 = 0 ∧ field (resetLayer b rung) 2 1 % 4 = rung ∧
      ∀ k, 3 ≤ k → (resetLayer b rung)[k]? = b[k]? := by
  have hclear : (splice b 0 (natLe 2 0)).length = 16 := (splice_length (by rw [natLe_length]; omega)).trans hb
  have hbyte : field b 2 1 / 4 * 4 + rung < 256 ^ 1 := by have := field_lt b 2 1; omega
  refine ⟨(splice_length (by rw [natLe_length]; omega)).trans hclear, ?_, ?_, fun k hk => ?_⟩
  · exact (field_splice_apart (by omega) (by omega)).trans (field_splice_natLe _ _ (by decide))
  · rw [resetLayer, field_splice_natLe _ _ hbyte]
    omega
  · exact (getElem?_splice_apart (by omega) (by rw [natLe_length]; omega)).trans
      (getElem?_splice_apart (by omega) (by rw [natLe_length]; omega))

section
variable {slot : BitVec 10} {acct : Nat} {b : List Byte} (h : CmdReady s slot 0x09 acct b)
include h

/-- With no dispatcher for the layer's record the command stays outstanding. -/
theorem exec_layerReset_unkept (hkeep : s.keeper (field b 16 2) = none) : exec (.layerReset slot) s = .next s := by
  change execLayerReset slot s = _
  simp only [execLayerReset, cmdGo_of_ready h, hkeep]

theorem exec_layerReset_unbound (hkeep : s.keeper (field b 16 2) ≠ none) (hacct : s.acct acct = none) :
    exec (.layerReset slot) s = .next (s.cmdEnd slot.toNat 3 2) := by
  obtain ⟨d, hd⟩ := Option.ne_none_iff_exists'.mp hkeep
  change execLayerReset slot s = _
  simp only [execLayerReset, cmdGo_of_ready h, hd, hacct]

/-- The command of a bound account: its record is missing, or its rung does not fit, or the record is set to the rung. -/
theorem exec_layerReset_bound {a : Acct} (hkeep : s.keeper (field b 16 2) ≠ none) (hacct : s.acct acct = some a) :
    let r := s.recRead [] acct (a.layerVa + 16 * field b 16 2) 16
    exec (.layerReset slot) s = .next (
      if ¬ (field b 16 2 < a.layerCount ∧ r.ok = true ∧ layerValid r.bytes = true) then s.cmdEnd slot.toNat 3 2
      else if ¬ (field r.bytes 3 1 % 4 ≤ field b 18 1 ∧ field b 18 1 ≤ 3) then s.cmdEnd slot.toNat 3 1
      else ((s.accWrite acct (a.layerVa + 16 * field b 16 2) (resetLayer r.bytes (field b 18 1))).note 0x2502 acct
        (field b 16 2) (field b 18 1)).cmdEnd slot.toNat 0 0) := by
  intro r
  obtain ⟨d, hd⟩ := Option.ne_none_iff_exists'.mp hkeep
  change execLayerReset slot s = _
  simp only [execLayerReset, cmdGo_of_ready h, hd, hacct]
  refine congrArg Host.Outcome.next (if_congr ?_ rfl (if_congr ?_ rfl rfl))
  · simp only [Bool.or_eq_true, decide_eq_true_eq, Bool.not_eq_true', not_and_or, not_lt, Bool.not_eq_true, or_assoc, r]
  · rw [not_and_or, not_le, not_le]

end

/-! ### The statement -/

/-- Settles O44: the post taken from the queue meets one of the four ends of a merge, the command one of its ends. -/
theorem postsMergeAndLayersReset : Obligations.PostsMergeAndLayersReset := by
  unfold Obligations.PostsMergeAndLayersReset
  refine ⟨fun s die pre post p a dev hrun hfw hposts hkeep hacct hpre => ?_, fun s slot acct b h => ?_⟩
  · intro c n va count u r v valid kind
    have hmerge := mergePost_eq (s := u) hacct dev
    have ends : ∀ {t : State}, u.mergePost p dev = t → exec c s = .next t := fun ht =>
      (exec_merge hrun hfw hposts hkeep hpre dev).trans (congrArg Host.Outcome.next ht)
    refine ⟨fun hout => ?_, fun hin hbad => ?_, fun hin hok hinvalid => ?_, fun hin hok hvalid => ?_⟩
    · exact ⟨_, ends (hmerge.trans (if_pos hout)), oneRecord_note u _ _ _ _⟩
    · exact ⟨_, ends (hmerge.trans ((if_neg hin.not_ge).trans (if_pos hbad))), oneRecord_note v _ _ _ _⟩
    · have hread := hmerge.trans ((if_neg hin.not_ge).trans (if_neg (ne_false_of_eq_true hok)))
      exact ⟨_, ends (hread.trans (if_pos hinvalid)), oneRecord_note v _ _ _ _⟩
    · have hread := hmerge.trans ((if_neg hin.not_ge).trans (if_neg (ne_false_of_eq_true hok)))
      exact ⟨_, _, ends (hread.trans (if_neg (ne_false_of_eq_true hvalid))), rfl,
        merged_changes p (recRead_length _ _ _ _)⟩
  · intro layer rung
    refine ⟨fun hkeep => exec_layerReset_unkept h hkeep,
      fun hkeep hacct => ⟨_, exec_layerReset_unbound h hkeep hacct, rfl⟩, fun a hkeep hacct => ?_⟩
    intro va r found fits
    refine ⟨_, exec_layerReset_bound h hkeep hacct, fun hmissing => if_pos hmissing, fun hfound hmisfit => ?_,
      fun hfound hfits => ?_⟩
    · exact (if_neg (not_not.mpr hfound)).trans (if_pos hmisfit)
    · obtain ⟨hlen, hwindow, hrung, hkeeps⟩ := resetLayer_changes (recRead_length _ _ _ _ : r.bytes.length = 16) hfits.2
      exact ⟨_, hlen, hwindow, hrung, hkeeps, (if_neg (not_not.mpr hfound)).trans (if_neg (not_not.mpr hfits))⟩

end Sys2Proof.Machine

/-! Register elements (00_scope.md R13 to R18): which are apart, what setting and counting fields leaves of one, and frames of
states that differ in registers. -/

namespace Sys2Proof.Machine

variable {s t u : State}

/-- Elements of two registers of the table are two elements. -/
theorem regKey_ne {a b i x j y : Nat} (h : a + 1024 ≤ b ∨ b + 1024 ≤ a) (hi : i < 8) (hx : x < 128) (hj : j < 8)
    (hy : y < 128) : regKey a i x ≠ regKey b j y := by
  unfold regKey; omega

theorem dbkKeys_range : ∀ k ∈ dbkKeys, 120832 ≤ k ∧ k < 128000 := by decide

/-- Registers before and after the recorder's own. -/
theorem regKey_notin_dbkKeys {b i x : Nat} (h : b + 1024 ≤ 120832 ∨ 128000 ≤ b) (hi : i < 8) (hx : x < 128) :
    regKey b i x ∉ dbkKeys := fun hk => by
  have := dbkKeys_range _ hk
  unfold regKey at this; omega

/-- Two fields of one register that share no bit. -/
def Field.beside (f g : Field) : Bool :=
  f.ok && g.ok && decide (g.key = f.key ∧ (g.hi < f.lo ∨ f.hi < g.lo))

/-- Setting a field leaves a field beside it. -/
theorem rd_st_beside (s : State) (f g : Field) (v i x : Nat) (h : f.beside g = true) :
    (s.st f v i x).rd g i x = s.rd g i x := by
  simp only [Field.beside, Bool.and_eq_true, decide_eq_true_eq] at h
  obtain ⟨⟨hf, hg⟩, hkey, hapart⟩ := h
  simp only [Field.ok, decide_eq_true_eq] at hg
  exact rd_st_other s f g v i x hf hkey hapart hg.1

theorem Sets.refl (s : State) (k : Nat) : Sets s s k [] := rfl

/-- One more field set. -/
theorem Sets.st {f : Field} {i x : Nat} {l : List (Field × Nat)} (h : Sets s t (regKey f.key i x) l) (v : Nat) :
    Sets s (t.st f v i x) (regKey f.key i x) (l ++ [(f, v)]) := by
  have hput : (t.st f v i x).reg (regKey f.key i x) = putField (t.reg (regKey f.key i x)) f v := reg_setReg_same ..
  rw [Sets, hput, h, putFields, putFields, List.foldl_append]; rfl

/-- Registers elsewhere change. -/
theorem Sets.keep {k : Nat} {l : List (Field × Nat)} {m : List Nat} (h : Sets s t k l) (h' : RegsBut t u m) (hk : k ∉ m) :
    Sets s u k l := (h' k hk).trans h

theorem Sets.congr_left {k : Nat} {l : List (Field × Nat)} (h : Sets s t k l) (hs : u.reg k = s.reg k) : Sets u t k l :=
  h.trans (by rw [hs])

theorem OnlyRegs.inc {keys : List Nat} (h : OnlyRegs s t keys) (f : Field) (n i x : Nat) (hk : regKey f.key i x ∈ keys) :
    OnlyRegs s (t.inc f n i x) keys := h.st f _ i x hk

theorem OnlyRegs.step {keys : List Nat} (h : OnlyRegs s t keys) (h' : OnlyRegs t u keys) : OnlyRegs s u keys :=
  ⟨regsFrame_trans h.1 h'.1, h.2.step h'.2⟩

theorem OnlyRegs.mono {l m : List Nat} (h : OnlyRegs s t l) (hl : ∀ k, k ∈ l → k ∈ m) : OnlyRegs s t m := ⟨h.1, h.2.mono hl⟩

/-- Counting moves a field on up to its largest value. -/
theorem rd_inc_same (s : State) (f : Field) (n i x : Nat) (h : f.ok = true) :
    (s.inc f n i x).rd f i x = min (s.rd f i x + n) f.max := by
  have hpos := Nat.two_pow_pos (f.hi + 1 - f.lo)
  rw [State.inc, rd_st_same _ _ _ _ _ h, Nat.mod_eq_of_lt]
  unfold Field.max; omega

end Sys2Proof.Machine

/-! Lomef links (08_memory_tiers.md R297, 17_control_space_map.md R563): what a link that goes down, retrains or is lost leaves;
then the statement. -/

namespace Sys2Proof.Machine

variable {s : State}

/-! ### A link as registers -/

/-- The width at which a chip's link came up (R43). -/
theorem startWidth_eq (s : State) (chip : Nat) : s.startWidth chip = if (5, 0, chip) ∈ s.boot.degraded then 8 else 16 := by
  simp only [State.startWidth, List.contains_iff_mem]

/-- State and width of a chip's port. -/
def State.linkPort (s : State) (chip state width : Nat) : State :=
  (s.st F.PCI_PORT_STATE state 0 chip).st F.PCI_PORT_WIDTH width 0 chip

theorem linkPort_onlyRegs (s : State) (chip state width : Nat) :
    OnlyRegs s (s.linkPort chip state width) [regKey F.PCI_PORT_STATE.key 0 chip] :=
  ((onlyRegs_refl s _).st F.PCI_PORT_STATE state 0 chip (List.mem_singleton.mpr rfl)).st F.PCI_PORT_WIDTH width 0 chip
    (List.mem_singleton.mpr rfl)

theorem rd_linkPort_state (s : State) (chip width : Nat) {state : Nat} (h : state < 8) :
    (s.linkPort chip state width).rd F.PCI_PORT_STATE 0 chip = state := by
  rw [State.linkPort, rd_st_beside _ F.PCI_PORT_WIDTH F.PCI_PORT_STATE _ _ _ rfl, rd_st_same _ _ _ _ _ rfl]
  exact Nat.mod_eq_of_lt h

theorem rd_linkPort_width (s : State) (chip state : Nat) {width : Nat} (h : width < 32) :
    (s.linkPort chip state width).rd F.PCI_PORT_WIDTH 0 chip = width := by
  rw [State.linkPort, rd_st_same _ _ _ _ _ rfl]
  exact Nat.mod_eq_of_lt h

theorem rd_linkPort_retrains (s : State) (chip state width : Nat) :
    (s.linkPort chip state width).rd F.PCI_PORT_RETRAINS 0 chip = s.rd F.PCI_PORT_RETRAINS 0 chip :=
  (rd_st_beside _ F.PCI_PORT_WIDTH F.PCI_PORT_RETRAINS _ _ _ rfl).trans
    (rd_st_beside _ F.PCI_PORT_STATE F.PCI_PORT_RETRAINS _ _ _ rfl)

/-- The link that resumes at a width (R297). -/
def State.linkBack (s : State) (chip width : Nat) : State :=
  ((s.linkPort chip 2 width).st F.LMF_LINK_WIDTH width chip).inc F.LMF_LINK_RETRAINS 1 chip

/-- Registers of a lost chip's window but its status (R563). -/
def State.windowZeroed (s : State) (chip : Nat) : State :=
  ((((((s.st F.LMF_STEP_STEP 0 chip).st F.LMF_PROGRESS_ELEMENTS 0 chip).st F.LMF_MISMATCH_COUNT 0 chip).st
    F.LMF_VAULT_CE_COUNT 0 chip).st F.LMF_VAULT_UE_COUNT 0 chip).st F.LMF_LINK_WIDTH 0 chip).st F.LMF_LINK_RETRAINS 0 chip

/-- LOST alone in a chip's status (R563). -/
def State.statusLost (s : State) (chip : Nat) : State :=
  (s.setReg (regKey F.LMF_STATUS_LOST.key chip 0) 0).st F.LMF_STATUS_LOST 1 chip

/-- The registers of a share that is lost (R297, R563). -/
def State.shareGone (s : State) (chip : Nat) : State := ((s.linkPort chip 4 0).statusLost chip).windowZeroed chip

/-- Elements of a lost chip's window but its status. -/
def windowKeys (chip : Nat) : List Nat :=
  [regKey F.LMF_STEP_STEP.key chip 0, regKey F.LMF_PROGRESS_ELEMENTS.key chip 0, regKey F.LMF_MISMATCH_COUNT.key chip 0,
    regKey F.LMF_VAULT_CE_COUNT.key chip 0, regKey F.LMF_VAULT_UE_COUNT.key chip 0, regKey F.LMF_LINK_WIDTH.key chip 0]

theorem windowZeroed_onlyRegs (s : State) (chip : Nat) : OnlyRegs s (s.windowZeroed chip) (windowKeys chip) :=
  (((((((onlyRegs_refl s _).st F.LMF_STEP_STEP 0 chip 0 (by simp [windowKeys])).st F.LMF_PROGRESS_ELEMENTS 0 chip 0
    (by simp [windowKeys])).st F.LMF_MISMATCH_COUNT 0 chip 0 (by simp [windowKeys])).st F.LMF_VAULT_CE_COUNT 0 chip 0
    (by simp [windowKeys])).st F.LMF_VAULT_UE_COUNT 0 chip 0 (by simp [windowKeys])).st F.LMF_LINK_WIDTH 0 chip 0
    (by simp [windowKeys])).st F.LMF_LINK_RETRAINS 0 chip 0 (by simp [windowKeys, F.LMF_LINK_RETRAINS, F.LMF_LINK_WIDTH])

theorem windowKeys_range {chip k : Nat} (hc : chip < 8) (h : k ∈ windowKeys chip) : 61440 ≤ k ∧ k < 67584 := by
  simp only [windowKeys, List.mem_cons, List.not_mem_nil, or_false, regKey, F.LMF_STEP_STEP, F.LMF_PROGRESS_ELEMENTS,
    F.LMF_MISMATCH_COUNT, F.LMF_VAULT_CE_COUNT, F.LMF_VAULT_UE_COUNT, F.LMF_LINK_WIDTH] at h
  omega

theorem rd_windowZeroed_width (s : State) (chip : Nat) : (s.windowZeroed chip).rd F.LMF_LINK_WIDTH chip = 0 := by
  rw [State.windowZeroed, rd_st_beside _ F.LMF_LINK_RETRAINS F.LMF_LINK_WIDTH _ _ _ rfl,
    rd_st_same _ _ _ _ _ rfl]
  exact Nat.zero_mod _

theorem statusLost_onlyRegs (s : State) (chip : Nat) :
    OnlyRegs s (s.statusLost chip) [regKey F.LMF_STATUS_LOST.key chip 0] :=
  have h : OnlyRegs s (s.setReg (regKey F.LMF_STATUS_LOST.key chip 0) 0) [regKey F.LMF_STATUS_LOST.key chip 0] :=
    ⟨rfl, regsBut_setReg s _ _ (List.mem_singleton.mpr rfl)⟩
  h.st F.LMF_STATUS_LOST 1 chip 0 (List.mem_singleton.mpr rfl)

theorem rd_statusLost (s : State) (chip : Nat) :
    (s.statusLost chip).rd F.LMF_STATUS_LOST chip = 1 ∧ (s.statusLost chip).rd F.LMF_STATUS_READY chip = 0 := by
  refine ⟨rd_st_same _ _ _ _ _ rfl, ?_⟩
  rw [State.statusLost, rd_st_beside _ F.LMF_STATUS_LOST F.LMF_STATUS_READY _ _ _ rfl, State.rd,
    show F.LMF_STATUS_READY.key = F.LMF_STATUS_LOST.key from rfl, reg_setReg_same]
  rfl

/-! ### A share that is lost -/

theorem shareUp_eq_false_of_lost {c : Nat} (h : s.rd F.PCI_PORT_STATE 0 c = 4) : s.shareUp c = false := by
  simp only [State.shareUp, h]; rfl

theorem loseShare_of_up {chip : Nat} (h : s.shareUp chip = true) (width : Nat) :
    s.loseShare chip width = (s.shareGone chip).note 0x5101 chip width := by
  simp only [State.loseShare, h, Bool.not_true, Bool.false_eq_true, if_false]; rfl

/-- Elements that the loss of a share may change. -/
def lossKeys (chip : Nat) : List Nat :=
  regKey F.PCI_PORT_STATE.key 0 chip :: regKey F.LMF_STATUS_LOST.key chip 0 :: windowKeys chip

theorem shareGone_onlyRegs (s : State) (chip : Nat) : OnlyRegs s (s.shareGone chip) (lossKeys chip) :=
  (((linkPort_onlyRegs s chip 4 0).mono (by simp [lossKeys])).step ((statusLost_onlyRegs _ chip).mono (by simp [lossKeys]))).step
    ((windowZeroed_onlyRegs _ chip).mono (by simp +contextual [lossKeys]))

/-- A register outside the window keeps what the port's fields left. -/
theorem rd_shareGone_port (s : State) {chip : Nat} (hc : chip < 8) {f : Field} (hf : f.key = F.PCI_PORT_STATE.key) :
    (s.shareGone chip).rd f 0 chip = (s.linkPort chip 4 0).rd f 0 chip := by
  refine ((windowZeroed_onlyRegs _ chip).2.rd f 0 chip fun hk => ?_).trans
    ((statusLost_onlyRegs _ chip).2.rd f 0 chip (mt List.mem_singleton.mp ?_))
  · have := windowKeys_range hc hk
    simp only [hf, regKey, F.PCI_PORT_STATE] at this; omega
  · rw [hf]; exact regKey_ne (by decide) (by decide) (by omega) hc (by decide)

theorem rd_shareGone_status (s : State) {chip : Nat} (hc : chip < 8) {f : Field} (hf : f.key = F.LMF_STATUS_LOST.key) :
    (s.shareGone chip).rd f chip = ((s.linkPort chip 4 0).statusLost chip).rd f chip := by
  refine (windowZeroed_onlyRegs _ chip).2.rd f chip 0 fun hk => ?_
  have := windowKeys_range hc hk
  simp only [hf, regKey, F.LMF_STATUS_LOST] at this; omega

/-! ### The commands -/

theorem exec_pcieLinkDown (hup : s.up = true) {chip : Fin 8} (h : s.rd F.PCI_PORT_STATE 0 chip = 2) :
    exec (.pcieLinkDown chip) s = .next ((s.linkPort chip 3 0).st F.LMF_LINK_WIDTH 0 chip) := by
  change execPcieLinkDown chip s = _
  simp only [execPcieLinkDown, hup, h, BEq.rfl, Bool.and_self, if_true, State.linkPort]

theorem exec_pcieLinkDown_idle {chip : Fin 8} (h : s.rd F.PCI_PORT_STATE 0 chip ≠ 2) : exec (.pcieLinkDown chip) s = .next s := by
  change execPcieLinkDown chip s = _
  simp only [execPcieLinkDown, beq_eq_false_iff_ne.mpr h, Bool.and_false, Bool.false_eq_true, if_false]

theorem exec_pcieLinkRetrainEnd_idle {chip : Fin 8} (h : s.rd F.PCI_PORT_STATE 0 chip ≠ 3) (w ms : Nat) :
    exec (.pcieLinkRetrainEnd chip w ms) s = .next s := by
  change execPcieLinkRetrainEnd chip w ms s = _
  simp only [execPcieLinkRetrainEnd, bne_iff_ne.mpr h, Bool.or_true, if_true]

theorem exec_pcieLinkRetrainEnd (hup : s.up = true) {chip : Fin 8} (h : s.rd F.PCI_PORT_STATE 0 chip = 3) (w ms : Nat) :
    exec (.pcieLinkRetrainEnd chip w ms) s = .next (let u := s.inc F.PCI_PORT_RETRAINS 1 0 chip
      if w = s.startWidth chip ∧ ms ≤ 100 then (u.linkBack chip w).note 0x5102 chip ms
      else (u.shareGone chip).note 0x5101 chip (if ms ≤ 100 then w else 0)) := by
  have hshare : (s.inc F.PCI_PORT_RETRAINS 1 0 chip).shareUp chip = true := by
    rw [State.shareUp, State.inc, rd_st_beside _ F.PCI_PORT_RETRAINS F.PCI_PORT_STATE _ _ _ rfl, h]; rfl
  change execPcieLinkRetrainEnd chip w ms s = _
  simp only [execPcieLinkRetrainEnd, hup, h, bne_self_eq_false, Bool.not_true, Bool.or_self, Bool.false_eq_true, if_false,
    loseShare_of_up hshare]
  rfl

/-! ### The statement -/

/-- The width at which a link came up is a width of a port. -/
theorem startWidth_lt (s : State) (chip : Nat) : s.startWidth chip < 32 := by
  unfold State.startWidth; split <;> decide

section
variable {chip : Nat} (hc : chip < 8)
include hc

/-- A retraining counted, then the link back. -/
theorem linkBack_leaves {w : Nat} (hw : w < 32) : let t := (s.inc F.PCI_PORT_RETRAINS 1 0 chip).linkBack chip w
    OnlyRegs s t [regKey F.PCI_PORT_STATE.key 0 chip, regKey F.LMF_LINK_WIDTH.key chip 0, regKey F.PCI_PORT_RETRAINS.key 0 chip] ∧
      t.rd F.PCI_PORT_RETRAINS 0 chip = min (s.rd F.PCI_PORT_RETRAINS 0 chip + 1) F.PCI_PORT_RETRAINS.max ∧
      t.rd F.PCI_PORT_STATE 0 chip = 2 ∧ t.rd F.PCI_PORT_WIDTH 0 chip = w ∧ t.rd F.LMF_LINK_WIDTH chip = w := by
  intro t
  let u := s.inc F.PCI_PORT_RETRAINS 1 0 chip
  have hlink : RegsBut (u.linkPort chip 2 w) (u.linkBack chip w) [regKey F.LMF_LINK_WIDTH.key chip 0] :=
    (regsBut_st _ F.LMF_LINK_WIDTH w chip 0 (List.mem_singleton.mpr rfl)).step
      (regsBut_inc _ F.LMF_LINK_RETRAINS 1 chip 0 (List.mem_singleton.mpr rfl))
  have hport : ∀ f : Field, f.key = F.PCI_PORT_STATE.key →
      (u.linkBack chip w).rd f 0 chip = (u.linkPort chip 2 w).rd f 0 chip := fun f hf =>
    hlink.rd f 0 chip (mt List.mem_singleton.mp (by
      rw [hf]; exact regKey_ne (by decide) (by decide) (by omega) hc (by decide)))
  refine ⟨?_, ?_, ?_, ?_, ?_⟩
  · have hcount := (onlyRegs_refl s [regKey F.PCI_PORT_STATE.key 0 chip, regKey F.LMF_LINK_WIDTH.key chip 0,
      regKey F.PCI_PORT_RETRAINS.key 0 chip]).inc F.PCI_PORT_RETRAINS 1 0 chip (by simp)
    have hset := hcount.step ((linkPort_onlyRegs u chip 2 w).mono (by simp +contextual))
    exact (hset.st F.LMF_LINK_WIDTH w chip 0 (by simp)).inc F.LMF_LINK_RETRAINS 1 chip 0
      (List.mem_cons_of_mem _ (List.mem_cons_self ..))
  · exact (hport F.PCI_PORT_RETRAINS rfl).trans ((rd_linkPort_retrains u chip 2 w).trans
      (rd_inc_same s F.PCI_PORT_RETRAINS 1 0 chip rfl))
  · exact (hport F.PCI_PORT_STATE rfl).trans (rd_linkPort_state u chip w (by decide))
  · exact (hport F.PCI_PORT_WIDTH rfl).trans (rd_linkPort_width u chip 2 hw)
  · exact (rd_st_beside _ F.LMF_LINK_RETRAINS F.LMF_LINK_WIDTH _ _ _ rfl).trans
      ((rd_st_same _ F.LMF_LINK_WIDTH w chip 0 rfl).trans (Nat.mod_eq_of_lt hw))

/-- A retraining counted, then the share lost. -/
theorem shareGone_leaves : let t := (s.inc F.PCI_PORT_RETRAINS 1 0 chip).shareGone chip
    OnlyRegs s t (lossKeys chip) ∧
      t.rd F.PCI_PORT_RETRAINS 0 chip = min (s.rd F.PCI_PORT_RETRAINS 0 chip + 1) F.PCI_PORT_RETRAINS.max ∧
      t.rd F.PCI_PORT_STATE 0 chip = 4 ∧ t.rd F.PCI_PORT_WIDTH 0 chip = 0 ∧ t.rd F.LMF_STATUS_LOST chip = 1 ∧
      t.rd F.LMF_STATUS_READY chip = 0 ∧ t.rd F.LMF_LINK_WIDTH chip = 0 := by
  intro t
  let u := s.inc F.PCI_PORT_RETRAINS 1 0 chip
  refine ⟨?_, ?_, ?_, ?_, ?_, ?_, rd_windowZeroed_width _ chip⟩
  · exact ((onlyRegs_refl s _).inc F.PCI_PORT_RETRAINS 1 0 chip (List.mem_cons_self ..)).step (shareGone_onlyRegs u chip)
  · exact (rd_shareGone_port u hc (f := F.PCI_PORT_RETRAINS) rfl).trans ((rd_linkPort_retrains u chip 4 0).trans
      (rd_inc_same s F.PCI_PORT_RETRAINS 1 0 chip rfl))
  · exact (rd_shareGone_port u hc (f := F.PCI_PORT_STATE) rfl).trans (rd_linkPort_state u chip 0 (by decide))
  · exact (rd_shareGone_port u hc (f := F.PCI_PORT_WIDTH) rfl).trans (rd_linkPort_width u chip 4 (by decide))
  · exact (rd_shareGone_status u hc (f := F.LMF_STATUS_LOST) rfl).trans (rd_statusLost _ chip).1
  · exact (rd_shareGone_status u hc (f := F.LMF_STATUS_READY) rfl).trans (rd_statusLost _ chip).2

end

/-- A window whose share is down reads zero but for its status (R563). -/
theorem readReg_of_shareDown {chip : Nat} (h : s.shareUp chip = false) {r : RegInfo} (hp : r.page = 32)
    (hk : r.key ≠ F.LMF_STATUS_LOST.key) (x : Nat) : s.readReg r chip x = 0 := by
  simp only [State.readReg, hp, if_true, State.lomefReg, h, Bool.false_eq_true, if_false, hk, false_and]

/-- Settles O43: the port's state decides whether the command acts, the width and the time whether the link is back; what is
left is read off the fields that each end sets. -/
theorem lomefLinksRetrainOrAreLost : Obligations.LomefLinksRetrainOrAreLost := by
  unfold Obligations.LomefLinksRetrainOrAreLost
  intro s chip hup pci link up
  have hc : chip.val < 8 := chip.isLt
  have hwidth : s.startWidth chip = up := startWidth_eq s chip
  refine ⟨fun h => ⟨_, exec_pcieLinkDown hup h, ?_, ?_, ?_⟩, exec_pcieLinkDown_idle,
    fun w ms h => exec_pcieLinkRetrainEnd_idle h w ms,
    fun w ms h => ⟨_, exec_pcieLinkRetrainEnd hup h w ms, ?_⟩⟩
  · exact ((linkPort_onlyRegs s chip 3 0).mono (by simp +contextual [pci])).st F.LMF_LINK_WIDTH 0 chip 0 (by simp [link])
  · exact (((Sets.refl s pci).st 3).st (f := F.PCI_PORT_WIDTH) 0).keep
      (regsBut_st _ F.LMF_LINK_WIDTH 0 chip 0 (List.mem_singleton.mpr rfl))
      (mt List.mem_singleton.mp (regKey_ne (by decide) (by decide) (by omega) hc (by decide)))
  · refine ((Sets.refl _ link).st (f := F.LMF_LINK_WIDTH) 0).congr_left ((linkPort_onlyRegs s chip 3 0).2 link ?_).symm
    exact mt List.mem_singleton.mp (regKey_ne (by decide) hc (by decide) (by decide) (by omega))
  · have hnote : ∀ (v : State) (c p0 p1 : Nat) (f : Field), f.key = F.PCI_PORT_STATE.key →
        (v.note c p0 p1).rd f 0 chip = v.rd f 0 chip := fun v c p0 p1 f hf =>
      (note_regs c p0 p1 0).rd f 0 chip (hf ▸ regKey_notin_dbkKeys (by decide) (by decide) (by omega))
    have hwin : ∀ (v : State) (c p0 p1 : Nat) (f : Field), f.key + 1024 ≤ 120832 →
        (v.note c p0 p1).rd f chip = v.rd f chip := fun v c p0 p1 f hf =>
      (note_regs c p0 p1 0).rd f chip 0 (regKey_notin_dbkKeys (.inl hf) hc (by decide))
    by_cases hback : w = s.startWidth chip ∧ ms ≤ 100
    · obtain ⟨honly, hretrains, hstate, hw, hlw⟩ := linkBack_leaves (s := s) hc (hback.1 ▸ startWidth_lt s chip)
      have hone := oneRecord_of (c := 0x5102) (p0 := chip) (p1 := ms) (p2 := 0) honly
      rw [if_pos hback]
      refine ⟨(hnote _ _ _ _ F.PCI_PORT_RETRAINS rfl).trans hretrains, hone.1, fun hb => ⟨hone.2.1, ?_, ?_, ?_, hone.2.2⟩,
        fun hlost => ?_⟩
      · exact (hnote _ _ _ _ F.PCI_PORT_STATE rfl).trans hstate
      · exact (hnote _ _ _ _ F.PCI_PORT_WIDTH rfl).trans (hw.trans hb.1)
      · exact (hwin _ _ _ _ F.LMF_LINK_WIDTH (by decide)).trans (hlw.trans hb.1)
      · rw [hwidth] at hback
        exact absurd hback (fun hb => hlost.elim (fun hne => hne hb.1) (fun hgt => Nat.not_lt.mpr hb.2 hgt))
    · obtain ⟨honly, hretrains, hstate, hw, hlost, hready, hlw⟩ := shareGone_leaves (s := s) hc
      have hone := oneRecord_of (c := 0x5101) (p0 := chip) (p1 := if ms ≤ 100 then w else 0) (p2 := 0) honly
      have hdown := shareUp_eq_false_of_lost ((hnote _ 0x5101 chip (if ms ≤ 100 then w else 0) F.PCI_PORT_STATE rfl).trans hstate)
      rw [if_neg hback]
      refine ⟨(hnote _ _ _ _ F.PCI_PORT_RETRAINS rfl).trans hretrains, hone.1, fun hb => absurd (hwidth ▸ hb) hback,
        fun _ => ⟨?_, ?_, ?_, ?_, ?_,
        fun r x hp hk => readReg_of_shareDown hdown hp hk x, hdown, hone.2.2⟩⟩
      · exact (hnote _ _ _ _ F.PCI_PORT_STATE rfl).trans hstate
      · exact (hnote _ _ _ _ F.PCI_PORT_WIDTH rfl).trans hw
      · exact (hwin _ _ _ _ F.LMF_STATUS_LOST (by decide)).trans hlost
      · exact (hwin _ _ _ _ F.LMF_STATUS_READY (by decide)).trans hready
      · exact (hwin _ _ _ _ F.LMF_LINK_WIDTH (by decide)).trans hlw

end Sys2Proof.Machine

/-! Writes of registers that act, and the run table (08_memory_tiers.md R278 to R280): the requester's gate, the entry that the
data registers show, the reasons that refuse a run; then the statement. -/

namespace Sys2Proof.Machine

variable {s t u : State} {q : Requester} {keys : List Nat}

/-! ### The gate of a write that acts -/

/-- A write that the requester may make acts once no half of it is held (R561). -/
theorem rowWrite_of_canWrite {page key : Nat} (h : CanWrite s q page key) (f : State → State) :
    s.rowWrite q page key f = f (s.dropAllHeld q) := if_pos (by rw [h.1, h.2]; rfl)

theorem OnlyRegs.bus_eq (h : OnlyRegs s t keys) : t.bus = s.bus := by rw [h.1]
theorem OnlyRegs.ms_eq (h : OnlyRegs s t keys) : t.ms = s.ms := by rw [h.1]
theorem OneRecord.bus_eq {c p0 p1 p2 : Nat} (h : OneRecord s t keys c p0 p1 p2) : t.bus = s.bus := by rw [h.1]

theorem OnlyRegs.of_bus (h : OnlyRegs u t keys) (hu : { s with bus := u.bus } = u) :
    OnlyRegs { s with bus := t.bus } t keys := by
  rw [h.bus_eq, hu]; exact h

theorem OnlyRegs.of_bus_ms (h : OnlyRegs u t keys) (hu : { s with bus := u.bus, ms := u.ms } = u) :
    OnlyRegs { s with bus := t.bus, ms := t.ms } t keys := by
  rw [h.bus_eq, h.ms_eq, hu]; exact h

theorem OneRecord.of_bus {c p0 p1 p2 : Nat} (h : OneRecord u t keys c p0 p1 p2) (hu : { s with bus := u.bus } = u) :
    OneRecord { s with bus := t.bus } t keys c p0 p1 p2 := by
  rw [h.bus_eq, hu]; exact h

/-- Registers set after a record. -/
theorem OneRecord.step {c p0 p1 p2 : Nat} (h : OneRecord s t keys c p0 p1 p2) (h' : OnlyRegs t u keys) :
    OneRecord s u keys c p0 p1 p2 := by
  obtain ⟨ht, hregs, hdbk⟩ := h
  obtain ⟨hu, hregs'⟩ := h'
  refine ⟨?_, hregs.step (hregs'.mono fun k => List.mem_append_left _), (congrArg State.dbk hu).trans hdbk⟩
  generalize t.regs = regs, t.dbk = dbk at ht
  subst ht
  generalize u.regs = regs' at hu
  subst hu
  rfl

/-- Setting a field leaves the registers of other numbers. -/
theorem rd_st_elsewhere (s : State) (f g : Field) (v i : Nat) (h : g.key ≠ f.key) :
    (s.st f v i).rd g i = s.rd g i :=
  rd_st_ne s f g v i 0 i 0 (by unfold regKey; omega)

/-! ### The data registers of a die -/

/-- Elements that spell a run. -/
def runDataKeys (d : Nat) : List Nat :=
  [F.STR_RUN_DATA0_VPAGE, F.STR_RUN_DATA1_PPAGE, F.STR_RUN_DATA2_COUNT, F.STR_RUN_DATA3_ACCOUNT].map
    (fun f => regKey f.key d 0)

/-- The data registers of a die show a run, as far as their fields hold it. -/
def ShowsRun (t : State) (d : Nat) (r : Run) : Prop :=
  t.rd F.STR_RUN_DATA0_VPAGE d = r.vpage % (F.STR_RUN_DATA0_VPAGE.max + 1) ∧
    t.rd F.STR_RUN_DATA1_PPAGE d = r.ppage % (F.STR_RUN_DATA1_PPAGE.max + 1) ∧
    t.rd F.STR_RUN_DATA2_COUNT d = r.count % (F.STR_RUN_DATA2_COUNT.max + 1) ∧
    t.rd F.STR_RUN_DATA3_VALID d = b2n r.valid ∧ t.rd F.STR_RUN_DATA3_WRITE d = b2n r.write

theorem b2n_mod_two (b : Bool) : b2n b % 2 = b2n b := by cases b <;> rfl

theorem loadRun_onlyRegs (s : State) (d : Nat) (r : Run) : OnlyRegs s (s.loadRun d r) (runDataKeys d) := by
  have hin : ∀ f : Field, f.key ∈ [53248, 54272, 55296, 56320] → regKey f.key d 0 ∈ runDataKeys d := fun f hf =>
    List.mem_map_of_mem (f := fun k => regKey k d 0) hf
  have hplace := (((onlyRegs_refl s _).st F.STR_RUN_DATA0_VPAGE r.vpage d 0 (hin _ (by decide))).st F.STR_RUN_DATA1_PPAGE r.ppage
    d 0 (hin _ (by decide))).st F.STR_RUN_DATA2_COUNT r.count d 0 (hin _ (by decide))
  exact ((((hplace.st F.STR_RUN_DATA3_ACCOUNT r.account d 0 (hin _ (by decide))).st F.STR_RUN_DATA3_VALID (b2n r.valid) d 0
    (hin _ (by decide))).st F.STR_RUN_DATA3_WRITE (b2n r.write) d 0 (hin _ (by decide))).st F.STR_RUN_DATA3_RT (b2n r.rt) d 0
    (hin _ (by decide))).st F.STR_RUN_DATA3_RT_DIE r.rtDie d 0 (hin _ (by decide))

theorem loadRun_shows (s : State) (d : Nat) (r : Run) : ShowsRun (s.loadRun d r) d r := by
  have hvalid := b2n_mod_two r.valid
  have hwrite := b2n_mod_two r.write
  refine ⟨?_, ?_, ?_, ?_, ?_⟩ <;>
    simp (disch := decide) only [State.loadRun, rd_st_elsewhere, rd_st_beside, rd_st_same]
  · rfl
  · rfl
  · rfl
  · exact hvalid
  · exact hwrite

/-! ### The table -/

theorem run_setRun (s : State) (i : Nat) (r : Run) (j : Nat) : (s.setRun i r).run j = if j = i then r else s.run j :=
  mget_mset _ _ _ _ _

/-- The entry of an index is written, every other entry stays. -/
theorem run_of_setRun {i : Nat} {r : Run} (h : t.ms = (s.setRun i r).ms) :
    t.ms = { s.ms with runs := t.ms.runs } ∧ t.run i = r ∧ ∀ j, j ≠ i → t.run j = s.run j := by
  have hrun : ∀ j, t.run j = (s.setRun i r).run j := fun j => by rw [State.run, h, State.run]
  refine ⟨by rw [h]; rfl, ?_, fun j hj => ?_⟩
  · rw [hrun, run_setRun, if_pos rfl]
  · rw [hrun, run_setRun, if_neg hj]

/-! ### Reasons (R279) -/

theorem runReason_lt (s : State) (i : Nat) (r : Run) : s.runReason i r < 16 := by
  unfold State.runReason
  dsimp only
  repeat' split
  all_goals omega

/-- Runs that do not overlap share no page. -/
theorem no_shared_page {a n b m : Nat} (h : overlaps a n b m = false) (pg : Nat) :
    ¬ ((a ≤ pg ∧ pg < a + n) ∧ b ≤ pg ∧ pg < b + m) := by
  simp only [overlaps, decide_eq_false_iff_not] at h
  omega

/-- A run that no reason refuses overlaps no other valid run in pages, nor one of its account in virtual pages. -/
theorem runReason_sound {i : Nat} {r : Run} (h : s.runReason i r = 0) {p : Nat × Run} (hp : p ∈ s.ms.runs) (hne : p.1 ≠ i)
    (hvalid : p.2.valid = true) : overlaps r.ppage r.count p.2.ppage p.2.count = false ∧
      (p.2.account = r.account → overlaps r.vpage r.count p.2.vpage p.2.count = false) := by
  have hother : p.2 ∈ (s.ms.runs.filter (fun p => p.1 != i && p.2.valid)).map (·.2) :=
    List.mem_map_of_mem (List.mem_filter.mpr ⟨hp, by rw [bne_iff_ne.mpr hne, hvalid]; rfl⟩)
  unfold State.runReason at h
  dsimp only at h
  split at h
  · cases h
  split at h
  · cases h
  split at h
  · cases h
  rename_i hpages
  split at h
  · cases h
  rename_i hvirtual
  simp only [List.any_eq_true, not_exists, not_and, Bool.not_eq_true, Bool.and_eq_false_iff] at hpages hvirtual
  exact ⟨hpages _ hother, fun hacct => (hvirtual _ hother).resolve_left (by simp [hacct])⟩

/-! ### The commands -/

/-- What refuses the run that a die's data registers spell, 0 when nothing does. -/
def State.runWhy (s : State) (d : Nat) : Nat :=
  let r := s.runRegs d
  if r.valid = true then s.runReason (s.rd F.STR_RUN_INDEX_INDEX d) r else 0

theorem runWhy_lt (s : State) (d : Nat) : s.runWhy d < 16 := by
  unfold State.runWhy; dsimp only
  split
  · exact runReason_lt ..
  · decide

theorem runCmd_write_sound {d : Nat} (h : s.runWhy d = 0) :
    s.runCmd d 1 = (s.st F.STR_RUN_STATUS_REASON 0 d).setRun (s.rd F.STR_RUN_INDEX_INDEX d) (s.runRegs d) := by
  have hwhy : s.runCmd d 1 = if s.runWhy d = 0
      then (s.st F.STR_RUN_STATUS_REASON (s.runWhy d) d).setRun (s.rd F.STR_RUN_INDEX_INDEX d) (s.runRegs d)
      else ((s.st F.STR_RUN_STATUS_REASON (s.runWhy d) d).note 0x3030 (s.runRegs d).account (s.runWhy d)
        (s.runRegs d).vpage).loadRun d (s.run (s.rd F.STR_RUN_INDEX_INDEX d)) := rfl
  rw [hwhy, if_pos h, h]

theorem runCmd_write_refused {d : Nat} (h : s.runWhy d ≠ 0) :
    s.runCmd d 1 = ((s.st F.STR_RUN_STATUS_REASON (s.runWhy d) d).note 0x3030 (s.runRegs d).account (s.runWhy d)
      (s.runRegs d).vpage).loadRun d (s.run (s.rd F.STR_RUN_INDEX_INDEX d)) := if_neg h

theorem rd_loadRun_reason (s : State) (d : Nat) (r : Run) :
    (s.loadRun d r).rd F.STR_RUN_STATUS_REASON d = s.rd F.STR_RUN_STATUS_REASON d := by
  simp (disch := decide) only [State.loadRun, rd_st_elsewhere]

/-- A refused run: the reason, the record, and the entry shown (R279). -/
theorem runCmd_write_refused_leaves {d : Nat} (hd : d < 8) (h : s.runWhy d ≠ 0) :
    (s.runCmd d 1).rd F.STR_RUN_STATUS_REASON d = s.runWhy d ∧
      ShowsRun (s.runCmd d 1) d (s.run (s.rd F.STR_RUN_INDEX_INDEX d)) ∧
      OneRecord s (s.runCmd d 1) (regKey F.STR_RUN_STATUS_REASON.key d 0 :: runDataKeys d) 0x3030 (s.runRegs d).account
        (s.runWhy d) (s.runRegs d).vpage := by
  rw [runCmd_write_refused h]
  refine ⟨?_, loadRun_shows .., ?_⟩
  · rw [rd_loadRun_reason, (note_regs _ _ _ _).rd _ _ _ (regKey_notin_dbkKeys (by decide) hd (by decide)), rd_st_same _ _ _ _ _ rfl]
    exact Nat.mod_eq_of_lt (runWhy_lt s d)
  · exact (oneRecord_of ((onlyRegs_refl s _).st F.STR_RUN_STATUS_REASON (s.runWhy d) d 0 (List.mem_cons_self ..))).step
      ((loadRun_onlyRegs _ _ _).mono fun _ => List.mem_cons_of_mem _)

/-! ### The statement -/

/-- Settles O42: the reason decides between the entry written and the entry shown; a run without a reason overlaps no other. -/
theorem runsAreWrittenOnlyWhenSound : Obligations.RunsAreWrittenOnlyWhenSound := by
  unfold Obligations.RunsAreWrittenOnlyWhenSound
  intro s q die hcan i r why data shows keeps
  let u := s.dropAllHeld q
  have hgate : ∀ f : State → State, s.rowWrite q 19 F.STR_RUN_CMD_CMD.key f = f u := rowWrite_of_canWrite hcan
  have hwhy : u.runWhy die = why := rfl
  refine ⟨⟨u.runCmd die 1, congrArg Host.Outcome.next (hgate _), ?_⟩, ⟨u.runCmd die 2, congrArg Host.Outcome.next (hgate _), ?_⟩,
    ⟨u.runCmd die 3, congrArg Host.Outcome.next (hgate _), ?_⟩⟩
  · by_cases hzero : why = 0
    · have hcmd : u.runCmd die 1 = (u.st F.STR_RUN_STATUS_REASON 0 die).setRun i r := runCmd_write_sound (hwhy.trans hzero)
      have hregs : RegsBut u (u.st F.STR_RUN_STATUS_REASON 0 die) [regKey F.STR_RUN_STATUS_REASON.key die 0] :=
        regsBut_st u _ _ _ _ (List.mem_singleton.mpr rfl)
      rw [hcmd]
      refine ⟨noHeld_of_bus rfl, ?_, fun _ => ⟨run_of_setRun rfl, ⟨rfl, (hregs.congr rfl).congr_left rfl⟩, ?_⟩,
        fun h => absurd hzero h⟩
      · exact (rd_st_same u F.STR_RUN_STATUS_REASON 0 die 0 rfl).trans hzero.symm
      · intro hvalid p hp hne hpv
        have hreason : s.runReason i r = 0 := (if_pos hvalid : why = _).symm.trans hzero
        obtain ⟨hpages, hvirtual⟩ := runReason_sound hreason hp hne hpv
        exact ⟨no_shared_page hpages, fun hacct => no_shared_page (hvirtual hacct)⟩
    · obtain ⟨hreason, hshows, hrec⟩ := runCmd_write_refused_leaves (s := u) (d := die) (by omega) hzero
      exact ⟨noHeld_of_bus hrec.bus_eq, hreason, fun h => absurd h hzero, fun _ => ⟨hshows, hrec.of_bus rfl⟩⟩
  · let x : Run := { s.run i with valid := false }
    have honly : OnlyRegs (u.setRun i x) (u.runCmd die 2) data := loadRun_onlyRegs (u.setRun i x) die x
    exact ⟨noHeld_of_bus honly.bus_eq, run_of_setRun honly.ms_eq, honly.of_bus_ms rfl, loadRun_shows (u.setRun i x) die x⟩
  · have honly : OnlyRegs u (u.runCmd die 3) data := loadRun_onlyRegs u die (s.run i)
    exact ⟨noHeld_of_bus honly.bus_eq, honly.of_bus rfl, loadRun_shows u die (s.run i)⟩

end Sys2Proof.Machine

/-! Steering tables (08_memory_tiers.md R269, R272, 00_scope.md R21): an entry written and read through the window, and the
tables armed; then the statement. -/

namespace Sys2Proof.Machine

variable {s t : State} {q : Requester}

theorem flag_of_one {f : Field} {i x : Nat} (h : s.rd f i x = 1) : s.flag f i x = true := beq_iff_eq.mpr h

theorem flag_of_zero {f : Field} {i x : Nat} (h : s.rd f i x = 0) : s.flag f i x = false := by rw [State.flag, h]; rfl

theorem Field.max_add_one (f : Field) : f.max + 1 = 2 ^ (f.hi + 1 - f.lo) := Nat.sub_add_cancel (Nat.two_pow_pos _)

/-! ### Entries -/

/-- An entry written reads back, every other entry stays. -/
theorem tblEntry_mset (filled : Bool) (tbl : SMap Nat) (base n i x j : Nat) :
    tblEntry filled (mset 0 tbl (base + i) (x + 1)) base n j = if j = i then x else tblEntry filled tbl base n j := by
  unfold tblEntry
  by_cases h : j = i
  · rw [h, mget_mset_same, if_pos rfl]
  · rw [mget_mset_ne _ _ _ _ (by omega), if_neg h]

/-- The entry that a write of STR_TBL_DATA leaves selected, before INDEX moves on. -/
def State.tblPut (s : State) (d v : Nat) : State :=
  let i := s.rd F.STR_TBL_INDEX_INDEX d
  if s.flag F.STR_CTRL_ARMED d then s
  else if s.flag F.STR_TBL_INDEX_SEL d then
    { s with ms := { s.ms with localTbl := mset 0 s.ms.localTbl (d * 8192 + i) (min (v % 512) (s.nLocal d - 1) + 1) } }
  else { s with ms := { s.ms with steer := mset 0 s.ms.steer i (min (v % 512) (s.nChan - 1) + 1) } }

theorem tblWrite_eq (s : State) (d v : Nat) : s.tblWrite d v = (s.tblPut d v).tblAdvance d := rfl

theorem tblPut_armed {d : Nat} (h : s.rd F.STR_CTRL_ARMED d = 1) (v : Nat) : s.tblPut d v = s := if_pos (flag_of_one h)

theorem tblPut_steer {d : Nat} (h : s.rd F.STR_CTRL_ARMED d = 0) (hsel : s.rd F.STR_TBL_INDEX_SEL d = 0) (v : Nat) :
    s.tblPut d v = { s with ms := { s.ms with
      steer := mset 0 s.ms.steer (s.rd F.STR_TBL_INDEX_INDEX d) (min (v % 512) (s.nChan - 1) + 1) } } := by
  simp only [State.tblPut, flag_of_zero h, flag_of_zero hsel, Bool.false_eq_true, if_false]

theorem tblPut_local {d : Nat} (h : s.rd F.STR_CTRL_ARMED d = 0) (hsel : s.rd F.STR_TBL_INDEX_SEL d = 1) (v : Nat) :
    s.tblPut d v = { s with ms := { s.ms with
      localTbl := mset 0 s.ms.localTbl (d * 8192 + s.rd F.STR_TBL_INDEX_INDEX d) (min (v % 512) (s.nLocal d - 1) + 1) } } := by
  simp only [State.tblPut, flag_of_zero h, flag_of_one hsel, Bool.false_eq_true, if_false, if_true]

theorem tblPut_frame (s : State) (d v : Nat) : s.tblPut d v = { s with ms := (s.tblPut d v).ms } := by
  unfold State.tblPut
  dsimp only
  split
  · rfl
  · split <;> rfl

theorem tblPut_regs (s : State) (d v : Nat) : (s.tblPut d v).regs = s.regs := by rw [tblPut_frame]

/-! ### INDEX -/

theorem tblAdvance_onlyRegs (s : State) (d : Nat) : OnlyRegs s (s.tblAdvance d) [regKey F.STR_TBL_INDEX_INDEX.key d 0] := by
  unfold State.tblAdvance
  split
  · exact (onlyRegs_refl s _).st F.STR_TBL_INDEX_INDEX _ d 0 (List.mem_singleton.mpr rfl)
  · exact onlyRegs_refl s _

/-- INDEX moves on under AUTOINC, from what the registers held. -/
theorem tblAdvance_sets (h : t.regs = s.regs) (d : Nat) : Sets s (t.tblAdvance d) (regKey F.STR_TBL_INDEX_INDEX.key d 0)
    (if s.rd F.STR_TBL_INDEX_AUTOINC d = 1
      then [(F.STR_TBL_INDEX_INDEX, (s.rd F.STR_TBL_INDEX_INDEX d + 1) % 8192)] else []) := by
  rw [← rd_of_regs h, ← rd_of_regs h]
  refine Sets.congr_left (s := t) ?_ (reg_of_regs h _).symm
  unfold State.tblAdvance
  by_cases hauto : t.rd F.STR_TBL_INDEX_AUTOINC d = 1
  · rw [if_pos (flag_of_one hauto), if_pos hauto]
    exact (Sets.refl t _).st _
  · rw [if_neg (show ¬ t.flag F.STR_TBL_INDEX_AUTOINC d = true from mt beq_iff_eq.mp hauto), if_neg hauto]
    exact Sets.refl t _

/-- The selected entry is one of the table that SEL names. -/
theorem tblValue_eq (s : State) (d : Nat) : s.tblValue d = if s.rd F.STR_TBL_INDEX_SEL d = 1
    then tblEntry s.ms.filled s.ms.localTbl (d * 8192) (s.nLocal d) (s.rd F.STR_TBL_INDEX_INDEX d)
    else tblEntry s.ms.filled s.ms.steer 0 s.nChan (s.rd F.STR_TBL_INDEX_INDEX d) := if_congr beq_iff_eq rfl rfl

/-- A write of STR_TBL_DATA changes the selected entry's table and INDEX. -/
theorem tblWrite_onlyRegs {u : State} (hu : { s with bus := u.bus } = u) (d v : Nat) :
    OnlyRegs { s with bus := (u.tblWrite d v).bus, ms := (u.tblWrite d v).ms } (u.tblWrite d v)
      [regKey F.STR_TBL_INDEX_INDEX.key d 0] := by
  refine (tblAdvance_onlyRegs (u.tblPut d v) d).of_bus_ms ?_
  rw [tblPut_frame u d v, ← hu]

/-! ### Arming -/

/-- STR_CTRL's one locked field is RT_UNITS (R21). -/
theorem lockHit_strCtrl (old : W64) (v : Nat) :
    strCtrlInfo.lockHit old v = (bits v 14 8 != bits old.toNat 14 8) := by
  simp [RegInfo.lockHit, strCtrlInfo, F.STR_CTRL_RT_UNITS]

/-- A write of STR_CTRL that would change RT_UNITS while it is locked is told (R21). -/
def State.unitsTold (s : State) (die : Nat) (v : W32) : State :=
  let a := pageBase 19 die
  if s.boot.locked = true ∧ v.toNat / 256 % 128 ≠ s.rd F.STR_CTRL_RT_UNITS die
  then s.note 0x0011 (a % 2 ^ 32) (a / 2 ^ 32) v.toNat else s

theorem strCtrlWrite_eq (s : State) (die : Nat) (v : W32) :
    s.strCtrlWrite strCtrlInfo die v.toNat = (s.unitsTold die v).armWrite die v.toNat := by
  have hv : v.toNat % 2 ^ 32 = v.toNat := Nat.mod_eq_of_lt v.isLt
  have hcond : (s.boot.locked && strCtrlInfo.lockHit (s.reg (regKey strCtrlInfo.key die 0)) v.toNat) = true ↔
      s.boot.locked = true ∧ v.toNat / 256 % 128 ≠ s.rd F.STR_CTRL_RT_UNITS die := by
    rw [Bool.and_eq_true, lockHit_strCtrl, bne_iff_ne]; rfl
  simp only [State.strCtrlWrite, State.unitsTold, hcond, hv]; rfl

theorem unitsTold_frame (s : State) (die : Nat) (v : W32) : s.unitsTold die v =
    { s with regs := (s.unitsTold die v).regs, dbk := (s.unitsTold die v).dbk } := by
  unfold State.unitsTold
  dsimp only
  split
  · exact frame_regs_dbk
  · rfl

theorem unitsTold_regs (s : State) (die : Nat) (v : W32) : RegsBut s (s.unitsTold die v) dbkKeys := by
  unfold State.unitsTold
  dsimp only
  split
  · exact note_regs _ _ _ _
  · exact RegsBut.refl _ _

theorem unitsTold_sameRec (h : t = { s with bus := t.bus }) (die : Nat) (v : W32) :
    SameRec (t.unitsTold die v) (s.unitsTold die v) := by
  have hrec : SameRec t s := by rw [h]; exact ⟨rfl, ⟨rfl, rfl, rfl⟩, rfl⟩
  have hcond : (t.boot.locked = true ∧ v.toNat / 256 % 128 ≠ t.rd F.STR_CTRL_RT_UNITS die) ↔
      (s.boot.locked = true ∧ v.toNat / 256 % 128 ≠ s.rd F.STR_CTRL_RT_UNITS die) := by rw [h]; rfl
  simp only [State.unitsTold, hcond]
  split
  · exact hrec.note ..
  · exact hrec

/-- The tables are armed: the size and the dump's base follow (R272). -/
def State.tablesArmed (s : State) (d : Nat) : State :=
  ((s.st F.STR_CTRL_ARMED 1 d).st F.STR_SIZE_BYTES s.steeredSize d).st F.STR_DUMP_BASE_ADDR s.dumpBase d

theorem armWrite_ignored {d v : Nat} (h : v % 2 = 0 ∨ s.rd F.STR_CTRL_ARMED d = 1) : s.armWrite d v = s :=
  if_pos (by rw [Bool.or_eq_true, decide_eq_true_eq, State.flag, beq_iff_eq]; exact h)

theorem armWrite_even {d v : Nat} (hv : v % 2 = 1) (ha : s.rd F.STR_CTRL_ARMED d = 0)
    (h : (s.steerOk && s.localOk d) = true) : s.armWrite d v = s.tablesArmed d := by
  simp only [State.armWrite, hv, flag_of_zero ha, h, Nat.one_ne_zero, decide_false, Bool.or_self, Bool.false_eq_true, if_false,
    if_true, State.tablesArmed]

theorem armWrite_uneven {d v : Nat} (hv : v % 2 = 1) (ha : s.rd F.STR_CTRL_ARMED d = 0)
    (h : (s.steerOk && s.localOk d) = false) : s.armWrite d v = s.note 0x3030 0 0 0 := by
  simp only [State.armWrite, hv, flag_of_zero ha, h, Nat.one_ne_zero, decide_false, Bool.or_self, Bool.false_eq_true, if_false]

theorem regsDbkFrame_trans {u : State} (h : t = { s with regs := t.regs, dbk := t.dbk })
    (h' : u = { t with regs := u.regs, dbk := u.dbk }) : u = { s with regs := u.regs, dbk := u.dbk } := by
  generalize t.regs = r, t.dbk = k at h
  subst h
  exact h'

theorem armWrite_frame (s : State) (d v : Nat) : s.armWrite d v =
    { s with regs := (s.armWrite d v).regs, dbk := (s.armWrite d v).dbk } := by
  unfold State.armWrite
  split
  · rfl
  · split
    · exact frame_regs_dbk
    · exact frame_regs_dbk

/-- What the registers of armed tables read. -/
theorem tablesArmed_leaves (s : State) (d : Nat) :
    Sets s (s.tablesArmed d) (regKey F.STR_CTRL_ARMED.key d 0) [(F.STR_CTRL_ARMED, 1)] ∧
      (s.tablesArmed d).rd F.STR_SIZE_BYTES d = s.steeredSize % (F.STR_SIZE_BYTES.max + 1) ∧
      (s.tablesArmed d).rd F.STR_DUMP_BASE_ADDR d = s.dumpBase % (F.STR_DUMP_BASE_ADDR.max + 1) := by
  have hbase : RegsBut (s.st F.STR_CTRL_ARMED 1 d) (s.tablesArmed d)
      [regKey F.STR_SIZE_BYTES.key d 0, regKey F.STR_DUMP_BASE_ADDR.key d 0] :=
    (regsBut_st _ F.STR_SIZE_BYTES _ d 0 (by simp)).step (regsBut_st _ F.STR_DUMP_BASE_ADDR _ d 0 (by simp))
  refine ⟨((Sets.refl s _).st 1).keep hbase ?_, ?_, ?_⟩
  · simp only [List.mem_cons, List.not_mem_nil, or_false, regKey, F.STR_CTRL_ARMED, F.STR_SIZE_BYTES, F.STR_DUMP_BASE_ADDR]
    omega
  · rw [State.tablesArmed, rd_st_elsewhere _ _ _ _ _ (by decide), rd_st_same _ _ _ _ _ rfl, Field.max_add_one]
  · rw [State.tablesArmed, rd_st_same _ _ _ _ _ rfl, Field.max_add_one]

/-! ### What the tables rest on -/

section
variable (hms : t.ms = s.ms) (hregs : RegsBut s t dbkKeys)
include hregs

theorem rd_steering {f : Field} {d : Nat} (hf : f.key + 1024 ≤ 120832) (hd : d < 8) : t.rd f d = s.rd f d :=
  hregs.rd f d 0 (regKey_notin_dbkKeys (.inl hf) hd (by decide))

theorem steeredSize_congr : t.steeredSize = s.steeredSize := by
  simp only [State.steeredSize, State.nChan, State.rtUnits, rd_steering (f := F.STR_GLOBAL_N) hregs (d := 0) (by decide) (by decide),
    rd_steering (f := F.STR_CTRL_RT_UNITS) hregs (d := 0) (by decide) (by decide)]

include hms

theorem steerOk_congr : t.steerOk = s.steerOk := by
  simp only [State.steerOk, State.nChan, hms, rd_steering (f := F.STR_GLOBAL_N) hregs (d := 0) (by decide) (by decide)]

theorem localOk_congr {d : Nat} (hd : d < 8) : t.localOk d = s.localOk d := by
  simp only [State.localOk, State.nLocal, hms, rd_steering (f := F.STR_LOCAL_N) hregs (by decide) hd]

end

/-! ### The statement -/

/-- A requester that may write STR_CTRL may write every register of the block. -/
theorem writes_of_strCtrl (h : writes q 19 F.STR_CTRL_ARMED.key = true) (key : Nat) : writes q 19 key = true := by
  cases q with
  | service => exact absurd h (by decide)
  | i2c => exact h
  | bootRom => rfl
  | _ => rfl

/-- What a write of ARMED 1 leaves, once a locked RT_UNITS is told. -/
theorem exec_armTables {die : Fin 4} {v : W32} (h : CanWrite s q 19 F.STR_CTRL_ARMED.key) :
    exec (.armTables q die v) s = .next (((s.dropAllHeld q).unitsTold die v).armWrite die v.toNat) := by
  rw [← strCtrlWrite_eq]
  exact congrArg Host.Outcome.next (rowWrite_of_canWrite h _)

theorem exec_strTblData_write {die : Fin 4} {v : W32} (h : CanWrite s q 19 F.STR_CTRL_ARMED.key) :
    exec (.strTblData q die (some v)) s = .next ((s.dropAllHeld q).tblWrite die v.toNat) :=
  congrArg Host.Outcome.next (rowWrite_of_canWrite ⟨h.1, writes_of_strCtrl h.2 _⟩ _)

theorem exec_strTblData_read {die : Fin 4} (hctl : s.ctlRead q = true) (hr : reads q 19 = true) :
    exec (.strTblData q die none) s = .next ((s.dropAllHeld q).tblRead q die) :=
  congrArg Host.Outcome.next (if_pos (by rw [hctl, hr]; rfl))

/-- Settles O41: the entry put in its table and INDEX moved on; STR_CTRL told, ignored, armed or refused. -/
theorem steeringTablesAreArmedWhenEven : Obligations.SteeringTablesAreArmedWhenEven := by
  unfold Obligations.SteeringTablesAreArmedWhenEven
  intro s q die v hcan i idx moved steer locals
  have hd : die.val < 8 := by omega
  let u := s.dropAllHeld q
  refine ⟨⟨_, exec_strTblData_write hcan, noHeld_of_bus ?_, tblAdvance_sets (tblPut_regs u die v.toNat) die,
    tblWrite_onlyRegs rfl die v.toNat, fun ha => ?_, fun ha hsel => ?_, fun ha hsel => ?_⟩,
    fun hctl hr => ⟨_, exec_strTblData_read hctl hr, tblAdvance_sets rfl die, (tblAdvance_onlyRegs _ die).of_bus rfl, ?_⟩, ?_⟩
  · rw [tblWrite_eq, (tblAdvance_onlyRegs _ _).bus_eq, tblPut_frame]
  · rw [tblWrite_eq, (tblAdvance_onlyRegs _ _).ms_eq, tblPut_armed (s := u) ha]; rfl
  · have hms : (u.tblWrite die v.toNat).ms =
        { s.ms with steer := mset 0 s.ms.steer i (min (v.toNat % 512) (s.nChan - 1) + 1) } := by
      rw [tblWrite_eq, (tblAdvance_onlyRegs _ _).ms_eq, tblPut_steer (s := u) ha hsel]; rfl
    refine ⟨by rw [hms], fun j => ?_⟩
    have hentry := tblEntry_mset s.ms.filled s.ms.steer 0 s.nChan i (min (v.toNat % 512) (s.nChan - 1)) j
    rw [Nat.zero_add] at hentry
    change tblEntry (u.tblWrite die v.toNat).ms.filled (u.tblWrite die v.toNat).ms.steer 0 s.nChan j = _
    rw [hms]
    exact hentry
  · have hms : (u.tblWrite die v.toNat).ms = { s.ms with
        localTbl := mset 0 s.ms.localTbl (die * 8192 + i) (min (v.toNat % 512) (s.nLocal die - 1) + 1) } := by
      rw [tblWrite_eq, (tblAdvance_onlyRegs _ _).ms_eq, tblPut_local (s := u) ha hsel]; rfl
    refine ⟨by rw [hms], fun j => ?_⟩
    change tblEntry (u.tblWrite die v.toNat).ms.filled (u.tblWrite die v.toNat).ms.localTbl (die * 8192) (s.nLocal die) j = _
    rw [hms]
    exact tblEntry_mset ..
  · rw [State.tblRead, (tblAdvance_onlyRegs _ _).bus_eq, rdata_answer, tblValue_eq]; rfl
  · intro hit a told
    let w := u.unitsTold die v
    have hw : w = { u with regs := w.regs, dbk := w.dbk } := unitsTold_frame u die v
    have hregs : RegsBut s w dbkKeys := (unitsTold_regs u die v).congr_left rfl
    have hrec : SameRec w told := unitsTold_sameRec rfl die v
    have hms : w.ms = s.ms := by rw [hw]; rfl
    have hok : (w.steerOk && w.localOk die) = (s.steerOk && s.localOk die) := by
      rw [steerOk_congr hms hregs, localOk_congr hms hregs hd]
    have harmed : w.rd F.STR_CTRL_ARMED die = s.rd F.STR_CTRL_ARMED die := rd_steering hregs (by decide) hd
    have hsize : w.steeredSize = s.steeredSize := steeredSize_congr hregs
    have hframe := regsDbkFrame_trans hw (armWrite_frame w die v.toNat)
    have hbus : (w.armWrite die v.toNat).bus = u.bus := by rw [hframe]
    refine ⟨_, exec_armTables hcan, noHeld_of_bus hbus, ?_, fun hignored => ?_, fun hv ha => ⟨fun heven => ?_, fun huneven => ?_⟩⟩
    · change w.armWrite die v.toNat = { s with bus := (w.armWrite die v.toNat).bus, regs := _, dbk := _ }
      rw [hbus]; exact hframe
    · rw [← harmed] at hignored
      rw [armWrite_ignored (s := w) hignored]
      exact ⟨hregs, hrec.1⟩
    · rw [← harmed] at ha
      rw [← hok] at heven
      rw [armWrite_even (s := w) hv ha heven]
      obtain ⟨hset, hbytes, haddr⟩ := tablesArmed_leaves w die
      exact ⟨hrec.1, hset.congr_left (hregs _ (regKey_notin_dbkKeys (by decide) hd (by decide))).symm,
        hbytes.trans (congrArg (· % _) hsize), haddr.trans (congrArg (fun n => (n - 8 * 2 ^ 30) % _) hsize)⟩
    · rw [← harmed] at ha
      rw [← hok] at huneven
      rw [armWrite_uneven (s := w) hv ha huneven]
      exact ⟨hregs.step (note_regs _ _ _ _), note_dbk _ _ _ _ hrec⟩

end Sys2Proof.Machine

/-! Scrubs (08_memory_tiers.md R288, R290, R294): what a patrol read or a vault scrub counts, poisons and moves on; then the
statement. -/

namespace Sys2Proof.Machine

variable {s t u : State}

theorem OnlyRegs.dbk_eq {keys : List Nat} (h : OnlyRegs s t keys) : t.dbk = s.dbk := by rw [h.1]
theorem OnlyRegs.mem_eq {keys : List Nat} (h : OnlyRegs s t keys) : t.mem = s.mem := by rw [h.1]

/-! ### What a fence may change -/

/-- Elements that the fence of a PHY group may change (R45, R289). -/
def groupKeys (d g : Nat) : List Nat :=
  regKey F.MEM_STATUS_FENCED.key d 0 :: (List.range 16).map (fun c => regKey F.MEM_CH_STATE_STATE.key d (16 * g + c)) ++ tellKeys

theorem regsBut_fenceChannels (s : State) (d g : Nat) (l : List Nat) : RegsBut s (s.fenceChannels d g l)
    (l.map (fun c => regKey F.MEM_CH_STATE_STATE.key d (16 * g + c))) := by
  induction l generalizing s with
  | nil => exact RegsBut.refl _ _
  | cons c l ih =>
    exact (regsBut_st s F.MEM_CH_STATE_STATE 4 d (16 * g + c) (List.mem_cons_self ..)).step
      ((ih _).mono fun _ => List.mem_cons_of_mem _)

theorem regsBut_fenceMarks (s : State) (d g : Nat) : RegsBut s (s.fenceMarks d g) (groupKeys d g) := by
  have hmark := regsBut_setBit s F.MEM_STATUS_FENCED g d 0 (l := groupKeys d g) (by simp [groupKeys])
  have hchan := (regsBut_fenceChannels (s.setBit F.MEM_STATUS_FENCED g d 0) d g (List.range 16)).mono (m := groupKeys d g)
    fun _ hk => List.mem_append_left _ (List.mem_cons_of_mem _ hk)
  exact (hmark.step hchan).step (regsBut_st _ F.MEM_STATUS_FULL_RATE _ d 0 (List.mem_cons_self ..))

theorem regsBut_fenceGroup (s : State) (d g cause : Nat) : RegsBut s (s.fenceGroup d g cause) (groupKeys d g) := by
  by_cases hidle : s.groupPresent d g = false ∨ s.groupFenced d g = true
  · rw [fenceGroup_of_idle hidle]; exact RegsBut.refl _ _
  · obtain ⟨hpre, hfen⟩ := not_or.mp hidle
    rw [fenceGroup_of_live (Bool.eq_true_of_not_eq_false hpre) (Bool.eq_false_of_not_eq_true hfen)]
    have htold : ∀ k ∈ tellKeys, k ∈ groupKeys d g := fun _ => List.mem_append_right _
    exact ((regsBut_fenceMarks s d g).step ((note_regs _ _ _ _).mono fun k hk =>
      htold k (List.mem_cons_of_mem _ (List.mem_cons_of_mem _ hk)))).step ((regsBut_degradeAdd _ _ _ _).mono htold)

/-- The counters, the last error and the scrub position lie outside. -/
theorem groupKeys_range {d g k : Nat} (hd : d < 8) (h : k ∈ groupKeys d g) : k < 33792 ∨ 44032 ≤ k := by
  obtain h | h := List.mem_append.mp h
  · obtain rfl | h := List.mem_cons.mp h
    · simp only [regKey, F.MEM_STATUS_FENCED]; omega
    · obtain ⟨c, -, rfl⟩ := List.mem_map.mp h
      simp only [regKey, F.MEM_CH_STATE_STATE]; omega
  · have := tellKeys_range k h
    simp only [F.GLB_STATE_RESTART_NEEDED] at this; omega

/-! ### An uncorrectable read of a group (R288) -/

/-- The times of a group's uncorrectable reads within 24 h, this one first. -/
def State.uncSince (s : State) (ch : Nat) : List Nat :=
  s.clk.now :: s.within (mget [] s.ms.uncTimes (ch / 16)) (second 86400)

def State.withUnc (s : State) (ch : Nat) : State :=
  { s with ms := { s.ms with uncTimes := mset [] s.ms.uncTimes (ch / 16) (s.uncSince ch) } }

theorem withUnc_regs (s : State) (ch : Nat) : (s.withUnc ch).regs = s.regs := rfl
theorem withUnc_dbk (s : State) (ch : Nat) : (s.withUnc ch).dbk = s.dbk := rfl

theorem groupUnc_few {ch : Nat} (h : (s.uncSince ch).length < 16) : s.groupUnc ch = s.withUnc ch := if_neg (Nat.not_le.mpr h)

theorem groupUnc_many {ch : Nat} (h : 16 ≤ (s.uncSince ch).length) :
    s.groupUnc ch = (s.withUnc ch).fenceGroup (ch / 128) (ch % 128 / 16) 3 := if_pos h

theorem groupUnc_frame (s : State) (ch : Nat) : s.groupUnc ch = { s with
    regs := (s.groupUnc ch).regs, dbk := (s.groupUnc ch).dbk, ms := (s.groupUnc ch).ms, nor := (s.groupUnc ch).nor } := by
  by_cases h : 16 ≤ (s.uncSince ch).length
  · rw [groupUnc_many h, fenceGroup_frame]; rfl
  · rw [groupUnc_few (Nat.not_le.mp h)]; rfl

theorem regsBut_groupUnc (s : State) (ch : Nat) : RegsBut s (s.groupUnc ch) (groupKeys (ch / 128) (ch % 128 / 16)) := by
  by_cases h : 16 ≤ (s.uncSince ch).length
  · rw [groupUnc_many h]; exact (regsBut_fenceGroup (s.withUnc ch) _ _ 3).congr_left (withUnc_regs s ch).symm
  · rw [groupUnc_few (Nat.not_le.mp h)]; exact RegsBut.of_regs (withUnc_regs s ch)

/-! ### The scrub position (R290) -/

/-- Channels of the die after this one are left to read in the slot. -/
def State.scrubRest (s : State) (ch : Nat) : Prop :=
  ∃ c, c < 128 ∧ ch % 128 < c ∧ s.groupPresent (ch / 128) (c / 16) = true ∧ s.groupFenced (ch / 128) (c / 16) = false

theorem scrubRest_iff (s : State) (ch : Nat) : (List.range 128).any (fun c => decide (ch % 128 < c) &&
    s.groupPresent (ch / 128) (c / 16) && !s.groupFenced (ch / 128) (c / 16)) = true ↔ s.scrubRest ch := by
  simp only [List.any_eq_true, List.mem_range, Bool.and_eq_true, decide_eq_true_eq, Bool.not_eq_true', State.scrubRest, and_assoc]

theorem scrubMove_rest {ch : Nat} (h : s.scrubRest ch) : s.scrubMove ch = s := if_pos ((scrubRest_iff s ch).mpr h)

theorem scrubMove_last {ch : Nat} (h : ¬ s.scrubRest ch) : s.scrubMove ch =
    if s.rd F.MEM_SCRUB_POS_SLOT (ch / 128) + 1 = 2 ^ 24
    then (s.st F.MEM_SCRUB_POS_SLOT 0 (ch / 128)).inc F.MEM_SCRUB_POS_PASSES 1 (ch / 128)
    else s.st F.MEM_SCRUB_POS_SLOT (s.rd F.MEM_SCRUB_POS_SLOT (ch / 128) + 1) (ch / 128) :=
  if_neg (mt (scrubRest_iff s ch).mp h)

theorem scrubMove_onlyRegs (s : State) (ch : Nat) :
    OnlyRegs s (s.scrubMove ch) [regKey F.MEM_SCRUB_POS_SLOT.key (ch / 128) 0] := by
  have hslot : ∀ v, OnlyRegs s (s.st F.MEM_SCRUB_POS_SLOT v (ch / 128)) [regKey F.MEM_SCRUB_POS_SLOT.key (ch / 128) 0] :=
    fun v => (onlyRegs_refl s _).st _ _ _ _ (List.mem_singleton.mpr rfl)
  by_cases h : s.scrubRest ch
  · rw [scrubMove_rest h]; exact onlyRegs_refl s _
  · rw [scrubMove_last h]
    split
    · exact (hslot 0).inc F.MEM_SCRUB_POS_PASSES 1 _ 0 (List.mem_singleton.mpr rfl)
    · exact hslot _

/-- The position of a die's scrub after a read of a channel: the same while higher channels are left, else the next slot, a
pass counted at the end. -/
def ScrubMoves (s t : State) (ch : Nat) : Prop :=
  let d := ch / 128
  let slot := s.rd F.MEM_SCRUB_POS_SLOT d
  let rest := ∃ c, c < 128 ∧ ch % 128 < c ∧ s.groupPresent d (c / 16) = true ∧ s.groupFenced d (c / 16) = false
  (rest → Sets s t (regKey F.MEM_SCRUB_POS_SLOT.key d 0) []) ∧
    (¬ rest → t.rd F.MEM_SCRUB_POS_SLOT d = (slot + 1) % 2 ^ 24 ∧
      t.rd F.MEM_SCRUB_POS_PASSES d = if slot + 1 = 2 ^ 24 then min (s.rd F.MEM_SCRUB_POS_PASSES d + 1) 255
        else s.rd F.MEM_SCRUB_POS_PASSES d)

theorem scrubMoves_self (s : State) (ch : Nat) : ScrubMoves s (s.scrubMove ch) ch := by
  refine ⟨fun h => ?_, fun h => ?_⟩
  · rw [scrubMove_rest h]; exact Sets.refl _ _
  · rw [scrubMove_last h]
    by_cases hend : s.rd F.MEM_SCRUB_POS_SLOT (ch / 128) + 1 = 2 ^ 24
    · rw [if_pos hend, if_pos hend, hend]
      constructor
      · rw [State.inc, rd_st_beside _ F.MEM_SCRUB_POS_PASSES F.MEM_SCRUB_POS_SLOT _ _ _ rfl, rd_st_same _ _ _ _ _ rfl]; rfl
      · rw [rd_inc_same _ _ _ _ _ rfl, rd_st_beside _ F.MEM_SCRUB_POS_SLOT F.MEM_SCRUB_POS_PASSES _ _ _ rfl]; rfl
    · rw [if_neg hend, if_neg hend]
      exact ⟨rd_st_same _ _ _ _ _ rfl, rd_st_beside _ F.MEM_SCRUB_POS_SLOT F.MEM_SCRUB_POS_PASSES _ _ _ rfl⟩

/-- The move rests on the position and on the die's groups. -/
theorem scrubMoves_of_regsBut {ch : Nat} {keys : List Nat} (h : RegsBut s u keys)
    (hpos : regKey F.MEM_SCRUB_POS_SLOT.key (ch / 128) 0 ∉ keys) (hstat : regKey F.MEM_STATUS_PRESENT.key (ch / 128) 0 ∉ keys) :
    ScrubMoves s (u.scrubMove ch) ch := by
  have hmoves := scrubMoves_self u ch
  have hslot : u.rd F.MEM_SCRUB_POS_SLOT (ch / 128) = s.rd F.MEM_SCRUB_POS_SLOT (ch / 128) := h.rd _ _ _ hpos
  have hpasses : u.rd F.MEM_SCRUB_POS_PASSES (ch / 128) = s.rd F.MEM_SCRUB_POS_PASSES (ch / 128) := h.rd _ _ _ hpos
  have hpresent : ∀ g, u.groupPresent (ch / 128) g = s.groupPresent (ch / 128) g := fun g => by
    rw [State.groupPresent, h.rd _ _ _ hstat, State.groupPresent]
  have hfenced : ∀ g, u.groupFenced (ch / 128) g = s.groupFenced (ch / 128) g := fun g => by
    rw [State.groupFenced, h.rd F.MEM_STATUS_FENCED _ _ hstat, State.groupFenced]
  simp only [ScrubMoves, hslot, hpasses, hpresent, hfenced, Sets, h _ hpos] at hmoves
  exact hmoves

/-! ### The commands -/

theorem up_scrub {ch : Fin 512} (hup : s.up = true) (hact : s.chanActive ch = true) (hfen : s.chanFenced ch = false)
    (hen : s.rd F.MEM_CTRL_SCRUB_EN (ch / 128) = 1) :
    (!s.up || !s.chanActive ch || s.chanFenced ch || !s.flag F.MEM_CTRL_SCRUB_EN (ch / 128)) = false := by
  rw [hup, hact, hfen, flag_of_one hen]; rfl

/-- A counted error of a die: its counter and the last error. -/
def State.errTold (s : State) (f : Field) (ch kind : Nat) : State :=
  ((s.inc f 1 (ch / 128)).st F.MEM_LAST_ERR_CHANNEL (ch % 128) (ch / 128)).st F.MEM_LAST_ERR_KIND kind (ch / 128)

theorem errTold_onlyRegs (s : State) (f : Field) (ch kind : Nat) : OnlyRegs s (s.errTold f ch kind)
    [regKey f.key (ch / 128) 0, regKey F.MEM_LAST_ERR_CHANNEL.key (ch / 128) 0] :=
  (((onlyRegs_refl s _).inc f 1 (ch / 128) 0 (List.mem_cons_self ..)).st F.MEM_LAST_ERR_CHANNEL (ch % 128) (ch / 128) 0
    (List.mem_cons_of_mem _ (List.mem_cons_self ..))).st F.MEM_LAST_ERR_KIND kind (ch / 128) 0
    (List.mem_cons_of_mem _ (List.mem_cons_self ..))

theorem errTold_leaves (s : State) {f : Field} (hf : f.ok = true) (hkey : f.key ≠ F.MEM_LAST_ERR_CHANNEL.key) (ch kind : Nat) :
    (s.errTold f ch kind).rd f (ch / 128) = min (s.rd f (ch / 128) + 1) f.max ∧
      Sets s (s.errTold f ch kind) (regKey F.MEM_LAST_ERR_CHANNEL.key (ch / 128) 0)
        [(F.MEM_LAST_ERR_CHANNEL, ch % 128), (F.MEM_LAST_ERR_KIND, kind)] := by
  constructor
  · rw [State.errTold, rd_st_elsewhere _ F.MEM_LAST_ERR_KIND _ _ _ hkey, rd_st_elsewhere _ F.MEM_LAST_ERR_CHANNEL _ _ _ hkey,
      rd_inc_same _ _ _ _ _ hf]
  · have hkeep := (Sets.refl s (regKey F.MEM_LAST_ERR_CHANNEL.key (ch / 128) 0)).keep
      (regsBut_inc s f 1 (ch / 128) 0 (List.mem_singleton.mpr rfl)) (mt List.mem_singleton.mp (by unfold regKey; omega))
    exact (hkeep.st (f := F.MEM_LAST_ERR_CHANNEL) (ch % 128)).st (f := F.MEM_LAST_ERR_KIND) kind

/-- Until it is recorded, an uncorrectable grain is told in registers and poison. -/
def State.patrolBad (s : State) (ch : Nat) : State :=
  (s.errTold F.MEM_ERR_UE_COUNT ch 7).poisonDev (wordsOf (ch * 2 ^ 32 + s.rd F.MEM_SCRUB_POS_SLOT (ch / 128) * 256) 256)

/-- Until its group counts it, it is told in one record more. -/
def State.patrolTold (s : State) (ch : Nat) : State :=
  (s.patrolBad ch).note 0x3010 ch (s.rd F.MEM_SCRUB_POS_SLOT (ch / 128))

/-- The uncorrectable grain of a patrol read: counted, poisoned, recorded, and counted with its group. -/
def State.patrolUnc (s : State) (ch : Nat) : State := (s.patrolTold ch).groupUnc ch

section
variable {ch : Fin 512} (hup : s.up = true) (hact : s.chanActive ch = true) (hfen : s.chanFenced ch = false)
  (hen : s.rd F.MEM_CTRL_SCRUB_EN (ch / 128) = 1)
include hup hact hfen hen

theorem exec_patrolScrub_none : exec (.patrolScrub ch .none) s = .next (s.scrubMove ch) :=
  congrArg Host.Outcome.next (if_neg (Bool.eq_false_iff.mp (up_scrub hup hact hfen hen)))

theorem exec_patrolScrub_corrected :
    exec (.patrolScrub ch .corrected) s = .next ((s.errTold F.MEM_ERR_CE_COUNT ch 1).scrubMove ch) :=
  congrArg Host.Outcome.next (if_neg (Bool.eq_false_iff.mp (up_scrub hup hact hfen hen)))

theorem exec_patrolScrub_uncorrectable : exec (.patrolScrub ch .uncorrectable) s = .next ((s.patrolUnc ch).scrubMove ch) := by
  change execPatrolScrub ch .uncorrectable s = _
  simp only [execPatrolScrub, up_scrub hup hact hfen hen, Bool.false_eq_true, if_false, chanKey, Nat.zero_mod, Nat.add_zero]
  rfl

end

/-- What a corrected error leaves (R288). -/
theorem patrolCorrected_leaves {ch : Nat} (hc : ch < 512) :
    let t := (s.errTold F.MEM_ERR_CE_COUNT ch 1).scrubMove ch
    ScrubMoves s t ch ∧
      OnlyRegs s t [regKey F.MEM_SCRUB_POS_SLOT.key (ch / 128) 0, regKey F.MEM_ERR_CE_COUNT.key (ch / 128) 0,
        regKey F.MEM_LAST_ERR_CHANNEL.key (ch / 128) 0] ∧
      t.rd F.MEM_ERR_CE_COUNT (ch / 128) = min (s.rd F.MEM_ERR_CE_COUNT (ch / 128) + 1) (2 ^ 32 - 1) ∧
      Sets s t (regKey F.MEM_LAST_ERR_CHANNEL.key (ch / 128) 0)
        [(F.MEM_LAST_ERR_CHANNEL, ch % 128), (F.MEM_LAST_ERR_KIND, 1)] := by
  intro t
  have hd : ch / 128 < 8 := by omega
  have htold := errTold_onlyRegs s F.MEM_ERR_CE_COUNT ch 1
  have hmove := scrubMove_onlyRegs (s.errTold F.MEM_ERR_CE_COUNT ch 1) ch
  obtain ⟨hcount, hlast⟩ := errTold_leaves s (f := F.MEM_ERR_CE_COUNT) rfl (by decide) ch 1
  have hapart : ∀ {a b : Nat}, a + 1024 ≤ b ∨ b + 1024 ≤ a → regKey a (ch / 128) 0 ≠ regKey b (ch / 128) 0 := fun h =>
    regKey_ne h hd (by decide) hd (by decide)
  refine ⟨scrubMoves_of_regsBut htold.2 ?_ ?_, (htold.mono (by simp +contextual)).step (hmove.mono (by simp +contextual)), ?_, ?_⟩
  · simp only [List.mem_cons, List.not_mem_nil, or_false, not_or]
    exact ⟨hapart (by decide), hapart (by decide)⟩
  · simp only [List.mem_cons, List.not_mem_nil, or_false, not_or]
    exact ⟨hapart (by decide), hapart (by decide)⟩
  · exact (hmove.2.rd F.MEM_ERR_CE_COUNT _ 0 (mt List.mem_singleton.mp (hapart (by decide)))).trans hcount
  · exact hlast.keep hmove.2 (mt List.mem_singleton.mp (hapart (by decide)))

theorem patrolBad_mem (s : State) (ch : Nat) : (s.patrolBad ch).mem = { s.mem with
    dramPoison := addPoison s.mem.dramPoison (wordsOf (ch * 2 ^ 32 + s.rd F.MEM_SCRUB_POS_SLOT (ch / 128) * 256) 256) } := rfl

theorem patrolTold_mem (s : State) (ch : Nat) : (s.patrolTold ch).mem = (s.patrolBad ch).mem := note_mem _ _ _ _ _

theorem patrolTold_regs (s : State) (ch : Nat) :
    RegsBut (s.errTold F.MEM_ERR_UE_COUNT ch 7) (s.patrolTold ch) dbkKeys :=
  (note_regs (s := s.patrolBad ch) 0x3010 ch (s.rd F.MEM_SCRUB_POS_SLOT (ch / 128)) 0).congr_left (poisonDev_regs _ _).symm

/-- Only registers, the recorder, the stores, the memory system's state and the SPI NOR flash changed. -/
def MemoryFrame (s t : State) : Prop := t = { s with regs := t.regs, dbk := t.dbk, mem := t.mem, ms := t.ms, nor := t.nor }

theorem MemoryFrame.trans (h : MemoryFrame s t) (h' : MemoryFrame t u) : MemoryFrame s u := by
  unfold MemoryFrame at *
  generalize t.regs = r, t.dbk = k, t.mem = m, t.ms = x, t.nor = n at h
  subst h
  exact h'

theorem OnlyRegs.memoryFrame {keys : List Nat} (h : OnlyRegs s t keys) : MemoryFrame s t := by
  obtain ⟨ht, -⟩ := h
  generalize t.regs = r at ht
  subst ht
  rfl

theorem note_memoryFrame (s : State) (c p0 p1 p2 : Nat) : MemoryFrame s (s.note c p0 p1 p2) := by
  have h : s.note c p0 p1 p2 = { s with regs := (s.note c p0 p1 p2).regs, dbk := (s.note c p0 p1 p2).dbk } := frame_regs_dbk
  generalize s.note c p0 p1 p2 = t at h
  generalize t.regs = r, t.dbk = k at h
  subst h
  rfl

theorem groupUnc_memoryFrame (s : State) (ch : Nat) : MemoryFrame s (s.groupUnc ch) := by
  have h := groupUnc_frame s ch
  generalize s.groupUnc ch = t at h
  generalize t.regs = r, t.dbk = k, t.ms = x, t.nor = n at h
  subst h
  rfl

theorem patrolUnc_memoryFrame (s : State) (ch : Nat) : MemoryFrame s (s.patrolUnc ch) :=
  have hpoison : ∀ (v : State) (ws : List Nat), MemoryFrame v (v.poisonDev ws) := fun _ _ => rfl
  (((errTold_onlyRegs s F.MEM_ERR_UE_COUNT ch 7).memoryFrame.trans (hpoison _ _)).trans (note_memoryFrame _ _ _ _ _)).trans
    (groupUnc_memoryFrame (s.patrolTold ch) ch)

/-- What an uncorrectable grain leaves (R288, R290). -/
theorem patrolUnc_leaves {ch : Nat} (hc : ch < 512) :
    let t := (s.patrolUnc ch).scrubMove ch
    t.mem = (s.patrolBad ch).mem ∧
      t.rd F.MEM_ERR_UE_COUNT (ch / 128) = min (s.rd F.MEM_ERR_UE_COUNT (ch / 128) + 1) (2 ^ 32 - 1) ∧
      Sets s t (regKey F.MEM_LAST_ERR_CHANNEL.key (ch / 128) 0)
        [(F.MEM_LAST_ERR_CHANNEL, ch % 128), (F.MEM_LAST_ERR_KIND, 7)] ∧
      t = { s with regs := t.regs, dbk := t.dbk, mem := t.mem, ms := t.ms, nor := t.nor } := by
  intro t
  have hd : ch / 128 < 8 := by omega
  obtain ⟨hcount, hlast⟩ := errTold_leaves s (f := F.MEM_ERR_UE_COUNT) rfl (by decide) ch 7
  have htail : RegsBut (s.errTold F.MEM_ERR_UE_COUNT ch 7) t
      (dbkKeys ++ groupKeys (ch / 128) (ch % 128 / 16) ++ [regKey F.MEM_SCRUB_POS_SLOT.key (ch / 128) 0]) :=
    ((patrolTold_regs s ch).trans (regsBut_groupUnc (s.patrolTold ch) ch)).trans (scrubMove_onlyRegs (s.patrolUnc ch) ch).2
  have hkept : ∀ f : Field, 33792 ≤ f.key → f.key + 1024 ≤ 39936 → regKey f.key (ch / 128) 0 ∉
      dbkKeys ++ groupKeys (ch / 128) (ch % 128 / 16) ++ [regKey F.MEM_SCRUB_POS_SLOT.key (ch / 128) 0] := fun f h1 h2 => by
    simp only [List.mem_append, List.mem_singleton, not_or]
    refine ⟨⟨regKey_notin_dbkKeys (by omega) hd (by decide), fun hk => ?_⟩, regKey_ne (.inl h2) hd (by decide) hd (by decide)⟩
    have := groupKeys_range hd hk
    unfold regKey at this; omega
  have hmove := scrubMove_onlyRegs (s.patrolUnc ch) ch
  refine ⟨hmove.mem_eq.trans ((groupUnc_mem _ ch).trans (patrolTold_mem s ch)), ?_, ?_, ?_⟩
  · exact (htail.rd F.MEM_ERR_UE_COUNT _ 0 (hkept F.MEM_ERR_UE_COUNT (by decide) (by decide))).trans hcount
  · exact hlast.keep htail (hkept F.MEM_LAST_ERR_CHANNEL (by decide) (by decide))
  · exact (patrolUnc_memoryFrame s ch).trans hmove.memoryFrame

/-- Short of the sixteenth of its group within 24 h, an uncorrectable grain moves the scrub on and makes one record. -/
theorem patrolUnc_few_leaves {ch : Nat} (hc : ch < 512)
    (hfew : (s.within (mget [] s.ms.uncTimes (ch / 16)) (second 86400)).length < 15) :
    ScrubMoves s ((s.patrolUnc ch).scrubMove ch) ch ∧
      ((s.patrolUnc ch).scrubMove ch).dbk = (s.note 0x3010 ch (s.rd F.MEM_SCRUB_POS_SLOT (ch / 128))).dbk := by
  have hd : ch / 128 < 8 := by omega
  have hclk : (s.patrolTold ch).clk = s.clk := note_clk (s.patrolBad ch) _ _ _ _
  have hms : (s.patrolTold ch).ms = s.ms := note_ms (s.patrolBad ch) _ _ _ _
  have hsince : (s.patrolTold ch).uncSince ch = s.uncSince ch := by
    simp only [State.uncSince, State.within, hclk, hms]
  have hunc : s.patrolUnc ch = (s.patrolTold ch).withUnc ch :=
    groupUnc_few (by rw [hsince, State.uncSince, List.length_cons]; omega)
  have hregs : RegsBut s (s.patrolUnc ch)
      ([regKey F.MEM_ERR_UE_COUNT.key (ch / 128) 0, regKey F.MEM_LAST_ERR_CHANNEL.key (ch / 128) 0] ++ dbkKeys) := by
    rw [hunc]
    exact ((errTold_onlyRegs s F.MEM_ERR_UE_COUNT ch 7).2.trans (patrolTold_regs s ch)).congr (withUnc_regs _ ch)
  have hout : ∀ a : Nat, a + 1024 ≤ 34816 ∨ (39936 ≤ a ∧ a + 1024 ≤ 120832) → regKey a (ch / 128) 0 ∉
      [regKey F.MEM_ERR_UE_COUNT.key (ch / 128) 0, regKey F.MEM_LAST_ERR_CHANNEL.key (ch / 128) 0] ++ dbkKeys := fun a ha => by
    simp only [List.mem_append, List.mem_cons, List.not_mem_nil, or_false, not_or]
    refine ⟨⟨?_, ?_⟩, regKey_notin_dbkKeys (by omega) hd (by decide)⟩ <;>
      simp only [regKey, F.MEM_ERR_UE_COUNT, F.MEM_LAST_ERR_CHANNEL] <;> omega
  refine ⟨scrubMoves_of_regsBut hregs (hout _ (by decide)) (hout _ (by decide)), ?_⟩
  have hrec : SameRec (s.patrolBad ch) s := ⟨rfl, ⟨rfl, rfl, rfl⟩, rfl⟩
  calc ((s.patrolUnc ch).scrubMove ch).dbk
      = (s.patrolUnc ch).dbk := (scrubMove_onlyRegs (s.patrolUnc ch) ch).dbk_eq
    _ = (s.patrolTold ch).dbk := by rw [hunc, withUnc_dbk]
    _ = _ := note_dbk _ _ _ _ hrec

/-! ### Vault scrubs (R294) -/

/-- The scrub of a share moves on one grain. -/
def State.vaultMoved (s : State) (chip : Nat) : State :=
  { s with ms := { s.ms with
    vaultScrub := mset 0 s.ms.vaultScrub chip ((mget 0 s.ms.vaultScrub chip + 1) % 2 ^ 32) } }

theorem vaultMoved_regs (s : State) (chip : Nat) : (s.vaultMoved chip).regs = s.regs := rfl
theorem vaultMoved_mem (s : State) (chip : Nat) : (s.vaultMoved chip).mem = s.mem := rfl

theorem vaultMoved_leaves (h : t.ms = s.ms) (chip : Nat) :
    (t.vaultMoved chip).ms = { s.ms with vaultScrub := (t.vaultMoved chip).ms.vaultScrub } ∧
      mget 0 (t.vaultMoved chip).ms.vaultScrub chip = (mget 0 s.ms.vaultScrub chip + 1) % 2 ^ 32 ∧
      ∀ k, k ≠ chip → mget 0 (t.vaultMoved chip).ms.vaultScrub k = mget 0 s.ms.vaultScrub k := by
  rw [← h]
  exact ⟨rfl, mget_mset_same .., fun k hk => mget_mset_ne _ _ _ _ hk⟩

/-- An uncorrectable grain of a share: counted, poisoned and recorded. -/
def State.vaultUnc (s : State) (chip : Nat) : State :=
  ((s.inc F.LMF_VAULT_UE_COUNT 1 chip).poisonDev (wordsOf (vaultBase + chip * 2 ^ 40 + mget 0 s.ms.vaultScrub chip * 256) 256)).note
    0x3010 (1024 + chip) (mget 0 s.ms.vaultScrub chip * 256 % 2 ^ 32)

theorem vaultUnc_oneRecord (s : State) (chip : Nat) :
    OneRecord (s.poisonDev (wordsOf (vaultBase + chip * 2 ^ 40 + mget 0 s.ms.vaultScrub chip * 256) 256)) (s.vaultUnc chip)
      [regKey F.LMF_VAULT_UE_COUNT.key chip 0] 0x3010 (1024 + chip) (mget 0 s.ms.vaultScrub chip * 256 % 2 ^ 32) 0 :=
  have hcount : ∀ ws, OnlyRegs (s.poisonDev ws) ((s.inc F.LMF_VAULT_UE_COUNT 1 chip).poisonDev ws)
      [regKey F.LMF_VAULT_UE_COUNT.key chip 0] := fun ws => ⟨rfl,
    ((regsBut_inc s F.LMF_VAULT_UE_COUNT 1 chip 0 (List.mem_singleton.mpr rfl)).congr (poisonDev_regs _ ws)).congr_left
      (poisonDev_regs s ws)⟩
  oneRecord_of (hcount _)

theorem rd_vaultUnc (s : State) {chip : Nat} (hc : chip < 8) : (s.vaultUnc chip).rd F.LMF_VAULT_UE_COUNT chip =
    min (s.rd F.LMF_VAULT_UE_COUNT chip + 1) F.LMF_VAULT_UE_COUNT.max := by
  have hout : regKey F.LMF_VAULT_UE_COUNT.key chip 0 ∉ dbkKeys := regKey_notin_dbkKeys (by decide) hc (by decide)
  rw [State.vaultUnc, (note_regs _ _ _ _).rd _ _ _ hout, rd_of_regs (poisonDev_regs _ _)]
  exact rd_inc_same s F.LMF_VAULT_UE_COUNT 1 chip 0 rfl

theorem vaultUnc_mem (s : State) (chip : Nat) : (s.vaultUnc chip).mem = { s.mem with
    dramPoison := addPoison s.mem.dramPoison
      (wordsOf (vaultBase + chip * 2 ^ 40 + mget 0 s.ms.vaultScrub chip * 256) 256) } := by
  rw [State.vaultUnc, note_mem]; rfl

/-- The memory system's own state set on both sides of a record. -/
theorem OneRecord.setMs {keys : List Nat} {c p0 p1 p2 : Nat} (h : OneRecord s t keys c p0 p1 p2) (m : MemSys) :
    OneRecord { s with ms := m } { t with ms := m } keys c p0 p1 p2 := by
  obtain ⟨ht, hregs, hdbk⟩ := h
  refine ⟨?_, (hregs.congr rfl).congr_left rfl, hdbk.trans (note_dbk _ _ _ _ ⟨rfl, ⟨rfl, rfl, rfl⟩, rfl⟩)⟩
  generalize t.regs = r, t.dbk = k at ht
  subst ht
  rfl

/-- A record made on poisoned memory, then the scrub moved on. -/
theorem OneRecord.vaultMoved {ws keys : List Nat} {c p0 p1 p2 : Nat} (h : OneRecord (s.poisonDev ws) t keys c p0 p1 p2)
    (chip : Nat) : OneRecord { s with ms := (t.vaultMoved chip).ms, mem := (t.vaultMoved chip).mem } (t.vaultMoved chip) keys
      c p0 p1 p2 := by
  have hmem : (t.vaultMoved chip).mem = (s.poisonDev ws).mem := by rw [vaultMoved_mem, h.1]
  rw [hmem]
  exact h.setMs (t.vaultMoved chip).ms

section
variable {chip : Fin 8} (hup : s.up = true) (hport : s.rd F.PCI_PORT_STATE 0 chip = 2) (hfw : s.fwRuns (9 + chip) = true)
  (hen : s.rd F.LMF_CTRL_SCRUB_EN chip = 1)
include hup hport hfw hen

theorem exec_vaultScrub (sev : Sev) : exec (.vaultScrub chip sev) s = .next ((match sev with
    | .none => s
    | .corrected => s.inc F.LMF_VAULT_CE_COUNT 1 chip
    | .uncorrectable => s.vaultUnc chip).vaultMoved chip) := by
  have hgate : (!s.up || !s.shareUp chip || !s.fwRuns (9 + chip) || !s.flag F.LMF_CTRL_SCRUB_EN chip ||
      s.rd F.PCI_PORT_STATE 0 chip == 3) = false := by
    rw [State.shareUp, hup, hport, hfw, flag_of_one hen]; rfl
  have hnext : mget 0 s.ms.vaultScrub chip * 256 / 256 = mget 0 s.ms.vaultScrub chip := Nat.mul_div_cancel _ (by decide)
  change execVaultScrub chip sev s = _
  simp only [execVaultScrub, hgate, Bool.false_eq_true, if_false, hnext]
  cases sev with
  | none => rfl
  | corrected => rfl
  | uncorrectable =>
    have hms : (s.vaultUnc chip).ms = s.ms := note_ms _ _ _ _ _
    rw [State.vaultMoved, hms]
    simp only [State.vaultUnc, note_ms]; rfl

end

/-! ### The statement -/

/-- Settles O39: the severity decides what is told; a patrol read then moves its die's position, a vault scrub its chip's. -/
theorem scrubsReadOneGrainAndMoveOn : Obligations.ScrubsReadOneGrainAndMoveOn := by
  unfold Obligations.ScrubsReadOneGrainAndMoveOn
  intro s hup
  refine ⟨fun ch hact hfen hen => ?_, fun chip hport hfw hen => ?_⟩
  · intro d slot last moves
    have hc : ch.val < 512 := ch.isLt
    refine ⟨⟨_, exec_patrolScrub_none hup hact hfen hen, scrubMove_onlyRegs s ch, scrubMoves_self s ch⟩,
      ⟨_, exec_patrolScrub_corrected hup hact hfen hen, patrolCorrected_leaves hc⟩,
      ⟨_, exec_patrolScrub_uncorrectable hup hact hfen hen, ?_⟩⟩
    obtain ⟨hmem, hcount, hlast, hframe⟩ := patrolUnc_leaves (s := s) hc
    exact ⟨hmem.trans (patrolBad_mem s ch), hcount, hlast, hframe, fun hfew => patrolUnc_few_leaves hc hfew⟩
  · intro at_ moved
    have hc : chip.val < 8 := chip.isLt
    refine ⟨⟨_, exec_vaultScrub hup hport hfw hen .none, rfl, vaultMoved_leaves rfl chip⟩,
      ⟨_, exec_vaultScrub hup hport hfw hen .corrected, vaultMoved_leaves rfl chip, ⟨rfl, ?_⟩, ?_⟩,
      ⟨_, exec_vaultScrub hup hport hfw hen .uncorrectable, vaultMoved_leaves (note_ms _ _ _ _ _) chip, ?_, ?_, ?_⟩⟩
    · exact ((regsBut_inc s F.LMF_VAULT_CE_COUNT 1 chip 0 (List.mem_singleton.mpr rfl)).congr (vaultMoved_regs _ _)).congr_left rfl
    · exact (rd_of_regs (vaultMoved_regs _ _) _ _ _).trans (rd_inc_same s F.LMF_VAULT_CE_COUNT 1 chip 0 rfl)
    · exact (vaultUnc_oneRecord s chip).vaultMoved chip
    · exact (rd_of_regs (vaultMoved_regs _ _) _ _ _).trans (rd_vaultUnc s hc)
    · exact (vaultMoved_mem _ _).trans (vaultUnc_mem s chip)

end Sys2Proof.Machine

/-! A device's refresh multiplier and cap (08_memory_tiers.md R285) as fields within those of its channel group. -/

namespace Sys2Proof.Machine

variable {s t u : State}

/-! ### Fields within a field -/

/-- A field whose bits another field holds. -/
def Field.within (g f : Field) : Prop := f.lo ≤ g.lo ∧ g.lo ≤ g.hi ∧ g.hi ≤ f.hi

theorem bits_within {f g : Field} (h : g.within f) (w : Nat) :
    bits (bits w f.hi f.lo) (g.hi - f.lo) (g.lo - f.lo) = bits w g.hi g.lo := by
  obtain ⟨hlo, hle, hhi⟩ := h
  have hn : f.hi + 1 - f.lo = (g.lo - f.lo) + (f.hi + 1 - g.lo) := by omega
  have hk : g.hi - f.lo + 1 - (g.lo - f.lo) = g.hi + 1 - g.lo := by omega
  have hshift : f.lo + (g.lo - f.lo) = g.lo := by omega
  simp only [bits, hk]
  rw [hn, Nat.pow_add, Nat.mod_mul_right_div_self, Nat.mod_mod_of_dvd _ (Nat.pow_dvd_pow 2 (by omega)),
    Nat.div_div_eq_div_mul, ← Nat.pow_add, hshift]

/-- A number below a power of two with some of its bits replaced stays below. -/
theorem replace_bits_lt {x a k n m : Nat} (hx : x < 2 ^ n) (hn : a + k ≤ n) (hm : m < 2 ^ k) :
    x / 2 ^ (a + k) * 2 ^ (a + k) + m * 2 ^ a + x % 2 ^ a < 2 ^ n := by
  have hlow : m * 2 ^ a + x % 2 ^ a < 2 ^ (a + k) := by
    have := Nat.mod_lt x (Nat.two_pow_pos a)
    calc m * 2 ^ a + x % 2 ^ a < (m + 1) * 2 ^ a := by rw [Nat.succ_mul]; omega
      _ ≤ 2 ^ k * 2 ^ a := Nat.mul_le_mul_right _ hm
      _ = 2 ^ (a + k) := by rw [← Nat.pow_add, Nat.add_comm]
  have hhigh : x / 2 ^ (a + k) < 2 ^ (n - (a + k)) := by
    rw [Nat.div_lt_iff_lt_mul (Nat.two_pow_pos _), ← Nat.pow_add, Nat.sub_add_cancel hn]; exact hx
  calc x / 2 ^ (a + k) * 2 ^ (a + k) + m * 2 ^ a + x % 2 ^ a
      < (x / 2 ^ (a + k) + 1) * 2 ^ (a + k) := by rw [Nat.succ_mul]; omega
    _ ≤ 2 ^ (n - (a + k)) * 2 ^ (a + k) := Nat.mul_le_mul_right _ hhigh
    _ = 2 ^ n := by rw [← Nat.pow_add, Nat.sub_add_cancel hn]

/-- Replacing the bits of a field within a field is putting them in the register. -/
theorem putField_within {f g : Field} (h : g.within f) (w : W64) {m : Nat} (hm : m < 2 ^ (g.hi + 1 - g.lo)) :
    putField w f (bits w.toNat f.hi f.lo - bits w.toNat g.hi g.lo * 2 ^ (g.lo - f.lo) + m * 2 ^ (g.lo - f.lo)) =
      putField w g m := by
  have hb := bits_within h w.toNat
  obtain ⟨hlo, hle, hhi⟩ := h
  have hx : bits w.toNat f.hi f.lo < 2 ^ (f.hi + 1 - f.lo) := Nat.mod_lt _ (Nat.two_pow_pos _)
  have hxw : bits w.toNat f.hi f.lo * 2 ^ f.lo ≤ w.toNat :=
    (Nat.mul_le_mul_right _ (Nat.mod_le _ _)).trans (Nat.div_mul_le_self _ _)
  have hcut := cut_field (bits w.toNat f.hi f.lo) (g.lo - f.lo) (g.hi + 1 - g.lo)
  have hk : g.hi - f.lo + 1 - (g.lo - f.lo) = g.hi + 1 - g.lo := by omega
  rw [bits, hk] at hb
  rw [hb] at hcut
  have hlt := replace_bits_lt (a := g.lo - f.lo) (k := g.hi + 1 - g.lo) hx (by omega) hm
  have hpow : 2 ^ g.lo = 2 ^ (g.lo - f.lo) * 2 ^ f.lo := by rw [← Nat.pow_add, Nat.sub_add_cancel hlo]
  have hgx : bits w.toNat g.hi g.lo * 2 ^ (g.lo - f.lo) ≤ bits w.toNat f.hi f.lo := by omega
  have hsum : bits w.toNat f.hi f.lo - bits w.toNat g.hi g.lo * 2 ^ (g.lo - f.lo) + m * 2 ^ (g.lo - f.lo) <
      2 ^ (f.hi + 1 - f.lo) := by omega
  simp only [putField, Nat.mod_eq_of_lt hsum, Nat.mod_eq_of_lt hm, hpow]
  congr 1
  rw [Nat.add_mul, Nat.sub_mul, ← Nat.mul_assoc, ← Nat.mul_assoc]
  have hgw := Nat.mul_le_mul_right (2 ^ f.lo) hgx
  omega

/-- A field that holds the value put in it stays. -/
theorem putField_self (w : W64) (f : Field) : putField w f (bits w.toNat f.hi f.lo) = w := by
  have hle : bits w.toNat f.hi f.lo * 2 ^ f.lo ≤ w.toNat :=
    (Nat.mul_le_mul_right _ (Nat.mod_le _ _)).trans (Nat.div_mul_le_self _ _)
  have hmod : bits w.toNat f.hi f.lo % 2 ^ (f.hi + 1 - f.lo) = bits w.toNat f.hi f.lo := Nat.mod_mod _ _
  rw [putField, hmod, Nat.sub_add_cancel hle, BitVec.ofNat_toNat, BitVec.setWidth_eq]

/-! ### A device's multiplier and cap -/

/-- The two bits of MEM_REFRESH that hold a device's multiplier. -/
def multField (v : Nat) : Field := ⟨F.MEM_REFRESH_MULT.key, 2 * v + 1, 2 * v⟩

/-- The bit of MEM_REFRESH that says a device is capped. -/
def cappedField (v : Nat) : Field := ⟨F.MEM_REFRESH_MULT.key, 8 + v, 8 + v⟩

section
variable {v : Nat} (hv : v < 4)
include hv

theorem multField_within : (multField v).within F.MEM_REFRESH_MULT := by
  simp only [Field.within, multField, F.MEM_REFRESH_MULT]; omega

theorem cappedField_within : (cappedField v).within F.MEM_REFRESH_CAPPED := by
  simp only [Field.within, cappedField, F.MEM_REFRESH_CAPPED]; omega

theorem multOf_eq (s : State) (d g : Nat) : s.multOf d g v = s.rd (multField v) d g := bits_within (multField_within hv) _

theorem bit_rd_capped (s : State) (d g : Nat) :
    bit (s.rd F.MEM_REFRESH_CAPPED d g) v = decide (s.rd (cappedField v) d g = 1) := by
  have h := bits_within (cappedField_within hv) (s.reg (regKey F.MEM_REFRESH_CAPPED.key d g)).toNat
  have hwidth : 8 + v - 8 + 1 - (8 + v - 8) = 1 := by omega
  have hplace : 8 + v - 8 = v := by omega
  rw [bits, show (cappedField v).hi - F.MEM_REFRESH_CAPPED.lo + 1 - ((cappedField v).lo - F.MEM_REFRESH_CAPPED.lo) = 1 from hwidth,
    show (cappedField v).lo - F.MEM_REFRESH_CAPPED.lo = v from hplace, Nat.pow_one] at h
  exact decide_eq_decide.mpr (by rw [State.rd, h]; rfl)

theorem cappedOf_eq (s : State) (d g : Nat) : s.cappedOf d g v = decide (s.rd (cappedField v) d g = 1) := bit_rd_capped hv s d g

theorem setMult_eq_st (s : State) (d g : Nat) {m : Nat} (hm : m < 4) : s.setMult d g v m = s.st (multField v) m d g := by
  have hwidth : (multField v).hi + 1 - (multField v).lo = 2 := by simp only [multField]; omega
  have hfour : 4 ^ v = 2 ^ (2 * v) := by rw [Nat.pow_mul]
  have h := putField_within (multField_within hv) (s.reg (regKey F.MEM_REFRESH_MULT.key d g)) (m := m) (by rw [hwidth]; exact hm)
  rw [← bits_within (multField_within hv)] at h
  rw [State.setMult, hfour]
  exact congrArg (s.setReg (regKey F.MEM_REFRESH_MULT.key d g)) h

theorem setCapped_sets (s : State) (d g : Nat) (on : Bool) : Sets s (s.setCapped d g v on) (regKey F.MEM_REFRESH_MULT.key d g)
    [(cappedField v, b2n on)] := by
  let w := s.reg (regKey F.MEM_REFRESH_CAPPED.key d g)
  let x := s.rd F.MEM_REFRESH_CAPPED d g
  let c := s.rd (cappedField v) d g
  have hwidth : (cappedField v).hi + 1 - (cappedField v).lo = 1 := by simp only [cappedField]; omega
  have hplace : (cappedField v).lo - F.MEM_REFRESH_CAPPED.lo = v := by simp only [cappedField, F.MEM_REFRESH_CAPPED]; omega
  have hput : ∀ m, m < 2 → putField w F.MEM_REFRESH_CAPPED (x - c * 2 ^ v + m * 2 ^ v) = putField w (cappedField v) m :=
    fun m hm => by
      have h := putField_within (cappedField_within hv) w (m := m) (by rw [hwidth]; exact hm)
      rw [hplace] at h
      exact h
  have hself : putField w (cappedField v) c = w := putField_self w (cappedField v)
  have hclt : c < 2 := by have := rd_lt s (cappedField v) d g; rwa [hwidth] at this
  have hset : ∀ y, (s.st F.MEM_REFRESH_CAPPED y d g).reg (regKey F.MEM_REFRESH_MULT.key d g) = putField w F.MEM_REFRESH_CAPPED y :=
    fun y => reg_setReg_same ..
  have hbit : bit x v = decide (c = 1) := bit_rd_capped hv s d g
  change (s.setCapped d g v on).reg (regKey F.MEM_REFRESH_MULT.key d g) = putField w (cappedField v) (b2n on)
  have hc : c = 0 ∨ c = 1 := by omega
  cases on with
  | true =>
    have hcap : s.setCapped d g v true = if bit x v then s else s.st F.MEM_REFRESH_CAPPED (x + 2 ^ v) d g := rfl
    rw [hcap, hbit]
    obtain hc | hc := hc
    · have h := hput 1 (by decide)
      rw [hc, Nat.zero_mul, Nat.sub_zero, Nat.one_mul] at h
      rw [hc, if_neg (by decide), hset]
      exact h
    · rw [hc] at hself
      rw [hc, if_pos (by decide)]
      exact hself.symm
  | false =>
    have hcap : s.setCapped d g v false = if bit x v then s.st F.MEM_REFRESH_CAPPED (x - 2 ^ v) d g else s := rfl
    rw [hcap, hbit]
    obtain hc | hc := hc
    · rw [hc] at hself
      rw [hc, if_neg (by decide)]
      exact hself.symm
    · have h := hput 0 (by decide)
      rw [hc, Nat.one_mul, Nat.zero_mul, Nat.add_zero] at h
      rw [hc, if_pos (by decide), hset]
      exact h

end

theorem setCapped_onlyRegs (s : State) (d g v : Nat) (on : Bool) :
    OnlyRegs s (s.setCapped d g v on) [regKey F.MEM_REFRESH_MULT.key d g] := by
  have hin : regKey F.MEM_REFRESH_CAPPED.key d g ∈ [regKey F.MEM_REFRESH_MULT.key d g] := List.mem_singleton.mpr rfl
  cases on with
  | true => exact ⟨frame_regs (t := s.setBit F.MEM_REFRESH_CAPPED v d g), regsBut_setBit s F.MEM_REFRESH_CAPPED v d g hin⟩
  | false => exact ⟨frame_regs (t := s.clearBit F.MEM_REFRESH_CAPPED v d g), regsBut_clearBit F.MEM_REFRESH_CAPPED v d g hin⟩

/-- A device's multiplier and cap set in MEM_REFRESH (R285). -/
def State.refreshSet (s : State) (d g v m : Nat) (cap : Bool) : State := (s.setMult d g v m).setCapped d g v cap

theorem refreshSet_onlyRegs (s : State) (d g v m : Nat) (cap : Bool) :
    OnlyRegs s (s.refreshSet d g v m cap) [regKey F.MEM_REFRESH_MULT.key d g] :=
  ((onlyRegs_refl s _).st F.MEM_REFRESH_MULT _ d g (List.mem_singleton.mpr rfl)).step (setCapped_onlyRegs _ d g v cap)

theorem multField_ok {v : Nat} (hv : v < 4) : (multField v).ok = true := by
  simp only [Field.ok, multField]; exact decide_eq_true (by omega)

theorem cappedField_ok {v : Nat} (hv : v < 4) : (cappedField v).ok = true := by
  simp only [Field.ok, cappedField]; exact decide_eq_true (by omega)

theorem beside_of {f g : Field} (hf : f.ok = true) (hg : g.ok = true) (hkey : g.key = f.key) (h : g.hi < f.lo ∨ f.hi < g.lo) :
    f.beside g = true := by
  rw [Field.beside, hf, hg]; exact decide_eq_true ⟨hkey, h⟩

/-- The device's own fields are set, those of the other devices of the channel group stay. -/
theorem refreshSet_leaves (s : State) (d g : Nat) {v m : Nat} (hv : v < 4) (hm : m < 4) (cap : Bool) :
    let t := s.refreshSet d g v m cap
    t.multOf d g v = m ∧ t.cappedOf d g v = cap ∧
      ∀ w, w < 4 → w ≠ v → t.multOf d g w = s.multOf d g w ∧ t.cappedOf d g w = s.cappedOf d g w := by
  intro t
  let r := (s.st (multField v) m d g).st (cappedField v) (b2n cap) d g
  have hrd : ∀ f : Field, f.key = F.MEM_REFRESH_MULT.key → t.rd f d g = r.rd f d g := fun f hf => by
    have hword := setCapped_sets hv (s.setMult d g v m) d g cap
    rw [Sets, setMult_eq_st hv s d g hm] at hword
    have hr : r.reg (regKey F.MEM_REFRESH_MULT.key d g) =
        putField ((s.st (multField v) m d g).reg (regKey F.MEM_REFRESH_MULT.key d g)) (cappedField v) (b2n cap) := reg_setReg_same ..
    have ht : t = (s.st (multField v) m d g).setCapped d g v cap := by rw [← setMult_eq_st hv s d g hm]; rfl
    rw [State.rd, hf, ht, hword, State.rd, hf, hr]; rfl
  have hcap : ∀ {f : Field}, (cappedField v).beside f = true → r.rd f d g = (s.st (multField v) m d g).rd f d g :=
    rd_st_beside _ _ _ _ _ _
  have hmult : ∀ {f : Field}, (multField v).beside f = true → (s.st (multField v) m d g).rd f d g = s.rd f d g :=
    rd_st_beside _ _ _ _ _ _
  refine ⟨?_, ?_, fun w hw hne => ⟨?_, ?_⟩⟩
  · have hbeside : (cappedField v).beside (multField v) = true :=
      beside_of (cappedField_ok hv) (multField_ok hv) rfl (.inl (by simp only [multField, cappedField]; omega))
    rw [multOf_eq hv, hrd (multField v) rfl, hcap hbeside, rd_st_same _ _ _ _ _ (multField_ok hv)]
    exact Nat.mod_eq_of_lt (by simp only [multField]; rw [show 2 * v + 1 + 1 - 2 * v = 2 by omega]; exact hm)
  · rw [cappedOf_eq hv, hrd (cappedField v) rfl, rd_st_same _ _ _ _ _ (cappedField_ok hv),
      show (cappedField v).hi + 1 - (cappedField v).lo = 1 by simp only [cappedField]; omega]
    cases cap <;> rfl
  · have hbeside : (cappedField v).beside (multField w) = true :=
      beside_of (cappedField_ok hv) (multField_ok hw) rfl (.inl (by simp only [multField, cappedField]; omega))
    have hbeside' : (multField v).beside (multField w) = true :=
      beside_of (multField_ok hv) (multField_ok hw) rfl (by simp only [multField]; omega)
    rw [multOf_eq hw, multOf_eq hw, hrd (multField w) rfl, hcap hbeside, hmult hbeside']
  · have hbeside : (cappedField v).beside (cappedField w) = true :=
      beside_of (cappedField_ok hv) (cappedField_ok hw) rfl (by simp only [cappedField]; omega)
    have hbeside' : (multField v).beside (cappedField w) = true :=
      beside_of (multField_ok hv) (cappedField_ok hw) rfl (.inr (by simp only [multField, cappedField]; omega))
    rw [cappedOf_eq hw, cappedOf_eq hw, hrd (cappedField w) rfl, hcap hbeside, hmult hbeside']

end Sys2Proof.Machine

/-! Refresh by temperature and retraining in service (08_memory_tiers.md R285, R286, R292): the row a device moves to, a reading,
the steward's absence and a slice; then the statement. -/

namespace Sys2Proof.Machine

variable {s t u : State}

/-! ### The row of a device (R285) -/

/-- The time, plus one, since which readings stay 2 below a row's threshold, 0 when this one does not. -/
def State.coolMark (s : State) (dev x r : Nat) : Nat :=
  if x + 2 ≤ rowLimit r then (if mget 0 s.ms.coolSince (dev * 4 + r) = 0 then s.clk.now + 1 else mget 0 s.ms.coolSince (dev * 4 + r))
  else 0

def State.coolTime (s : State) (dev x r : Nat) : State :=
  { s with ms := { s.ms with coolSince := mset 0 s.ms.coolSince (dev * 4 + r) (s.coolMark dev x r) } }

theorem coolTimes_eq (s : State) (dev x : Nat) :
    s.coolTimes dev x = ((s.coolTime dev x 1).coolTime dev x 2).coolTime dev x 3 := rfl

theorem mget_coolTime (s : State) (dev x r j : Nat) : mget 0 (s.coolTime dev x r).ms.coolSince (dev * 4 + j) =
    if j = r then s.coolMark dev x r else mget 0 s.ms.coolSince (dev * 4 + j) := by
  have h : dev * 4 + j = dev * 4 + r ↔ j = r := by omega
  rw [State.coolTime, mget_mset, if_congr h rfl rfl]

theorem coolMark_coolTime (s : State) (dev x : Nat) {q r : Nat} (h : q ≠ r) :
    (s.coolTime dev x r).coolMark dev x q = s.coolMark dev x q := by
  have hclk : (s.coolTime dev x r).clk = s.clk := rfl
  rw [State.coolMark, mget_coolTime, if_neg h, hclk, State.coolMark]

/-- After a reading each row that has a threshold holds its mark. -/
theorem mget_coolTimes (s : State) (dev x : Nat) {j : Nat} (h0 : j ≠ 0) (h3 : j ≤ 3) :
    mget 0 (s.coolTimes dev x).ms.coolSince (dev * 4 + j) = s.coolMark dev x j := by
  rw [coolTimes_eq, mget_coolTime, mget_coolTime, mget_coolTime, coolMark_coolTime _ _ _ (by decide),
    coolMark_coolTime _ _ _ (by decide), coolMark_coolTime _ _ _ (by decide)]
  obtain rfl | rfl | rfl : j = 1 ∨ j = 2 ∨ j = 3 := by omega
  · rfl
  · rfl
  · rfl

/-- The row that a device in a row moves to with a reading: up at once, down one after 100 ms 2 C below its threshold. -/
def State.rowAfter (s : State) (dev cur x : Nat) : Nat :=
  let since := mget 0 s.ms.coolSince (dev * 4 + cur)
  if cur < refreshRow x then refreshRow x
  else if cur ≠ 0 ∧ x + 2 ≤ rowLimit cur ∧ since ≠ 0 ∧ since - 1 + 2500000 ≤ s.clk.now then cur - 1 else cur

theorem nextRow_coolTimes (s : State) (dev x : Nat) {cur : Nat} (h : cur ≤ 3) :
    (s.coolTimes dev x).nextRow dev cur x = s.rowAfter dev cur x := by
  by_cases hup : cur < refreshRow x
  · rw [State.nextRow, if_pos hup, State.rowAfter]; exact (if_pos hup).symm
  by_cases h0 : cur = 0
  · rw [State.nextRow, if_neg hup, if_pos h0, State.rowAfter, if_neg hup, if_neg (fun hc => hc.1 h0), h0]
  have hclk : (s.coolTimes dev x).clk = s.clk := rfl
  rw [State.nextRow, if_neg hup, if_neg h0, mget_coolTimes s dev x h0 h, State.rowAfter, if_neg hup]
  simp only [State.coolMark, State.after, hclk, msec]
  by_cases hcool : x + 2 ≤ rowLimit cur
  · cases hsince : mget 0 s.ms.coolSince (dev * 4 + cur) with
    | zero => simp [hcool]
    | succ k => simp [hcool, h0]
  · simp [hcool]

theorem refreshRow_le (x : Nat) : refreshRow x ≤ 3 := by unfold refreshRow; split_ifs <;> omega

/-- The row a device is in: capped above 105 C, else by its multiplier. -/
def State.rowOf (s : State) (d g v : Nat) : Nat := if s.cappedOf d g v then 3 else s.multOf d g v

theorem rowOf_le (s : State) (d g v : Nat) : s.rowOf d g v ≤ 3 := by
  have hmult : s.multOf d g v < 2 ^ (2 * v + 1 + 1 - 2 * v) := Nat.mod_lt _ (Nat.two_pow_pos _)
  rw [show 2 * v + 1 + 1 - 2 * v = 2 by omega] at hmult
  unfold State.rowOf
  split_ifs <;> omega

/-- A device's multiplier and cap rest on its group's register. -/
theorem device_of_reg {d g : Nat}
    (h : t.reg (regKey F.MEM_REFRESH_MULT.key d g) = s.reg (regKey F.MEM_REFRESH_MULT.key d g)) (v : Nat) :
    t.multOf d g v = s.multOf d g v ∧ t.cappedOf d g v = s.cappedOf d g v := by
  have hmult : t.rd F.MEM_REFRESH_MULT d g = s.rd F.MEM_REFRESH_MULT d g := congrArg (fun w : W64 => bits w.toNat _ _) h
  have hcap : t.rd F.MEM_REFRESH_CAPPED d g = s.rd F.MEM_REFRESH_CAPPED d g := congrArg (fun w : W64 => bits w.toNat _ _) h
  exact ⟨congrArg (bits · _ _) hmult, congrArg (bit · v) hcap⟩

/-! ### A reading (R285, R292) -/

theorem tempField_key (v : Nat) : (tempField v).key = F.MEM_TEMP_DEV0.key := by
  unfold tempField; split <;> rfl

theorem tempField_ok (v : Nat) : (tempField v).ok = true := by unfold tempField; split <;> rfl

theorem tempField_width (v : Nat) : (tempField v).hi + 1 - (tempField v).lo = 8 := by unfold tempField; split <;> rfl

/-- Channels of a device that have had no reading yet count as trained at this one (R292). -/
def State.trainMarks (s : State) (d base x : Nat) (l : List Nat) : State :=
  l.foldl (fun s k =>
    if s.rd F.MEM_CH_STATE_TRAIN_TEMP d (base + k) = 0 then s.st F.MEM_CH_STATE_TRAIN_TEMP x d (base + k) else s) s

theorem trainMarks_onlyRegs (s : State) (d base x : Nat) (l : List Nat) :
    OnlyRegs s (s.trainMarks d base x l) (l.map (fun k => regKey F.MEM_CH_STATE_STATE.key d (base + k))) := by
  induction l generalizing s with
  | nil => exact onlyRegs_refl s _
  | cons k l ih =>
    have hmono : ∀ {v w : State}, OnlyRegs v w (l.map (fun k => regKey F.MEM_CH_STATE_STATE.key d (base + k))) →
        OnlyRegs v w ((k :: l).map (fun k => regKey F.MEM_CH_STATE_STATE.key d (base + k))) := fun h =>
      h.mono fun _ => List.mem_cons_of_mem _
    have hcons : s.trainMarks d base x (k :: l) = (if s.rd F.MEM_CH_STATE_TRAIN_TEMP d (base + k) = 0
      then s.st F.MEM_CH_STATE_TRAIN_TEMP x d (base + k) else s).trainMarks d base x l := rfl
    rw [hcons]
    split
    · exact ((onlyRegs_refl s _).st F.MEM_CH_STATE_TRAIN_TEMP x d (base + k) (List.mem_cons_self ..)).step (hmono (ih _))
    · exact hmono (ih s)

/-- The registers that a reading stores. -/
def State.tempStored (s : State) (d g v x : Nat) : State :=
  (s.st (tempField v) x d g).trainMarks d (g * 16 + v * 4) x (List.range 4)

/-- Their elements. -/
def tempKeys (d g v : Nat) : List Nat :=
  regKey F.MEM_TEMP_DEV0.key d g :: (List.range 4).map (fun k => regKey F.MEM_CH_STATE_STATE.key d (g * 16 + v * 4 + k))

theorem tempStored_onlyRegs (s : State) (d g v x : Nat) : OnlyRegs s (s.tempStored d g v x) (tempKeys d g v) :=
  ((onlyRegs_refl s _).st (tempField v) x d g (by rw [tempField_key]; exact List.mem_cons_self ..)).step
    ((trainMarks_onlyRegs _ _ _ _ _).mono fun _ => List.mem_cons_of_mem _)

theorem tempKeys_range {d g v k : Nat} (hd : d < 4) (hg : g < 8) (hv : v < 4) (h : k ∈ tempKeys d g v) :
    (41984 ≤ k ∧ k < 43008) ∨ (44032 ≤ k ∧ k < 45056) := by
  obtain rfl | h := List.mem_cons.mp h
  · simp only [regKey, F.MEM_TEMP_DEV0]; omega
  · obtain ⟨c, hc, rfl⟩ := List.mem_map.mp h
    rw [List.mem_range] at hc
    simp only [regKey, F.MEM_CH_STATE_STATE]; omega

theorem rd_tempStored (s : State) {d g v x : Nat} (hg : g < 8) (hx : x < 256) :
    (s.tempStored d g v x).rd (tempField v) d g = x := by
  refine ((trainMarks_onlyRegs (s.st (tempField v) x d g) d (g * 16 + v * 4) x (List.range 4)).2.rd _ _ _ fun hk => ?_).trans ?_
  · obtain ⟨c, -, hc⟩ := List.mem_map.mp hk
    simp only [tempField_key, regKey, F.MEM_TEMP_DEV0, F.MEM_CH_STATE_STATE] at hc
    omega
  · rw [rd_st_same _ _ _ _ _ (tempField_ok v), tempField_width]; exact Nat.mod_eq_of_lt hx

theorem coolTimes_regs (s : State) (dev x : Nat) : (s.coolTimes dev x).regs = s.regs := rfl

theorem coolTimes_frame (h : t = { s with regs := t.regs }) (dev x : Nat) :
    t.coolTimes dev x = { s with regs := (t.coolTimes dev x).regs, ms := (t.coolTimes dev x).ms } := by
  rw [coolTimes_regs]
  generalize t.regs = r at h
  subst h
  rfl

theorem coolTimes_ms (s : State) (dev x : Nat) :
    (s.coolTimes dev x).ms = { s.ms with coolSince := (s.coolTimes dev x).ms.coolSince } := rfl

/-! ### What follows a reading while the steward runs (R285) -/

theorem OnlyRegs.regsDbkFrame {keys : List Nat} (h : OnlyRegs s t keys) : t = { s with regs := t.regs, dbk := t.dbk } := by
  obtain ⟨ht, -⟩ := h
  generalize t.regs = r at ht
  subst ht
  rfl

/-- The records of a device whose multiplier changed and of one that was capped. -/
def State.refreshNoted (s : State) (dev x m0 m cur row : Nat) : State :=
  let s := if m ≠ m0 then s.note 0x3007 dev (2 ^ m) x else s
  if row = 3 ∧ cur ≠ 3 then s.note 0x3008 dev x else s

theorem refreshNoted_regs (s : State) (dev x m0 m cur row : Nat) : RegsBut s (s.refreshNoted dev x m0 m cur row) dbkKeys := by
  have hmult : RegsBut s (if m ≠ m0 then s.note 0x3007 dev (2 ^ m) x else s) dbkKeys := by
    split
    · exact note_regs _ _ _ _
    · exact RegsBut.refl _ _
  unfold State.refreshNoted
  dsimp only
  split
  · exact hmult.step (note_regs _ _ _ _)
  · exact hmult

theorem refreshNoted_frame (s : State) (dev x m0 m cur row : Nat) : s.refreshNoted dev x m0 m cur row =
    { s with regs := (s.refreshNoted dev x m0 m cur row).regs, dbk := (s.refreshNoted dev x m0 m cur row).dbk } := by
  have hite : ∀ (p : Prop) [Decidable p] (v : State) (c p0 p1 p2 : Nat), (if p then v.note c p0 p1 p2 else v) =
      { v with regs := (if p then v.note c p0 p1 p2 else v).regs, dbk := (if p then v.note c p0 p1 p2 else v).dbk } := by
    intro p _ v c p0 p1 p2
    split
    · exact frame_regs_dbk
    · rfl
  exact regsDbkFrame_trans (hite _ s _ _ _ _) (hite _ _ _ _ _ _)

theorem refreshNoted_dbk (h : SameRec s t) (dev x m0 m cur row : Nat) :
    (s.refreshNoted dev x m0 m cur row).dbk = (t.refreshNoted dev x m0 m cur row).dbk := by
  have hmult : SameRec (if m ≠ m0 then s.note 0x3007 dev (2 ^ m) x else s) (if m ≠ m0 then t.note 0x3007 dev (2 ^ m) x else t) := by
    split
    · exact h.note _ _ _ _
    · exact h
  unfold State.refreshNoted
  dsimp only
  split
  · exact note_dbk _ _ _ _ hmult
  · exact hmult.1

/-- The multiplier a row asks for, at least the floor (R285). -/
def State.multAfter (s : State) (d row : Nat) : Nat := max (min row 2) (s.rd F.MEM_CTRL_REF_FLOOR d)

theorem multAfter_lt (s : State) (d row : Nat) : s.multAfter d row < 4 := by
  have hfloor := rd_lt s F.MEM_CTRL_REF_FLOOR d 0
  change _ < 4 at hfloor
  unfold State.multAfter; omega

/-- A device's multiplier and cap follow its row. -/
def State.refreshTo (s : State) (dev d g v x row : Nat) : State :=
  (s.refreshSet d g v (s.multAfter d row) (row == 3)).refreshNoted dev x (s.multOf d g v) (s.multAfter d row) (s.rowOf d g v) row

section
variable (s : State) (dev x row : Nat) {d g v : Nat}

theorem refreshTo_regs : RegsBut s (s.refreshTo dev d g v x row) (regKey F.MEM_REFRESH_MULT.key d g :: dbkKeys) :=
  ((refreshSet_onlyRegs s d g v _ _).2.mono (by simp +contextual)).step
    ((refreshNoted_regs _ _ _ _ _ _ _).mono fun _ => List.mem_cons_of_mem _)

theorem refreshTo_frame : s.refreshTo dev d g v x row =
    { s with regs := (s.refreshTo dev d g v x row).regs, dbk := (s.refreshTo dev d g v x row).dbk } :=
  regsDbkFrame_trans (refreshSet_onlyRegs s d g v _ _).regsDbkFrame (refreshNoted_frame _ _ _ _ _ _ _)

theorem refreshTo_leaves (hd : d < 8) (hg : g < 128) (hv : v < 4) :
    let t := s.refreshTo dev d g v x row
    t.multOf d g v = s.multAfter d row ∧ t.cappedOf d g v = (row == 3) ∧
      ∀ w, w < 4 → w ≠ v → t.multOf d g w = s.multOf d g w ∧ t.cappedOf d g w = s.cappedOf d g w := by
  intro t
  have hkept := fun w => device_of_reg (refreshNoted_regs (s.refreshSet d g v (s.multAfter d row) (row == 3)) dev x (s.multOf d g v)
    (s.multAfter d row) (s.rowOf d g v) row _ (regKey_notin_dbkKeys (.inl (by decide)) hd hg)) w
  obtain ⟨hmult, hcap, hothers⟩ := refreshSet_leaves s d g hv (multAfter_lt s d row) (row == 3)
  obtain ⟨hm, hc⟩ := hkept v
  refine ⟨hm.trans hmult, hc.trans hcap, fun w hw hne => ?_⟩
  obtain ⟨hm, hc⟩ := hkept w
  obtain ⟨hm', hc'⟩ := hothers w hw hne
  exact ⟨hm.trans hm', hc.trans hc'⟩

theorem refreshTo_dbk : (s.refreshTo dev d g v x row).dbk =
    (s.refreshNoted dev x (s.multOf d g v) (s.multAfter d row) (s.rowOf d g v) row).dbk :=
  refreshNoted_dbk (sameRec_of_regsFrame (refreshSet_onlyRegs s d g v _ _).1) _ _ _ _ _ _

end

/-- A reading stored and marked. -/
def State.tempTaken (s : State) (dev x : Nat) : State :=
  (s.tempStored (dev / 32) (dev % 32 / 4) (dev % 4) x).coolTimes dev x

theorem readTemp_eq (s : State) (dev x : Nat) : s.readTemp dev x =
    if !(s.tempTaken dev x).fwRuns 4 || (s.tempTaken dev x).flag F.MEM_STATUS_STEWARD_ABSENT (dev / 32) then s.tempTaken dev x
    else (s.tempTaken dev x).refreshTo dev (dev / 32) (dev % 32 / 4) (dev % 4) x
      ((s.tempTaken dev x).nextRow dev ((s.tempTaken dev x).rowOf (dev / 32) (dev % 32 / 4) (dev % 4)) x) := rfl

theorem tempTaken_regs (s : State) (dev x : Nat) :
    RegsBut s (s.tempTaken dev x) (tempKeys (dev / 32) (dev % 32 / 4) (dev % 4)) :=
  (tempStored_onlyRegs s _ _ _ x).2.congr (coolTimes_regs _ dev x)

theorem tempTaken_frame (s : State) (dev x : Nat) :
    s.tempTaken dev x = { s with regs := (s.tempTaken dev x).regs, ms := (s.tempTaken dev x).ms } :=
  coolTimes_frame (tempStored_onlyRegs s (dev / 32) (dev % 32 / 4) (dev % 4) x).1 dev x

theorem tempTaken_sameRec (s : State) (dev x : Nat) : SameRec (s.tempTaken dev x) s := by
  have h := tempTaken_frame s dev x
  generalize (s.tempTaken dev x).regs = r, (s.tempTaken dev x).ms = m at h
  rw [h]
  exact ⟨rfl, ⟨rfl, rfl, rfl⟩, rfl⟩

theorem tempTaken_ms (s : State) (dev x : Nat) :
    (s.tempTaken dev x).ms = { s.ms with coolSince := (s.tempTaken dev x).ms.coolSince } := by
  have h := (tempStored_onlyRegs s (dev / 32) (dev % 32 / 4) (dev % 4) x).ms_eq
  rw [State.tempTaken, coolTimes_ms, h]

/-- The row that a reading moves a device to is `rowAfter` of the state before it. -/
theorem nextRow_tempTaken {dev x cur : Nat} (h : cur ≤ 3) : (s.tempTaken dev x).nextRow dev cur x = s.rowAfter dev cur x := by
  obtain ⟨ht, -⟩ := tempStored_onlyRegs s (dev / 32) (dev % 32 / 4) (dev % 4) x
  rw [State.tempTaken, nextRow_coolTimes _ dev x h, ht]; rfl

section
variable {dev : Nat} (hdev : dev < 128) (x : Nat)
include hdev

/-- A reading leaves every register but MEM_TEMP and MEM_CH_STATE. -/
theorem reg_tempTaken {a i j : Nat} (ha : a + 1024 ≤ 41984 ∨ a = F.MEM_REFRESH_MULT.key ∨ 45056 ≤ a) (hi : i < 8) (hj : j < 128) :
    (s.tempTaken dev x).reg (regKey a i j) = s.reg (regKey a i j) := by
  refine tempTaken_regs s dev x _ fun hk => ?_
  have := tempKeys_range (by omega) (by omega) (by omega) hk
  simp only [regKey, F.MEM_REFRESH_MULT] at this ha
  omega

theorem rd_tempTaken {f : Field} {i j : Nat} (hf : f.key + 1024 ≤ 41984 ∨ f.key = F.MEM_REFRESH_MULT.key ∨ 45056 ≤ f.key)
    (hi : i < 8) (hj : j < 128) : (s.tempTaken dev x).rd f i j = s.rd f i j := by
  rw [State.rd, reg_tempTaken hdev x hf hi hj, State.rd]

theorem device_tempTaken (v : Nat) :
    (s.tempTaken dev x).multOf (dev / 32) (dev % 32 / 4) v = s.multOf (dev / 32) (dev % 32 / 4) v ∧
      (s.tempTaken dev x).cappedOf (dev / 32) (dev % 32 / 4) v = s.cappedOf (dev / 32) (dev % 32 / 4) v :=
  device_of_reg (reg_tempTaken hdev x (.inr (.inl rfl)) (by omega) (by omega)) v

theorem rowOf_tempTaken : (s.tempTaken dev x).rowOf (dev / 32) (dev % 32 / 4) (dev % 4) =
    s.rowOf (dev / 32) (dev % 32 / 4) (dev % 4) := by
  obtain ⟨hmult, hcap⟩ := device_tempTaken (s := s) hdev x (dev % 4)
  rw [State.rowOf, hmult, hcap, State.rowOf]

theorem readTemp_stored (h : s.fwRuns 4 = false ∨ s.rd F.MEM_STATUS_STEWARD_ABSENT (dev / 32) = 1) :
    s.readTemp dev x = s.tempTaken dev x := by
  rw [readTemp_eq]
  refine if_pos ?_
  rw [State.fwRuns, State.fwState, State.flag, rd_tempTaken hdev x (.inr (.inr (by decide))) (by decide) (by decide),
    rd_tempTaken hdev x (.inl (by decide)) (by omega) (by decide)]
  obtain h | h := h
  · rw [State.fwRuns, State.fwState] at h
    rw [h]; rfl
  · rw [h]; exact Bool.or_true _

theorem readTemp_refreshed (hfw : s.fwRuns 4 = true) (h : s.rd F.MEM_STATUS_STEWARD_ABSENT (dev / 32) = 0) :
    s.readTemp dev x = (s.tempTaken dev x).refreshTo dev (dev / 32) (dev % 32 / 4) (dev % 4) x
      (s.rowAfter dev (s.rowOf (dev / 32) (dev % 32 / 4) (dev % 4)) x) := by
  rw [readTemp_eq, rowOf_tempTaken hdev, nextRow_tempTaken (rowOf_le ..)]
  refine if_neg ?_
  rw [State.fwRuns, State.fwState, State.flag, rd_tempTaken hdev x (.inr (.inr (by decide))) (by decide) (by decide),
    rd_tempTaken hdev x (.inl (by decide)) (by omega) (by decide), h]
  rw [State.fwRuns, State.fwState] at hfw
  rw [hfw]; decide

end

/-! ### The steward's absence (R286) -/

/-- A die's devices at 4x, its steward absent. -/
def State.absentDie (s : State) (d : Nat) : State :=
  (List.range 8).foldl (fun s g => s.st F.MEM_REFRESH_MULT 0xAA d g) (s.st F.MEM_STATUS_STEWARD_ABSENT 1 d)

/-- One field set in several elements of a register. -/
theorem foldl_st_onlyRegs (s : State) (f : Field) (v d : Nat) (l : List Nat) :
    OnlyRegs s (l.foldl (fun s g => s.st f v d g) s) (l.map (regKey f.key d)) := by
  induction l generalizing s with
  | nil => exact onlyRegs_refl s _
  | cons g l ih =>
    exact ((onlyRegs_refl s _).st f v d g (List.mem_cons_self ..)).step ((ih (s.st f v d g)).mono fun _ => List.mem_cons_of_mem _)

theorem rd_foldl_st (s : State) {f : Field} (hf : f.ok = true) (v d : Nat) (l : List Nat) (g : Nat) :
    (l.foldl (fun s g => s.st f v d g) s).rd f d g = if g ∈ l then v % 2 ^ (f.hi + 1 - f.lo) else s.rd f d g := by
  induction l generalizing s with
  | nil => rfl
  | cons j l ih =>
    rw [List.foldl_cons, ih]
    by_cases hl : g ∈ l
    · rw [if_pos hl, if_pos (List.mem_cons_of_mem _ hl)]
    · rw [if_neg hl]
      by_cases hj : g = j
      · rw [hj, if_pos (List.mem_cons_self ..), rd_st_same _ _ _ _ _ hf]
      · rw [if_neg (fun h => (List.mem_cons.mp h).elim hj hl), rd_st_ne _ _ _ _ _ _ _ _ (by unfold regKey; omega)]

/-- Elements of a die that the steward's absence sets. -/
def absentKeys (d : Nat) : List Nat :=
  regKey F.MEM_STATUS_STEWARD_ABSENT.key d 0 :: (List.range 8).map (regKey F.MEM_REFRESH_MULT.key d)

theorem absentDie_onlyRegs (s : State) (d : Nat) : OnlyRegs s (s.absentDie d) (absentKeys d) :=
  ((onlyRegs_refl s _).st F.MEM_STATUS_STEWARD_ABSENT 1 d 0 (List.mem_cons_self ..)).step
    ((foldl_st_onlyRegs _ F.MEM_REFRESH_MULT 0xAA d (List.range 8)).mono fun _ => List.mem_cons_of_mem _)

/-- The steward of a die is absent and every device of it refreshes at 4x. -/
def AbsentAt (s : State) (d : Nat) : Prop :=
  s.rd F.MEM_STATUS_STEWARD_ABSENT d = 1 ∧ ∀ g, g < 8 → s.rd F.MEM_REFRESH_MULT d g = 0xAA

theorem absentDie_at (s : State) {d : Nat} (hd : d < 8) : AbsentAt (s.absentDie d) d := by
  refine ⟨?_, fun g hg => ?_⟩
  · have hregs := (foldl_st_onlyRegs (s.st F.MEM_STATUS_STEWARD_ABSENT 1 d) F.MEM_REFRESH_MULT 0xAA d (List.range 8)).2
    refine (hregs.rd _ _ _ fun hk => ?_).trans (rd_st_same s F.MEM_STATUS_STEWARD_ABSENT 1 d 0 rfl)
    obtain ⟨g, hg, hkey⟩ := List.mem_map.mp hk
    rw [List.mem_range] at hg
    exact regKey_ne (by decide) hd (by omega) hd (by decide) hkey
  · rw [State.absentDie, rd_foldl_st _ rfl, if_pos (List.mem_range.mpr hg)]; rfl

theorem absentDie_keeps {d e : Nat} (hd : d < 8) (he : e < 8) (hne : d ≠ e) (h : AbsentAt s d) : AbsentAt (s.absentDie e) d := by
  obtain ⟨habsent, hmult⟩ := h
  have hregs := (absentDie_onlyRegs s e).2
  have hkey : ∀ {f : Field} {g : Nat}, f.key = F.MEM_STATUS_STEWARD_ABSENT.key ∨ f.key = F.MEM_REFRESH_MULT.key → g < 128 →
      regKey f.key d g ∉ absentKeys e := fun hf hg hk => by
    simp only [absentKeys, List.mem_cons, List.mem_map, List.mem_range] at hk
    simp only [F.MEM_STATUS_STEWARD_ABSENT, F.MEM_REFRESH_MULT, regKey] at hk hf
    omega
  exact ⟨(hregs.rd _ d 0 (hkey (.inl rfl) (by decide))).trans habsent,
    fun g hg => (hregs.rd _ d g (hkey (.inr rfl) (by omega))).trans (hmult g hg)⟩

theorem AbsentAt.absentDie {d e : Nat} (hd : d < 8) (he : e < 8) (h : AbsentAt s d) : AbsentAt (s.absentDie e) d := by
  by_cases hde : d = e
  · rw [← hde]; exact absentDie_at s hd
  · exact absentDie_keeps hd he hde h

theorem AbsentAt.foldl {d : Nat} (hd : d < 8) {l : List Nat} (hl : ∀ e ∈ l, e < 8) (h : AbsentAt s d) :
    AbsentAt (l.foldl State.absentDie s) d := by
  induction l generalizing s with
  | nil => exact h
  | cons e l ih => exact ih (fun j hj => hl j (List.mem_cons_of_mem _ hj)) (h.absentDie hd (hl e (List.mem_cons_self ..)))

/-- Every die of the list is absent after the fold. -/
theorem absentDies_at (s : State) {l : List Nat} (hl : ∀ e ∈ l, e < 8) {d : Nat} (hd : d ∈ l) :
    AbsentAt (l.foldl State.absentDie s) d := by
  induction l generalizing s with
  | nil => exact absurd hd List.not_mem_nil
  | cons e l ih =>
    have hrest : ∀ j ∈ l, j < 8 := fun j hj => hl j (List.mem_cons_of_mem _ hj)
    rw [List.foldl_cons]
    obtain hde | hd := List.mem_cons.mp hd
    · have hd8 : d < 8 := hde ▸ hl e (List.mem_cons_self ..)
      exact AbsentAt.foldl hd8 hrest (hde ▸ absentDie_at s hd8)
    · exact ih (s.absentDie e) hrest hd

theorem absentDies_onlyRegs (s : State) (l : List Nat) : OnlyRegs s (l.foldl State.absentDie s) (l.flatMap absentKeys) := by
  induction l generalizing s with
  | nil => exact onlyRegs_refl s _
  | cons e l ih =>
    rw [List.foldl_cons, List.flatMap_cons]
    exact ((absentDie_onlyRegs s e).mono fun _ => List.mem_append_left _).step ((ih _).mono fun _ => List.mem_append_right _)

theorem refreshAbsent_one (s : State) : OneRecord s s.refreshAbsent ((List.range 4).flatMap absentKeys) 0x3009 0 0 0 :=
  oneRecord_of (absentDies_onlyRegs s (List.range 4))

theorem refreshAbsent_at (s : State) {d : Nat} (hd : d < 4) : AbsentAt s.refreshAbsent d := by
  have hdies : ∀ e ∈ List.range 4, e < 8 := fun e he => by rw [List.mem_range] at he; omega
  obtain ⟨habsent, hmult⟩ := absentDies_at s hdies (List.mem_range.mpr hd)
  have hregs : RegsBut ((List.range 4).foldl State.absentDie s) s.refreshAbsent dbkKeys := note_regs _ _ _ _
  exact ⟨(hregs.rd _ d 0 (regKey_notin_dbkKeys (.inl (by decide)) (by omega) (by decide))).trans habsent, fun g hg =>
    (hregs.rd _ d g (regKey_notin_dbkKeys (.inl (by decide)) (by omega) (by omega))).trans (hmult g hg)⟩

theorem exec_memoryStewardAbsent_running (h : s.fwRuns 4 = true) : exec .memoryStewardAbsent s = .next s :=
  congrArg Host.Outcome.next (if_pos (by rw [h, Bool.or_true, Bool.true_or]))

theorem exec_memoryStewardAbsent_lapsed {x : Nat} (hup : s.up = true) (hfw : s.fwRuns 4 = false)
    (habsent : s.rd F.MEM_STATUS_STEWARD_ABSENT = 0) (hdown : (s.proc 4).downSince = some x) (hms : x + 2500000 ≤ s.clk.now) :
    exec .memoryStewardAbsent s = .next s.refreshAbsent := by
  have hgate : (!s.up || s.fwRuns 4 || s.flag F.MEM_STATUS_STEWARD_ABSENT) = false := by rw [hup, hfw, flag_of_zero habsent]; rfl
  have hafter : s.after x (msec 100) = true := decide_eq_true hms
  change execMemoryStewardAbsent s = _
  rw [execMemoryStewardAbsent, hgate, if_neg Bool.false_ne_true, hdown]
  exact congrArg Host.Outcome.next (if_pos hafter)

/-! ### A retraining slice (R292) -/

/-- One slice of a channel's retraining counted at its time. -/
def State.sliced (s : State) (ch : Nat) : State :=
  { s with ms := { s.ms with lastSlice := some s.clk.now, slices := mset 0 s.ms.slices ch (mget 0 s.ms.slices ch + 1) } }.takeFree

/-- At least 1 ms has passed since the last slice of any channel. -/
def State.paced (s : State) : Bool :=
  match s.ms.lastSlice with
  | some x => s.after x (msec 1)
  | none => true

theorem paced_of (h : ∀ x, s.ms.lastSlice = some x → x + 25000 ≤ s.clk.now) : s.paced = true := by
  unfold State.paced
  cases hlast : s.ms.lastSlice with
  | none => rfl
  | some x => exact decide_eq_true (h x hlast)

theorem exec_retrainingSlice_eq (s : State) (ch : Fin 512) : exec (.retrainingSlice ch) s = .next (s.working fun s =>
    if !s.fwRuns 4 || !s.paced || !s.retrainDue ch || (List.range ch).any s.retrainDue then s
    else if mget 0 s.ms.slices ch + 1 = 6 ∨ s.freeNat 1 = 1 then (s.sliced ch).trained ch else s.sliced ch) := rfl

theorem exec_retrainingSlice {ch : Fin 512} (hrun : s.running = true) (hfw : s.fwRuns 4 = true) (hpaced : s.paced = true)
    (hdue : s.retrainDue ch = true) (hlow : ∀ c, c < ch.val → s.retrainDue c = false) : exec (.retrainingSlice ch) s =
      .next (if mget 0 s.ms.slices ch + 1 = 6 ∨ s.freeNat 1 = 1 then (s.sliced ch).trained ch else s.sliced ch) := by
  have hany : (List.range ch).any s.retrainDue = false := by
    rw [List.any_eq_false]
    exact fun c hc => Bool.eq_false_iff.mp (hlow c (List.mem_range.mp hc))
  rw [exec_retrainingSlice_eq, State.working, if_pos hrun, hfw, hpaced, hdue, hany]
  rfl

theorem sliced_trained_onlyRegs (s : State) (ch : Nat) :
    OnlyRegs { s with ms := ((s.sliced ch).trained ch).ms, free := s.free + 1 } ((s.sliced ch).trained ch)
      [regKey F.MEM_CH_STATE_STATE.key (ch / 128) (ch % 128)] :=
  (onlyRegs_refl _ _).st F.MEM_CH_STATE_TRAIN_TEMP (s.chanTemp ch) (ch / 128) (ch % 128) (List.mem_singleton.mpr rfl)

theorem sliced_trained_sets (s : State) (ch : Nat) : Sets s ((s.sliced ch).trained ch)
    (regKey F.MEM_CH_STATE_STATE.key (ch / 128) (ch % 128)) [(F.MEM_CH_STATE_TRAIN_TEMP, s.chanTemp ch)] :=
  (Sets.refl _ _).st (s.chanTemp ch)

/-! ### The statement -/

/-- What a reading may change while the steward acts or not (R285): MEM_TEMP, the marks of the device's channels, MEM_REFRESH and
the recorder, of the rest the times of cooling alone. -/
def ReadingFrame (s t : State) (d g v : Nat) : Prop :=
  t = { s with regs := t.regs, dbk := t.dbk, ms := t.ms } ∧ t.ms = { s.ms with coolSince := t.ms.coolSince } ∧
    RegsBut s t (regKey F.MEM_TEMP_DEV0.key d g :: regKey F.MEM_REFRESH_MULT.key d g ::
      ((List.range 4).map (fun k => regKey F.MEM_CH_STATE_STATE.key d (g * 16 + v * 4 + k)) ++ dbkKeys))

theorem tempTaken_reading (s : State) (dev x : Nat) : ReadingFrame s (s.tempTaken dev x) (dev / 32) (dev % 32 / 4) (dev % 4) := by
  refine ⟨?_, tempTaken_ms s dev x, (tempTaken_regs s dev x).mono fun k hk => ?_⟩
  · have h := tempTaken_frame s dev x
    generalize (s.tempTaken dev x).regs = r, (s.tempTaken dev x).ms = m at h
    rw [h]
  · obtain rfl | hk := List.mem_cons.mp hk
    · exact List.mem_cons_self ..
    · exact List.mem_cons_of_mem _ (List.mem_cons_of_mem _ (List.mem_append_left _ hk))

theorem ReadingFrame.refreshTo {d g v : Nat} (h : ReadingFrame s t d g v) (dev x row : Nat) :
    ReadingFrame s (t.refreshTo dev d g v x row) d g v := by
  obtain ⟨ht, hms, hregs⟩ := h
  have hu := refreshTo_frame t dev x row (d := d) (g := g) (v := v)
  have hregs' := refreshTo_regs t dev x row (d := d) (g := g) (v := v)
  generalize t.refreshTo dev d g v x row = u at *
  have hums : u.ms = t.ms := by rw [hu]
  refine ⟨?_, by rw [hums]; exact hms, hregs.step (hregs'.mono fun k hk => ?_)⟩
  · rw [hums]
    generalize t.regs = r, t.dbk = b, t.ms = m at ht
    subst ht
    exact hu
  · obtain rfl | hk := List.mem_cons.mp hk
    · exact List.mem_cons_of_mem _ (List.mem_cons_self ..)
    · exact List.mem_cons_of_mem _ (List.mem_cons_of_mem _ (List.mem_append_right _ hk))

theorem readTemp_reading (s : State) (dev x : Nat) : ReadingFrame s (s.readTemp dev x) (dev / 32) (dev % 32 / 4) (dev % 4) := by
  rw [readTemp_eq]
  split
  · exact tempTaken_reading s dev x
  · exact (tempTaken_reading s dev x).refreshTo _ _ _

section
variable {dev x : Nat} (hdev : dev < 128)
include hdev

theorem rd_readTemp (s : State) (hx : x < 256) : (s.readTemp dev x).rd (tempField (dev % 4)) (dev / 32) (dev % 32 / 4) = x := by
  have htaken : (s.tempTaken dev x).rd (tempField (dev % 4)) (dev / 32) (dev % 32 / 4) = x :=
    (rd_of_regs (coolTimes_regs _ dev x) _ _ _).trans (rd_tempStored s (by omega) hx)
  rw [readTemp_eq]
  split
  · exact htaken
  · refine ((refreshTo_regs _ dev x _).rd _ _ _ fun hk => ?_).trans htaken
    rw [tempField_key] at hk
    obtain hk | hk := List.mem_cons.mp hk
    · exact regKey_ne (by decide) (by omega) (by omega) (by omega) (by omega) hk
    · exact regKey_notin_dbkKeys (.inl (by decide)) (by omega) (by omega) hk

/-- While the steward does not act, a reading changes neither MEM_REFRESH nor the recorder. -/
theorem readTemp_noRefresh (h : s.fwRuns 4 = false ∨ s.rd F.MEM_STATUS_STEWARD_ABSENT (dev / 32) = 1) :
    (s.readTemp dev x).dbk = s.dbk ∧ Sets s (s.readTemp dev x) (regKey F.MEM_REFRESH_MULT.key (dev / 32) (dev % 32 / 4)) [] := by
  rw [readTemp_stored hdev x h]
  exact ⟨(tempTaken_sameRec s dev x).1, reg_tempTaken hdev x (.inr (.inl rfl)) (by omega) (by omega)⟩

/-- While it acts, the device's multiplier and cap follow its row and the recorder is told. -/
theorem readTemp_leaves (hfw : s.fwRuns 4 = true) (h : s.rd F.MEM_STATUS_STEWARD_ABSENT (dev / 32) = 0) :
    let t := s.readTemp dev x
    let d := dev / 32
    let g := dev % 32 / 4
    let v := dev % 4
    let row := s.rowAfter dev (s.rowOf d g v) x
    t.multOf d g v = s.multAfter d row ∧ (t.cappedOf d g v = true ↔ row = 3) ∧
      (∀ w, w < 4 → w ≠ v → t.multOf d g w = s.multOf d g w ∧ t.cappedOf d g w = s.cappedOf d g w) ∧
      t.dbk = (s.refreshNoted dev x (s.multOf d g v) (s.multAfter d row) (s.rowOf d g v) row).dbk := by
  intro t d g v row
  have ht : t = (s.tempTaken dev x).refreshTo dev d g v x row := readTemp_refreshed hdev x hfw h
  have hfloor : (s.tempTaken dev x).multAfter d row = s.multAfter d row := by
    rw [State.multAfter, rd_tempTaken hdev x (.inl (by decide)) (by omega) (by decide), State.multAfter]
  have hdevice := device_tempTaken (s := s) hdev x
  obtain ⟨hmult, hcap, hothers⟩ := refreshTo_leaves (s.tempTaken dev x) dev x row (d := d) (g := g) (v := v)
    (by omega) (by omega) (by omega)
  have hdbk := refreshTo_dbk (s.tempTaken dev x) dev x row (d := d) (g := g) (v := v)
  rw [← ht] at hmult hcap hothers hdbk
  refine ⟨hmult.trans hfloor, ?_, fun w hw hne => ?_, hdbk.trans ?_⟩
  · rw [hcap, beq_iff_eq]
  · obtain ⟨hm, hc⟩ := hothers w hw hne
    obtain ⟨hm', hc'⟩ := hdevice w
    exact ⟨hm.trans hm', hc.trans hc'⟩
  · rw [hfloor, rowOf_tempTaken hdev, (hdevice v).1]
    exact refreshNoted_dbk (tempTaken_sameRec s dev x) _ _ _ _ _ _

end

/-- Settles O38: a reading stores its registers and then, while the steward acts, moves the device's row; the absence goes over the
dies, a slice counts and may be the last. -/
theorem refreshFollowsTemperature : Obligations.RefreshFollowsTemperature := by
  unfold Obligations.RefreshFollowsTemperature
  intro s
  refine ⟨fun dev x hup hpresent => ?_, fun x hup hfw habsent hdown hms => ?_, exec_memoryStewardAbsent_running,
    fun ch hrun hfw hpace hdue hlow => ?_⟩
  · have hexec : exec (.temperatureRead dev x) s = .next (s.readTemp dev x.toNat) :=
      congrArg Host.Outcome.next (if_neg (by rw [hup, hpresent]; decide))
    obtain ⟨hframe, hcool, hregs⟩ := readTemp_reading s dev x.toNat
    exact ⟨_, hexec, hframe, hcool, rd_readTemp dev.isLt s x.isLt, hregs, readTemp_noRefresh dev.isLt, readTemp_leaves dev.isLt⟩
  · obtain ⟨hframe, -, hdbk⟩ := refreshAbsent_one s
    exact ⟨_, exec_memoryStewardAbsent_lapsed hup hfw habsent hdown hms, hframe, hdbk, fun d hd => refreshAbsent_at s hd⟩
  · rw [exec_retrainingSlice hrun hfw (paced_of hpace) hdue hlow]
    by_cases hlast : mget 0 s.ms.slices ch + 1 = 6 ∨ s.freeNat 1 = 1
    · exact ⟨_, congrArg Host.Outcome.next (if_pos hlast), sliced_trained_onlyRegs s ch, rfl,
        .inr ⟨mget_mset_same .., sliced_trained_sets s ch⟩⟩
    · exact ⟨_, congrArg Host.Outcome.next (if_neg hlast), onlyRegs_refl _ _, rfl,
        .inl ⟨mget_mset_same .., fun h => hlast (.inl h), Sets.refl _ _⟩⟩

end Sys2Proof.Machine
